-- ==== Sys2Proof/Word.lean ====
section
/-! DEFINITION. The octet, the carrier of every wire field of the FZ1024 (R8, R64), and the structured operands of commands. -/

namespace Sys2Proof

/-- One octet. -/
abbrev Byte := BitVec 8

/-- A run of octets, first sent first (R64). -/
abbrev Octets := List Byte

/-- Sparse data by key: strictly rising keys, no entry equal to what an unlisted key reads as. -/
abbrev AMap (α : Type) := List (Nat × α)

/-- The envelope of a Torvip request (R45, R65, R73). -/
structure Req where
  /-- port number of R45, 0 ... 6 -/
  port : Nat
  /-- master identity, 16 bits (CAN: node number of the master) -/
  master : Nat
  /-- transaction identity of the header, or the 8-bit tag on CAN FD (R74) -/
  txn : Nat
  /-- sent as a command message, type 07h, rather than as a write, type 02h (R71) -/
  asCommand : Bool
  /-- source of the datagram, to which the answer goes (R61, R64): UDP port in bits 15:0, IP address above it, with bit 144 set for an
  IPv6 address -/
  src : Nat
  deriving DecidableEq, Repr

/-- The request comes from the master of this identity on this port (R45). -/
def Req.sameMaster (r : Req) (port master : Nat) : Bool := r.port == port && r.master == master

/-- One write of a value to an element (R70): address, type code of R69 and value octets. -/
structure Entry where
  obj : Nat
  el : Nat
  ty : Nat
  val : Octets
  deriving DecidableEq, Repr

/-- What the world shows the part during a Landing: the measurements of R95 and R140. -/
structure LandingIn where
  /-- duration of the Landing in ns (R28) -/
  dur : Nat
  /-- Quadrants whose VEM is below its operating minimum, by mask (R95) -/
  vemLow : Nat
  /-- sinks n (0 ... 191) that drew more than 0.2 mA, or whose neighbour did, in a pair phase (R96) -/
  shorts : List Nat
  /-- sinks of which every pulse failed the headroom check (R96) -/
  noHeadroom : List Nat
  /-- peak codes that pulse-command channels show on their diagnostic commands (R95, R96) -/
  peaks : List (Nat × Nat)
  /-- injection results (R140), an entry for each injection, two to a gain code: channel 256q + c, gain code, and the measured interval in
  1/16 step, or none when no stamp came -/
  inject : List (Nat × Nat × Option Int)
  deriving DecidableEq, Repr

/-- An occurrence that a condition of the trigger sequencer can match (R263). -/
inductive Occ where
  | frameStart
  | landingEnd
  /-- a hit on channel 256q + c with its ToT -/
  | hit (chan tot : Nat)
  /-- a comparator edge on channel 256q + c: kind 1 ... 6 -/
  | edge (chan kind : Nat)
  | event (code : Nat)
  | train (q kind : Nat)
  | relay (code : Nat)
  /-- two outputs of a filter channel in succession -/
  | crossing (k : Nat) (prev cur : Int)
  | host
  | second
  deriving DecidableEq, Repr

/-- The dataset of an Announce message with the Caminaent rank (R234); lower is better in every member. -/
structure PtpDs where
  p1 : Nat
  cls : Nat
  acc : Nat
  var : Nat
  p2 : Nat
  rank : Nat
  ident : Nat
  deriving DecidableEq, Repr

/-- A PTP message as far as the Time Keeper uses it (R235); times in ns. -/
inductive PtpMsg where
  /-- with or without the Caminaent TLV (without, `ds.rank` says nothing), and the path trace of 802.1AS -/
  | announce (ds : PtpDs) (tlv : Bool) (path : List Nat)
  /-- one-step with its origin time, or two-step without -/
  | sync (seq : Nat) (t1 : Option Nat)
  | followUp (seq t1 : Nat)
  | delayReq (seq : Nat)
  | delayResp (seq t4 : Nat)
  | pdelayReq (seq : Nat)
  | pdelayResp (seq t2 : Nat)
  | pdelayFollowUp (seq t3 : Nat)
  | management
  deriving DecidableEq, Repr

/-- A zero crossing of the fast axis (R102): the rising one, or the falling one half a period later, and the half-amplitude measured over
the half period before it, azimuth codes. -/
structure HalfPeriod where
  rising : Bool
  amp : Nat
  deriving DecidableEq, Repr

/-- What a Helm's two lanes give the output stage in a control period (R107, R108): a command with a good check code, one whose check code
arrives bad, or nothing since the lanes disagree or are late. -/
inductive HelmOut where
  | good
  | badCode
  | lanesFail
  deriving DecidableEq, Repr

/-- The lanes agree and finish within the period. -/
def HelmOut.agrees : HelmOut → Bool
  | .lanesFail => false
  | _ => true

/-- The check code is good. -/
def HelmOut.codeOk : HelmOut → Bool
  | .good => true
  | _ => false

/-- A hand-over to a relief converter (R137): the channel, and the bins of the code-density histogram collected so far. -/
structure Handover where
  chan : Fin 256
  part : List Nat
  deriving DecidableEq, Repr

/-- A PTP message with its domainNumber (R235). -/
structure PtpIn where
  dom : Nat
  msg : PtpMsg
  deriving DecidableEq, Repr

/-- Data of a capture record, and whether the octets of capture memory that take it fail beyond correction (R257, R269). -/
structure CapWord where
  data : Nat
  bad : Bool
  deriving DecidableEq, Repr

/-- How a Plovivo PDU comes in (R359, R360): in a CAN FD frame with its 29-bit identifier, or in a datagram at a MAC, over IPv6 or IPv4,
to a UDP port. -/
inductive PlvFrom where
  | can (port : Fin 2) (id : Nat)
  | udp (mac : Fin 2) (v6 : Bool) (dport : Nat)
  deriving DecidableEq, Repr

/-- Port number of R45. -/
def PlvFrom.port : PlvFrom → Nat
  | .can p _ => p.val
  | .udp m _ _ => 2 + m.val

/-- A calibration for a re-admission (R139, R147): code-density histogram, raw codes on reference edges, edges unresolved, and the front-end
delays measured afresh, 1/16 step. -/
structure CalRun where
  hist : List Nat
  refs : List Nat
  lost : Nat
  d0 : Int
  d1 : Int
  deriving DecidableEq, Repr

/-- What the self-tests find (R412). -/
structure SelfTestIn where
  dieLinkOk : Bool
  memoryOk : Bool
  /-- failing Crucible blocks per Quadrant -/
  badBlocks : List (Nat × Nat)
  captureOk : Bool
  /-- channels whose calibration was an outlier twice -/
  calFailed : List Nat
  /-- channels suspect after the injection -/
  injFailed : List Nat
  /-- temperature sites invalid in the round -/
  badSites : List Nat
  deriving DecidableEq, Repr

end Sys2Proof
end

