-- ==== Sys2Proof/Syntax.lean ====
section
/-! DEFINITION. The commands of the FZ1024: one constructor per row of the opcode table, in its order. -/

namespace Sys2Proof

/-- A command: an operation, an arrival or a deadline that acts on the part (95, opcode table). -/
inductive Instr where
  /-- R20. A die-to-die flit that is not acknowledged within 2 µs is retried, up to 3 times. -/
  | flitAckTimeout (flit : Nat)
  /-- R20. A flit arrives on the die-to-die packet link; a flit that fails its CRC-16 is retried. `good`: its CRC-16 is right. -/
  | flitReceived (flit : Nat) (good : Bool)
  /-- R22. The packet link carries no valid flit for 100 µs, so the part declares a die-to-die link fault. -/
  | dieLinkSilence
  /-- R23. At the end of each second with more than 1,000 flit retries, the part logs event 2020h. -/
  | flitRetryRateSecond
  /-- R21. An enable lane has not toggled for 8 µs, and the Anchor die switches off the sinks or the safe-output switches on that side. Lane 0 emission, 1 high side, 2 low side. -/
  | enableLaneStopped (lane : Fin 3)
  /-- R21. An on-command arrives over the packet link and restores a sink or switch whose lane is toggling again. -/
  | anchorOnCommand (lane : Fin 3)
  /-- R27. The 1 µs acquisition-pipeline watchdog of a Quadrant expires, and the Quadrant faults with event 2031h. -/
  | quadrantPipelineWatchdog (q : Fin 4)
  /-- R27. The 50 µs per-context watchdog of the Crucible or echo engine expires, and the Quadrant faults. -/
  | quadrantContextWatchdog (q : Fin 4)
  /-- R27. The 1 µs safety-tap watchdog toward an evaluator expires, leading to LOCKOUT with event 4010h. Evaluator 0 A, 1 B. -/
  | safetyTapWatchdog (e : Fin 2)
  /-- R27. No verdict is formed 1.5 ms after frame end, leading to LOCKOUT with event 4011h. -/
  | verdictWatchdog (e : Fin 2)
  /-- R31. The 20 µs Landing watchdog expires: before step 5 the Landing is abandoned, and after it unacknowledged Quadrants fault. `unacked`: mask of Quadrants that have not acknowledged. -/
  | landingWatchdog (before5 : Bool) (unacked : Nat) (li : LandingIn)
  /-- R31. The shared bank select or frame counter has not completed 40 µs after the Landing began, so the part logs 3021h and enters HALTED. -/
  | sharedCommitTimeout (li : LandingIn)
  /-- R34. The internal frame timer reaches 3.010 and starts a frame, held until the Landing ends if one is in progress. -/
  | frameTimerExpiry
  /-- R28. The last range gate of every live Quadrant closes and the Landing follows at once. -/
  | frameEnd (li : LandingIn)
  /-- R33. Every 3.010 while no frames run, the part applies pending writes, swaps banks and strikes settings without ending a frame. -/
  | idleLanding
  /-- R48. A Torvip read message returns an element or the whole object, latching the high half when element 01 is read. -/
  | read (r : Req) (obj : Nat) (el : Nat) (whole : Bool)
  /-- R50. A Torvip write to an object without a row of its own is validated whole and then applied, made pending or refused. -/
  | write (r : Req) (e : Entry)
  /-- R59. A transaction of up to 32 entries is validated as a whole, and either every entry is accepted or none is. -/
  | multiObjectTransaction (r : Req) (es : List Entry)
  /-- R61. A master creates, renews or cancels a subscription with a trigger, an interval and a lifetime. -/
  | subscribe (r : Req) (obj : Nat) (el : Nat) (trig : Nat) (interval : Nat) (life : Nat) (mask : Nat)
  /-- R61. The interval of a periodic or on-change subscription elapses, and a numbered publication is sent. -/
  | publicationInterval (handle : Nat)
  /-- R61. A subscription's lifetime passes without a renewing subscribe, and the subscription is removed. -/
  | subscriptionLapse (handle : Nat)
  /-- R55. A master acquires an area lease, which is granted, renewed or refused with 0402h. -/
  | leaseAcquire (r : Req) (area : Nat) (timeout : Nat)
  /-- R55. A master moves the expiry of a lease it holds. -/
  | leaseRenew (r : Req) (area : Nat) (timeout : Nat)
  /-- R55. A master ends a lease it holds at once. -/
  | leaseRelease (r : Req) (area : Nat) (timeout : Nat)
  /-- R56. A lease expires without renewal, the part logs event 1101h, and the area is free. -/
  | leaseExpiry (area : Nat)
  /-- R66. A message with a bad magic, version, flags, length or type is discarded and counted, or answered with 0302h. -/
  | torvipMalformedMessage (port : Nat) (src : Nat) (msg : Octets)
  /-- R75. A segment of a segmented CAN FD transfer arrives and is assembled; a gap or repeat aborts the transfer with 0303h. -/
  | canSegment (port : Nat) (master : Nat) (kind : Nat) (tag : Nat) (idx : Nat) (total : Nat) (data : Octets)
  /-- R75. More than 50 ms passes between segments, and the transfer is discarded with 0303h. -/
  | canSegmentTimeout (port : Nat) (master : Nat)
  /-- R76. The 1.040 command switches UART_MNT to 921,600 bit/s after the response. -/
  | uartMntFastRate (r : Req) (arg : Nat)
  /-- R58. The 1.310 command withdraws every pending value of an agreement set and clears its bit in 1.300. -/
  | discardPendingSet (r : Req) (set : Nat)
  /-- R81. A write of 01h to 1.011 starts a CAN FD port. -/
  | canPortStart (r : Req) (p : Fin 2)
  /-- R81. A write of 00h to 1.011 stops a CAN FD port. -/
  | canPortStop (r : Req) (p : Fin 2)
  /-- R81. A write of 01h to 1.022 starts an Ethernet MAC. -/
  | ethernetPortStart (r : Req) (p : Fin 2)
  /-- R81. A write of 00h to 1.022 stops an Ethernet MAC. -/
  | ethernetPortStop (r : Req) (p : Fin 2)
  /-- R85. Entries written to 3.202 are validated and stored into the shadow or queued, and the pointer advances. -/
  | patternDataWrite (r : Req) (data : Octets)
  /-- R86. A write to 3.210 validates the shadow, builds its cell table and makes a commit pending in the frame-timing set. -/
  | patternCommit (r : Req) (mask : Nat)
  /-- R87. The shadow refresh ends, the queued writes are laid over it, and 3.220 becomes true. -/
  | shadowRefreshDone (q : Fin 4)
  /-- R87. A pattern is still issuing slots at its declared duration, so it issues no further slots and the part logs 2102h. -/
  | patternDurationCut (q : Fin 4)
  /-- R84. At a slot's nominal instant the sequencer reads the entry, thins, applies vetoes and jitter, fires the train and opens gates. `mis`: the check paths of the Quadrant disagree (R420). -/
  | slot (q : Fin 4) (mis : Bool)
  /-- R83. The interpolated fast-axis angle reaches trig, and an angle-triggered slot fires. `at_`, `late`: the instant and its lateness as the sender saw them; the part computes both itself and takes neither. -/
  | angleTrigger (q : Fin 4) (at_ : Nat) (late : Bool)
  /-- R83. The angle is not reached within one fast-axis period, and the slot is skipped as angle-missed. -/
  | angleMissed (q : Fin 4)
  /-- R92. The 3.320 command latches every staged emitter setting into all 200 emitters at one instant. -/
  | strike (r : Req) (arg : Nat)
  /-- R93. A pulse-command channel's peak code is ready and passed to the governor; two readings above the limit suspend the channel. -/
  | hpcPeakReading (p : Fin 8) (code : Nat)
  /-- R97. The 3.352 command re-tests one emitter at the next two diagnostic Landings. -/
  | emitterRetest (r : Req) (emitter : Nat)
  /-- R98. The chosen edge on FRAME_TRIG_IN is stamped and starts, queues, aborts or is ignored under the policy. -/
  | frameTrigInEdge (rising : Bool)
  /-- R99. A queued trigger starts its frame once the Landing has ended and 10 ms have passed since the last start. -/
  | heldTriggerRelease
  /-- R102. A rising zero crossing of the fast-axis position updates period and phase and offers the next burst. The falling crossing half a period later, with which the second half period begins, comes with this row too. -/
  | fastAxisZeroCrossing (half : HalfPeriod)
  /-- R105. No zero crossing arrives within 1.5 expected periods, and the fast-axis position becomes invalid. -/
  | fastAxisCrossingTimeout
  /-- R108. Every 1 µs the Helms compute commands and the output stage accepts the highest acceptable claim, or holds and then drives off. `a`, `b`: what the lanes of each Helm give; `same`: a resynchronising Helm computed the active setpoint. -/
  | controlPeriod (a : HelmOut) (b : HelmOut) (same : Bool)
  /-- R106. No cause has been present for 1 ms and two fast-axis periods, and the axis becomes valid again. -/
  | positionRevalidation (axis : Fin 2)
  /-- R111. A failed Helm finishes re-initialising and begins resynchronising alongside the active Helm. -/
  | helmReinitDone (h : Fin 2)
  /-- R111. After two fast-axis periods and one Landing with equal setpoints, the Helm becomes ready standby and logs 0202h. -/
  | helmStandbyReady (h : Fin 2)
  /-- R113. The 6.110 command orders a Ferry, which is made at step 5 of the next Landing. -/
  | ferryCommand (r : Req) (arg : Nat)
  /-- R115. At a sample instant a loop instance computes its error and SWITCH or RAMP output, applied at the next instant. `ready`: the previous result was ready at this instant. -/
  | loopSample (slot : Fin 12) (n : Fin 4) (ready : Bool)
  /-- R118. A write of 01h to a 6.210 member starts a loop slot after its checks. -/
  | loopStart (r : Req) (slot : Fin 12)
  /-- R118. A write of 00h to a 6.210 member stops a loop slot where allowed. -/
  | loopStop (r : Req) (slot : Fin 12)
  /-- R118. A write of 01h to 6.001 starts both axes, both Helms and the steering loop slots. -/
  | steeringStart (r : Req)
  /-- R118. A write of 00h to 6.001 in CONFIG or SERVICE stops steering and its loop slots. -/
  | steeringStop (r : Req)
  /-- R122. The 6.403 command clears one repetitive compensator table at once. -/
  | compensatorClear (r : Req) (table : Nat)
  /-- R124. A Quadrant's bias error has stayed in its band for 1 ms, so the bias is settled. -/
  | biasSettled (q : Fin 4)
  /-- R123. The detector temperature has been lost for 100 ms, so T16 = −880 is used and 1203h is logged. -/
  | detectorTempFallback (q : Fin 4)
  /-- R130. A shot's range gate opens on a gated channel, and a context opens if none exists. -/
  | gateOpen (q : Fin 4) (slot : Nat) (c : Fin 256)
  /-- R130. A shot's range gate closes on a channel, and unfinished ToT spans are set to FFFh. -/
  | gateClose (q : Fin 4) (slot : Nat) (c : Fin 256)
  /-- R131. A low-threshold rising crossing inside a gate is stamped, attributed, poured and tapped as a candidate. `raw`: vernier code; `tot`, `rng`: time over threshold in 4-step units and range of the hit; `mis`: the check paths of the Quadrant disagree; `ecc`: Crucible memory error as it is poured: 0 none, 1 corrected, 2 double-bit, 3 double-bit in a block that then fails its test; `blk`: block of the context. -/
  | hitLeadingEdge (q : Fin 4) (c : Fin 256) (raw : Nat) (tot : Nat) (rng : Bool) (mis : Bool) (ecc : Fin 4) (blk : Nat)
  /-- R127. The low-threshold falling crossing ends a hit, fixes its ToT and starts the dead time. -/
  | hitTrailingEdge (q : Fin 4) (c : Fin 256) (raw : Nat)
  /-- R158. τ after a last pulse was due, a train missing that pulse is decided as matched or not. -/
  | missingPulseDeadline (q : Fin 4) (c : Fin 256)
  /-- R160. 650 ns after its leading edge a hit in no train is unmatched and is counted as interference. -/
  | hitUnmatched (q : Fin 4) (c : Fin 256)
  /-- R129. A channel's input clamp engages and a clamp episode begins. -/
  | clampOn (q : Fin 4) (c : Fin 256)
  /-- R129. The clamp current falls below 1 mA and the episode ends 20 ns later. -/
  | clampOff (q : Fin 4) (c : Fin 256)
  /-- R143. A clamp episode lasts longer than 3.430.01, and the delay is checked at the next Landing. -/
  | clampEvent (q : Fin 4) (c : Fin 256)
  /-- R144. The comparator stays active 50 µs without a clamp, so the channel becomes suspect and blind. -/
  | stuckOnDetected (q : Fin 4) (c : Fin 256)
  /-- R137. A converter's calibration age reaches 25 ms and it is queued to calibrate in idle intervals. Converters 256 ... 263 are the relief converters, 264 and 265 those of WTB and WTB_AUX. -/
  | converterCalibrationDue (q : Fin 4) (conv : Fin 266)
  /-- R137. A calibration unfinished after 10 ms moves to a relief converter, handed over hitlessly at a slot boundary. -/
  | reliefHandover (q : Fin 4) (c : Handover)
  /-- R139. A code-density calibration ends with a new table and offset, or an outlier that is discarded. `hist`: code-density histogram; `refs`: raw codes on reference edges; `lost`: edges unresolved. -/
  | converterCalibrationDone (q : Fin 4) (conv : Fin 266) (hist : List Nat) (refs : List Nat) (lost : Nat)
  /-- R144. A converter's calibration age passes 150 ms, so the channel becomes suspect. -/
  | calibrationOverdue (q : Fin 4) (c : Fin 256)
  /-- R153. 50 ns after the last gate of a visit closes, its contexts stop taking pours and a peak search starts. -/
  | visitClose (q : Fin 4) (cell : Fin 4096) (pass : Fin 3)
  /-- R165. A coarse context's peak search ends, placing zoom windows and setting the cell's need. -/
  | peakSearchDone (q : Fin 4) (cell : Fin 4096) (c : Fin 256)
  /-- R177. A free echo-engine lane takes up the next channel-cell of a finished cell. -/
  | laneTakeUp (q : Fin 4)
  /-- R182. A lane finishes a channel-cell: echoes found, classed, sent to evaluator A and committed as points or dumps. `beyond`: stopped at the step bound of R196; `ecc`, `blk` as for a leading edge. -/
  | decompositionDone (q : Fin 4) (lane : Fin 16) (beyond : Bool) (ecc : Fin 4) (blk : Nat)
  /-- R194. The 4.202 command loads the Slip image into each named Quadrant's inactive bank. -/
  | microcodeLoad (r : Req) (mask : Nat)
  /-- R195. A write to 4.201 selects an approved bank, switched at step 5 of the next Landing. -/
  | microcodeBankSelect (r : Req) (q : Fin 4) (bank : Nat)
  /-- R199. A converter takes the sample of its sequencer's current step. -/
  | adcSample (c : Fin 4)
  /-- R204. A calibrated, flagged sample reaches its consumers, with sense-fault and supply checks. `beyond`: comparator of R205; `clampOn`: a clamp is active; `conds`: conditions of R218 as `7.401` bits [3:0]; `pred`: angle the active Helm predicts. -/
  | adcConversionDone (c : Fin 4) (raw : Nat) (beyond : Bool) (clampOn : Bool) (conds : Nat) (pred : Nat)
  /-- R203. A conversion not ready 1 µs after sampling faults the converter, which is restarted or stopped. -/
  | adcConversionTimeout (c : Fin 4)
  /-- R206. At a pass boundary, range selections and new calibration values take effect. -/
  | sequencerPassEnd (c : Fin 4)
  /-- R202. A write of 01h to 7.003 starts a converter's sequencer with its configured steps. -/
  | sequencerStart (r : Req) (c : Fin 4)
  /-- R202. A write of 00h to 7.003 stops a sequencer that no running consumer needs. -/
  | sequencerStop (r : Req) (c : Fin 4)
  /-- R209. Command 1 on 7.301 begins capturing 4,096 samples of the applied zero. -/
  | calCaptureZero (r : Req)
  /-- R209. Command 2 on 7.301 begins capturing 4,096 samples of the applied full scale. -/
  | calCaptureFullScale (r : Req)
  /-- R209. A capture collects its 4,096th sample and records its mean or its failure. -/
  | calCaptureComplete
  /-- R209. Command 3 computes the offset and gain from both captures and stores them or fails. -/
  | calComputeStore (r : Req)
  /-- R209. Command 4 reinstates the OTP trim for the target input. -/
  | calRestoreFactory (r : Req)
  /-- R209. Command 0 discards both captures. -/
  | calAbandon (r : Req)
  /-- R212. An accumulator or min-max window ends by its condition or a forced publication and publishes atomically. `mm`: a min-max tracker. -/
  | accumulatorWindowEnd (mm : Bool) (n : Fin 64)
  /-- R212. A write to a 7.100 member reconfigures an accumulator and clears its window without publishing. -/
  | accumulatorConfigWrite (r : Req) (n : Fin 64) (word : Nat)
  /-- R212. The 7.101 command ends the windows of every accumulator whose win is 3 at one instant. -/
  | accumulatorLatch (r : Req) (arg : Nat)
  /-- R214. A write to a 7.200 member reconfigures a min-max tracker and clears its window. -/
  | minmaxConfigWrite (r : Req) (n : Fin 64) (word : Nat)
  /-- R214. The 7.201 command ends the windows of every tracker whose win is 3. -/
  | minmaxLatch (r : Req) (arg : Nat)
  /-- R220. Every 1 µs the filter engine runs its channels' CIC and FIR and produces outputs. -/
  | filterRound
  /-- R222. A round unfinished after 2 µs faults the engine, which restarts or stays stopped. -/
  | filterRoundOverrun
  /-- R222. A write of 01h to 7.601 starts a filter channel after its checks. -/
  | filterChannelStart (r : Req) (k : Fin 16)
  /-- R222. A write of 00h to 7.601 stops a filter channel that is not stamping while steering runs. -/
  | filterChannelStop (r : Req) (k : Fin 16)
  /-- R225. A shot's interpolated angle stamp becomes ready, valid or invalid, within L of the shot. -/
  | angleStampReady (q : Fin 4) (slot : Nat)
  /-- R230. A PPS_IN pulse is stamped and disciplines the timescale or counts toward lock. `fine`: converter steps after the last edge of the reference. -/
  | ppsInEdge (rising : Bool) (fine : Fin 256)
  /-- R230. Three consecutive expected pulses are absent, so GNSS is lost and holdover may begin. -/
  | ppsMissing
  /-- R230. A ZDA sentence on UART_GNSS labels the preceding pulse with its time of day. `good`: its checksum; `utc`: the UTC time it carries as seconds since 1970. -/
  | zdaSentence (good : Bool) (utc : Nat)
  /-- R235. A PTP or 802.1AS message is stamped and processed for best-master selection and discipline. -/
  | ptpMessageReceived (p : Fin 2) (m : PtpIn)
  /-- R230. The announce-receipt timeout or four Sync intervals pass, and the network source is lost. -/
  | announceTimeout (p : Fin 2)
  /-- R235. A sync, announce or delay interval elapses and the port sends its PTP message. -/
  | ptpTransmitInterval (p : Fin 2)
  /-- R231. The holdover error bound reaches its budget; time becomes free and 1502h is logged. -/
  | holdoverBudgetExceeded
  /-- R233. The timescale passes a whole second: PPS_OUT pulses, outputs switch mode, and the Wofen master sends its second mark. -/
  | wholeSecond
  /-- R236. The 2.005 command sets the timescale where allowed. -/
  | setTime (r : Req) (ns : Nat)
  /-- R236. A write of 01h to 2.001 starts discipline and PTP. -/
  | timeServiceStart (r : Req)
  /-- R236. A write of 00h to 2.001 stops discipline; the timescale free-runs on the last correction. -/
  | timeServiceStop (r : Req)
  /-- R239. Every 250 µs the Wofen master sends a cycle packet that opens the member windows. -/
  | wofenCycle
  /-- R240. Every 3.010 the master sends a frame event on WTB. -/
  | wofenFrameEventSend
  /-- R238. A Wofen packet is received and its mark stamped, then acted on by type. `aux`: on WTB_AUX; `raw`: vernier code of the mark. -/
  | wofenPacketReceived (aux : Bool) (pkt : Octets) (raw : Nat)
  /-- R239. A member's window on WTB_AUX opens and it sends at most one waiting packet. -/
  | wofenWindow
  /-- R241. No frame event for 2 × 3.010, so frames run on the own timer and 1505h is logged. -/
  | wofenFrameEventLoss
  /-- R244. WTB is silent for 2 ms, so a standby master takes over and members mark delays uncalibrated. -/
  | wtbSilence
  /-- R245. The 2.102 command starts a delay calibration on the master. -/
  | busCalibration (r : Req) (arg : Nat)
  /-- R243. The recalibration interval elapses, or 1 s after CONFIG entry, and the master starts a delay calibration. -/
  | busRecalibrationTimer
  /-- R243. The delay calibration ends, delay results are sent, and 0503h is logged. -/
  | busCalibrationDone
  /-- R245. A write of 01h to 2.101 starts the Wofen bus in its role. -/
  | triggerBusStart (r : Req)
  /-- R245. A write of 00h to 2.101 stops the bus where allowed. -/
  | triggerBusStop (r : Req)
  /-- R248. The reference receives a join on 2.220 and grants an index and seed or refuses. The fields of the request; its flags follow from the row. -/
  | fleetJoin (r : Req) (dom : Nat) (ident : Nat) (prev : Nat)
  /-- R248. The reference receives a renewing join and renews or rebuilds the lease. The fields of the request; its flags follow from the row. -/
  | fleetRenew (r : Req) (dom : Nat) (ident : Nat) (prev : Nat)
  /-- R248. The reference receives a release and frees the index at once. The fields of the request; its flags follow from the row. -/
  | fleetRelease (r : Req) (dom : Nat) (ident : Nat) (prev : Nat)
  /-- R249. A member accepts a grant on 2.201 and stores index and seed, pending until RUN. -/
  | fleetGrant (r : Req) (grant : Octets)
  /-- R249. Once per second without a grant, a member sends a join again. -/
  | fleetJoinRetry
  /-- R250. At half the lease, or every 60 s when unanswered, a member sends a renewal. -/
  | fleetRenewTimer
  /-- R248. An index not renewed is freed 1 h after its lease ends. -/
  | fleetIndexExpiry (x : Fin 1024)
  /-- R251. A write to 2.210 changes domain or role at once and starts a join or reference service. -/
  | fleetDomainWrite (r : Req) (el : Nat) (ty : Nat) (val : Octets)
  /-- R271. A write of 01h to A.001 arms a segment and puts the sequencer in state 0. -/
  | captureStart (r : Req)
  /-- R271. A write of 00h to A.001 closes the segment in use as truncated and discards a held trigger. -/
  | captureStop (r : Req)
  /-- R258. A record of a selected source reaches the engine and is metered and written to the segment. `src`, `unit`: source whose oldest record arrives; `t` in 1/256 ns and `data`: the record itself for a crossing of the high threshold. -/
  | captureRecord (src : Nat) (unit : Nat) (t : Nat) (data : CapWord)
  /-- R262. An occurrence of a condition is counted in the state in effect at its time, possibly taking transition 1. `o`: occurrence of which the oldest on its way is counted; `t` in 1/256 ns: the time of a crossing of the high threshold. -/
  | triggerConditionOccurrence (t : Nat) (o : Occ)
  /-- R261. A state's timer reaches its limit and transition 2 is evaluated 200 ns later. -/
  | triggerSequencerTimer
  /-- R263. The A.102 command is an occurrence of condition 0Ah. -/
  | hostTrigger (r : Req) (arg : Nat)
  /-- R254. The post-trigger time limit passes and the filling segment closes and re-arms. -/
  | segmentTimeLimit
  /-- R268. A write to A.300 selects and locks a closed segment for reading. -/
  | segmentSelect (r : Req) (seg : Nat)
  /-- R268. 60 s after the last read, the segment lock ends. -/
  | segmentLockExpiry
  /-- R272. The A.304 command frees a closed segment. -/
  | segmentRelease (r : Req) (seg : Nat)
  /-- R272. The A.305 command frees every segment while capture is stopped. -/
  | captureClear (r : Req) (arg : Nat)
  /-- R287. Descriptors written to 5.202 are stored at the pointer unless they cover one in execution. -/
  | descriptorWrite (r : Req) (o : Octets)
  /-- R288. Writing go with en to a 5.200 member starts a chain, checking each descriptor before moving. -/
  | dmaChannelStart (r : Req) (c : Fin 32) (retry : Nat) (first : Nat)
  /-- R291. Writing en = 0 abandons the descriptor, rewinds a bulk packet and writes a DISABLED record. -/
  | dmaChannelDisable (r : Req) (c : Fin 32)
  /-- R289. The engine moves one 32-octet burst of an active channel, ending its descriptor on the last. `err`: the burst is answered with an error. -/
  | dmaBurst (err : Bool)
  /-- R290. An xSPI read not completed within 10 µs counts as a bus error. -/
  | xspiReadTimeout (c : Fin 32)
  /-- R288. A bulk-queue reservation not granted within 100 ms ends the descriptor with NO_CREDIT. -/
  | dmaReservationTimeout (c : Fin 32)
  /-- R292. 100 µs after a held power-down request, touching channels end with DOMAIN_OFF and the domain switches off. -/
  | dmaHoldLimit (d : Fin 7)
  /-- R294. A read of 5.210 returns and removes the oldest completion records. -/
  | completionQueueRead (r : Req)
  /-- R295. A write to 5.221 stores octets at the pointer, which advances. -/
  | dmaBufferWrite (r : Req) (o : Octets)
  /-- R302. A write of 01h to 5.301 or 5.311 starts link bring-up. -/
  | linkStart (r : Req) (l : Fin 2)
  /-- R316. A write of 00h stops the link and empties its queues. -/
  | linkStop (r : Req) (l : Fin 2)
  /-- R302. The transmit PLL locks and the lanes begin sending TRAIN blocks. -/
  | linkPllLocked (l : Fin 2)
  /-- R302. 20 ms after training began, the link comes up on its good lanes or repeats training. -/
  | trainingTimeout (l : Fin 2)
  /-- R304. A back-lane LANE LOCK block reports the host locked on a lane. -/
  | laneLock (l : Fin 2) (ln : Fin 4)
  /-- R301. A LANE ADJUST block moves one equaliser tap by one step, or is refused at limit. `tap`: 0 pre-cursor, 1 main, 2 post-cursor. -/
  | laneAdjust (l : Fin 2) (ln : Fin 4) (tap : Fin 3) (up : Bool)
  /-- R302. A LANE DONE block makes a lane good; the link comes up when all lanes are done. -/
  | laneDone (l : Fin 2) (ln : Fin 4)
  /-- R314. A LANE RETRAIN block retrains a lane, or retires it on a fifth retrain in 60 s. -/
  | laneRetrain (l : Fin 2) (ln : Fin 4)
  /-- R312. An ACK acknowledges and releases packets and takes the cumulative grant. -/
  | backLaneAck (l : Fin 2) (seq : Nat) (grant : Nat)
  /-- R312. A NAK acknowledges earlier packets and replays from the failed one. -/
  | backLaneNak (l : Fin 2) (seq : Nat) (grant : Nat)
  /-- R304. A STATUS block reports lane errors and clock loss, which may retrain lanes or cause fallback. `lost`: forwarded clock lost; `ref`: REFLK_IN is present; `errs`: block errors of lanes 0 ... 3. -/
  | backLaneStatus (l : Fin 2) (lost : Bool) (ref : Bool) (errs : List Nat)
  /-- R305. A SIDE block from the host delivers side-channel octets of a Torvip frame. -/
  | backLaneSide (l : Fin 2) (o : Octets)
  /-- R304. A data block or unknown type on the back lane is counted as an error. -/
  | backLaneInvalidBlock (l : Fin 2)
  /-- R311. The link picks the next replay, stream or bulk packet that credit allows and sends it. `bad`: 1 a corrected, 2 an uncorrectable error of queue memory as the packet is read. -/
  | linkPacketSend (l : Fin 2) (bad : Fin 3)
  /-- R312. No acknowledgement progress within the replay timeout, so the link replays from the oldest packet. -/
  | replayTimeout (l : Fin 2)
  /-- R315. No valid back-lane block for 1 ms takes the link down. -/
  | backLaneSilent (l : Fin 2)
  /-- R300. Every 16,384 rounds the link sends a periodic DESKEW round. -/
  | deskewRound (l : Fin 2)
  /-- R307. The flush time passes since an Ingot's first record, and the Ingot is committed. -/
  | ingotFlush (l : Fin 2)
  /-- R334. Once every marker for a frame can have arrived, each evaluator judges the fields and the island decides the outputs. `differ`: the records of the evaluators differ by a fault of one; `miss`: an evaluator misses the test point. -/
  | verdict (differ : Bool) (miss : Bool)
  /-- R335. No frame end within the maximum frame period raises the protective counter as a violated frame. -/
  | frameMissingTimeout
  /-- R338. The selection has been invalid longer than C.010.0A, so every frame counts as a violation. -/
  | selectionInvalidTimeout
  /-- R339. Every second each window zone is judged clean, warning or blind from its contamination ratio. -/
  | contaminationJudgement
  /-- R340. A TP_A or TP_B low pulse is issued and the inputs are checked for shorts and cross-shorts. `bad`: pairs (0 ... 3) with a short, a stuck channel or a cross-short. -/
  | testPulse (tpB : Bool) (bad : List Nat)
  /-- R340. An input change held for 3 ms is accepted, updating pair state, stops and resets. -/
  | safeInputDebounced (n : Fin 4) (chB : Bool)
  /-- R341. A channel has not followed its pair partner within the discrepancy time, leading to LOCKOUT 08h. -/
  | safeInputDiscrepancy (n : Fin 4)
  /-- R342. A reset pair held closed longer than 5 s logs event 4031h. -/
  | resetPairLongPress (n : Fin 4)
  /-- R343. Every 10 ms each evaluator updates the encoder speed and checks agreement. -/
  | speedUpdate
  /-- R343. Speed disagreement lasting over 100 ms leads to LOCKOUT 0Ah. -/
  | speedDiscrepancyTimeout
  /-- R346. Every 10 ms in STOPPING the speeds are checked against the ramp, timeout and standstill. -/
  | stoppingCheck
  /-- R347. The restart conditions have held for the restart delay, and the island enters ENABLED. -/
  | restartDelayExpiry
  /-- R348. An on switch is opened for at most 300 µs and its readback checked. `fault`: 0, or the cause 0Bh ... 0Eh that the readback shows. -/
  | outputSwitchTest (fault : Nat)
  /-- R348. Readback does not follow a switch test within 100 µs, leading to LOCKOUT. -/
  | outputReadbackTimeout
  /-- R348. A safe output's 1.2 A current limit trips, leading to LOCKOUT 0Dh. -/
  | outputCurrentLimit
  /-- R349. In START-TEST each switch in turn is closed alone and its ball checked, 10 ms apart. `fault`: 0, or the cause 0Bh ... 0Eh found. -/
  | startUpOutputTest (fault : Nat)
  /-- R353. A sub-interval of a sector's short or long window ends and the sums roll. Of every sector: their windows share their sub-intervals (R353). -/
  | governorSubinterval (long : Bool)
  /-- R40. A safety domain's monitor finds its supply out of range, and its enable lanes stop. -/
  | safetySupplyFault (e : Fin 2)
  /-- R437. VDD_HV falls below 8.0 V, and the Anchor die opens the safe outputs and stops test pulses and gates. -/
  | vddHvUndervoltage
  /-- R370. A command PDU is accepted under R365 and sets case, reset, stop and speed mirror. -/
  | commandPdu (port : PlvFrom) (o : Octets)
  /-- R373. A begin operation opens a download session for a matching device identity. -/
  | paramBegin (port : PlvFrom) (o : Octets)
  /-- R373. A data segment adds image octets in ascending order. -/
  | paramData (port : PlvFrom) (o : Octets)
  /-- R373. Verify checks every entry of the received image and the set rules. -/
  | paramVerify (port : PlvFrom) (o : Octets)
  /-- R374. Activate writes the set to MRAM, loads both evaluators and restarts in START-TEST. -/
  | paramActivate (port : PlvFrom) (o : Octets)
  /-- R373. Abandon ends the download session. -/
  | paramAbandon (port : PlvFrom) (o : Octets)
  /-- R365. A consumer connection's watchdog expires without an accepted PDU, entering fail-safe. -/
  | plovivoWatchdog (k : Fin 4)
  /-- R369. Each status cycle the part sends a status PDU on each enabled status slot. `differ`: the evaluators assemble different PDUs. -/
  | statusPduCycle (second : Bool) (differ : Bool)
  /-- R366. 10 ms after hostfs rises, and every 1 s while set, the part begins new status sessions. -/
  | hostfsSessionTimer
  /-- R379. The Pilot's 100 ms hardware watchdog expires and the Pilot restarts live. -/
  | pilotWatchdog
  /-- R379. An uncorrectable Pilot SRAM error restarts the Pilot live. -/
  | pilotSramError
  /-- R379. The restarted firmware withdraws the fixed responder and logs 0B01h. -/
  | pilotRestartComplete
  /-- R380. Every 1.024 ms the sensor block converts the sites and acts on thermal levels. `counts`: the twenty site counts; an Anchor count that has not arrived is none. -/
  | housekeepingRound (counts : List (Option Nat))
  /-- R384. The 8.015 command leaves QUENCHED for CONFIG below 130 °C. -/
  | quenchRestart (r : Req) (arg : Nat)
  /-- R388. The firmware moves a queued event into the MRAM log ring with the next entry number. -/
  | eventLogCommit
  /-- R393. The 9.110 command saves the values in effect into one configuration copy. `readBack`: the copy reads back as written. -/
  | save (r : Req) (arg : Nat) (readBack : Bool)
  /-- R393. The 9.112 command in SERVICE zeroes both copy headers. -/
  | storeErase (r : Req) (arg : Nat)
  /-- R395. A write to 9.211 stores image octets into the Slip at the pointer. -/
  | slipDataWrite (r : Req) (data : Octets)
  /-- R395. Slip command 01h erases the Slip. -/
  | slipErase (r : Req)
  /-- R395. Slip command 02h checks the staged image in order. -/
  | slipVerify (r : Req)
  /-- R395. Slip command 03h copies a verified firmware image into the slot not running. -/
  | slipInstall (r : Req)
  /-- R395. Slip command 04h marks the installed slot preferred on trial and restarts the Pilot. -/
  | slipActivate (r : Req)
  /-- R397. Slip command 05h ends the trial and raises the fuse counter. -/
  | slipConfirm (r : Req)
  /-- R396. Slip command 06h restarts into the former slot. -/
  | slipRevert (r : Req)
  /-- R395. Slip command 07h restarts the Pilot on the running slot. -/
  | slipRestart (r : Req)
  /-- R395. A long Slip command finishes and logs event 0B02h. -/
  | slipCommandComplete
  /-- R396. No confirm arrives within the trial window, so the trial is reverted. -/
  | trialWindowExpiry
  /-- R396. Trial firmware has not withdrawn the fixed responder 2 s after step 2, so the trial is reverted. -/
  | trialStartTimeout
  /-- R394. The 9.240 command writes the integrator public key to OTP once, in SERVICE. -/
  | integratorKeyWrite (r : Req) (key : Octets)
  /-- R400. The 9.300 command starts the window baseline service in RUN. -/
  | windowBaseline (r : Req) (arg : Nat)
  /-- R400. After 1,000 frames the baselines are written to 9.301 and 0B03h is logged. -/
  | windowBaselineDone
  /-- R401. The 9.320 command starts a 100-frame observation for the commissioning report. -/
  | commissioningReport (r : Req) (arg : Nat)
  /-- R401. After 100 frames the report is assembled in 9.321. -/
  | commissioningReportDone
  /-- R402. The 9.330 command makes every converter of the named Quadrants due at once. -/
  | converterCampaign (r : Req) (mask : Nat)
  /-- R402. The 9.331 command makes the next two Landings diagnostic in every Quadrant. -/
  | emitterCampaign (r : Req) (arg : Nat)
  /-- R387. A write of 00h to an 8.100 member switches a domain off under the hold rule. -/
  | powerDomainOff (r : Req) (dom : Fin 7)
  /-- R387. A write of 01h to an 8.100 member powers and initialises a domain. -/
  | powerDomainOn (r : Req) (dom : Fin 7)
  /-- R410. Logic supplies are in range and RST_N is high, so the reset is released and XO_IN is checked. `xoGood`: XO_IN passes the check of R411. -/
  | powerOnResetRelease (xoGood : Bool)
  /-- R411. Every 10 ms while XO_IN fails its check, the part checks it again. -/
  | xoCheckRetry (xoGood : Bool)
  /-- R410. Firmware is loaded and started, and the part enters SELFTEST. -/
  | bootComplete
  /-- R412. Self-tests end; the configuration copy is applied and CONFIG entered, or HALTED on a fatal finding. -/
  | selftestComplete (res : SelfTestIn)
  /-- R417. A logic supply is lost or RST_N goes low, and the part enters OFF. -/
  | powerOnResetAssert
  /-- R414. Run-state command 02h makes the entry commit and starts frames. -/
  | runCommand (r : Req)
  /-- R415. Run-state command 01h ends RUN after the running frame, or leaves SERVICE at once. -/
  | stopCommand (r : Req)
  /-- R413. Run-state command 03h enters SERVICE from CONFIG. -/
  | serviceCommand (r : Req)
  /-- R416. Run-state command 04h stops, parks the slow axis, flushes the log and enters OFF. -/
  | preparePowerRemoval (r : Req)
  /-- R414. Every 100 ms while the automatic run command is refused, the part issues it again. -/
  | autoRunRetry
  /-- R427. A write of 00h to 3.100 + q member 01 stands the Quadrant down at the next Landing. -/
  | quadrantStandDown (r : Req) (q : Fin 4)
  /-- R425. A write of 01h to 3.100 + q member 01 starts re-admission of a stood-down Quadrant. -/
  | quadrantRejoin (r : Req) (q : Fin 4)
  /-- R147. A 9.400 command of kind 1 re-admits a retired return channel. `arg`: bits [11:0] of the argument of R424. -/
  | readmitChannel (r : Req) (arg : Nat)
  /-- R424. A 9.400 command of kind 2 re-tests a retired emitter. `arg`: bits [11:0] of the argument of R424. -/
  | readmitEmitter (r : Req) (arg : Nat)
  /-- R424. A 9.400 command of kind 3 retrains a retired serial lane. `arg`: bits [11:0] of the argument of R424. -/
  | readmitLane (r : Req) (arg : Nat)
  /-- R425. A 9.400 command of kind 4 re-admits a retired Quadrant. `arg`: bits [11:0] of the argument of R424. -/
  | readmitQuadrant (r : Req) (arg : Nat)
  /-- R424. A 9.400 command of kind 5 re-admits a retired Helm as standby. `arg`: bits [11:0] of the argument of R424. -/
  | readmitHelm (r : Req) (arg : Nat)
  /-- R425. A timed step of Quadrant re-admission completes and the next step begins, or it fails. `failed`: channels that failed the step; `pass`: the step itself completed. -/
  | quadrantReadmissionStepDone (pass : Bool) (failed : List Nat)
  /-- R147. A re-admitted channel's relief calibration completes, leading to injection at the next Landing. -/
  | channelReadmissionCalDone (ch : Fin 1024) (run : CalRun)
  /-- R304. An IDLE block with a valid sync header arrives on the back lane and counts toward back-lane lock and against the silence timer. -/
  | backLaneIdle (l : Fin 2)
  /-- R304. A back-lane block with an invalid sync header arrives, and 16 of them within 64 blocks lose back-lane lock. -/
  | backLaneInvalidSyncHeader (l : Fin 2)
  /-- R303. The part's monitor finds the clock-lane driver faulted, and in mode 0 the link falls back to common reference. -/
  | clockLaneDriverFault (l : Fin 2) (ref : Bool)
  /-- R314. A retraining lane has not sent DONE within 20 ms, and the attempt counts as a retrain. -/
  | laneRetrainTimeout (l : Fin 2) (ln : Fin 4)
  /-- R230. Three consecutive expected Wofen second marks are absent, the Wofen source is lost, and holdover may begin. -/
  | wofenSecondMarkLoss
  /-- R230. A 10 MHz ± 5 ppm signal appears on or vanishes from REF10_IN, changing 2.020.0A and the rate source when no source is locked. `rate`: that of a signal of 10 MHz ± 5 ppm against the reference, less one, in 2^-32; none without such a signal. -/
  | ref10InChange (rate : Option Int)
  /-- R437. VDD_HV rises above 8.5 V and the Anchor die releases the test pulses and gate outputs. -/
  | vddHvRestored
  /-- R343. A rising edge on SE_A or SE_B is counted by each evaluator for the speed computation. -/
  | speedEncoderEdge (chB : Bool)
  /-- R340. A safe input channel SI_nA or SI_nB changes level outside a test-pulse window and starts its debounce and discrepancy timing. -/
  | safeInputEdge (n : Fin 4) (chB : Bool) (closed : Bool)
  /-- R328. Both evaluators finish booting and checking the stored parameter set, and the island enters START-TEST or LOCKOUT. -/
  | evaluatorsBooted (ok : Bool)
  /-- R76. A UART_MNT frame with a bad CRC is discarded without response and counted in 1.030.02. -/
  | uartMntCrcError
  /-- R72. A classic, base-format or foreign-node CAN frame is ignored and counted in 1.030.03. -/
  | canFrameIgnored (port : Fin 2)
  /-- R81. An ARP or NDP request for one of the part's own addresses arrives on a MAC and is answered. -/
  | arpNdpRequest (mac : Fin 2) (v6 : Bool) (target : Octets)
  /-- R365. A Plovivo PDU whose conn matches no enabled slot on its port is discarded and counted in C.410. -/
  | plovivoPduUnmatched (port : PlvFrom) (conn : Nat)
  /-- R71. One second after a command message is accepted and still running, the part answers with status 01h. -/
  | commandRunningResponse (port : Nat) (master : Nat) (txn : Nat)
  deriving DecidableEq, Repr

end Sys2Proof
end

