-- ==== Sys2Proof/Config.lean ====
section
/-! DEFINITION. What an implementation fixes (OTP, boot ROM) and the free values: constants without a body, of which no proof can
know a value. -/

namespace Sys2Proof.Config

/-- Free value of a 32-bit counter past its last value (no rule states what follows FFFFFFFFh). -/
opaque freeU32 : Nat → Nat

/-- Free octets left in a destination of an abandoned descriptor (R291). -/
opaque freeByte : Nat → Nat → Byte

/-- The `count` of a completion record of a disabled descriptor (R291). -/
opaque freeCount : Nat → Nat

/-- Free integer of a result that no rule states. -/
opaque freeInt : Nat → Int

/-- Unique device identity, 64 bits, from OTP (R432). -/
opaque deviceId : Nat

/-- Ordering code as octets, filled with 00h to 12 (R3, R432). -/
opaque orderingCode : Octets

/-- Silicon revision (R432). -/
opaque siliconRev : Nat

/-- Safety-partition revision (R432). -/
opaque safetyRev : Nat

/-- MAC address of MAC 0 or 1, six octets. -/
opaque macAddr : Nat → Octets

/-- Temperature-site trim from OTP: count at 25 °C and slope in Q16.16 (R380). -/
opaque siteN25 : Nat → Int
opaque siteSlope : Nat → Int

/-- Plausible count window of a site from OTP (R380). -/
opaque siteLow : Nat → Nat
opaque siteHigh : Nat → Nat

/-- The two Caminaent public keys in boot ROM (R394). -/
opaque romKey : Nat → Octets

/-- Factory trim of an input and range from OTP: offset in 1/16 raw code and gain Q2.30 (R208); the key is 128·converter +
2·selector + range. -/
opaque trimOff : Nat → Int
opaque trimGain : Nat → Nat

/-- Corrected fine time of a raw code on a converter before its first recorded calibration, and the front-end delay of a channel and
gain code found at self-test, both in 1/16 step (R131, R135): the self-test measures them. -/
opaque fineTab : (conv raw : Nat) → Nat
opaque delay0 : (chan gain : Nat) → Int

/-- Converter offset, 1/16 step, before the first recorded calibration of a converter (R139): the self-test measures it. -/
opaque offset0 : (conv : Nat) → Nat

/-- Field `toff` of a point record whose mean instant lies before the frame start, by that mean in µs (R190, R191). -/
opaque toffBefore : Int → Nat

/-- Permitted range of the sync (0), announce (1) and delay (2) interval of a PTP profile, log2 s (R235): the profiles' standards bound
them, and no rule does. -/
opaque ptpRange : (prof which : Nat) → Int × Int

/-- Status `5.204` of a DMA channel that the firmware uses (28 ... 31) in a period in which it reads the NOR (R378): no rule says which of
the four reads what. -/
opaque pilotDma : (period chan : Nat) → Nat

/-- The JTAG port (R448): the IDCODE, the cells of the boundary-scan register, and the level that a cell captures in a period. The
description file that Caminaent supplies gives them for each silicon revision. -/
opaque idcode : Nat
opaque scanCells : Nat
opaque ballLevel : (period cell : Nat) → Bool

/-- Largest INL of a calibration, 1/16 step (R148): no rule says how it is computed. -/
opaque inlOf : Nat → Nat

end Sys2Proof.Config
end

