-- ==== Sys2Proof/Machine/Operands.lean ====
section
/-! DEFINITION. Operand forms: bit fields (R11), octet order (R64), two's complement and the other encodings of R13, and the
sparse maps that hold values in effect. -/

namespace Sys2Proof.Machine

/-- Field of width `w` whose least significant bit is bit `lo` (R11). -/
def bits (n lo w : Nat) : Nat := n / 2 ^ lo % 2 ^ w

/-- Bit `i` of a word (R11). -/
def bit (n i : Nat) : Bool := n / 2 ^ i % 2 == 1

/-- The word with bit `i` set. -/
def setBit (n i : Nat) : Nat := if bit n i then n else n + 2 ^ i

/-- The word with bit `i` cleared. -/
def clrBit (n i : Nat) : Nat := if bit n i then n - 2 ^ i else n

/-- The word with bit `i` at the truth value `b`. -/
def putBit (n i : Nat) (b : Bool) : Nat := if b then setBit n i else clrBit n i

/-- One bit as a number. -/
def b2n (b : Bool) : Nat := if b then 1 else 0

/-- Unsigned value of octets, most significant first (R64). -/
def beNat : Octets → Nat
  | [] => 0
  | b :: bs => b.toNat * 256 ^ bs.length + beNat bs

/-- `n` octets of a value, most significant first (R64). -/
def toBE : Nat → Nat → Octets
  | 0, _ => []
  | n + 1, v => BitVec.ofNat 8 (v / 256 ^ n) :: toBE n v

/-- Two's complement value of the low `w` bits (R13). -/
def toSigned (w n : Nat) : Int :=
  let m := n % 2 ^ w
  if m < 2 ^ (w - 1) then (m : Int) else (m : Int) - (2 ^ w : Nat)

/-- Low `w` bits of the two's complement of an integer (R13). -/
def ofInt (w : Nat) (i : Int) : Nat := (i % (2 ^ w : Nat)).toNat

/-- The octet at an index, zero past the end. -/
def octAt (o : Octets) (i : Nat) : Nat := (o.getD i 0).toNat

/-- `n` octets from offset `i`, most significant first. -/
def fieldAt (o : Octets) (i n : Nat) : Nat := beNat ((o.drop i).take n)

/-- `n` zero octets. -/
def zeros (n : Nat) : Octets := List.replicate n 0

/-- Pad with 00h, or cut, to exactly `n` octets. -/
def fitTo (n : Nat) (o : Octets) : Octets := (o ++ zeros n).take n

/-- Octets of a list of numbers, one octet each. -/
def oct (l : List Nat) : Octets := l.map (BitVec.ofNat 8)

/-- Limit a value to lo ... hi. -/
def clampI (lo hi v : Int) : Int := if v < lo then lo else if hi < v then hi else v

/-- Counter that saturates at `m`. -/
def satAdd (m n k : Nat) : Nat := min m (n + k)

/-- Largest r with r*r ≤ n, by binary search over `bits` bits. -/
def isqrtGo (n : Nat) : Nat → Nat → Nat
  | 0, r => r
  | b + 1, r => let t := r + 2 ^ b; isqrtGo n b (if t * t ≤ n then t else r)

/-- floor of the square root of a number below 2^(2k). -/
def isqrt (k n : Nat) : Nat := isqrtGo n k 0

/-- floor(log2 n) of a number below 2^k; 0 for 0. -/
def ilog2Go (n : Nat) : Nat → Nat
  | 0 => 0
  | k + 1 => if 2 ^ (k + 1) ≤ n then k + 1 else ilog2Go n k

/-- Serial-number comparison (R391): a is higher than b modulo 2^32. -/
def serialHigher (a b : Nat) : Bool :=
  let d := (a + 2 ^ 32 - b % 2 ^ 32) % 2 ^ 32
  1 ≤ d && d ≤ 2 ^ 31 - 1

/-- Value at a key; `d` where nothing is listed. -/
def AMap.get {α : Type} (d : α) : AMap α → Nat → α
  | [], _ => d
  | (k', v) :: m, k => if k' = k then v else AMap.get d m k

/-- List a value at its place in the rising order. -/
def AMap.ins {α : Type} : AMap α → Nat → α → AMap α
  | [], k, v => [(k, v)]
  | (k', v') :: m, k, v =>
    if k < k' then (k, v) :: (k', v') :: m
    else if k = k' then (k, v) :: m
    else (k', v') :: AMap.ins m k v

/-- Unlist a key. -/
def AMap.del {α : Type} : AMap α → Nat → AMap α
  | [], _ => []
  | (k', v') :: m, k => if k' = k then AMap.del m k else (k', v') :: AMap.del m k

/-- Write: the value `d` of an unlisted key is not listed. -/
def AMap.put {α : Type} [DecidableEq α] (d : α) (m : AMap α) (k : Nat) (v : α) : AMap α :=
  if v = d then AMap.del m k else AMap.ins m k v

/-- Write a run of octets at rising addresses of a memory whose unlisted octets read 00h. -/
def memPut (m : AMap Byte) (a : Nat) : Octets → AMap Byte
  | [] => m
  | b :: bs => memPut (AMap.put 0 m a b) (a + 1) bs

/-- Read `n` octets from address `a`. -/
def memGet (m : AMap Byte) : Nat → Nat → Octets
  | _, 0 => []
  | a, n + 1 => AMap.get 0 m a :: memGet m (a + 1) n

/-- Entry of an association list, `d` where absent. -/
def assocD {α : Type} (d : α) (l : List (Nat × α)) (k : Nat) : α := AMap.get d l k

/-- Replace or add an entry of an association list, kept in rising order. -/
def assocPut {α : Type} (l : List (Nat × α)) (k : Nat) (v : α) : List (Nat × α) := AMap.ins l k v

/-- Insert into a sorted list, before equals. -/
def insBy {α : Type} (le : α → α → Bool) (x : α) : List α → List α
  | [] => [x]
  | y :: ys => if le x y then x :: y :: ys else y :: insBy le x ys

/-- Stable sort. -/
def sortBy {α : Type} (le : α → α → Bool) (l : List α) : List α := l.foldr (insBy le) []

/-- Replace the entry at an index of a list, when there is one. -/
def setAt {α : Type} (l : List α) (i : Nat) (v : α) : List α := l.set i v

end Sys2Proof.Machine
end

