-- ==== Sys2Proof/Machine/Flags.lean ====
section
/-! DEFINITION. Check codes: the CRCs of R20, R76, R238, R300, R306, R362 and R365, computed bit by bit from their polynomials. -/

namespace Sys2Proof.Machine

/-- One bit of a most-significant-first CRC of width `w`. -/
def crcBit (w poly c : Nat) : Nat :=
  let d := c * 2
  if c / 2 ^ (w - 1) % 2 = 1 then Nat.xor (d % 2 ^ w) poly else d % 2 ^ w

/-- `n` bits. -/
def crcBits (w poly : Nat) : Nat → Nat → Nat
  | 0, c => c
  | n + 1, c => crcBits w poly n (crcBit w poly c)

/-- Non-reflected CRC over octets. -/
def crcFwd (w poly : Nat) : Nat → Octets → Nat
  | c, [] => c
  | c, b :: bs => crcFwd w poly (crcBits w poly 8 (Nat.xor c (b.toNat * 2 ^ (w - 8)))) bs

/-- One bit of a least-significant-first CRC with the reflected polynomial. -/
def crcBitR (poly c : Nat) : Nat := if c % 2 = 1 then Nat.xor (c / 2) poly else c / 2

/-- `n` bits. -/
def crcBitsR (poly : Nat) : Nat → Nat → Nat
  | 0, c => c
  | n + 1, c => crcBitsR poly n (crcBitR poly c)

/-- Reflected CRC over octets. -/
def crcRev (poly : Nat) : Nat → Octets → Nat
  | c, [] => c
  | c, b :: bs => crcRev poly (crcBitsR poly 8 (Nat.xor c b.toNat)) bs

/-- Reversal of the low `n` bits. -/
def revBits : Nat → Nat → Nat
  | 0, _ => 0
  | n + 1, v => (v % 2) * 2 ^ n + revBits n (v / 2)

/-- CRC-16 of R76: polynomial 1021h, initial value FFFFh, not reflected, no final XOR. -/
def crc16 (o : Octets) : Nat := crcFwd 16 0x1021 0xFFFF o

/-- CRC-32C: polynomial 1EDC6F41h (reflected 82F63B78h), initial value and final XOR FFFFFFFFh (R300). -/
def crc32c (o : Octets) : Nat := Nat.xor (crcRev 0x82F63B78 0xFFFFFFFF o) 0xFFFFFFFF

/-- CRC-8 of a Wofen packet: polynomial 07h, initial value 00h (R238). -/
def crc8 (o : Octets) : Nat := crcFwd 8 0x07 0 o

/-- The CRC of a Plovivo PDU: polynomial F4ACFB13h (reflected C8DF352Fh), initial value and final XOR FFFFFFFFh (R362). -/
def crcPlovivo (o : Octets) : Nat := Nat.xor (crcRev 0xC8DF352F 0xFFFFFFFF o) 0xFFFFFFFF

end Sys2Proof.Machine
end

