-- ==== Sys2Proof/Machine/Dictionary.lean ====
section
/-! DEFINITION. The object catalogue (R12 ... R15, R42, R429 ... R433): every object the part serves, with its type, access class,
apply class, member count, default and range. An object `A.OOO` is the number A·1000h + OOO. -/

namespace Sys2Proof.Machine

/-- Data types of R13 with the type codes of R69 (`q` types are carried as their two's complement integers). -/
inductive Ty where
  | bool | u8 | u16 | u32 | u64 | i16 | i32 | f32 | str | blob
  deriving DecidableEq, Repr

/-- Scalar, array of a fixed count, array of a variable count up to a maximum (R43), or octets with their stated length. -/
inductive Shape where
  | scalar
  | fixed (n : Nat)
  | var (max dflt : Nat)
  | octets (lo hi mult : Nat)
  deriving DecidableEq, Repr

/-- Access classes of R14. -/
inductive Acc where
  | ro | rw | wo | rwf | rws
  deriving DecidableEq, Repr

/-- Apply classes of R15. -/
inductive App where
  | none | imm | lnd | stp
  deriving DecidableEq, Repr

/-- One row of the catalogue; `first ... last` is a run of objects (R429). The lists of defaults and ranges give one entry per
member from 01; the last entry repeats, or with `cyc` the whole list does. -/
structure Row where
  first : Nat
  last : Nat
  ty : Ty
  shape : Shape
  acc : Acc
  app : App
  dflt : List Int := [0]
  rng : List (Int × Int) := []
  cyc : Bool := false
  deriving DecidableEq, Repr

/-- Width of a type in octets (R13). -/
def Ty.width : Ty → Nat
  | .bool => 1 | .u8 => 1 | .u16 => 2 | .u32 => 4 | .u64 => 8 | .i16 => 2 | .i32 => 4 | .f32 => 4 | .str => 1 | .blob => 1

/-- Type code (R69). -/
def Ty.code : Ty → Nat
  | .bool => 0x01 | .u8 => 0x02 | .u16 => 0x03 | .u32 => 0x04 | .u64 => 0x05 | .i16 => 0x06 | .i32 => 0x07 | .f32 => 0x08
  | .str => 0x0B | .blob => 0x0C

/-- Signed types. -/
def Ty.signed : Ty → Bool
  | .i16 => true | .i32 => true | _ => false

/-- Least and greatest value of the type itself. -/
def Ty.lim (t : Ty) : Int × Int :=
  match t with
  | .bool => (0, 1)
  | .i16 => (-32768, 32767)
  | .i32 => (-2147483648, 2147483647)
  | t => (0, 256 ^ t.width - 1)

/-- Encoding of a value (R13, R64). -/
def Ty.enc (t : Ty) (v : Int) : Octets := toBE t.width (ofInt (8 * t.width) v)

/-- Value of octets of the type's width. -/
def Ty.dec (t : Ty) (o : Octets) : Int :=
  if t.signed then toSigned (8 * t.width) (beNat o) else (beNat o : Int)

/-- Entry `i` (0-based) of a list whose last entry, or whole list, repeats. -/
def repAt {α : Type} (d : α) (cyc : Bool) (l : List α) (i : Nat) : α :=
  if cyc then l.getD (i % l.length) d else l.getD (min i (l.length - 1)) d

def ro (obj : Nat) (t : Ty) (sh : Shape) (d : List Int := [0]) : Row := { first := obj, last := obj, ty := t, shape := sh, acc := .ro, app := .none, dflt := d }
def rw (obj : Nat) (t : Ty) (sh : Shape) (ap : App) (d : List Int) (r : List (Int × Int)) (cyc : Bool := false) : Row :=
  { first := obj, last := obj, ty := t, shape := sh, acc := .rw, app := ap, dflt := d, rng := r, cyc := cyc }
def rwf (obj : Nat) (t : Ty) (sh : Shape) (ap : App) (d : List Int) (r : List (Int × Int)) (cyc : Bool := false) : Row :=
  { first := obj, last := obj, ty := t, shape := sh, acc := .rwf, app := ap, dflt := d, rng := r, cyc := cyc }
def rws (obj : Nat) (t : Ty) (sh : Shape) (d : List Int) (r : List (Int × Int)) (cyc : Bool := false) : Row :=
  { first := obj, last := obj, ty := t, shape := sh, acc := .rws, app := .stp, dflt := d, rng := r, cyc := cyc }
def wo (obj : Nat) (t : Ty) (sh : Shape) (r : List (Int × Int)) : Row :=
  { first := obj, last := obj, ty := t, shape := sh, acc := .wo, app := .imm, rng := r }

namespace Catalogue

/-- Areas 0 and 1 (R431, R81). -/
def area01 : List Row := [
  ro 0x0001 .blob (.octets 32 32 1),
  ro 0x0010 .u32 (.fixed 9) [4, 1024, 192, 8, 8192, 48000000, 65536, 32, 1],
  rwf 0x1010 .u16 (.fixed 6) .stp [1023, 500, 2000] [(0, 1023), (125, 1000), (1000, 8000)] true,
  rw 0x1011 .bool (.fixed 2) .imm [1] [(0, 1)],
  rwf 0x1020 .u16 (.fixed 2) .stp [52740, 52741] [(1024, 65535)],
  rwf 0x1021 .u32 (.fixed 5) .stp [0xC0A80164, 0xFFFFFF00, 0xC0A80264, 0xFFFFFF00, 0] [],
  rw 0x1022 .bool (.fixed 2) .imm [1] [(0, 1)],
  rwf 0x1023 .blob (.octets 32 32 1) .stp [0] [],
  ro 0x1030 .u32 (.fixed 5),
  ro 0x1031 .blob (.octets 0 512 32),
  wo 0x1040 .u8 .scalar [(1, 1)],
  ro 0x1100 .u32 (.fixed 16),
  wo 0x1110 .u16 (.fixed 3) [],
  ro 0x1200 .u64 (.var 64 0),
  ro 0x1300 .u64 .scalar,
  wo 0x1310 .u8 .scalar [(0, 63)]]

/-- Area 2 (R236, R245, R251). -/
def area2 : List Row := [
  rwf 0x2000 .u16 (.fixed 8) .stp [0, 128, 128, 0xFFFF, 0, 1, 1, 0]
    [(0, 3), (0, 255), (0, 255), (0, 65535), (0, 2), (0, 3), (0, 3), (0, 127)],
  rw 0x2001 .bool .scalar .imm [1] [(0, 1)],
  rwf 0x2002 .i16 (.fixed 8) .stp [-3, 1, 0, 0, 0, 0, 0, 3]
    [(-7, 0), (0, 3), (0, 5), (0, 2000), (0, 2000), (0, 2000), (0, 2000), (2, 10)],
  wo 0x2005 .u64 .scalar [],
  rw 0x2010 .u8 (.fixed 4) .imm [1, 2, 3, 0] [(0, 4)],
  rw 0x2011 .i32 (.fixed 6) .imm [0, 0, 1, 9600, 37, 0] [(0, 1), (-10000, 10000), (0, 1), (4800, 115200), (0, 100), (0, 1)],
  ro 0x2020 .i32 (.fixed 10),
  ro 0x2021 .u64 .scalar,
  rw 0x2030 .u32 (.fixed 3) .imm [100000, 100000, 50000] [(1000, 10000000), (1000, 1000000000), (1000, 200000)],
  rw 0x2040 .u32 (.fixed 3) .imm [2, 100000, 0] [(0, 2), (1, 500000), (0, 2)],
  rwf 0x2100 .i32 (.fixed 5) .stp [0, 63, 60, 0, 0] [(0, 3), (0, 63), (0, 600), (0, 1), (-1000, 1000)],
  rw 0x2101 .bool .scalar .imm [0] [(0, 1)],
  wo 0x2102 .u8 .scalar [(1, 1)],
  ro 0x2110 .u32 (.fixed 9),
  ro 0x2111 .u32 (.fixed 64),
  ro 0x2200 .u16 (.fixed 4) [0, 0xFFFF, 0, 0],
  wo 0x2201 .blob (.octets 24 24 1) [],
  rwf 0x2210 .u32 (.fixed 8) .imm [0, 0, 0, 1, 0xFC00, 24, 1, 0]
    [(0, 4294967295), (0, 1), (0, 4294967295), (0, 2), (0, 65535), (1, 720), (0, 4294967295), (0, 65535)],
  wo 0x2220 .blob (.octets 16 16 1) [],
  ro 0x2230 .u32 (.fixed 3),
  rw 0x2231 .u16 .scalar .imm [0] [(0, 1023)],
  ro 0x2232 .blob (.octets 16 16 1)]

/-- Area 3 (R34, R87, R90, R93, R94, R97, R99, R148, R427). -/
def area3 : List Row := [
  wo 0x3000 .u8 .scalar [(1, 4)],
  rw 0x3001 .bool .scalar .imm [0] [(0, 1)],
  rw 0x3010 .u32 .scalar .lnd [20000] [(10000, 1000000)],
  ro 0x3011 .u32 .scalar,
  ro 0x3012 .u64 .scalar,
  ro 0x3013 .u32 (.fixed 4),
  rw 0x3020 .u8 (.fixed 3) .lnd [0] [(0, 2), (0, 2), (0, 1)],
  ro 0x3021 .u32 (.fixed 4),
  { first := 0x3100, last := 0x3103, ty := .u8, shape := .fixed 2, acc := .rw, app := .lnd, dflt := [1], rng := [(0, 1)] },
  ro 0x3110 .u32 (.fixed 12),
  ro 0x3200 .u32 (.fixed 12),
  rw 0x3201 .u32 (.fixed 3) .imm [0] [(0, 3), (0, 1), (0, 65535)],
  wo 0x3202 .blob (.octets 16 1440 16) [],
  rw 0x3203 .u32 (.fixed 4) .imm [0] [(0, 1000000)],
  ro 0x3204 .blob (.octets 1440 1440 1),
  rw 0x3210 .u8 .scalar .lnd [0] [(0, 15)],
  ro 0x3220 .bool (.fixed 4) [1],
  rw 0x3240 .u32 (.fixed 64) .lnd [0] [],
  rwf 0x3250 .u32 (.fixed 3) .stp [1, 0, 1] [(0, 4294967295), (0, 65535), (0, 1)],
  rw 0x3300 .u16 (.fixed 4) .imm [0, 50, 1, 1] [(0, 255), (10, 100), (0, 1), (1, 16)],
  rw 0x3310 .u32 (.fixed 192) .imm [0] [],
  ro 0x3311 .u32 (.fixed 201),
  wo 0x3320 .u8 .scalar [(1, 1)],
  rw 0x3330 .u32 (.fixed 8) .imm [0] [],
  rw 0x3340 .u32 .scalar .imm [65536] [(0, 65536)],
  ro 0x3341 .u32 (.fixed 4) [65536],
  ro 0x3350 .u8 (.fixed 200),
  ro 0x3351 .u32 (.fixed 3),
  wo 0x3352 .u8 .scalar [(0, 199)],
  ro 0x3360 .u32 (.fixed 20),
  { first := 0x3400, last := 0x3407, ty := .u32, shape := .fixed 128, acc := .rw, app := .lnd, dflt := [0xA1481290] },
  { first := 0x3410, last := 0x3417, ty := .u32, shape := .fixed 128, acc := .ro, app := .none },
  { first := 0x3420, last := 0x3423, ty := .i16, shape := .fixed 64, acc := .rw, app := .lnd, dflt := [0], rng := [(-2048, 2047)] },
  rw 0x3430 .u16 (.fixed 2) .lnd [1000, 4] [(200, 5000), (1, 64)],
  ro 0x3431 .u32 (.fixed 16),
  rw 0x3432 .u16 .scalar .imm [0] [(0, 1023)],
  ro 0x3433 .blob (.octets 12 1440 1),
  ro 0x3440 .u32 (.fixed 20)]

/-- Area 4 (R175, R197). -/
def area4 : List Row := [
  rw 0x4000 .u16 (.fixed 4) .lnd [1600, 1024, 48, 0] [(64, 1600), (0, 2048), (8, 96), (0, 1)],
  rw 0x4010 .u16 (.fixed 3) .lnd [8, 1024, 8] [(0, 8), (0, 2048), (1, 4095)],
  rw 0x4020 .u32 (.fixed 13) .lnd [0, 65536, 256, 64, 4, 260865]
    [(0, 1), (0, 65536), (256, 2048), (1, 65535), (0, 64), (0, 16777215)],
  ro 0x4021 .u32 (.fixed 20),
  ro 0x4022 .u32 (.fixed 12),
  rw 0x4030 .i32 (.fixed 23) .lnd
    [0, 0, 1, 2, 1, 0, 0, 0, 16, 96, 256, 96, 16, 0, 80, 3, 0, 0, 392943970, 512]
    [(-128, 127), (-128, 127), (-128, 127), (-128, 127), (-128, 127), (-128, 127), (-128, 127),
     (0, 256), (0, 256), (0, 256), (256, 256), (0, 256), (0, 256), (0, 256),
     (16, 1023), (1, 4095), (0, 400000), (-40000, 40000), (380000000, 400000000), (64, 8192)],
  rw 0x4040 .u32 (.fixed 6) .lnd [4, 3277, 24, 2, 1, 1] [(1, 8), (1, 65536), (0, 63), (1, 8), (0, 1), (0, 1)],
  rw 0x4041 .u16 .scalar .imm [0] [(0, 1023)],
  ro 0x4042 .blob (.octets 96 96 1),
  rw 0x4050 .u16 (.fixed 12) .lnd [320, 384, 64, 64, 128, 4064, 128, 512, 32, 64, 16, 0x7F]
    [(64, 2048), (64, 2048), (0, 255), (0, 1023), (0, 1023), (2048, 4095), (1, 256), (1, 65535), (0, 255), (1, 512), (2, 255), (0, 127)],
  rw 0x4051 .i16 (.fixed 4) .lnd [1, -1, 0, 0] [(-255, 255)],
  ro 0x4052 .u32 (.fixed 44),
  ro 0x4060 .u32 (.fixed 8),
  rw 0x4070 .u32 (.fixed 1024) .lnd [0] [],
  rw 0x4100 .u16 (.fixed 7) .lnd [0, 1, 0, 1023, 0, 4095, 3] [(0, 15), (1, 1000), (0, 1023), (0, 1023), (0, 4095), (0, 4095), (1, 3)],
  ro 0x4110 .u32 (.fixed 2),
  ro 0x4200 .u32 (.fixed 16),
  rw 0x4201 .u8 (.fixed 4) .lnd [0] [(0, 1)],
  wo 0x4202 .u8 .scalar [(1, 15)],
  ro 0x4300 .u32 (.fixed 24),
  ro 0x4310 .u32 (.fixed 24),
  { first := 0x4320, last := 0x4320, ty := .u32, shape := .fixed 16, acc := .ro, app := .none, dflt := [0, 0, 0, 256], cyc := true }]

/-- Area 5 (R295, R318). -/
def area5 : List Row := [
  rw 0x5000 .u8 (.fixed 2) .lnd [15, 0] [(0, 15)],
  rwf 0x5100 .u8 (.fixed 4) .stp [24, 24, 8, 8] [(4, 56), (4, 56), (1, 56), (1, 56)],
  ro 0x5110 .u32 (.fixed 32),
  rw 0x5200 .u32 (.fixed 32) .imm [0x00030000] [],
  rw 0x5201 .u16 .scalar .imm [0] [(0, 1023)],
  wo 0x5202 .blob (.octets 32 1440 32) [],
  ro 0x5203 .blob (.octets 1440 1440 1),
  ro 0x5204 .u32 (.fixed 32),
  ro 0x5210 .blob (.octets 0 1440 1),
  ro 0x5211 .u32 (.fixed 4),
  rw 0x5220 .u32 .scalar .imm [0] [(0, 524287)],
  rw 0x5221 .blob (.octets 1 1440 1) .imm [0] [],
  rwf 0x5300 .u32 (.fixed 11) .stp [3, 15, 0, 0, 100, 100, 16, 0x4C0A]
    [(0, 5), (1, 15), (0, 2), (0, 1), (0, 10000), (20, 10000), (1, 64), (0, 262143)],
  rw 0x5301 .bool .scalar .imm [1] [(0, 1)],
  ro 0x5302 .u32 (.fixed 9),
  ro 0x5303 .u32 (.fixed 8),
  ro 0x5304 .u32 (.fixed 10),
  rwf 0x5310 .u32 (.fixed 11) .stp [3, 15, 0, 0, 100, 100, 16, 0x4C0A]
    [(0, 5), (1, 15), (0, 2), (0, 1), (0, 10000), (20, 10000), (1, 64), (0, 262143)],
  rw 0x5311 .bool .scalar .imm [1] [(0, 1)],
  ro 0x5312 .u32 (.fixed 9),
  ro 0x5313 .u32 (.fixed 8),
  ro 0x5314 .u32 (.fixed 10)]

/-- Default structure words of the loop slots (R116, R120). -/
def loopSlots : List Int :=
  [0x40201000, 0x40211000, 0x44601000, 0x40222000, 0x44A22000, 0x5F233000, 0x0CE44000, 0x00254000, 0x00E65000, 0x04275000, 0, 0]

/-- Area 6 (R104, R113, R120, R122, R124). -/
def area6 : List Row := [
  rwf 0x6000 .u32 (.fixed 9) .stp [0, 0, 60000, 20000, 200, 30000, 655, 64, 4000]
    [(0, 1), (0, 1), (1000, 180000), (1000, 90000), (200, 30000), (200, 30000), (16, 8192), (0, 255), (4, 65535)],
  rw 0x6001 .bool .scalar .imm [0] [(0, 1)],
  rw 0x6010 .u16 .scalar .lnd [0] [(0, 32767)],
  rw 0x6020 .u32 (.var 256 2) .lnd [0x00008000, 0xFFFF8000, 0] [],
  rw 0x6021 .i32 (.fixed 4) .lnd [0] [],
  ro 0x6030 .u32 (.fixed 6),
  ro 0x6100 .u16 (.fixed 9),
  wo 0x6110 .u8 .scalar [(1, 1)],
  rwf 0x6111 .u8 .scalar .stp [0] [(0, 1)],
  rwf 0x6200 .u32 (.fixed 12) .stp loopSlots [],
  rw 0x6201 .i32 (.fixed 48) .lnd [0] [],
  rw 0x6202 .i32 (.fixed 12) .lnd [16] [(1, 32767)],
  rw 0x6203 .u16 (.fixed 12) .lnd [2048] [(1, 65535)],
  rw 0x6210 .bool (.fixed 12) .imm [0] [(0, 1)],
  ro 0x6220 .u32 (.fixed 48),
  rwf 0x6300 .u32 (.fixed 5) .stp [0x00030120, 0x00023400, 0x00015000, 0x00026700, 0x00028900] [],
  rw 0x6400 .u64 (.fixed 12) .lnd [0] [],
  rw 0x6401 .u8 .scalar .imm [0] [(0, 47)],
  ro 0x6402 .blob (.octets 2048 2048 1),
  wo 0x6403 .u8 .scalar [(0, 47)],
  rw 0x6500 .i32 (.fixed 16) .lnd [0, 0, 0, -1] [(0, 65535), (-2147483648, 2147483647), (0, 65535), (-1, 31)] true,
  ro 0x6501 .u32 (.fixed 4)]

/-- Default sequencer steps, ten of sixteen per converter (R201); unused steps hold 0. -/
def seqSteps : List Int :=
  [0x4000, 0x4400, 0x4800, 0x6000, 0x8000, 0x4000, 0x4400, 0x4800, 0x6400, 0x8400, 0, 0, 0, 0, 0, 0,
   0x4000, 0x4400, 0x4800, 0x6000, 0x8000, 0x4000, 0x4400, 0x4800, 0x6400, 0x8400, 0, 0, 0, 0, 0, 0] ++
  [0x4000, 0x4400, 0x4800, 0x6000, 0x8000, 0x4000, 0x4400, 0x4800, 0x6000, 0x8400, 0, 0, 0, 0, 0, 0,
   0x4000, 0x4400, 0x4800, 0x6000, 0x8000, 0x4000, 0x4400, 0x4800, 0x6000, 0x8400, 0, 0, 0, 0, 0, 0]

/-- n / 2^19 rounded to nearest, ties away from zero. -/
def roundQ (n : Int) : Int :=
  if n < 0 then -((-n + 2 ^ 18) / 2 ^ 19) else (n + 2 ^ 18) / 2 ^ 19

/-- Built-in interpolator coefficient h[p][i] (R224): Catmull-Rom weights at x = p / 64 times 16,384. -/
def catmull (p : Int) : Nat → Int
  | 0 => roundQ ((-(p ^ 3) + 2 * p ^ 2 * 64 - p * 4096) * 16384)
  | 1 => roundQ ((3 * p ^ 3 - 5 * p ^ 2 * 64 + 2 * 262144) * 16384)
  | 2 => roundQ ((-3 * p ^ 3 + 4 * p ^ 2 * 64 + p * 4096) * 16384)
  | _ => roundQ ((p ^ 3 - p ^ 2 * 64) * 16384)

/-- The built-in interpolator table in the member order of `7.620`. -/
def interp : List Int := (List.range 256).map fun i => catmull (i / 4 : Nat) (i % 4)

/-- Area 7 (R214, R217, R225). -/
def area7 : List Row := [
  rwf 0x7000 .u16 (.fixed 64) .stp seqSteps [],
  rwf 0x7001 .u8 (.fixed 4) .stp [10] [(1, 16)],
  rw 0x7003 .bool (.fixed 4) .imm [1] [(0, 1)],
  rw 0x7020 .u8 (.fixed 12) .imm [0, 0, 0, 0, 2] [(0, 1), (0, 1), (0, 1), (0, 1), (0, 2)],
  ro 0x7021 .u8 (.fixed 12),
  rw 0x7100 .u32 (.fixed 64) .imm [0] [],
  wo 0x7101 .u8 .scalar [(1, 1)],
  { first := 0x7140, last := 0x717F, ty := .u32, shape := .fixed 8, acc := .ro, app := .none },
  rw 0x7200 .u32 (.fixed 64) .imm [0] [],
  wo 0x7201 .u8 .scalar [(1, 1)],
  { first := 0x7240, last := 0x727F, ty := .u32, shape := .fixed 5, acc := .ro, app := .none },
  rw 0x7300 .u8 (.fixed 3) .imm [0] [(0, 3), (0, 63), (0, 1)],
  wo 0x7301 .u8 .scalar [(0, 4)],
  ro 0x7302 .u32 (.fixed 7),
  rwf 0x7400 .u8 (.fixed 6) .imm [0] [(0, 2), (0, 1), (0, 3)] true,
  ro 0x7401 .u32 (.fixed 4),
  rw 0x7500 .f32 (.fixed 120) .lnd [0x47000000, 0x47000000, 0, 0, 0, 0, 0, 0, 0, 0, 0, 0, 0, 0, 0] [] true,
  rw 0x7501 .u16 (.fixed 34) .lnd
    ([0xFFFF, 0xFFFF, 0xFFFF, 0xFFFF, 0xFFFF, 0xFFFF, 0xFFFF, 0xFFFF, 0xFFFF, 0xFFFF, 0xFFFF, 0xFFFF, 0xFFFF, 0xFFFF, 0xFFFF, 0xFFFF,
      0xFFFF, 0xFFFF, 0xFFFF, 0xFFFF, 0xFFFF, 0xFFFF, 0xFFFF, 0xFFFF, 0xFFFF, 0xFFFF, 0xFFFF, 0xFFFF, 0xFFFF, 0xFFFF, 0xFFFF, 0xFFFF,
      0xFF00, 0xFF01]) [],
  rwf 0x7600 .u32 (.fixed 16) .stp [0x0E000800, 0x4E000800, 0] [],
  rw 0x7601 .bool (.fixed 16) .imm [1, 1, 0] [(0, 1)],
  rwf 0x7602 .u8 (.fixed 2) .stp [0, 1] [(0, 15)],
  { first := 0x7610, last := 0x7611, ty := .i16, shape := .var 128 3, acc := .rwf, app := .stp, dflt := [0x1000, 0x2000, 0x1000, 0] },
  { first := 0x7612, last := 0x761F, ty := .i16, shape := .var 128 1, acc := .rwf, app := .stp, dflt := [0x4000, 0] },
  rwf 0x7620 .i16 (.fixed 256) .stp interp [],
  ro 0x7640 .u32 (.fixed 17),
  ro 0x7641 .i32 (.fixed 16),
  ro 0x7650 .u32 (.fixed 4)]

/-- Areas 8 and 9 (R403, R404, R427). -/
def area89 : List Row := [
  rw 0x8010 .i16 (.fixed 6) .imm [2080, 80, 2176, 80, 2320, 240]
    [(1600, 2320), (16, 160), (1600, 2320), (16, 160), (2320, 2320), (240, 240)],
  ro 0x8011 .i16 (.fixed 22),
  ro 0x8012 .u32 (.fixed 5),
  wo 0x8015 .u8 .scalar [(1, 1)],
  rw 0x8020 .u8 .scalar .imm [0] [(0, 15)],
  ro 0x8021 .blob (.octets 32 32 1),
  rw 0x8100 .u8 (.fixed 7) .imm [1] [(0, 1)],
  ro 0x8101 .u8 (.fixed 13) [1],
  rw 0x8200 .u16 (.fixed 16) .imm [720, 800, 760, 840, 1140, 1260, 855, 945, 1710, 1890, 3135, 3465, 3135, 3465, 9000, 36000]
    [(0, 1200), (0, 1200), (0, 1200), (0, 1200), (0, 2400), (0, 2400), (0, 1200), (0, 1200), (0, 2400), (0, 2400), (0, 4800), (0, 4800),
     (0, 4800), (0, 4800), (0, 48000), (0, 48000)],
  ro 0x8201 .u32 (.fixed 10),
  ro 0x9000 .u32 (.fixed 4),
  rw 0x9001 .u32 .scalar .imm [0] [],
  ro 0x9002 .blob (.octets 4 1428 1),
  ro 0x9100 .u32 (.fixed 11),
  wo 0x9110 .u8 .scalar [(1, 1)],
  wo 0x9112 .u8 .scalar [(1, 1)],
  ro 0x9200 .u32 (.fixed 14),
  rw 0x9201 .u32 .scalar .imm [600] [(60, 3600)],
  rw 0x9210 .u32 .scalar .imm [0] [(0, 16777215)],
  wo 0x9211 .blob (.octets 1 1440 1) [],
  wo 0x9212 .u8 .scalar [(1, 7)],
  wo 0x9240 .blob (.octets 32 32 1) [],
  wo 0x9300 .u8 .scalar [(1, 1)],
  ro 0x9301 .u32 (.fixed 16),
  wo 0x9320 .u8 .scalar [(1, 1)],
  ro 0x9321 .blob (.octets 1 1440 1),
  wo 0x9330 .u8 .scalar [(1, 15)],
  wo 0x9331 .u8 .scalar [(1, 1)],
  wo 0x9400 .u16 .scalar [],
  ro 0x9401 .u32 (.fixed 4) [0, 0, 0, 0xFFFFFFFF],
  ro 0x9500 .u32 (.fixed 5)]

/-- Area A (R272). -/
def areaA : List Row := [
  rwf 0xA000 .u32 (.fixed 7) .stp [3, 2048, 8, 0, 0, 1000, 0] [(0, 8), (1, 4096), (0, 15), (0, 1), (0, 1), (1, 60000), (0, 4096)],
  rw 0xA001 .bool .scalar .imm [0] [(0, 1)],
  rwf 0xA010 .u16 (.fixed 16) .stp [0xFFFF] [],
  rwf 0xA011 .u16 (.fixed 16) .stp [0xFFFF] [],
  rwf 0xA012 .u32 (.fixed 4) .stp [0] [(0, 255), (0, 65535), (0, 15), (0, 1)],
  rwf 0xA013 .u16 (.fixed 6) .stp [0, 0, 0, 1, 0, 64] [(0, 1023), (0, 4095), (0, 1), (1, 1000), (0, 1599), (1, 256)],
  ro 0xA020 .u32 (.fixed 12),
  rwf 0xA100 .u32 (.fixed 32) .stp [0] [],
  rwf 0xA101 .u16 .scalar .stp [0] [],
  wo 0xA102 .u8 .scalar [(1, 1)],
  rw 0xA300 .u16 .scalar .imm [0] [(0, 4095)],
  ro 0xA301 .blob (.octets 32 32 1),
  rw 0xA302 .u32 .scalar .imm [0] [(0, 65567)],
  ro 0xA303 .blob (.octets 1 1440 1),
  wo 0xA304 .u16 .scalar [(0, 4095)],
  wo 0xA305 .u8 .scalar [(1, 1)]]

/-- Areas C and F (R356, R376, R34). -/
def areaCF : List Row := [
  ro 0xC000 .u32 (.fixed 11),
  rws 0xC010 .u32 (.fixed 13) [2, 0, 3, 1, 500, 6, 64, 0, 100, 100, 60000, 20000, 1]
    [(1, 4), (0, 3), (0, 5), (0, 1), (0, 60000), (1, 255), (0, 255), (0, 0), (20, 1000), (20, 1000), (1000, 180000), (1000, 180000), (0, 1)],
  rws 0xC020 .u32 (.fixed 4) [0] [],
  rws 0xC030 .i32 (.fixed 14) [0, 0, 0, 100, 26, 1000, 250, 3000, 50, 0, 0, 0, 0, 32767]
    [(0, 2), (0, 1000000), (0, 1000000), (10, 1000), (0, 128), (100, 20000), (0, 2000), (100, 30000), (0, 500),
     (-2147483648, 2147483647), (-2147483648, 2147483647), (-2147483648, 2147483647), (0, 0), (3277, 32767)],
  rws 0xC040 .u16 (.fixed 23) [1, 0, 30, 512, 64, 1024, 0, 0]
    [(1, 16), (0, 65535), (0, 65535), (0, 65535), (0, 65535), (0, 65535), (0, 0), (0, 65535)],
  rws 0xC050 .u32 (.var 8 0) [0] [],
  { first := 0xC100, last := 0xC11F, ty := .blob, shape := .octets 0 1176 1, acc := .rws, app := .stp },
  rws 0xC140 .u8 (.fixed 128) [0xFF] [],
  rws 0xC141 .u32 (.fixed 8) [0] [],
  rws 0xC150 .u32 (.fixed 1024) [0] [],
  ro 0xC200 .blob (.octets 1024 1024 1),
  ro 0xC210 .u32 (.fixed 4),
  rws 0xC300 .u32 (.fixed 133) ([1, 5, 100, 0]) [],
  rws 0xC301 .u16 (.fixed 64) [0] [],
  rws 0xC302 .u32 (.fixed 16) [0] [],
  ro 0xC310 .u32 (.fixed 131),
  rws 0xC400 .u32 (.fixed 16) [0, 0, 0, 0, 0, 0, 0, 0, 0xF8000FFF, 0x3E8, 0, 0, 0, 0, 0, 0] [],
  rws 0xC401 .u16 .scalar [0xFFFF] [],
  ro 0xC410 .u32 (.fixed 17),
  ro 0xC420 .u32 (.fixed 5),
  ro 0xC421 .blob (.octets 1 1440 1),
  rw 0xC422 .u32 .scalar .imm [0] [(0, 65535)],
  ro 0xF010 .u32 (.fixed 4),
  ro 0xF020 .u16 (.fixed 7)]

/-- The rows of one area. -/
def area : Nat → List Row
  | 0 => area01 | 1 => area01 | 2 => area2 | 3 => area3 | 4 => area4 | 5 => area5 | 6 => area6 | 7 => area7
  | 8 => area89 | 9 => area89 | 10 => areaA | 12 => areaCF | 15 => areaCF
  | _ => []

/-- The row of an object, if the part serves it (R42, R429). -/
def find (obj : Nat) : Option Row := (area (obj / 0x1000)).find? fun r => r.first ≤ obj && obj ≤ r.last

/-- Member count in the default configuration; 1 for a scalar. -/
def count0 : Shape → Nat
  | .scalar => 1 | .fixed n => n | .var _ d => d | .octets .. => 1

/-- What a value not listed in the dictionary map reads as: the default of the catalogue. Element 00 of an array of variable
count is its count; element 00 of a scalar is its value. -/
def dflt (obj el : Nat) : Int :=
  match find obj with
  | none => 0
  | some r =>
    match r.shape with
    | .scalar => repAt 0 r.cyc r.dflt 0
    | .fixed n => if 1 ≤ el ∧ el ≤ n then repAt 0 r.cyc r.dflt (el - 1) else 0
    | .var _ d => if el = 0 then (d : Int) else repAt 0 r.cyc r.dflt (el - 1)
    | .octets .. => 0

/-- Lowest and highest value of a member (the Range column of R433, with the member lists of the chapters). -/
def range (r : Row) (el : Nat) : Int × Int :=
  match r.rng with
  | [] => r.ty.lim
  | l => repAt (0, 0) r.cyc l (el - 1)

end Catalogue

/-- Key of an element in the dictionary map; elements are far below 65,536. -/
def dkey (obj el : Nat) : Nat := obj * 65536 + el % 65536

/-- Default at a key. -/
def dkeyDflt (k : Nat) : Int := Catalogue.dflt (k / 65536) (k % 65536)

/-- Write a value into the dictionary map: a value equal to the default is not listed. -/
def dictPut (m : AMap Int) (obj el : Nat) (v : Int) : AMap Int :=
  AMap.put (Catalogue.dflt obj (el % 65536)) m (dkey obj el) v

/-- Value in effect. -/
def dictGet (m : AMap Int) (obj el : Nat) : Int := AMap.get (Catalogue.dflt obj (el % 65536)) m (dkey obj el)

end Sys2Proof.Machine
end

