-- ==== Sys2Proof/Machine/State.lean ====
section
/-! DEFINITION. The state of the FZ1024 as plain data: one structure per unit of the spec, and `State.reset`. Values in effect of
the dictionary's numeric objects stand in one canonical map (`dict`); the counters and status members that the spec gives as RO
objects stand there too. -/

namespace Sys2Proof.Machine

/-- Device states of R406. -/
inductive DevState where
  | off | boot | selftest | config | run | degraded | service | quenched | halted
  deriving DecidableEq, Repr

/-- One event record (R63). -/
structure EvRec where
  code : Nat
  time : Nat
  frame : Nat
  param : Nat
  deriving DecidableEq, Repr

/-- What the part sends at its balls, oldest first in `State.out`. -/
inductive Out where
  /-- a UDP datagram of Torvip from port `sport` of MAC `mac` to the address and port `dst`, as in `Req.src` (R64) -/
  | udp (mac sport dst : Nat) (o : Octets)
  /-- a CAN FD frame with its 29-bit identifier and data (R73, R74) -/
  | can (port ident : Nat) (o : Octets)
  /-- octets on UART_MNT, framed and escaped (R76) -/
  | uart (o : Octets)
  /-- an ARP or NDP answer for the target address with the MAC's own address (R81) -/
  | neighbour (mac : Nat) (v6 : Bool) (target hw : Octets)
  /-- a command over the packet link to the Anchor die: kind and argument (R20, R21, R92) -/
  | anchor (kind arg : Nat)
  /-- a coded pulse train: Quadrant, emitter (0 ... 47 sink, 48, 49 pulse command), instant in half ns, pulse offsets in half ns, the
  width of every pulse in 0.25 ns and its drive G·C, a current of 600 mA·G·C/(255·1023); 0 for a pulse command (R84, R88, R89, R91) -/
  | train (q emitter at2 : Nat) (pulses : List Nat) (width gc : Nat)
  /-- fast-axis bursts offered and issued: delay after the zero crossing and width, reference periods (R102) -/
  | burst (delay width : Nat)
  /-- a diagnostic pulse of an emitter with its width and drive, as in `train` (R95) -/
  | diagPulse (emitter width gc : Nat)
  /-- a Wofen packet on WTB (0) or WTB_AUX (1), and the levels of its line in half bits of 20 ns, mark bit included (R238) -/
  | wofen (pair : Nat) (o : Octets) (line : List Bool)
  /-- a PTP message of a type on a port, under its profile as in `2.000.06` and in its domain: sequence and body; a time is followed by its
  fraction in 2^-16 ns (R232, R235) -/
  | ptp (port prof dom kind : Nat) (o : Octets)
  /-- a PPS_OUT pulse of a width in µs, and its rising edge in steps of 9.765625 ps since power-up (R232, R233) -/
  | pps (width edge : Nat)
  /-- REF10_OUT stops (0) or starts (1), from a rising edge in steps of 9.765625 ps since power-up (R232, R233) -/
  | ref10 (on edge : Nat)
  /-- a PDU of the Plovivo safety layer: port, destination, octets (R360, R369) -/
  | plovivo (port sport dst dport : Nat) (o : Octets)
  /-- a block of a link's data lanes (R298, R300, R302) -/
  | block (link : Nat) (o : Octets)
  /-- the data blocks of a packet on a link, between its SOP and EOP blocks (R298, R300) -/
  | packet (link : Nat) (o : Octets)
  /-- the clock lane of a link stops (0) or starts (1), a square wave at a quarter of its lane rate, in 2.5 MHz (R297, R303) -/
  | linkClock (link on rate : Nat)
  /-- a test pulse on TP_A (0) or TP_B (1) (R340) -/
  | testPulse (which : Nat)
  deriving DecidableEq, Repr

/-- A lease of an area (R54 ... R56). -/
structure Lease where
  area : Nat
  port : Nat
  master : Nat
  expiry : Nat
  deriving DecidableEq, Repr

/-- A subscription (R61, R62). -/
structure Sub where
  handle : Nat
  port : Nat
  master : Nat
  src : Nat
  obj : Nat
  el : Nat
  trig : Nat
  interval : Nat
  mask : Nat
  expiry : Nat
  seq : Nat
  last : Nat
  lastVal : Option Octets
  deriving DecidableEq, Repr

/-- A high-half snapshot of a split read (R49). -/
structure Snap where
  port : Nat
  master : Nat
  obj : Nat
  hi : Nat
  at_ : Nat
  deriving DecidableEq, Repr

/-- A stored response (R66, R75): message type, the period in which its request arrived, abort code and body. -/
structure Stored where
  req : Req
  kind : Nat
  at_ : Nat
  abort : Nat
  body : Octets
  deriving DecidableEq, Repr

/-- A pending LND value of one member (R15, R51) with the master that wrote it, the transaction it came in (0: none), and the number of
the write, which all members written together share (R56). -/
structure Pend where
  obj : Nat
  el : Nat
  val : Int
  port : Nat
  master : Nat
  group : Nat
  wno : Nat
  deriving DecidableEq, Repr

/-- The last accepted IMM write of an object (R53). -/
structure ImmLast where
  obj : Nat
  port : Nat
  master : Nat
  el : Nat
  val : Int
  at_ : Nat
  deriving DecidableEq, Repr

/-- A segmented CAN FD transfer being assembled (R75). -/
structure CanXfer where
  port : Nat
  master : Nat
  tag : Nat
  kind : Nat
  total : Nat
  next : Nat
  got : Octets
  last : Nat
  deriving DecidableEq, Repr

/-- A command that has been accepted and is not yet done (R71). -/
structure Running where
  req : Req
  /-- message type of the answer -/
  kind : Nat
  obj : Nat
  arg : Nat
  /-- further arguments that its answer waits for -/
  more : List Nat
  started : Nat
  answered : Bool
  deriving DecidableEq, Repr

/-- The dictionary service (02). -/
structure Torvip where
  leases : List Lease
  subs : List Sub
  nextHandle : Nat
  snaps : List Snap
  stored : List Stored
  pend : List Pend
  withdrawn : List (Nat × Nat)
  imm : List ImmLast
  conflicts : List Octets
  canRx : List CanXfer
  running : List Running
  txnNo : Nat
  groupNo : Nat
  writeNo : Nat
  uartFast : Bool
  deriving DecidableEq, Repr

/-- The hardware event queue (R388); the log itself is in MRAM. -/
structure EvQueue where
  queue : List EvRec
  dropped : Nat
  deriving DecidableEq, Repr

/-- Phase of the power-on reset and of the boot (R409 ... R411). -/
inductive BootPhase where
  | held | waitXo | loading | recovery | selfTest | done
  deriving DecidableEq, Repr

/-- Life cycle (16). -/
structure Life where
  st : DevState
  since : Nat
  phase : BootPhase
  /-- OFF after a prepare command (R416) -/
  prepared : Bool
  /-- a stop command waits for the end of the running frame (R415) -/
  stopReq : Bool
  /-- a prepare command is in progress (R416) -/
  prepReq : Bool
  /-- elevation code that the slow axis is driven to in a prepare command, on its way to 8000h (R416) -/
  prepEl : Option Nat
  /-- causes of R423 -/
  causes : Nat
  /-- the part issues the run command by itself (R414) -/
  autoRun : Bool
  nextAuto : Nat
  /-- capture memory failed its self-test (R412 item 4) -/
  capBad : Bool
  /-- arguments of the re-admissions in progress (R424) -/
  readm : List Nat
  deriving DecidableEq, Repr

/-- Die-to-die interface and Anchor die (R20 ... R23). -/
structure Die where
  /-- flits sent and not acknowledged, with their retries so far -/
  flits : List (Nat × Nat)
  retriedSec : Nat
  failed : Bool
  /-- what the Anchor die holds off by lane, as a mask: the sinks and chargers (0), the high-side (1) and the low-side (2) switches -/
  stopped : Nat
  /-- on-commands sent over the packet link and not yet arrived, by lane -/
  onCmd : Nat
  /-- emitter sinks and chargers released by the Anchor die -/
  sinksOn : Bool
  hvLow : Bool
  /-- period of the last valid flit, and seconds of the retry count that have ended (R22, R23) -/
  validAt : Nat
  secNo : Nat
  deriving DecidableEq, Repr

/-- Frames and Landings (R28 ... R34). -/
structure Frames where
  /-- frames run (RUN or DEGRADED, until a stop takes effect) -/
  active : Bool
  /-- a frame is running now -/
  running : Bool
  /-- the running frame has been aborted, and its end follows (R99) -/
  aborted : Bool
  no : Nat
  start : Nat
  startNs : Nat
  /-- period in which the last frame ended -/
  endAt : Nat
  /-- the frame start before the last one -/
  lastStart : Nat
  /-- period at which the Landing in progress ends -/
  landUntil : Nat
  /-- a frame start that waits, with its earliest instant, and whether policy 1 holds it (R30, R99) -/
  want : Option Nat
  wantHeld : Bool
  /-- how far before that period the instant lies from which the bus wants the start, in converter steps (R240) -/
  wantLess : Nat
  abandonedRow : Nat
  completeRow : Nat
  nextIdle : Nat
  nextTimer : Nat
  /-- frame source at the last Landing -/
  lastSrc : Nat
  deriving DecidableEq, Repr

/-- One bank of a pattern table (R82): entries and gate-set units by index, as 128-bit values, and the declared duration in µs. -/
structure Bank where
  entries : AMap Nat
  gates : AMap Nat
  dur : Nat
  /-- cell table of R152, as the last accepted commit recorded it: pulses of every emitter over all zoom positions of non-zero weight, and
  the weight total V (R169) -/
  pulses : AMap Nat
  weight : Nat
  deriving DecidableEq, Repr

/-- A slot that has fired (or listens) and whose gates may be open (R84, R158): the sequencer tracks five per Quadrant. -/
structure Shot where
  /-- slot number within the frame -/
  slot : Nat
  frame : Nat
  /-- instant of the first pulse in half ns: nominal instant plus jitter -/
  at2 : Nat
  /-- nominal instant in reference periods -/
  nom : Nat
  cell : Nat
  /-- 0 coarse, 1 zoom, 2 surplus (R152) -/
  pass : Nat
  visit : Nat
  gmask : Nat
  gain : Nat
  wstart : Nat
  wend : Nat
  /-- offsets of the pulses from the first, in reference periods (R88, R89) -/
  pulses : List Nat
  listening : Bool
  angleTrig : Bool
  /-- counted as angle-late (R83) -/
  late : Bool
  /-- a zoom slot whose gate opened before the peak search ended (R166) -/
  early : Bool
  /-- channels whose gate has opened, and has closed, as masks -/
  opened : Nat
  closedM : Nat
  /-- the emitters named are all healthy and enabled (R97) -/
  blindEm : Bool
  /-- stamps, azimuth and elevation, once they are ready; an invalid stamp is `none` inside (R225) -/
  stamp : Option (Option (Nat × Nat))
  closed : Bool
  deriving DecidableEq, Repr

/-- Verdict and history of one emitter (R93, R96, R97). -/
structure Emitter where
  /-- last verdict at a diagnostic Landing: 0 pass, 1 open, 2 short, 3 peak, 5 untestable -/
  verdict : Nat
  /-- that verdict is a suspect one received once -/
  suspected : Bool
  /-- 0 in service, else 7, 8, 9 as in `3.350` -/
  retired : Nat
  suspended : Bool
  passes : Nat
  /-- consecutive peaks above the high limit -/
  above : Nat
  /-- 0 last peak inside its limits, 1 below, 2 above -/
  peak : Nat
  firedLong : Bool
  fired : Bool
  /-- re-test: 4 and 3 diagnostic Landings still to pass, two and one of them, 2 passed both, 1 rejoins at this Landing; 0 none -/
  retest : Nat
  /-- slots that name it are reported blind: retired or suspended before the frame began -/
  report : Bool
  /-- start of its last pulse or train, half ns: the time of a peak (R256) -/
  at2 : Nat
  deriving DecidableEq, Repr

/-- Shot sequencer of one Quadrant (R83, R84, R90, R94). -/
structure Seq where
  entry : Nat
  rep : Nat
  slotNo : Nat
  /-- previous nominal instant, in reference periods; the frame start before the first slot -/
  prevNom : Nat
  /-- the last entry has been executed, or the pattern was cut -/
  done : Bool
  jit : Nat
  acc : Nat
  /-- close of the latest gate, fired or not, in half ns -/
  lastClose : Nat
  cut : Bool
  /-- positions of the zoom entry being executed that still fire, once settled (R170) -/
  fire : Option Nat
  deriving DecidableEq, Repr

/-- One steering controller (R107 ... R112). -/
structure Helm where
  /-- 0 active, 1 standby ready, 2 resynchronising, 3 re-initialising, 4 retired, 5 stopped, as `6.100` -/
  st : Nat
  claim : Nat
  /-- periods of its self-check failures, newest first -/
  fails : List Nat
  failedSync : Nat
  /-- period in which the resynchronisation began, and whole fast-axis periods and a Landing that it has passed since (R111) -/
  syncAt : Nat
  syncPeriods : Nat
  syncLanding : Bool
  deriving DecidableEq, Repr

/-- Position validity of one axis (R105, R106); bit c of `causes` is cause c present now. -/
structure AxisPos where
  valid : Bool
  causes : Nat
  clearAt : Nat
  clearPeriods : Nat
  /-- consecutive position samples away from the prediction (cause 2) -/
  off4 : Nat
  /-- periods of the last invalidation and of the last re-validation -/
  invalidAt : Nat
  validAt : Nat
  deriving DecidableEq, Repr

/-- A command of a Helm to the steering output stage (R107): claim, slow-axis setpoint, the burst timing (phase offset and width),
amplitude reference, and whether its check code is good; no rule gives the code's form. -/
structure HelmCmd where
  claim : Nat
  src : Nat
  setpoint : Int
  burst : Nat
  width : Nat
  amp : Int
  good : Bool
  deriving DecidableEq, Repr

/-- Beam steering and the output stage (R102 ... R113). -/
structure Steer where
  running : Bool
  fast : AxisPos
  slow : AxisPos
  helmA : Helm
  helmB : Helm
  lastClaim : Nat
  lastSrc : Nat
  held : Nat
  cmd : HelmCmd
  driving : Bool
  yield : Bool
  missed : Bool
  ferryOrdered : Bool
  ferry : Bool
  noHelm : Bool
  /-- measured fast-axis period and last rising zero crossing, in reference periods -/
  period : Nat
  lastZero : Nat
  zeros : Nat
  /-- zero crossings of either direction, each the start of a half period -/
  halves : Nat
  halfAmp : Int
  trackErr : Nat
  /-- the trajectory's phase origin: frame start or idle Landing -/
  phase0 : Nat
  fastStopped : Bool
  slowStopped : Bool
  deriving DecidableEq, Repr

/-- One instance of a loop slot (R115, R119). -/
structure LoopInst where
  running : Bool
  faulted : Bool
  /-- last computed output, 0 or 1 for SWITCH, 0 ... 65,536 for RAMP; applied at the next sample instant -/
  u : Nat
  /-- output applied now -/
  appl : Nat
  dir : Int
  applDir : Int
  err : Int
  missedNow : Nat
  missedAll : Nat
  /-- sequence number of the input sample used last -/
  seen : Nat
  deriving DecidableEq, Repr

/-- Repetitive compensator of an instance (R121, R122). -/
structure Comp where
  tab : AMap Int
  p0 : Nat
  outside : Nat
  term : Int
  deriving DecidableEq, Repr

/-- Detector bias of one Quadrant (R123, R124). -/
structure Bias where
  settled : Bool
  inBand : Option Nat
  t16 : Int
  lostAt : Option Nat
  fallback : Bool
  deriving DecidableEq, Repr

/-- The control engine (R114 ... R124). -/
structure Forge where
  inst : List (Nat × LoopInst)
  comps : List (Nat × Comp)
  /-- fault times of steering slots, slot and period -/
  faults : List (Nat × Nat)
  stoppedSlots : List Nat
  bias : Vector Bias 4
  /-- targets held off by the Quench (R383) -/
  heldOff : Bool
  deriving DecidableEq, Repr

/-- A stamped hit in the look-back buffer of a channel (R131, R132, R158). -/
structure Hit where
  /-- coarse count and corrected fine time of the leading edge -/
  at_ : Nat
  fine : Nat
  /-- channel delay and walk correction, 1/16 step -/
  d : Int
  w : Int
  tot : Nat
  rng : Bool
  gain : Nat
  clamp : Bool
  settle : Bool
  held : Bool
  /-- frame and slot of the oldest shot open at the edge, against which it was stamped -/
  frame : Nat
  slot : Nat
  /-- stamp against that shot, hit index of its tag, and the converter that stamped it: its calibration generation, and a relief one -/
  stamp : Nat
  idx : Nat
  gen : Nat
  relief : Bool
  /-- leading edge on the timescale, 2^-16 ns -/
  t : Nat
  /-- matched to a train, or declared unmatched -/
  done : Bool
  deriving DecidableEq, Repr

/-- A train that lacks only its last pulse, waiting for the end of the tolerance window (R158): shot, the leading edge of its
penultimate hit, and the period at which the match is decided. -/
structure LatePulse where
  frame : Nat
  slot : Nat
  at_ : Nat
  fine : Nat
  due : Nat
  deriving DecidableEq, Repr

/-- One return channel: front end, converter, calibration and health (R126 ... R147). -/
structure Chan where
  /-- 0 live, 2 recalibrating, 3 suspect, 4 under re-admission, 5 retired (stuck), 6 retired (calibration), 7 disabled, as `3.410` -/
  st : Nat
  /-- the relief converter that serves it, and the hand-over or hand-back that waits for a slot boundary of the channel (R138) -/
  relief : Option Nat
  relNext : Option (Option Nat)
  /-- cause of a suspect state, as event 1302h -/
  sus : Nat
  susAt : Nat
  lastCause : Nat
  fails : List Nat
  rets : List Nat
  ev2301 : Option Nat
  /-- refused until the next power cycle (R147) -/
  barred : Bool
  due : Bool
  calAt : Nat
  calStart : Nat
  gen : Nat
  /-- table F of the last calibration; none before the first one recorded -/
  table : Option (List Nat)
  offset : Option Nat
  inl : Nat
  /-- bins collected before the calibration went on behind a relief converter (R137) -/
  hist : List Nat
  /-- table, offset and INL that wait for a slot boundary of the channel (R142) -/
  calNext : Option (List Nat × Nat × Nat)
  /-- an out-of-turn calibration is under way for this cause of R143; 0 none -/
  recal : Nat
  /-- the delay is checked at the next Landing for this cause; 0 none -/
  check : Nat
  d0 : Option Int
  d1 : Option Int
  /-- delays found by a re-admission that wait for a slot boundary of the channel (R142, R147) -/
  delayNext : Option (Int × Int)
  /-- gain code and threshold offset that the oldest gate asks for, and the last switch points, newest first: instant in half ns, and the
  code and offset in effect from it on (R128) -/
  gain : Nat
  dlt : Nat
  switches : List (Nat × Nat × Nat)
  /-- the gain code and threshold of the last injection are still in effect (R140) -/
  inj : Bool
  /-- close of the latest gate, half ns -/
  lastClose2 : Nat
  /-- start of the clamp episode whose current still flows; start and end, half ns, of the last one whose current has fallen (R129) -/
  clampAt : Option Nat
  clampWas : Nat
  clampEnd2 : Nat
  clampEvt : Bool
  clamps : Nat
  clampsLast : Nat
  compAt : Option Nat
  /-- the crossing in progress is a stamped hit, the head of the buffer; its hit word has not left yet (R132) -/
  inHit : Bool
  wordDue : Bool
  /-- last trailing edge, in 1/80 step since power-up -/
  trail80 : Option Nat
  /-- hits stamped for the shot that is oldest (frame, slot, number) -/
  tagFrame : Nat
  tagSlot : Nat
  tagHits : Nat
  hits : Nat
  gates : Nat
  unres : Nat
  buf : List Hit
  late : List LatePulse
  /-- step of a re-admission (R147): 0 none, 1 calibrating, 2 waiting for the injection, 3 shadow frame, 4 shadow frame passed -/
  readmit : Nat
  /-- the step found a stuck condition, an outlier or an unresolved hit -/
  readBad : Bool
  /-- the retired state that a failed re-admission returns to -/
  was : Nat
  deriving DecidableEq, Repr


/-- One zoom window of a context (R165, R166): start in steps, excess p of its peak, bins, hit and residue sums. -/
structure Zoom where
  start : Int
  p : Int
  bins : AMap Nat
  hits : Nat
  residue : Nat
  sat : Bool
  deriving DecidableEq, Repr

/-- Engine octets of a group of 16 coarse bins: amplitude sum, ambiguous pours, high-range pours (R178). -/
structure Group where
  amp : Nat
  amb : Nat
  high : Nat
  deriving DecidableEq, Repr

/-- A context: one channel, cell and pass of a Quadrant (R151, R155, R163, R191). -/
structure Ctx where
  frame : Nat
  chan : Nat
  cell : Nat
  zoom : Bool
  /-- first bin and number of bins of a coarse context -/
  first : Nat
  n : Nat
  /-- physical blocks held -/
  blocks : List Nat
  bins : AMap Nat
  wins : List Zoom
  groups : AMap Group
  /-- coarse-visit and zoom-visit shots gated on the channel whose hits could pour here, and their pulses -/
  sCoarse : Nat
  sZoom : Nat
  pulses : Nat
  pours : Nat
  amb : Nat
  sat : Nat
  intf : Nat
  limited : Bool
  fixed : Bool
  early : Bool
  surplus : Bool
  /-- holds hits with the held or settling flag, or saw a switch of the threshold offset (R179) -/
  unusable : Bool
  /-- sums over shots with a valid stamp: azimuth, elevation, half ns from frame start, and their number (R191) -/
  sumAz : Nat
  sumEl : Nat
  sumT : Int
  stamped : Nat
  /-- instants of the first gate, and of the first gate of the zoom visit, in half ns -/
  open2 : Nat
  zopen2 : Option Nat
  /-- no more pours are taken -/
  closed : Bool
  /-- a coarse context opened first at a zoom gate: no peak search (R151) -/
  zoomFirst : Bool
  /-- background estimate in effect as the coarse visit closed (R165, R180) -/
  bg : Nat
  /-- the peak search has ended with these candidates (p of each) and this background -/
  searched : Bool
  cands : List Int
  deriving DecidableEq, Repr

/-- A cell of a frame: its visits so far, and what the peak searches and the lanes have found (R150, R153, R171, R177). -/
structure CellRec where
  frame : Nat
  cell : Nat
  visits : Nat
  /-- latest gate close, fired or not, of the coarse and of the zoom visit, half ns -/
  coarseEnd2 : Nat
  zoomEnd2 : Nat
  /-- a slot of the coarse, or of the zoom, visit has fired -/
  coarseFired : Bool
  zoomFired : Bool
  /-- an angle-late slot lies in the coarse, or in the zoom, visit (R190) -/
  coarseLate : Bool
  zoomLate : Bool
  /-- the coarse visit, or the zoom visit, has closed -/
  coarseClosed : Bool
  zoomClosed : Bool
  /-- every peak search has ended, and the need -/
  searched : Bool
  need : Nat
  /-- channels refused or discarded, blind for the frame -/
  refused : List Nat
  zoomRefused : List Nat
  finished : Bool
  shipped : Bool
  /-- channels not yet taken up by a lane, once finished -/
  todo : List Nat
  /-- point records of the channels already decomposed, by channel -/
  recs : List (Nat × List Octets)
  /-- echoes of those channels that the class mask withholds -/
  masked : Nat
  /-- the echoes of those channels as they were found: refined time, amplitude, saturated (R187) -/
  found : List (Nat × List (Int × Int × Bool))
  deriving DecidableEq, Repr

/-- A block in the free or retired part of the pool with the time of its last double-bit error (R157). -/
structure BlockErr where
  block : Nat
  at_ : Nat
  deriving DecidableEq, Repr

/-- A lane at work on a channel-cell (R177). -/
structure Lane where
  frame : Nat
  cell : Nat
  chan : Nat
  bg : Nat
  since : Nat
  deriving DecidableEq, Repr

/-- Crucible slice, reallocation account and echo engine of one Quadrant (06, 07). -/
structure Crucible where
  ctxs : List Ctx
  cells : List CellRec
  /-- finished cells, frame and cell, in the order they finished -/
  fin : List (Nat × Nat)
  lanes : List (Nat × Lane)
  /-- free physical blocks, 0 ... 49,151, as the numbers never yet used upward from `fresh` and those released -/
  fresh : Nat
  released : List Nat
  spares : Nat
  blockErrs : List BlockErr
  badBlocks : Nat
  /-- tokens of the pour meter in quarters, and the period of the last refill (R164) -/
  tok4 : Nat
  tokAt : Nat
  acct : Nat
  acct0 : Nat
  vrem : Nat
  accZ : Nat
  /-- events logged at most once a frame -/
  ev1401c : Bool
  ev1401z : Bool
  ev1402 : Bool
  ev2402 : Bool
  /-- background estimates by 16·channel + sector, with the count of samples seen and the threshold offset (R179, R181) -/
  bg : AMap Nat
  seen : List Nat
  dlt : AMap Nat
  ev1404 : Option Nat
  /-- consecutive frames below the interference limit, and whether event 1405h is armed (R189) -/
  quiet : Nat
  armed : Bool
  /-- microcode: active bank, identities of both banks, bank of the frame before (R194, R29) -/
  mcAct : Nat
  mcId0 : Nat
  mcId1 : Nat
  /-- body of the image that each bank holds; the built-in image is none of its octets -/
  mcImg0 : Octets
  mcImg1 : Octets
  mcOut : Option Nat
  /-- counters of the running frame, by object·32 + member -/
  cnt : AMap Nat
  /-- channel-state: most contexts in flight -/
  peak : Nat
  deriving DecidableEq, Repr


/-- The newest sample of an input that the control engine may use (R204, R207); `cls` is the class of the last conversion: 0 clean,
1 over-range, 2 transition, 3 invalid. -/
structure Newest where
  cal : Int
  lin : Int
  cls : Nat
  seq : Nat
  at_ : Nat
  /-- its instant on the timescale, 2^-16 ns (R199) -/
  tk : Nat
  /-- a later fault of the converter in the same pass made the sample missing (R203) -/
  void : Bool
  deriving DecidableEq, Repr

/-- A sample taken and not yet converted (R199). -/
structure Taken where
  step : Nat
  /-- start of its pass -/
  pass : Nat
  sel : Nat
  at_ : Nat
  /-- its instant on the timescale, 2^-16 ns (R199) -/
  tk : Nat
  /-- the range in effect at the instant, and whether it is the first sample after a switch (R206) -/
  fine : Bool
  trans : Bool
  deriving DecidableEq, Repr

/-- A converted sample on its way to consumers that take it one sample late (R219): calibrated, linearised, class, instant. -/
structure Late where
  cal : Int
  lin : Int
  cls : Nat
  at_ : Nat
  /-- its instant on the timescale, 2^-16 ns (R199) -/
  tk : Nat
  step : Nat
  deriving DecidableEq, Repr

/-- One converter and its sequencer (R199 ... R206). -/
structure Adc where
  step : Nat
  passAt : Nat
  taken : List Taken
  stopped : Bool
  faults : List Nat
  late : Option Late
  deriving DecidableEq, Repr

/-- Range of a two-range input (R206). -/
structure RangeSt where
  fine : Bool
  switched : Bool
  passHigh : Bool
  passOver7168 : Bool
  lowPasses : Nat
  sampled : Bool
  deriving DecidableEq, Repr

/-- Offset and gain of one input and range (R208); `sys` says that a system calibration supplied them. -/
structure Trim where
  off16 : Int
  gain : Nat
  sys : Bool
  deriving DecidableEq, Repr

/-- A system calibration capture in progress (R209). -/
structure Capt where
  full : Bool
  key : Nat
  n : Nat
  sum : Nat
  bad : Nat
  /-- the last samples, which a fault of their pass would still take back (R203): instant, raw code and what fails the capture, oldest first -/
  pend : List (Nat × Nat × Nat)
  deriving DecidableEq, Repr

/-- Window of an accumulator or min-max tracker (R211 ... R214). -/
structure Window where
  sum : Nat
  count : Nat
  exOver : Nat
  exTrans : Nat
  exInv : Nat
  offered : Nat
  lo : Nat
  hi : Nat
  flags : Nat
  /-- the last samples, which a fault of their pass would still take back (R203): instant, code and class, oldest first -/
  pend : List (Nat × Nat × Nat)
  deriving DecidableEq, Repr

/-- Sense conditions of an excitation channel (R218). -/
structure Sense where
  conds : Nat
  run : Nat
  clear : Nat
  fault : Bool
  deriving DecidableEq, Repr

/-- One supply monitor (R386). -/
structure Supply where
  outRun : Nat
  inSince : Option Nat
  flag : Bool
  sum : Nat
  n : Nat
  deriving DecidableEq, Repr

/-- One output of a filter channel: value, instant in reference periods and on the timescale in 2^-16 ns, 0 clean, 1 held, 2 invalid
(R199, R207, R221). -/
structure FiltOut where
  y : Int
  at_ : Int
  tk : Int
  flag : Nat
  /-- period in which it was produced: forecasts use it from then on (R225) -/
  prod : Nat
  deriving DecidableEq, Repr

/-- One filter channel (R220, R221); `inbox` holds new input samples (value, instant, 0 clean, 1 transition, 2 invalid, instant on the timescale), oldest
first; `outs` the newest outputs first. -/
structure FiltCh where
  integ : List Int
  comb : List Int
  phase : Nat
  hist : List Int
  inbox : List (Int × Nat × Nat × Nat)
  lastIn : Int
  flagRun : Nat
  outs : List FiltOut
  rate : Int
  deriving DecidableEq, Repr

/-- Analogue sensing (08). -/
structure Analogue where
  adcs : Vector Adc 4
  newest : List (Nat × Newest)
  ranges : List (Nat × RangeSt)
  trims : List (Nat × Trim)
  /-- trims stored by commands 3 and 4, waiting for the pass boundary (R210) -/
  trimPend : List (Nat × Trim)
  /-- system calibration values saved (R210) -/
  capt : Option Capt
  /-- captures of zero and full scale that succeeded, with the input and range they were taken of (R209) -/
  m0 : Option (Nat × Int)
  mfs : Option (Nat × Int)
  accs : List (Nat × Window)
  mms : List (Nat × Window)
  sense : Vector Sense 2
  supplies : List (Nat × Supply)
  filt : List (Nat × FiltCh)
  filtStopped : Bool
  filtFaults : List Nat
  rounds : Nat
  stamped : Nat
  badStamps : Nat
  /-- newest valid temperature of each site, 1/16 °C (R217, R380) -/
  siteT : List (Nat × Int)
  deriving DecidableEq, Repr


/-- One PTP port (R234, R235): 0 off, 1 listening, 2 master, 3 slave, 4 passive. -/
structure PtpPort where
  st : Nat
  best : Option PtpDs
  annAt : Nat
  syncAt : Nat
  good : Nat
  locked : Bool
  /-- sequence, receive stamp and arrival in converter steps of a two-step Sync that waits for its Follow_Up; stamps in 0.2 ns (R232) -/
  sync2 : Option (Nat × Nat × Nat)
  /-- receive stamp less origin of the last Sync, 0.2 ns -/
  last21 : Option Int
  /-- arrival of the last Sync in converter steps, and its origin in ns, from which the rate of the source is measured (R228) -/
  last1 : Option (Nat × Nat)
  /-- sequence and transmit stamp of the delay request that is open, 0.2 ns -/
  req3 : Option (Nat × Nat)
  /-- sequence, t2 and t4 of a peer delay exchange that waits for its Follow_Up, 0.2 ns -/
  peer : Option (Nat × Nat × Nat)
  /-- t3 and t4 of the last peer delay exchange, and the neighbour's rate against the timescale, less one, in 2^-41 (R235) -/
  lastPeer : Option (Nat × Nat)
  nrr : Int
  /-- path trace of the last Announce taken (R235) -/
  path : List Nat
  /-- mean path delay, 0.2 ns -/
  mean : Int
  seqSync : Nat
  seqAnn : Nat
  seqReq : Nat
  nextSync : Nat
  nextAnn : Nat
  nextReq : Nat
  deriving DecidableEq, Repr

/-- The Time Keeper (R227 ... R236). -/
structure Time where
  /-- 0 free, 2 locked, 3 holdover, as `2.020.01`; acquiring is told from the counts below -/
  st : Nat
  src : Nat
  /-- rate correction in 2^-32 -/
  y : Int
  /-- rate of the source against the reference, less one, as last measured, in 2^-32 (R228, R229) -/
  rate : Int
  /-- the same of the signal on REF10_IN, and whether it has set the rate correction (R230) -/
  ref10Rate : Int
  refRate : Bool
  /-- rate corrections at the last whole seconds of lock, newest first -/
  ys : List Int
  holdAt : Nat
  /-- a step decided in RUN, ns, made at step 6 of a Landing (R228) -/
  stepDue : Option Int
  /-- GNSS: last good pulse in converter steps since power-up and on the timescale, the interval before it in steps, good pulses in a row -/
  ppsAt : Option Nat
  ppsNs : Nat
  ppsInt : Nat
  ppsGood : Nat
  tod : Bool
  gnss : Bool
  /-- offset, ns, that the next sentence must show again, after one that disagreed (R230) -/
  zda : Option Int
  /-- Wofen second marks in a row, the last one in converter steps, and seconds [47:24] once received -/
  markGood : Nat
  wofen : Bool
  markAt : Option Nat
  markHi : Option Nat
  /-- seconds [23:0] of the last mark: the high bits rise by one when they wrap (R238) -/
  markLo : Option Nat
  ref10 : Bool
  ports : Vector PtpPort 2
  /-- outputs that are on (R233) -/
  ppsOn : Bool
  ref10On : Bool
  nextSec : Nat
  /-- foreign Announce messages a grandmaster counts, and management messages (R234, R235) -/
  foreign : Nat
  mgmt : Nat
  deriving DecidableEq, Repr

/-- A packet that waits for WTB (R239): its rank in the queue, and the period from which it may be sent. -/
structure WtbPkt where
  prio : Nat
  type : Nat
  fl : Nat
  pay : Nat
  due : Nat
  deriving DecidableEq, Repr

/-- The converter of the receiver of WTB or WTB_AUX, calibrated as the converters of return channels are (R237). -/
structure PairConv where
  due : Bool
  calAt : Nat
  calStart : Nat
  gen : Nat
  table : Option (List Nat)
  offset : Option Nat
  deriving DecidableEq, Repr

/-- The Wofen bus (R237 ... R245): role in effect 0 off, 1 master, 2 member, 3 standby master. -/
structure Wofen where
  role : Nat
  fseq : Nat
  cyc : Nat
  nextCyc : Nat
  nextFrame : Nat
  /-- second marks sent -/
  secs : Nat
  delay : Nat
  delayNew : Option Nat
  calAt : Nat
  recalAt : Option Nat
  /-- own calibration state: the delay is calibrated -/
  calOk : Bool
  onTimer : Bool
  /-- last packet on WTB -/
  silentAt : Nat
  /-- calibration in progress at the master: since, and the addresses that have answered the roll call -/
  calRun : Option Nat
  answers : List Nat
  /-- the last cycle opened windows, and its mark -/
  winAt : Option Nat
  reqs : List Nat
  answerDue : Bool
  /-- packets of the master that wait, and the end of the packet on WTB (R239) -/
  queue : List WtbPkt
  lineFree : Nat
  /-- relays whose mark is still to come, with its period (R239, R264) -/
  marks : List (Nat × Nat)
  /-- deltas of the pings to each address, and the pings of this cycle with their marks, in converter steps -/
  pings : List (Nat × List Int)
  open_ : List (Nat × Nat)
  convs : Vector PairConv 2
  deriving DecidableEq, Repr

/-- One assignment of the fleet reference (R248): index, identity, end of its lease, whether it is held or has been released. -/
structure FleetRow where
  index : Nat
  ident : Nat
  lease : Nat
  held : Bool
  released : Bool
  deriving DecidableEq, Repr

/-- A member of a fleet code domain (R247 ... R250). -/
structure Fleet where
  /-- 0 outside, 1 joining, 2 granted, 3 running on the stored index, 4 refused, 5 pending change, as `2.200.03` -/
  st : Nat
  asked : Bool
  lease : Option Nat
  leaseLen : Nat
  renewAt : Nat
  askAt : Nat
  pend : Option (Nat × Nat)
  /-- transaction identities of the messages sent so far -/
  txn : Nat
  deriving DecidableEq, Repr



/-- A record of the capture engine with its time in 2^-16 ns (R257); `bad`: its memory holds an uncorrectable error (R269). -/
structure CapRec where
  t : Nat
  o : Octets
  bad : Bool
  deriving DecidableEq, Repr

/-- A segment that is not free (R254, R270): 1 armed, 2 filling, 3 closed. -/
structure Seg where
  st : Nat
  seq : Nat
  /-- the gap marker at the head, and the records after it, newest first (R254, R267) -/
  mark : Option CapRec
  recs : List CapRec
  flags : Nat
  /-- time of the trigger in 2^-16 ns and the period it corresponds to; none before a trigger -/
  trig : Option (Nat × Nat)
  tstate : Nat
  frame : Nat
  tpos : Nat
  dropped : Nat
  missed : Nat
  deriving DecidableEq, Repr

/-- A trigger: its time, condition word, and the state and cause of its marker (R256, R266). -/
structure CapTrig where
  t : Nat
  cond : Nat
  state : Nat
  cause : Nat
  /-- frame number at the trigger (R270) -/
  frame : Nat
  deriving DecidableEq, Repr

/-- The capture engine (10): state as in `A.020.01`. -/
structure Capture where
  st : Nat
  segs : List (Nat × Seg)
  use : Nat
  /-- last segment used -/
  last : Option Nat
  seqNo : Nat
  tok4 : Nat
  tokAt : Nat
  state : Nat
  counter : Nat
  /-- instant of entry into the state, in 2^-16 ns of the timescale and of reference time, which the timer counts (R261) -/
  entered : Nat
  enteredRef : Nat
  /-- occurrences counted that wait: for the evaluation of a timer's limit before them, or for earlier ones on their way (R262) -/
  wait : List (Nat × Occ)
  held : Option CapTrig
  gap : Nat
  rearmAt : Nat
  missedFull : Bool
  stopAfter : Bool
  /-- selected and locked segment, and the period of its last read (R268) -/
  lock : Option Nat
  readAt : Nat
  sliceFrame : Option Nat
  /-- records of selected sources on their way to the engine, oldest first: source, unit, time in 2^-16 ns, data (R258) -/
  bus : List (Nat × Nat × Nat × Nat)
  /-- occurrences of configured conditions that are not counted yet, with their times in 2^-16 ns (R261) -/
  occs : List (Nat × Occ)
  deriving DecidableEq, Repr


/-- A read word of an output queue: 32 octets, and its tags `last` and `vb` (R277). -/
structure ReadWord where
  o : Octets
  last : Bool
  vb : Nat
  deriving DecidableEq, Repr

/-- A committed packet of an output queue (R277 ... R281). -/
structure Packet where
  pos : Nat
  words : List ReadWord
  /-- frame of an Ingot -/
  frame : Nat
  damaged : Bool
  evt : Bool
  deriving DecidableEq, Repr

/-- One output queue (R274 ... R284): size and free words, positions O, M, R, C modulo 2^32, and the packets O ... C - 1. -/
structure OutQ where
  size : Nat
  free : Nat
  o : Nat
  m : Nat
  r : Nat
  c : Nat
  pkts : List Packet
  deriving DecidableEq, Repr

/-- A DMA channel (R287 ... R292): 0 idle, 1 running, 2 waiting for a reservation, 3 halted. -/
structure DmaCh where
  st : Nat
  last : Nat
  desc : Nat
  /-- the descriptor in progress, 32 octets, as latched -/
  image : Octets
  moved : Nat
  retries : Nat
  waitSince : Nat
  reserved : Nat
  packet : Octets
  /-- segment latched at the start for the capture window (R289) -/
  seg : Nat
  deriving DecidableEq, Repr

/-- The DMA engine (R285 ... R294). -/
structure Dma where
  chans : Vector DmaCh 32
  desc : AMap Byte
  buf : AMap Byte
  tok : Nat
  tokAt : Nat
  recs : List Octets
  ev1803 : Option Nat
  /-- power-down requests held (R292): domain, numbered from 0 in the order of `8.100`, and since when -/
  holds : List (Nat × Nat)
  next : Nat
  deriving DecidableEq, Repr


/-- An in-hand Ingot of one open frame on a link (R306 ... R309). -/
structure InHand where
  frame : Nat
  ftime : Nat
  live : Nat
  /-- 128 read words are reserved for it -/
  reserved : Bool
  recs : List Octets
  /-- Quadrants with records in it -/
  quads : Nat
  firstAt : Option Nat
  iseq : Nat
  total : Nat
  /-- export Ingot in hand: dump octets, reserved when not empty -/
  dump : Octets
  ended : Bool
  deriving DecidableEq, Repr

/-- A packet sent and not acknowledged: sequence, queue (false stream, true bulk), queue position, units. -/
structure Sent where
  seq : Nat
  bulk : Bool
  pos : Nat
  units : Nat
  deriving DecidableEq, Repr

/-- One data lane (R299, R301, R314): 0 active, 1 spare, 2 training, 3 retired, 4 off. -/
structure LinkLane where
  st : Nat
  good : Bool
  locked : Bool
  tstate : Nat
  pre : Nat
  main : Nat
  post : Nat
  retrains : List Nat
  /-- a re-admission trains it (R424) -/
  readmit : Bool
  since : Nat
  errs : List (Nat × Nat)
  deriving DecidableEq, Repr

/-- One serial link with its packer (R297 ... R316). -/
structure Link where
  /-- 0 stopped, 1 training, 2 up, 3 down and restarting, 4 failed, 5 powered off -/
  st : Nat
  pll : Bool
  width : Nat
  mask : Nat
  common : Bool
  epoch : Nat
  nextSeq : Nat
  sent : List Sent
  /-- packets still to be sent again, oldest first; those not in `sent` take new sequences, after a restart (R316) -/
  replay : List Sent
  unitsSent : Nat
  grant : Nat
  progAt : Nat
  timeouts : Nat
  streamRun : Nat
  trainAt : Nat
  deskew : Nat
  /-- period of the last DESKEW round -/
  rounds : Nat
  bkLast : Nat
  bkBits : List Bool
  bkLocked : Bool
  sideAt : Nat
  inHand : List InHand
  lost : Bool
  /-- the latest frames that have lost records (R319) -/
  lostFrames : List Nat
  /-- the clock lane LKx_CK runs (R297, R303) -/
  clk : Bool
  lanes : Vector LinkLane 4
  sideRx : Octets
  deriving DecidableEq, Repr


/-- Emission governor (R352 ... R354): sums of the last 16 sub-intervals per sector, newest first, of both windows. -/
structure Gov where
  enable : Bool
  short : List (Nat × List Nat)
  long : List (Nat × List Nat)
  vetoes : Nat
  /-- sub-intervals of both windows that have ended, counted from power-up -/
  shortNo : Nat
  longNo : Nat
  deriving DecidableEq, Repr

/-- A range candidate on the safety tap (R35): channel 256q + c, frame, cell, coarse bin, time stamp and attribution result. -/
structure Cand where
  chan : Nat
  frame : Nat
  cell : Nat
  bin : Int
  stamp : Int
  res : Nat
  deriving DecidableEq, Repr

/-- A slot marker (R322). -/
structure Marker where
  quad : Nat
  cell : Nat
  frame : Nat
  gmask : Nat
  wstart : Nat
  wend : Nat
  span : Nat
  pulses : Nat
  stamp : Option (Nat × Nat)
  deriving DecidableEq, Repr

/-- An echo list sent to evaluator A (R178, R323): per echo its range word and class. -/
structure EchoList where
  chan : Nat
  frame : Nat
  cell : Nat
  echoes : List (Nat × Nat)
  deriving DecidableEq, Repr

/-- A channel-cell reported blind for a frame (R146, R156, R157, R164, R196, R219). -/
structure Blind where
  chan : Nat
  cell : Nat
  frame : Nat
  deriving DecidableEq, Repr

/-- A channel in a blind state, from a frame up to a frame where it sees again (R146). -/
structure ChanBlind where
  chan : Nat
  /-- new state that the marker into the blind state carries, as in `3.410`, and the one that the marker out of it carries -/
  st : Nat
  back : Nat
  since : Nat
  upTo : Option Nat
  deriving DecidableEq, Repr

/-- What has arrived over the safety tap and the echo lists and is not yet judged (R35, R320). -/
structure Tap where
  cands : List Cand
  markers : List Marker
  lists : List EchoList
  blinds : List Blind
  chans : List ChanBlind
  /-- blind Quadrants with the frame from which they are (R25) -/
  quads : List (Nat × Nat)
  /-- the whole field is blind from a frame up to one that sees again: no Helm (R110) -/
  field : Option (Nat × Option Nat)
  deriving DecidableEq, Repr

/-- Safety states of R328, numbered as in `C.000.01`. -/
inductive Safe where
  | init | startTest | enabled | stopping | off | lockout
  deriving DecidableEq, Repr

/-- One channel of a safe input pair: level at the ball, the debounced level, and the period since which the level differs (R340). -/
structure SafeCh where
  ball : Bool
  closed : Bool
  changed : Option Nat
  /-- the ball changed inside a test-pulse window: if it stays so, the change counts from the window's end -/
  pend : Option Nat
  /-- it has been read open after power-up for the debounce time -/
  sawOpen : Bool
  deriving DecidableEq, Repr

/-- One safe input pair (R340 ... R342). -/
structure SafePair where
  a : SafeCh
  b : SafeCh
  /-- the two channels differ since -/
  differ : Option Nat
  /-- closed since, for reset pairs -/
  since : Option Nat
  sawOpen : Bool
  tested : Bool
  long : Bool
  deriving DecidableEq, Repr

/-- A window zone (R339): candidates and shots of the second, 0 clean, 1 warning, 2 blind. -/
structure Zone where
  cands : Nat
  shots : Nat
  st : Nat
  /-- first frame that the judgement counts in, and whether the zone was blind before it -/
  since : Nat
  was : Bool
  deriving DecidableEq, Repr

/-- A nearest detection of a channel-cell in the ground region (R344): channel, cell, range in mm. -/
structure Near where
  chan : Nat
  cell : Nat
  mm : Int
  deriving DecidableEq, Repr

/-- A frame that has ended and waits for its verdict (R334, R337): number, start in ns, the instant of its end, the field set it ran
under with the one before a switch, and what the selection made at its end came to: invalid for too long, or not the same in both
evaluators. -/
structure FrameEnd where
  no : Nat
  start : Nat
  at_ : Nat
  aborted : Bool
  set : Option Nat
  before : Option Nat
  late : Bool
  differ : Bool
  deriving DecidableEq, Repr

/-- The safety island (13). -/
structure Island where
  st : Safe
  cause : Nat
  lockouts : List Nat
  barred : Bool
  setOk : Bool
  /-- field set in effect, the one before it at a switch, band of each evaluator, case and the selection received over Plovivo -/
  setNow : Option Nat
  setBefore : Option Nat
  band : Option Nat
  bandB : Option Nat
  selCase : Option Nat
  /-- since when the selection of evaluator A, of evaluator B, is invalid -/
  selBad : Option Nat
  selBadB : Option Nat
  selViol : Bool
  counter : Nat
  viol : Bool
  blindP : Bool
  warn1 : Bool
  warn2 : Bool
  warnBlind1 : Bool
  warnBlind2 : Bool
  stopReq : Bool
  /-- frames in a row with a protective field neither violated nor blind -/
  clean : Nat
  lastVerdict : Nat
  /-- frames ended whose verdict is not yet formed -/
  ended : List FrameEnd
  lastEnd : Nat
  missed : Nat
  conds : Option Nat
  resetGiven : Bool
  pairs : Vector SafePair 4
  outA : Bool
  outB : Bool
  testStep : Nat
  testDone : Bool
  synthDone : Bool
  /-- switch whose test is the next, and when the last test began -/
  swTest : Nat
  swAt : Option Nat
  /-- encoder edges of the current and the last 10 ms -/
  edgeA : Nat × Nat
  edgeB : Nat × Nat
  spdA : Nat
  spdB : Nat
  vm : Option Nat
  disagree : Option Nat
  ve : Option Nat
  veB : Option Nat
  nearA : List Near
  nearB : List Near
  nearT : Nat
  v0 : Nat
  stopAt : Nat
  zones : List (Nat × Zone)
  lanes : Nat
  mcBlind : Nat
  /-- begin of the last low pulse at TP_A, TP_B -/
  tpA : Option Nat
  tpB : Option Nat
  /-- safety domains whose own monitor has reported their supply out of range -/
  supplyBad : Nat
  deriving DecidableEq, Repr


/-- State of a connection slot (R365): 0 running, 1 fail-safe, 2 resynchronising, 3 disabled. -/
structure PlvSlot where
  cond : Nat
  cause : Nat
  e : Nat
  tau : Nat
  good : Nat
  wdAt : Nat
  /-- producer: the next PDU carries SYNC -/
  fresh : Bool
  sentAt : Nat
  lastOut : Octets
  deriving DecidableEq, Repr

/-- The Plovivo layer (14). -/
structure Plovivo where
  slots : Vector PlvSlot 4
  hostfs : Bool
  hostfsAt : Nat
  rcnt : Option Nat
  rcntLast : Nat
  cseq : Nat
  stopReq : Bool
  speedOk : Bool
  speed : Nat
  psess : Nat
  reason : Nat
  image : Octets
  len : Nat
  crc : Nat
  seg : Nat
  failOff : Nat
  deriving DecidableEq, Repr



/-- The sensor block (R380 ... R385). -/
structure Sensors where
  /-- sites not valid, with the number of valid rounds in a row since -/
  bad : List (Nat × Nat)
  tj : Int
  site : Nat
  /-- levels entered and not left: bit 0 warning, 1 throttle, 2 Quench -/
  levels : Nat
  few : Bool
  /-- period from which the next housekeeping round begins -/
  next : Nat
  deriving DecidableEq, Repr

/-- A configuration copy (R390): the fields of its header, and the octets of its body. -/
structure Copy where
  seq : Nat
  len : Nat
  crc : Nat
  gen : Nat
  body : Octets
  deriving DecidableEq, Repr

/-- A save in progress (R393): the copy it writes and its content, whether the read-back will agree, and the period of its acceptance. -/
structure SaveRun where
  target : Nat
  copy : Copy
  ok : Bool
  at_ : Nat
  deriving DecidableEq, Repr

/-- What the body of a copy sets (R390): values by object and member, BLOBs, a pattern for each Quadrant, system calibration values, and
the entries that name nothing the store holds. -/
structure Settings where
  dict : AMap Int
  blobs : List (Nat × Octets)
  pats : List Bank
  trims : List (Nat × Trim)
  bad : Nat
  deriving DecidableEq, Repr

/-- Content of MRAM, OTP and NOR, which power cycles keep (R378, R385, R388, R390, R394). -/
structure Nv where
  /-- records newest first, at most 65,536 -/
  log : List EvRec
  /-- records ever logged: the next entry number is this modulo 2^32 (R388) -/
  logNext : Nat
  copy0 : Copy
  copy1 : Copy
  quench : List Octets
  qseq : Nat
  preferred : Nat
  fuse : Nat
  key : Option Octets
  nor : AMap Byte
  /-- safety sets in the two slots of the safety partition, and the current one -/
  setA : Option Octets
  setB : Option Octets
  setCur : Nat
  fleet : Option (Nat × Nat)
  fleetRows : List FleetRow
  deriving DecidableEq, Repr

/-- The Pilot (R378, R379, R393 ... R402). -/
structure Pilot where
  slot : Nat
  /-- the copy in use: 0, 1, or 2 for defaults -/
  copy : Nat
  save : Option SaveRun
  lastSave : Nat
  defaulted : Nat
  slip : Nat
  slipErased : Bool
  slipEnd : Nat
  /-- a long Slip command in progress: its code and the period of its acceptance -/
  busy : Option (Nat × Nat)
  trial : Option Nat
  former : Nat
  /-- fuses that a confirm blows: the counter before it and the period of the command (R397) -/
  blow : Option (Nat × Nat)
  /-- restart in progress: cause, period of step 1, period of step 2 -/
  restart : Option (Nat × Nat × Nat)
  wdogs : List Nat
  restarts : Nat
  cause : Nat
  /-- window baseline: frames left, and candidates and shots by zone -/
  base : Option Nat
  baseCnt : List (Nat × Nat × Nat)
  /-- commissioning report: frames left, set CRC at the start, blind frames, frames without a set, divergences and tests at the start -/
  report : Option Nat
  repCrc : Nat
  repBlind : Nat
  repNone : Nat
  repDiv : Nat
  repSyn : Nat
  /-- converter campaign: its Quadrants and the period of the command -/
  conv : Option (Nat × Nat)
  emit : Nat
  deriving DecidableEq, Repr


/-- Faults: none. No command ends the machine: where the spec gives a fault it is an effect on the state (an event, a counter, a
DEGRADED cause), and `Fault` has no constructor. -/
inductive Fault where
  deriving DecidableEq, Repr

/-- Refusals: only a command whose arm has not been given its meaning; safe. -/
inductive Refusal where
  /-- raised by an arm of `exec` without a meaning: nothing is claimed of it; safe -/
  | notModelled (mnemonic : String)
  deriving DecidableEq, Repr

/-- One Quadrant (R24). -/
structure Quad where
  /-- status as in `3.110`: 0 live, 1 waiting for bias, 2 faulted, 3 shadow frame, 4 re-admitting, 5 retired, 6 stood down, 7 refused -/
  st : Nat
  bank : Nat
  act : Bank
  shd : Bank
  ready : Bool
  /-- queued writes to the shadow: region (2: declared duration), index, octets (R85) -/
  wq : List (Nat × Nat × Octets)
  seq : Seq
  shots : List Shot
  /-- cell and number of the visit in progress -/
  visit : Option (Nat × Nat)
  chans : List (Nat × Chan)
  cru : Crucible
  /-- last self-check mismatch, retirements by a fault, and whether requests are refused until a power cycle (R420, R425) -/
  misAt : Option Nat
  retires : List Nat
  barred : Bool
  /-- step of R425 in progress, or of the automatic return of R420 (6: shadow frame); 0 none -/
  step : Nat
  auto : Bool
  /-- the shadow frame has failed (R421) -/
  shadowBad : Bool
  /-- channel retirements in the last 10 s (R145) -/
  chanRet : List Nat
  deriving DecidableEq, Repr

/-- Instructions of the JTAG port (R448). -/
inductive JtagInstr where
  | idcode | bypass | samplePreload | extest
  deriving DecidableEq, Repr

/-- The JTAG port (R2, R448): the instruction in effect, the bits of the data register between TDI and TDO, the one next to TDO first, and
the levels that the boundary-scan cells hold for EXTEST. -/
structure Jtag where
  instr : JtagInstr
  shift : List Bool
  held : List Bool
  deriving DecidableEq, Repr

structure State where
  now : Nat
  /-- timescale in units of 2^-33 ns (R227) -/
  scale : Nat
  free : Nat
  pending : List Instr
  out : List Out
  dict : AMap Int
  tv : Torvip
  /-- octets waiting to leave in SIDE blocks of links A and B (R305) -/
  sideTx : Vector Octets 2
  /-- the Pilot restarts: the fixed responder answers (R47, R379) -/
  restarting : Bool
  ev : EvQueue
  life : Life
  die : Die
  frm : Frames
  quads : Vector Quad 4
  em : List (Nat × Emitter)
  steer : Steer
  forge : Forge
  ana : Analogue
  gov : Gov
  queues : Vector OutQ 4
  dma : Dma
  links : Vector Link 2
  /-- tokens of the record meter shared by both packers, in 1/25, and the period of the last refill (R308) -/
  recTok : Nat
  recAt : Nat
  tap : Tap
  isl : Island
  cap : Capture
  time : Time
  wof : Wofen
  fleet : Fleet
  plv : Plovivo
  sens : Sensors
  pilot : Pilot
  nv : Nv
  /-- octets of BLOB objects that hold a value -/
  blobs : List (Nat × Octets)
  jtag : Jtag
  deriving DecidableEq, Repr

/-! ### The machine right after reset (R409): the power-on reset is held and nothing has been powered before -/

namespace Reset

def jtag : Jtag := { instr := .idcode, shift := [], held := [] }

def copy : Copy := { seq := 0, len := 0, crc := 0, gen := 0, body := [] }

def bank : Bank := { entries := [], gates := [], dur := 0, pulses := [], weight := 0 }

def seq : Seq := { entry := 0, rep := 0, slotNo := 0, prevNom := 0, done := true, jit := 0, acc := 0, lastClose := 0, cut := false, fire := none }

def crucible : Crucible :=
  { ctxs := [], cells := [], fin := [], lanes := [], fresh := 0, released := [], spares := 256, blockErrs := [], badBlocks := 0
    tok4 := 16384, tokAt := 0, acct := 0, acct0 := 0, vrem := 0, accZ := 0
    ev1401c := false, ev1401z := false, ev1402 := false, ev2402 := false
    bg := [], seen := [], dlt := [], ev1404 := none, quiet := 0, armed := true
    mcAct := 0, mcId0 := 0, mcId1 := 0, mcImg0 := [], mcImg1 := [], mcOut := none, cnt := [], peak := 0 }

def quad : Quad :=
  { st := 0, bank := 0, act := bank, shd := bank, ready := true, wq := [], seq := seq, shots := [], visit := none, chans := []
    cru := crucible, misAt := none, retires := [], barred := false, step := 0, auto := false, shadowBad := false, chanRet := [] }

def axis : AxisPos := { valid := false, causes := 64, clearAt := 0, clearPeriods := 0, off4 := 0, invalidAt := 0, validAt := 0 }

def helm : Helm := { st := 5, claim := 0, fails := [], failedSync := 0, syncAt := 0, syncPeriods := 0, syncLanding := false }

def steer : Steer :=
  { running := false, fast := axis, slow := axis, helmA := helm, helmB := helm, lastClaim := 0, lastSrc := 0, held := 0
    cmd := { claim := 0, src := 0, setpoint := 0, burst := 0, width := 0, amp := 0, good := true }, driving := false, yield := false, missed := false
    ferryOrdered := false, ferry := false, noHelm := false, period := 0, lastZero := 0, zeros := 0, halves := 0, halfAmp := 0, trackErr := 0, phase0 := 0
    fastStopped := false, slowStopped := false }

def bias : Bias := { settled := false, inBand := none, t16 := 0, lostAt := none, fallback := false }

def adc : Adc := { step := 0, passAt := 0, taken := [], stopped := false, faults := [], late := none }

def sense : Sense := { conds := 0, run := 0, clear := 0, fault := false }

def analogue : Analogue :=
  { adcs := Vector.replicate 4 adc, newest := [], ranges := [], trims := [], trimPend := [], capt := none, m0 := none, mfs := none, accs := [], mms := []
    sense := Vector.replicate 2 sense, supplies := [], filt := [], filtStopped := false, filtFaults := [], rounds := 0, stamped := 0, badStamps := 0
    siteT := [] }

def ptp : PtpPort :=
  { st := 0, best := none, annAt := 0, syncAt := 0, good := 0, locked := false, sync2 := none, last21 := none, last1 := none, req3 := none, peer := none
    lastPeer := none, nrr := 0, path := [], mean := 0
    seqSync := 0, seqAnn := 0, seqReq := 0, nextSync := 0, nextAnn := 0, nextReq := 0 }

def time : Time :=
  { st := 0, src := 0, y := 0, rate := 0, ref10Rate := 0, refRate := false, ys := [], holdAt := 0, stepDue := none, ppsAt := none, ppsNs := 0, ppsInt := 0, ppsGood := 0, tod := false, gnss := false
    zda := none, markGood := 0, wofen := false, markAt := none, markHi := none, markLo := none, ref10 := false, ports := Vector.replicate 2 ptp, ppsOn := false
    ref10On := false, nextSec := 1, foreign := 0, mgmt := 0 }

def wofen : Wofen :=
  { role := 0, fseq := 0, cyc := 0, nextCyc := 0, nextFrame := 0, secs := 0, delay := 0, delayNew := none, calAt := 0, recalAt := none, calOk := false
    onTimer := false, silentAt := 0, calRun := none, answers := [], winAt := none, reqs := [], answerDue := false, queue := [], lineFree := 0, marks := []
    pings := [], open_ := [], convs := Vector.replicate 2 { due := false, calAt := 0, calStart := 0, gen := 0, table := none, offset := none } }

def capture : Capture :=
  { st := 0, segs := [], use := 0, last := none, seqNo := 0, tok4 := 4096, tokAt := 0, state := 0, counter := 0, entered := 0, enteredRef := 0, wait := [], held := none
    gap := 0, rearmAt := 0, missedFull := false, stopAfter := false, lock := none, readAt := 0, sliceFrame := none, bus := [], occs := [] }

/-- Default sizes of R274 in words of 32 octets. -/
def queue (n : Nat) : OutQ := { size := 2048 * n, free := 2048 * n, o := 0, m := 0, r := 0, c := 0, pkts := [] }

def dmaCh : DmaCh := { st := 0, last := 0, desc := 0, image := [], moved := 0, retries := 0, waitSince := 0, reserved := 0, packet := [], seg := 0 }

def dma : Dma :=
  { chans := Vector.replicate 32 dmaCh, desc := [], buf := [], tok := 1024, tokAt := 0, recs := [], ev1803 := none, holds := [], next := 0 }

def lane : LinkLane :=
  { st := 4, good := false, locked := false, tstate := 0, pre := 0, main := 0, post := 0, retrains := [], readmit := false, since := 0, errs := [] }

def link : Link :=
  { st := 0, pll := false, width := 0, mask := 0, common := false, epoch := 0, nextSeq := 0, sent := [], replay := [], unitsSent := 0, grant := 0
    progAt := 0, timeouts := 0, streamRun := 0, trainAt := 0, deskew := 0, rounds := 0, bkLast := 0, bkBits := [], bkLocked := false, sideAt := 0
    inHand := [], lost := false, lostFrames := [], clk := false, lanes := Vector.replicate 4 lane, sideRx := [] }

def safeCh : SafeCh := { ball := false, closed := false, changed := some 0, pend := none, sawOpen := false }

def pair : SafePair := { a := safeCh, b := safeCh, differ := none, since := none, sawOpen := false, tested := false, long := false }

def island : Island :=
  { st := .init, cause := 0, lockouts := [], barred := false, setOk := false, setNow := none, setBefore := none, band := none, bandB := none, selCase := none
    selBad := none, selBadB := none, selViol := false, counter := 0, viol := false, blindP := false, warn1 := false, warn2 := false, warnBlind1 := false
    warnBlind2 := false, stopReq := false, clean := 0, lastVerdict := 0, ended := [], lastEnd := 0, missed := 0, conds := none, resetGiven := false
    pairs := Vector.replicate 4 pair, outA := false, outB := false, testStep := 0, testDone := false, synthDone := false, swTest := 0, swAt := none
    edgeA := (0, 0), edgeB := (0, 0), spdA := 0, spdB := 0, vm := none, disagree := none, ve := none, veB := none, nearA := [], nearB := []
    nearT := 0, v0 := 0, stopAt := 0, zones := [], lanes := 0, mcBlind := 0, tpA := none, tpB := none, supplyBad := 0 }

/-- Slot 2, the parameter connection, is enabled without a set and starts in fail-safe; the others are disabled. -/
def plvSlot (cond : Nat) : PlvSlot := { cond := cond, cause := 0, e := 0, tau := 0, good := 0, wdAt := 0, fresh := true, sentAt := 0, lastOut := [] }

def plovivo : Plovivo :=
  { slots := #v[plvSlot 3, plvSlot 3, plvSlot 1, plvSlot 3], hostfs := false, hostfsAt := 0, rcnt := none, rcntLast := 0, cseq := 0, stopReq := false
    speedOk := false, speed := 0, psess := 0, reason := 0, image := [], len := 0, crc := 0, seg := 0, failOff := 0 }

def pilot : Pilot :=
  { slot := 0, copy := 2, save := none, lastSave := 0, defaulted := 0, slip := 0, slipErased := false, slipEnd := 0, busy := none, trial := none, former := 0, blow := none
    restart := none, wdogs := [], restarts := 0, cause := 0, base := none, baseCnt := [], report := none, repCrc := 0, repBlind := 0, repNone := 0
    repDiv := 0, repSyn := 0, conv := none, emit := 0 }

def nv : Nv :=
  { log := [], logNext := 0, copy0 := copy, copy1 := copy, quench := [], qseq := 0, preferred := 0, fuse := 0, key := none, nor := []
    setA := none, setB := none, setCur := 0, fleet := none, fleetRows := [] }

def torvip : Torvip :=
  { leases := [], subs := [], nextHandle := 1, snaps := [], stored := [], pend := [], withdrawn := [], imm := [], conflicts := [], canRx := []
    running := [], txnNo := 0, groupNo := 1, writeNo := 0, uartFast := false }

def life : Life :=
  { st := .off, since := 0, phase := .held, prepared := false, stopReq := false, prepReq := false, prepEl := none, causes := 0, autoRun := false
    nextAuto := 0, capBad := false, readm := [] }

def frames : Frames :=
  { active := false, running := false, aborted := false, no := 0, start := 0, startNs := 0, endAt := 0, lastStart := 0, landUntil := 0, want := none
    wantHeld := false, wantLess := 0, abandonedRow := 0, completeRow := 0, nextIdle := 0, nextTimer := 0, lastSrc := 0 }

end Reset

/-- The machine right after reset: the power-on reset is held (OFF), every value in effect is the default of its object, and nothing
waits. Fields that no rule gives a reset value stand at zero or empty, as the assumption log names them. -/
def State.reset : State :=
  { now := 0, scale := 0, free := 0, pending := [], out := [], dict := [], tv := Reset.torvip, sideTx := Vector.replicate 2 [], restarting := false
    ev := { queue := [], dropped := 0 }, life := Reset.life
    die := { flits := [], retriedSec := 0, failed := false, stopped := 7, onCmd := 0, sinksOn := false, hvLow := false, validAt := 0, secNo := 0 }
    frm := Reset.frames, quads := Vector.replicate 4 Reset.quad, em := [], steer := Reset.steer
    forge := { inst := [], comps := [], faults := [], stoppedSlots := [], bias := Vector.replicate 4 Reset.bias, heldOff := false }
    ana := Reset.analogue, gov := { enable := false, short := [], long := [], vetoes := 0, shortNo := 0, longNo := 0 }
    queues := #v[Reset.queue 24, Reset.queue 24, Reset.queue 8, Reset.queue 8], dma := Reset.dma, links := Vector.replicate 2 Reset.link
    recTok := 4096, recAt := 0, tap := { cands := [], markers := [], lists := [], blinds := [], chans := [], quads := [], field := none }
    isl := Reset.island, cap := Reset.capture, time := Reset.time, wof := Reset.wofen
    fleet := { st := 0, asked := false, lease := none, leaseLen := 0, renewAt := 0, askAt := 0, pend := none, txn := 0 }
    plv := Reset.plovivo, sens := { bad := [], tj := 0, site := 0, levels := 0, few := false, next := 0 }
    pilot := Reset.pilot, nv := Reset.nv, blobs := [], jtag := Reset.jtag }

end Sys2Proof.Machine
end

