-- ==== Sys2Proof/Machine/Ops.lean ====
section
/-! DEFINITION. The named operations over the state that every unit shares: values in effect, counters, events, what the part
sends. -/

namespace Sys2Proof.Machine

/-- 1 µs, 1 ms and 1 s in periods of the 400 MHz reference. -/
def usP : Nat := 400
def msP : Nat := 400000
def secP : Nat := 400000000

/-- Value in effect of an element (R12). -/
def State.obj (s : State) (o el : Nat) : Int := dictGet s.dict o el

/-- The same as a natural number. -/
def State.objN (s : State) (o el : Nat) : Nat := (s.obj o el).toNat

/-- Set a value in effect. -/
def State.setObj (s : State) (o el : Nat) (v : Int) : State := { s with dict := dictPut s.dict o el v }

/-- Add to a U32 counter. No rule says what follows FFFFFFFFh: past it the counter holds a free value. -/
def State.bump (s : State) (o el k : Nat) : State :=
  let v := s.objN o el + k
  if v < 2 ^ 32 then s.setObj o el v
  else { s.setObj o el ((Config.freeU32 s.free % 2 ^ 32 : Nat) : Int) with free := s.free + 1 }

/-- Add to a counter that saturates at `m`. -/
def State.satBump (s : State) (o el m k : Nat) : State := s.setObj o el (satAdd m (s.objN o el) k)

/-- A U32 member that no rule bounds: past FFFFFFFFh a free value. -/
def State.u32Of (s : State) (v : Nat) : Int := if v < 2 ^ 32 then v else (Config.freeU32 s.free % 2 ^ 32 : Nat)

/-- Send something at the balls. -/
def State.emit (s : State) (o : Out) : State := { s with out := s.out ++ [o] }

/-- Timescale in ns (R227). -/
def State.timeNs (s : State) : Nat := s.scale / 2 ^ 33

/-- The record of an event raised now (R63, R388). -/
def State.evRec (s : State) (code param : Nat) : EvRec :=
  { code := code, time := s.timeNs, frame := s.frm.no, param := param % 65536 }

/-- An event enters the hardware event queue, or is dropped and counted when the 256 places are taken (R388). -/
def State.evt (s : State) (code param : Nat) : State :=
  if s.ev.queue.length < 256 then
    { s with ev := { s.ev with queue := s.ev.queue ++ [s.evRec code param] } }
  else
    { s with ev := { s.ev with dropped := s.ev.dropped + 1 } }.bump 0x9000 3 1

/-- An event whose `param` no rule states: a free value. -/
def State.evtFree (s : State) (code : Nat) : State := { s.evt code (Config.freeU32 s.free) with free := s.free + 1 }

/-- Octets of an event record (R63). -/
def EvRec.octets (e : EvRec) : Octets := toBE 2 e.code ++ toBE 8 e.time ++ toBE 4 e.frame ++ toBE 2 e.param

/-- Code of a device state (R406). -/
def DevState.code : DevState → Nat
  | .off => 0 | .boot => 1 | .selftest => 2 | .config => 3 | .run => 4 | .degraded => 5 | .service => 6 | .quenched => 7 | .halted => 8

/-- A transition of the device state, with event 0D01h (R408, R428). -/
def State.goto (s : State) (st : DevState) : State :=
  let s1 := { s with life := { s.life with st := st, since := s.now } }
  (s1.bump 0x9500 5 1).evt 0x0D01 (st.code + 16 * s.life.st.code)

/-- Frames run in RUN and DEGRADED (R406). -/
def State.inRun (s : State) : Bool := s.life.st == .run || s.life.st == .degraded

/-- A state from CONFIG onward in which the dictionary is served (R44). -/
def State.fromConfig (s : State) : Bool :=
  match s.life.st with
  | .config => true | .run => true | .degraded => true | .service => true | .quenched => true | .halted => true
  | _ => false

/-- A Quadrant. -/
def State.quad (s : State) (q : Fin 4) : Quad := s.quads.get q

/-- Replace a Quadrant. -/
def State.setQuad (s : State) (q : Fin 4) (v : Quad) : State := { s with quads := s.quads.set q v }

/-- Change a Quadrant. -/
def State.modQuad (s : State) (q : Fin 4) (f : Quad → Quad) : State := s.setQuad q (f (s.quad q))

/-- The four Quadrants. -/
def quads4 : List (Fin 4) := [0, 1, 2, 3]

/-- Member of `8.101`, in the order of R39, of switchable domain d in the order of `8.100` (R403): PD_SHARED stands before PD_CAP. -/
def domEl (d : Nat) : Nat := if d < 4 then d + 1 else d + 2

/-- Fold a change over the four Quadrants in order. -/
def forQuads (s : State) (f : State → Fin 4 → State) : State := f (f (f (f s 0) 1) 2) 3

/-- A Quadrant issues slots: live, or on its shadow frame (R24, R421). -/
def Quad.fires (qd : Quad) : Bool := qd.st == 0 || qd.st == 3

/-- Set or clear a cause of R423. -/
def State.setCause (s : State) (i : Nat) (b : Bool) : State :=
  { s with life := { s.life with causes := putBit s.life.causes i b } }

/-- A cause of R423 arises: RUN goes to DEGRADED (R408, R423). -/
def State.raiseCause (s : State) (i : Nat) : State :=
  let s1 := s.setCause i true
  if s1.life.st = .run then s1.goto .degraded else s1

/-- A selected stream of the capture engine stops: the segment armed or filling takes the source-lost flag (R260). -/
def State.sourceLost (s : State) (selected : Bool) : State :=
  if selected ∧ (s.cap.st = 1 ∨ s.cap.st = 2) then
    { s with cap := { s.cap with segs := s.cap.segs.map fun (p : Nat × Seg) =>
        if p.1 == s.cap.use then (p.1, { p.2 with flags := setBit p.2.flags 6 }) else p } }
  else s

/-- A member of a channel list names the channel. -/
def State.inChannels (s : State) (obj ch : Nat) : Bool := (List.range 16).any fun i => s.obj obj (i + 1) == ch

/-- A source of `A.012` is enabled (R256). -/
def State.capWants (s : State) (src : Nat) : Bool := bit (s.objN 0xA012 1) src

/-- A selected source takes records of a channel: hits, comparator edges, or the coarse slice. -/
def State.chanWanted (s : State) (ch : Nat) : Bool :=
  (s.capWants 1 && s.inChannels 0xA010 ch) || (s.capWants 2 && s.inChannels 0xA011 ch)
    || ((s.capWants 3 || s.capWants 4) && s.objN 0xA013 1 == ch)

/-- The streams of a Quadrant stop: of its channels, trains and pulse commands (R260). -/
def State.quadLost (s : State) (q : Fin 4) : State :=
  s.sourceLost (((List.range 256).any fun c => s.chanWanted (256 * q.val + c)) || (s.capWants 5 && bit (s.objN 0xA012 3) q.val) || s.capWants 6)

/-- A fresh free number below `m`, from the opaque source. -/
def State.freeNat (s : State) (m : Nat) : Nat := Config.freeU32 s.free % m

/-- Round a quotient to nearest, ties away from zero; 0 for a zero divisor. -/
def divRound (n d : Int) : Int :=
  let a := (2 * n.natAbs + d.natAbs) / (2 * d.natAbs)
  if (n < 0) = (d < 0) then (a : Int) else -(a : Int)

/-- One period of the 400 MHz reference passes: 2.5 ns of reference time, and 2.5·(1 + y) ns on the timescale, a
count of 64 bits of ns (R227). -/
def State.tick (s : State) : State := { s with now := s.now + 1, scale := (s.scale + (5 * (2 ^ 32 + s.time.y)).toNat) % 2 ^ 97 }

end Sys2Proof.Machine
end

