-- ==== Sys2Proof/Machine/Torvip.lean ====
section
/-! DEFINITION. The Torvip service: wire forms of R64, R65, R73, R74 and R76, the gate every request passes (R46, R47, R66, R407),
and the write pipeline of R50 with leases, conflicts and pending values (R51 ... R56). -/

namespace Sys2Proof.Machine

/-- Message types of R67. -/
def kRead : Nat := 1
def kWrite : Nat := 2
def kMulti : Nat := 3
def kSubscribe : Nat := 4
def kPublish : Nat := 5
def kLease : Nat := 6
def kCommand : Nat := 7
def kEvent : Nat := 8

/-- Address octets of R68. -/
def addr3 (obj el : Nat) : Octets := toBE 2 obj ++ toBE 1 el

/-- The header of R65 with its body. -/
def torvipMsg (kind master txn abort : Nat) (body : Octets) : Octets :=
  oct [0x54, 0x56, 0x01, kind] ++ toBE 2 master ++ toBE 4 txn ++ toBE 2 0 ++ toBE 2 abort ++ toBE 2 body.length ++ body

/-- 7Eh and 7Dh are sent as 7Dh and the octet XOR 20h (R76). -/
def escape : Octets → Octets
  | [] => []
  | b :: bs => if b = 0x7E ∨ b = 0x7D then 0x7D :: (b ^^^ 0x20) :: escape bs else b :: escape bs

/-- Frame of UART_MNT and of the side channels (R76, R305). -/
def uartFrame (o : Octets) : Octets := 0x7E :: escape (o ++ toBE 2 (crc16 o)) ++ [0x7E]

/-- Next valid CAN FD data length (R74). -/
def canLen (n : Nat) : Nat :=
  if n ≤ 8 then n else if n ≤ 12 then 12 else if n ≤ 16 then 16 else if n ≤ 20 then 20 else if n ≤ 24 then 24
  else if n ≤ 32 then 32 else if n ≤ 48 then 48 else 64

/-- Identifier of R73. -/
def canIdent (prio kind resp seg node master : Nat) : Nat :=
  prio * 2 ^ 26 + kind * 2 ^ 22 + resp * 2 ^ 21 + seg * 2 ^ 20 + node * 2 ^ 10 + master

/-- Segments of 60 octets of content from an index onward (R74). -/
def canSegs (tag total : Nat) : Nat → Nat → Octets → List Octets
  | 0, _, _ => []
  | n + 1, idx, c =>
    (oct [tag, idx] ++ toBE 2 total ++ fitTo 60 (c.take 60)) :: canSegs tag total n (idx + 1) (c.drop 60)

/-- Data fields of a message's frames on CAN FD, with the `seg` bit (R74). -/
def canData (tag : Nat) (content : Octets) : Nat × List Octets :=
  if content.length ≤ 62 then
    (0, [fitTo (canLen (content.length + 2)) (oct [tag, content.length] ++ content)])
  else (1, canSegs tag content.length ((content.length + 59) / 60) 0 content)

/-- Node number of CAN port 0 or 1 (R81). -/
def State.canNode (s : State) (port : Nat) : Nat := s.objN 0x1010 (if port = 0 then 1 else 4)

/-- A message leaves on the port (R64, R73, R76, R77): `prio` 2 event, 3 response, 5 publication. On UDP it leaves from the Torvip port. -/
def State.sendMsg (s : State) (port dst prio kind resp master txn abort : Nat) (body : Octets) : State :=
  match port with
  | 0 => sendCan s 0 | 1 => sendCan s 1
  | 2 => s.emit (.udp 0 (s.objN 0x1020 1) dst (torvipMsg (kind + 128 * resp) master txn abort body))
  | 3 => s.emit (.udp 1 (s.objN 0x1020 1) dst (torvipMsg (kind + 128 * resp) master txn abort body))
  | 4 => s.emit (.uart (uartFrame (torvipMsg (kind + 128 * resp) master txn abort body)))
  | 5 => { s with sideTx := s.sideTx.set 0 (s.sideTx.get 0 ++ uartFrame (torvipMsg (kind + 128 * resp) master txn abort body)) }
  | 6 => { s with sideTx := s.sideTx.set 1 (s.sideTx.get 1 ++ uartFrame (torvipMsg (kind + 128 * resp) master txn abort body)) }
  | _ => s
where
  sendCan (s : State) (p : Nat) : State :=
    let d := canData (txn % 256) (toBE 2 abort ++ body)
    d.2.foldl (fun s o => s.emit (.can p (canIdent prio kind resp d.1 (s.canNode p) master) o)) s

/-- The stored response of a request that repeats one (R66, R75): among the last 16 of its master, at most 2 s old; on CAN FD
only the last one. -/
def State.repeatOf (s : State) (r : Req) : Option Stored :=
  let mine := (s.tv.stored.filter fun x => r.sameMaster x.req.port x.req.master).reverse
  let mine := mine.take (if r.port ≤ 1 then 1 else 16)
  mine.find? fun x => x.req.txn == r.txn && s.now ≤ x.at_ + 2 * secP

/-- Keep a response in the order of the requests; those of the last 16 requests of a master (R66). -/
def keepStored (now : Nat) (l : List Stored) (x : Stored) : List Stored :=
  let mine := l.filter fun y => x.req.sameMaster y.req.port y.req.master
  let others := l.filter fun y => !(x.req.sameMaster y.req.port y.req.master)
  let later (y : Stored) : Bool := decide (x.at_ < y.at_) && decide (y.at_ ≤ now)
  let all := mine.filter (fun y => !later y) ++ [x] ++ mine.filter later
  others ++ all.drop (all.length - 16)

/-- Send the response to a request that arrived in period `t`; 0701h responses are counted (R46, R81), and only the others are stored,
since the retry R78 asks for is to be executed. -/
def State.respondTo (s : State) (r : Req) (t kind abort : Nat) (body : Octets) : State :=
  let s1 := s.sendMsg r.port r.src 3 kind 1 r.master r.txn abort body
  if abort = 0x0701 then s1.bump 0x1030 5 1
  else { s1 with tv := { s1.tv with
          stored := keepStored s.now s1.tv.stored { req := r, kind := kind, at_ := t, abort := abort, body := body } } }

/-- The response to the request in hand. The port took the request, so its answer leaves even when the request stops the port (DESIGN
CHOICE, log entry 61). -/
def State.respond (s : State) (r : Req) (kind abort : Nat) (body : Octets) : State := s.respondTo r s.now kind abort body

/-- A port takes requests: its controller or MAC runs, its link is up, or it is UART_MNT (R81). -/
def State.portUp (s : State) (port : Nat) : Bool :=
  match port with
  | 0 => s.obj 0x1011 1 == 1 | 1 => s.obj 0x1011 2 == 1
  | 2 => s.obj 0x1022 1 == 1 | 3 => s.obj 0x1022 2 == 1
  | 4 => true
  | 5 => (s.links.get 0).st == 2 | 6 => (s.links.get 1).st == 2
  | _ => false

/-- A port takes what the part sends: a stopped CAN FD port or MAC sends nothing (R81), and a side channel carries only the answers of the
fixed responder while the Pilot restarts (R313). -/
def State.portSends (s : State) (port : Nat) : Bool :=
  match port with
  | 5 => !s.restarting | 6 => !s.restarting
  | _ => decide (3 < port) || s.portUp port

/-- The response to a request that was left running (R71): kept, and not sent on a port that has stopped since (R81). -/
def State.respondLate (s : State) (x : Running) (kind abort : Nat) (body : Octets) : State :=
  if s.portSends x.req.port then s.respondTo x.req x.started kind abort body
  else { s with tv := { s.tv with
          stored := keepStored s.now s.tv.stored { req := x.req, kind := kind, at_ := x.started, abort := abort, body := body } } }

/-- Requests of a master that are accepted and not answered (R46). -/
def State.outstanding (s : State) (r : Req) : Nat :=
  (s.tv.running.filter fun x => !x.answered && r.sameMaster x.req.port x.req.master).length

/-- What becomes of a request before it is looked at (R46, R47, R66, R406, R407, R411). -/
inductive Gate where
  | silent
  | busy
  /-- another request of the master is being assembled on CAN FD: both are given up (R75) -/
  | crossed
  | off
  | again (x : Stored)
  | running
  | recovery
  | served
  deriving DecidableEq, Repr

/-- A segmented transfer of the master in progress on CAN FD (R75). -/
def State.canXferOf (s : State) (port master : Nat) : Option CanXfer := s.tv.canRx.find? fun x => x.port == port && x.master == master

/-- Give a transfer up. -/
def State.canDrop (s : State) (port master : Nat) : State :=
  { s with tv := { s.tv with canRx := s.tv.canRx.filter fun x => !(x.port == port && x.master == master) } }

/-- What becomes of a request. One that repeats a request still running gets no answer of its own: the response is not stored yet (DESIGN
CHOICE, log entry 62). -/
def State.gate (s : State) (r : Req) : Gate :=
  if !s.portUp r.port then .silent
  else match s.life.phase with
  | .held => if s.life.prepared then .off else .silent
  | .waitXo => .silent
  | .loading => .busy
  | .selfTest => .busy
  | .recovery =>
    if r.port = 4 then (match s.repeatOf r with | some x => .again x | none => .recovery) else .busy
  | .done =>
    if s.life.prepared then .off
    else if s.restarting then .busy
    else match s.repeatOf r with
    | some x => .again x
    | none =>
      if r.port ≤ 1 ∧ (s.canXferOf r.port r.master).isSome then .crossed
      else if s.tv.running.any (fun x => r.sameMaster x.req.port x.req.master && x.req.txn == r.txn && !x.answered) then .running
      else if (if r.port ≤ 1 then 1 else 8) ≤ s.outstanding r then .busy
      else .served

/-- Pass the gate: in recovery only area 0 and `9.200` ... `9.212` are served (R398). -/
def State.through (s : State) (r : Req) (kind obj : Nat) (body : State → State) : State :=
  match s.gate r with
  | .silent => s
  | .running => s
  | .busy => s.respond r kind 0x0701 []
  | .crossed => (s.canDrop r.port r.master).respond r kind 0x0701 []
  | .off => s.respond r kind 0x0601 []
  | .again x => s.sendMsg r.port r.src 3 x.kind 1 r.master r.txn x.abort x.body
  | .recovery => if obj / 0x1000 = 0 ∨ (0x9200 ≤ obj ∧ obj ≤ 0x9212) then body s else s.respond r kind 0x0701 []
  | .served => body s

/-! ### Validation (R50) -/

/-- The order of R50. -/
def abortOrder : List Nat :=
  [0x0501, 0x0101, 0x0102, 0x0203, 0x0201, 0x0202, 0x0601, 0x0402, 0x0401, 0x0701, 0x0302, 0x0301, 0x0403, 0x0404]

/-- The code of the first failing check; 0 when none fails. -/
def firstAbort (codes : List Nat) : Nat := (abortOrder.find? fun c => codes.contains c).getD 0

/-- A code when a check fails. -/
def when (b : Bool) (code : Nat) : List Nat := if b then [code] else []

/-- Members of an array now (R12, R42); `1.200` has one for each subscription (R81). -/
def State.count (s : State) (r : Row) (obj : Nat) : Nat :=
  match r.shape with
  | .scalar => 0
  | .fixed n => n
  | .var _ _ => if obj = 0x1200 then s.tv.subs.length else s.objN obj 0
  | .octets .. => 0

/-- Object `3.012` also shows its halves as elements 01 and 02 (R49). -/
def halves (obj : Nat) : Bool := obj == 0x3012

/-- Address check (R42). -/
def State.addrCodes (s : State) (obj el : Nat) : List Nat :=
  match Catalogue.find obj with
  | none => [0x0101]
  | some r =>
    let n := if halves obj then 2 else s.count r obj
    when (n < el) 0x0102

/-- Areas open for writing in each device state (R407). -/
def areaOpen (st : DevState) (area obj : Nat) : Bool :=
  match st with
  | .config => (1 ≤ area && area ≤ 0xA) || area == 0xD || area == 0xE || obj == 0xC422
  | .run => (1 ≤ area && area ≤ 0xA) || obj == 0xC422
  | .degraded => (1 ≤ area && area ≤ 0xA) || obj == 0xC422
  | .service => (1 ≤ area && area ≤ 0xA) || area == 0xD || area == 0xE || area == 0xF || obj == 0xC422
  | .quenched => [1, 2, 5, 8, 9, 0xA].contains area || obj == 0xC422
  | .halted => area == 1 || obj == 0xC422
  | .boot => 0x9200 ≤ obj && obj ≤ 0x9212
  | .off => false
  | .selftest => false

/-- The lease of an area, if one is held (R54). -/
def State.leaseOf (s : State) (area : Nat) : Option Lease :=
  s.tv.leases.find? fun l => l.area == area && s.now < l.expiry

/-- An area leased by another master (R54). -/
def State.leasedByOther (s : State) (r : Req) (area : Nat) : Bool :=
  match s.leaseOf area with
  | none => false
  | some l => !(r.sameMaster l.port l.master)

/-- An area leased by the writer (R53). -/
def State.leasedByMe (s : State) (r : Req) (area : Nat) : Bool :=
  match s.leaseOf area with
  | none => false
  | some l => r.sameMaster l.port l.master

/-- Type code and length of a written value (R13, R69; the octet counts of R50). -/
def typeOk (r : Row) (el ty : Nat) (val : Octets) : Bool :=
  match r.shape with
  | .scalar => ty == r.ty.code && val.length == r.ty.width
  | .fixed n =>
    if el = 0 then ty == 0x80 + r.ty.code && val.length == 2 + n * r.ty.width && fieldAt val 0 2 == n
    else ty == r.ty.code && val.length == r.ty.width
  | .var m _ =>
    if el = 0 then ty == 0x80 + r.ty.code && fieldAt val 0 2 ≤ m && val.length == 2 + fieldAt val 0 2 * r.ty.width && 2 ≤ val.length
    else ty == r.ty.code && val.length == r.ty.width
  | .octets lo hi mult => ty == r.ty.code && lo ≤ val.length && val.length ≤ hi && val.length % mult == 0

/-- Members of an encoded array from the first onward. -/
def decMembers (t : Ty) : Nat → Octets → List Int
  | 0, _ => []
  | n + 1, o => t.dec (o.take t.width) :: decMembers t n (o.drop t.width)

/-- The members a write touches with their new values: (element, value) (R43, R51). Element 00 of an array of variable count
carries the count as well. -/
def written (r : Row) (el : Nat) (val : Octets) : List (Nat × Int) :=
  match r.shape with
  | .scalar => [(0, r.ty.dec val)]
  | .octets .. => []
  | .fixed n =>
    if el = 0 then ((decMembers r.ty n (val.drop 2)).zipIdx 1).map fun p => (p.2, p.1) else [(el, r.ty.dec val)]
  | .var _ _ =>
    if el = 0 then
      let n := fieldAt val 0 2
      (0, (n : Int)) :: ((decMembers r.ty n (val.drop 2)).zipIdx 1).map fun p => (p.2, p.1)
    else [(el, r.ty.dec val)]

/-- NaN and the infinities of binary32 (R13). -/
def f32Bad (v : Int) : Bool := bits v.toNat 23 8 == 255

/-- Range of every member written; the count of a variable array is part of its length (R13, R43). -/
def rangeOk (r : Row) (w : List (Nat × Int)) : Bool :=
  w.all fun p =>
    match r.shape, p.1 with
    | .var _ _, 0 => true
    | _, el =>
      let lim := Catalogue.range r el
      lim.1 ≤ p.2 && p.2 ≤ lim.2 && !(r.ty == .f32 && f32Bad p.2)

/-- The pending value of a member, if any. -/
def State.pendOf (s : State) (obj el : Nat) : Option Pend := s.tv.pend.find? fun p => p.obj == obj && p.el == el

/-- The member count of an array of variable count is its element 00 (R12). -/
def varObj (obj : Nat) : Bool :=
  match Catalogue.find obj with
  | some r => match r.shape with | .var _ _ => true | _ => false
  | none => false

/-- Two writes to one member that differ: by value, or one writes the member and the other, of the whole array, leaves it out. -/
def memberDiffers (var : Bool) (x y : Nat × Int) : Bool :=
  (x.1 == y.1 && x.2 != y.2) || (var && x.1 == 0 && decide (x.2 < (y.1 : Int))) || (var && y.1 == 0 && decide (y.2 < (x.1 : Int)))

/-- Pending members of other masters that the write would give a different value (R51). -/
def State.lndClash (s : State) (r : Req) (obj : Nat) (w : List (Nat × Int)) : List Pend :=
  s.tv.pend.filter fun p => p.obj == obj && !(r.sameMaster p.port p.master) && w.any fun x => memberDiffers (varObj obj) x (p.el, p.val)

/-- Members withdrawn since the last Landing refuse every write that touches them (R51); a whole array touches every member. -/
def State.lndLocked (s : State) (obj : Nat) (w : List (Nat × Int)) : Bool :=
  s.tv.withdrawn.any fun x => x.1 == obj && w.any fun y => y.1 == x.2 || (varObj obj && y.1 == 0)

/-- Members that a write names and a pending whole write leaves out: they are withdrawn with its count. -/
def leftOut (obj : Nat) (clash : List Pend) (w : List (Nat × Int)) : List (Nat × Nat) :=
  (w.filter fun x => varObj obj && clash.any fun p => p.el == 0 && decide (p.val < (x.1 : Int))).map fun x => (obj, x.1)

/-- A different value written by another master within 1 ms (R53). -/
def State.immClash (s : State) (r : Req) (obj : Nat) (w : List (Nat × Int)) : Bool :=
  s.tv.imm.any fun x => x.obj == obj && !(r.sameMaster x.port x.master) && s.now ≤ x.at_ + msP &&
    w.any fun y => y.1 == x.el && y.2 != x.val

/-- Write of a row's members as they stand on the wire; octets of a BLOB as one number, with a leading 01h that keeps their count. -/
def members (r : Row) (e : Entry) : List (Nat × Int) :=
  match r.shape with
  | .octets .. => [(0, (beNat (1 :: e.val) : Int))]
  | _ => written r e.el e.val

/-- The conflict check of R51 and R53, which does not apply within an area the writer leases. -/
def State.conflictCodes (s : State) (q : Req) (r : Row) (e : Entry) : List Nat :=
  if s.leasedByMe q (e.obj / 0x1000) then []
  else match r.app, r.acc with
  | .lnd, _ => when (s.lndLocked e.obj (members r e) || !(s.lndClash q e.obj (members r e)).isEmpty) 0x0403
  | .imm, .wo => []
  | .imm, _ => when (s.immClash q e.obj (members r e)) 0x0403
  | _, _ => []

/-- The checks of R50 that hold for every object alike. -/
def State.writeCodes (s : State) (q : Req) (e : Entry) : List Nat :=
  match Catalogue.find e.obj with
  | none => [0x0101]
  | some r =>
    let area := e.obj / 0x1000
    s.addrCodes e.obj e.el
    ++ when (r.acc == .rws) 0x0203 ++ when (r.acc == .ro) 0x0201
    ++ when (!areaOpen s.life.st area e.obj) 0x0601
    ++ when (s.leasedByOther q area) 0x0402
    ++ when (!typeOk r e.el e.ty e.val || (q.asCommand && r.acc != .wo)) 0x0302
    ++ when (typeOk r e.el e.ty e.val && !rangeOk r (written r e.el e.val)) 0x0301
    ++ (if typeOk r e.el e.ty e.val then s.conflictCodes q r e else [])

/-! ### Effects of a write -/

/-- Keep an accepted IMM write for R53, one for each member and master; older ones have no effect any more and are dropped. -/
def State.noteImm (s : State) (q : Req) (r : Row) (e : Entry) : State :=
  match r.app, r.acc with
  | .imm, .wo => s
  | .imm, _ =>
    let fresh := (members r e).map fun m => ({ obj := e.obj, port := q.port, master := q.master, el := m.1, val := m.2, at_ := s.now } : ImmLast)
    let keep := s.tv.imm.filter fun x => s.now ≤ x.at_ + msP && !(x.obj == e.obj && q.sameMaster x.port x.master && (members r e).any fun m => m.1 == x.el)
    { s with tv := { s.tv with imm := keep ++ fresh } }
  | _, _ => s

/-- Set the members written. -/
def State.setMembers (s : State) (obj : Nat) (w : List (Nat × Int)) : State :=
  w.foldl (fun s m => s.setObj obj m.1 m.2) s

/-- Make the members written pending, in place of a pending value of the same member (R51, R52). -/
def State.addPend (s : State) (q : Req) (obj group : Nat) (w : List (Nat × Int)) : State :=
  let keep := s.tv.pend.filter fun p => !(p.obj == obj && w.any fun x => x.1 == p.el)
  -- the same value leaves the pending value of the other master as it stands (R51)
  let olds := s.tv.pend.filter fun p => p.obj == obj && !(q.sameMaster p.port p.master) && w.any fun x => x.1 == p.el && x.2 == p.val
  let fresh := (w.filter fun x => !(olds.any fun p => p.el == x.1)).map fun x =>
    ({ obj := obj, el := x.1, val := x.2, port := q.port, master := q.master, group := group, wno := s.tv.writeNo } : Pend)
  { s with tv := { s.tv with pend := keep ++ olds ++ fresh, writeNo := s.tv.writeNo + 1 } }

/-- What every accepted write does, by apply class (R15). -/
def State.storeWrite (s : State) (q : Req) (e : Entry) (group : Nat) : State :=
  match Catalogue.find e.obj with
  | none => s
  | some r =>
    match r.shape, r.acc, r.app with
    | .octets .., _, _ => s.noteImm q r e
    | _, .wo, _ => s
    | _, _, .lnd => s.addPend q e.obj group (written r e.el e.val)
    | _, _, _ => (s.setMembers e.obj (written r e.el e.val)).noteImm q r e

/-- A record of `1.031` (R81); the element is the one the write names, 00 for a whole array (DESIGN CHOICE, log entry 63). -/
def State.conflictRec (s : State) (obj el : Nat) (p : Pend) (q : Req) : Octets :=
  addr3 obj el ++ [0] ++ toBE 2 p.master ++ toBE 1 p.port ++ [0] ++ toBE 2 q.master ++ toBE 1 q.port ++ [0]
    ++ toBE 8 s.timeNs ++ toBE 4 s.frm.no ++ zeros 8

/-- Send event records to a master in one event message (R70). -/
def State.sendEvents (s : State) (port master src : Nat) (recs : List EvRec) : State :=
  if !s.portSends port then s
  else
    let n := s.tv.txnNo
    let s1 := s.sendMsg port src 2 kEvent 0 master n 0 (oct [recs.length, 0] ++ (recs.map EvRec.octets).flatten)
    { s1 with tv := { s1.tv with txnNo := (n + 1) % 2 ^ 32 } }

/-- Where a master's messages go: the source of its last request, kept with its subscription or stored response. -/
def State.srcOf (s : State) (port master : Nat) : Nat :=
  match (s.tv.stored.reverse.find? fun x => x.req.port == port && x.req.master == master) with
  | some x => x.req.src
  | none => 0

/-- Event messages of a conflict to the masters whose values are withdrawn: one record of 6101h for each of a master's objects. -/
def State.tellConflict (s : State) (gone : List Pend) : List (Nat × Nat) → State
  | [] => s
  | (port, master) :: ms =>
    let objs := ((gone.filter fun p => p.port == port && p.master == master).map (·.obj)).eraseDups
    State.tellConflict (s.sendEvents port master (s.srcOf port master) (objs.map fun o => s.evRec 0x6101 o)) gone ms

/-- A conflict of R51: the pending members clashed with, and every entry of their transactions, are withdrawn and locked until the next
Landing ends; the conflict is logged, and recorded in `1.031` and reported for each master clashed with. -/
def State.lndConflict (s : State) (q : Req) (e : Entry) : State :=
  match Catalogue.find e.obj with
  | none => s
  | some r =>
    let clash := s.lndClash q e.obj (members r e)
    if clash.isEmpty then s
    else
      let groups := (clash.map (·.group)).filter (· ≠ 0)
      let gone := s.tv.pend.filter fun p => clash.contains p || groups.contains p.group
      let keep := s.tv.pend.filter fun p => !(clash.contains p || groups.contains p.group)
      let masters := (clash.map fun p => (p.port, p.master)).eraseDups
      let recs := masters.filterMap fun m =>
        (clash.find? fun p => (p.port, p.master) == m).map fun p => s.conflictRec e.obj e.el p q
      let s1 := { s with tv := { s.tv with
        pend := keep
        withdrawn := s.tv.withdrawn ++ (gone.map fun (p : Pend) => (p.obj, p.el)) ++ leftOut e.obj clash (members r e)
        conflicts := (recs ++ s.tv.conflicts).take 16 } }
      (s1.evt 0x6101 e.obj).tellConflict gone masters

/-- The answer to an accepted write or command: a write is answered at once; a command message when the command is done, so a
long one is left running (R71). -/
def State.accept (s : State) (q : Req) (e : Entry) (long : Bool) : State :=
  if q.asCommand then
    if long then { s with tv := { s.tv with
        running := s.tv.running ++ [{ req := q, kind := kCommand, obj := e.obj, arg := beNat e.val, more := [], started := s.now, answered := false }] } }
    else s.respond q kCommand 0 [0]
  else s.respond q kWrite 0 []

/-- Refuse a write or a command with a code (R50), with an empty body (for a command DESIGN CHOICE, log entry 89); a clash on pending values has the effects of R51, an IMM clash is counted (R53). -/
def State.refuse (s : State) (q : Req) (e : Entry) (ab : Nat) : State :=
  let kind := if q.asCommand then kCommand else kWrite
  let s1 :=
    if ab = 0x0403 then
      match Catalogue.find e.obj with
      | some r => if r.app == .lnd then s.lndConflict q e else s.bump 0x1030 4 1
      | none => s
    else s
  s1.respond q kind ab []

/-- The whole of one write (R50): gate, checks in order, and either the refusal or the effect and the answer. `codes` are the
object's own checks, `eff` what the write does beside storing the value, `long` whether it runs on after its acceptance. -/
def State.hostWrite (s : State) (q : Req) (e : Entry) (codes : State → List Nat) (eff : State → State) (long : Bool) : State :=
  s.through q (if q.asCommand then kCommand else kWrite) e.obj fun s =>
    let ab := firstAbort (s.writeCodes q e ++ codes s)
    if ab = 0 then (eff (s.storeWrite q e 0)).accept q e long
    else s.refuse q e ab

/-- The command of a running request is done: the answer, if it is still owed (R71). -/
def State.commandDone (s : State) (obj : Nat) : State :=
  match s.tv.running.find? fun x => x.obj == obj with
  | none => s
  | some x =>
    let s1 := { s with tv := { s.tv with running := s.tv.running.filter fun y => !(y == x) } }
    if x.answered then s1 else s1.respondLate x kCommand 0 [0]

/-- The answer to a request of a kind is owed until each of the arguments of an object is done (R292, R387); with none of them it leaves
at once. -/
def State.owe (s : State) (q : Req) (kind obj : Nat) : List Nat → State
  | [] => s.respond q kind 0 (if kind = kCommand then [0] else [])
  | a :: rest => { s with tv := { s.tv with
      running := s.tv.running ++ [{ req := q, kind := kind, obj := obj, arg := a, more := rest, started := s.now, answered := false }] } }

/-- A write whose answer waits until the part has done what it asks (R292, R387). -/
def State.hostWriteHeld (s : State) (q : Req) (e : Entry) (arg : Nat) (codes : State → List Nat) (eff : State → State) : State :=
  let kind := if q.asCommand then kCommand else kWrite
  s.through q kind e.obj fun s =>
    let ab := firstAbort (s.writeCodes q e ++ codes s)
    if ab = 0 then eff ((s.storeWrite q e 0).owe q kind e.obj [arg]) else s.refuse q e ab

/-- What a waiting request asks is done: its answer, once all it asks is. -/
def State.requestDone (s : State) (obj arg : Nat) : State :=
  match s.tv.running.find? fun x => x.obj == obj && (x.arg == arg || x.more.contains arg) with
  | none => s
  | some x =>
    match (x.arg :: x.more).filter (· != arg) with
    | a :: rest =>
      { s with tv := { s.tv with running := s.tv.running.map fun y => if y == x then { x with arg := a, more := rest } else y } }
    | [] =>
      let s1 := { s with tv := { s.tv with running := s.tv.running.filter fun y => !(y == x) } }
      if x.answered then s1 else s1.respondLate x x.kind 0 (if x.kind = kCommand then [0] else [])

/-- The answer to a read (R70). -/
def State.answerRead (s : State) (q : Req) (obj el ty : Nat) (val : Octets) : State :=
  s.respond q kRead 0 (addr3 obj el ++ toBE 1 ty ++ val)

/-! ### Outcome of a re-admission (R424 ... R428) -/

/-- A re-admission ends: status for the last request, and the answer (R71). State 2 passed, 3 failed, 5 abandoned. -/
def State.readmitEnd (s : State) (v state step : Nat) : State :=
  if !s.life.readm.contains v then s
  else
    let s1 := { s with life := { s.life with readm := s.life.readm.filter (· ≠ v) } }
    let s2 := if s.objN 0x9401 1 = v then (s1.setObj 0x9401 2 state).setObj 0x9401 3 step else s1
    let s3 := if v / 4096 = 4 then s2.setObj 0x9401 4 0xFFFFFFFF else s2
    s3.requestDone 0x9400 v

/-- It has passed: event 0D03h for a Quadrant or a lane. -/
def State.readmitPassed (s : State) (v : Nat) : State :=
  if !s.life.readm.contains v then s
  else (if v / 4096 = 3 ∨ v / 4096 = 4 then s.evt 0x0D03 v else s).readmitEnd v 2 0

/-- It has failed at a step: event 1D02h. -/
def State.readmitFailed (s : State) (v step : Nat) : State :=
  if !s.life.readm.contains v then s else (s.evt 0x1D02 (v / 4096 * 4096 + step)).readmitEnd v 3 step

/-- Entry for a scalar or a member of a type. -/
def ent (obj el : Nat) (t : Ty) (v : Int) : Entry := { obj := obj, el := el, ty := t.code, val := t.enc v }

/-- Entry for octets. -/
def entBlob (obj : Nat) (o : Octets) : Entry := { obj := obj, el := 0, ty := Ty.blob.code, val := o }

/-- Register a command that carries its own argument out of the value range of its type as it is: the value octets keep the
argument's low bits and the length check sees a too long value. -/
def entArg (obj : Nat) (t : Ty) (v : Nat) : Entry :=
  if v < 256 ^ t.width then ent obj 0 t v else { obj := obj, el := 0, ty := t.code, val := toBE (t.width + 1) v }

end Sys2Proof.Machine
end

