-- ==== Sys2Proof/Machine/Capture.lean ====
section
/-! DEFINITION. The segmented capture engine: segments, records, the trigger sequencer and reading (R253 ... R273). Times are in
2^-16 ns on the timescale. -/

namespace Sys2Proof.Machine

/-- The timescale in 2^-16 ns (R227). -/
def State.capNow (s : State) : Nat := s.scale / 2 ^ 17

/-- The period to which an instant of the timescale in the near past corresponds. -/
def State.capPeriod (s : State) (t : Nat) : Nat := s.now - (s.capNow - t) * 2 / (5 * 65536)

/-- An instant in half ns, on the timescale in 2^-16 ns. -/
def State.capAt2 (s : State) (t2 : Nat) : Nat := ((s.capNow : Int) + ((t2 : Int) - (s.now * 5 : Nat)) * 32768).toNat

/-- The instant of reference time, in 2^-16 ns, of an instant of the timescale in the near past (R227). -/
def State.refAt (s : State) (t : Nat) : Nat := ((s.now * 163840 : Nat) - ((s.capNow : Int) - t) * (2 ^ 32 : Nat) / (2 ^ 32 + s.time.y)).toNat

/-- A step of the timescale: what the sequencer holds on it moves along, so that neither its order nor its timer changes (R228, R261). -/
def State.setScale (s : State) (sc : Nat) : State :=
  let d : Int := ((sc / 2 ^ 17 : Nat) : Int) - s.capNow
  let m (t : Nat) : Nat := ((t : Int) + d).toNat
  { s with
    scale := sc
    cap := { s.cap with
      entered := m s.cap.entered, wait := s.cap.wait.map fun x => (m x.1, x.2), occs := s.cap.occs.map fun x => (m x.1, x.2) } }

/-- Frame number at an instant in the near past (R270). -/
def State.frameAt (s : State) (t : Nat) : Nat := if s.capPeriod t < s.frm.endAt then (s.frm.no + 2 ^ 32 - 1) % 2 ^ 32 else s.frm.no

/-- Capture runs. -/
def State.capRuns (s : State) : Bool := !(s.cap.st == 0 || s.cap.st == 5)

def State.modCap (s : State) (f : Capture → Capture) : State := { s with cap := f s.cap }

/-- Records of a segment, of its pre-trigger ring, and number of segments (R253, R254). -/
def State.segRecs (s : State) : Nat := 16 * 2 ^ s.objN 0xA000 1
def State.segPre (s : State) : Nat := 2 ^ s.objN 0xA000 1 * s.objN 0xA000 3
def State.segCount (s : State) : Nat := s.objN 0xA000 2

def seg0 : Seg := { st := 0, seq := 0, mark := none, recs := [], flags := 0, trig := none, tstate := 0, frame := 0, tpos := 0, dropped := 0, missed := 0 }

/-- Records of a segment in the order of its image (R269), and their number. -/
def Seg.all (g : Seg) : List CapRec := g.mark.toList ++ g.recs.reverse
def Seg.size (g : Seg) : Nat := g.mark.toList.length + g.recs.length

def State.seg (s : State) (i : Nat) : Seg := assocD seg0 s.cap.segs i
def State.setSeg (s : State) (i : Nat) (g : Seg) : State := s.modCap fun c => { c with segs := assocPut c.segs i g }

/-- Count in `A.020`. -/
def State.capBump (s : State) (el : Nat) : State := s.bump 0xA020 el 1

/-- A record (R257); `bad` as in `CapRec`. -/
def capRec (src unit t data : Nat) (bad : Bool := false) : CapRec :=
  { t := t, bad := bad, o := toBE 1 src ++ toBE 1 unit ++ toBE 5 (t / 65536) ++ toBE 1 (t / 256) ++ toBE 8 data }

/-! ### Arming and closing -/

/-- The next segment to arm (R255). -/
def State.segNext (s : State) : Option Nat :=
  let n := s.segCount
  let from_ := match s.cap.last with | none => 0 | some l => l + 1
  let free := (List.range n).find? fun k => (s.seg ((from_ + k) % n)).st == 0
  match free with
  | some k => some ((from_ + k) % n)
  | none =>
    if s.objN 0xA000 4 = 0 then none
    else
      let olds := s.cap.segs.filter fun p => decide (p.1 < n) && p.2.st == 3 && !(s.cap.lock == some p.1)
      match olds.foldl (fun (b : Option (Nat × Seg)) p => match b with | none => some p | some x => if p.2.seq < x.2.seq then some p else some x) none with
      | none => none
      | some p => some p.1

/-- Arm a segment, or enter the full state (R255). -/
def State.capArm (s : State) : State :=
  match s.segNext with
  | none => s.modCap fun c => { c with st := 4 }
  | some i =>
    (s.setSeg i { seg0 with st := 1, seq := s.cap.seqNo }).modCap fun c =>
      { c with st := 1, use := i, last := some i, seqNo := (c.seqNo + 1) % 2 ^ 32 }

/-- Capture stops (R265, R267, R271). -/
def State.capHalt (s : State) (why : Nat) : State :=
  ((s.modCap fun c => { c with st := 0, held := none, stopAfter := false, wait := [] }).setObj 0xA001 0 0).evt 0x0601 why

/-- The segment in use closes (R267): capture stops, or re-arms after a gap whose length no rule fixes below 0.8 µs. -/
def State.segClose (s : State) (fl : Nat) : State :=
  let g := s.seg s.cap.use
  let s1 := (s.setSeg s.cap.use { g with st := 3, flags := fl }).capBump 3
  let lim := s1.objN 0xA000 7
  if s1.cap.stopAfter then s1.capHalt 2
  else if lim ≠ 0 ∧ lim ≤ s1.objN 0xA020 3 then s1.capHalt 1
  else { (s1.modCap fun c => { c with st := 3, gap := 0, rearmAt := s1.now + s1.freeNat 321 }) with free := s1.free + 1 }

/-- Write a record into the segment in use (R254, R257): the ring of an armed one, or the filling one, which closes when full. -/
def State.segPut (s : State) (r : CapRec) : State :=
  let g := s.seg s.cap.use
  if s.cap.st = 1 then s.setSeg s.cap.use { g with recs := (r :: g.recs).take s.segPre }
  else if s.cap.st = 2 then
    let s1 := s.setSeg s.cap.use { g with recs := r :: g.recs }
    if s.segRecs ≤ g.size + 1 then s1.segClose g.flags else s1
  else s

/-- A trigger is taken in the armed segment; records older than the limit go, the gap marker with them (R254, R257, R266). -/
def State.trigTake (s : State) (t : CapTrig) : State :=
  let g := s.seg s.cap.use
  let limit := s.objN 0xA000 6 * 1000000 * 65536
  let young (r : CapRec) : Bool := t.t ≤ r.t + limit
  let kept := g.recs.filter young
  let mark := g.mark.filter young
  let fl := (if g.recs.length < s.segPre then 2 else 0) + (if bit t.cause 2 then 1 else 0)
  let g1 := { g with
    st := 2
    mark := mark
    recs := kept
    flags := g.flags + fl
    trig := some (t.t, s.capPeriod t.t)
    tstate := t.state * 16 + t.cause
    frame := t.frame
    tpos := mark.toList.length + kept.length }
  let s1 := ((s.setSeg s.cap.use g1).modCap fun c => { c with st := 2 }).capBump 5
  s1.segPut (capRec 9 t.state t.t (t.cond / 2 ^ 24 * 2 ^ 56 + t.cond % 2 ^ 24 * 2 ^ 32 + t.cause))

/-- A trigger is missed (R266). -/
def State.trigMiss (s : State) : State :=
  let s1 := s.capBump 6
  if s.cap.st = 2 then
    let g := s1.seg s.cap.use
    s1.setSeg s.cap.use { g with missed := min 65535 (g.missed + 1) }
  else if s.cap.st = 4 ∧ !s.cap.missedFull then
    (s1.modCap fun c => { c with missedFull := true }).evt 0x1601 (min 65535 (s.objN 0xA020 3))
  else s1

/-- Step 3 and 4 of R267, in the period in which the gap has passed: the next segment is armed with its gap marker, which stands at its head
outside the pre-trigger ring (log entry 102), and a held trigger is taken. -/
def State.capRearm (s : State) : State :=
  if s.cap.st = 3 ∧ s.cap.rearmAt ≤ s.now then
    let gap := s.cap.gap
    let s1 := s.capArm
    if s1.cap.st = 1 then
      let s2 := s1.setSeg s1.cap.use { s1.seg s1.cap.use with mark := some (capRec 10 0 (s.capAt2 (5 * s.cap.rearmAt)) (min (2 ^ 32 - 1) gap)) }
      match s2.cap.held with
      | none => s2
      | some t => (s2.modCap fun c => { c with held := none }).trigTake { t with cause := t.cause + 4 }
    else match s1.cap.held with
      | none => s1
      | some _ => (s1.modCap fun c => { c with held := none }).trigMiss
  else s

/-- The outcome of a trigger (R266). -/
def State.trigger (s : State) (t : CapTrig) : State :=
  match s.cap.st with
  | 1 => s.trigTake t
  | 2 => beyond s
  | 3 => beyond s
  | 4 => s.trigMiss
  | _ => s
where
  beyond (s : State) : State :=
    if s.objN 0xA000 5 = 1 ∧ s.cap.held.isNone then (s.modCap fun c => { c with held := some t }).capBump 7 else s.trigMiss

/-! ### The trigger sequencer (R261 ... R265) -/

/-- An occurrence matches a condition word (R263). -/
def occMatches (o : Occ) (w : Nat) (hitCh edgeCh : Nat → Int) : Bool :=
  let code := w / 2 ^ 24
  let member := bits w 20 4
  match o with
  | .frameStart => code == 1
  | .landingEnd => code == 2
  | .hit ch tot => code == 3 && bits w 0 12 ≤ tot &&
      (if member = 15 then (List.range 16).any fun i => hitCh i == ch else hitCh member == ch)
  | .edge ch k => code == 4 && bits w 0 4 == k &&
      (if member = 15 then (List.range 16).any fun i => edgeCh i == ch else edgeCh member == ch)
  | .event c => code == 5 && c / 16 ^ bits w 16 2 == bits w 0 16 / 16 ^ bits w 16 2
  | .train q k => code == 6 && bit (bits w 0 4) q && bits w 8 3 == k
  | .relay c => code == 7 && bits w 0 16 == c
  | .crossing k a b => member == k &&
      ((code == 8 && decide (a < (bits w 0 20 : Int)) && decide ((bits w 0 20 : Int) ≤ b))
        || (code == 9 && decide ((bits w 0 20 : Int) ≤ a) && decide (b < (bits w 0 20 : Int))))
  | .host => code == 10
  | .second => code == 11

def State.seqWord (s : State) (i : Nat) : Nat := s.objN 0xA100 (4 * s.cap.state + i)

/-- The instant on the timescale at which the timer of the state, which counts 10 ns of the reference, reaches its limit; none without a
limit (R261). -/
def State.timerDue (s : State) : Option Nat :=
  let lim := s.seqWord 3
  let due : Nat := s.cap.enteredRef + lim * 10 * 65536
  if lim = 0 then none else some ((s.capNow : Int) + ((due : Int) - (s.now * 163840 : Nat)) * (2 ^ 32 + s.time.y) / (2 ^ 32 : Nat)).toNat

/-- An occurrence on its way to the sequencer that is older than this instant may still be counted: within 200 ns of its time (R261, R262). -/
def State.occAhead (s : State) (t : Nat) : Bool := s.cap.occs.any fun x => decide (x.1 < t) && decide (s.capNow < x.1 + 200 * 65536)

/-- A Wofen request of the sequencer (R264): ignored while the bus is off. -/
def State.wofenRequest (s : State) : State :=
  let code := s.objN 0xA101 0
  match s.wof.role with
  | 0 => s.capBump 10
  | 1 => { s with wof := { s.wof with queue := s.wof.queue ++ [{ prio := 5, type := 4, fl := 0, pay := s.objN 0x2100 2 * 2 ^ 18 + code, due := s.now }] } }
  | _ => { s with wof := { s.wof with reqs := s.wof.reqs ++ [code] } }

/-- Transition 1 or 2 at an instant, with its actions (R261, R264, R265). -/
def State.seqGo (s : State) (which t : Nat) : State :=
  let w := s.seqWord 4
  let tgt := if which = 1 then bits w 13 3 else bits w 5 3
  let act := if which = 1 then bits w 10 3 else bits w 2 3
  let tr : CapTrig := { t := t, cond := s.seqWord 1, state := s.cap.state, cause := which, frame := s.frameAt t }
  let s1 := s.modCap fun c => { c with state := tgt, counter := 0, entered := t, enteredRef := s.refAt t }
  let s2 := if bit act 0 then s1.trigger tr else s1
  let s3 := if bit act 1 then s2.wofenRequest else s2
  if bit act 2 then
    if s3.cap.st = 1 then ((s3.modCap fun c => { c with stopAfter := true })).segClose (setBit (s3.seg s3.cap.use).flags 2)
    else if s3.cap.st = 2 then s3.modCap fun c => { c with stopAfter := true }
    else if s3.capRuns then s3.capHalt 2 else s3
  else s3

/-- One occurrence at its own time (R261, R262); answers whether a transition was made. It waits while an earlier one is on its way, or a
timer's limit before it has not been evaluated. -/
def State.seqOcc (s : State) (t : Nat) (o : Occ) : State × Bool :=
  if !s.capRuns then (s, false)
  else if s.occAhead t then (s.modCap fun c => { c with wait := c.wait ++ [(t, o)] }, false)
  else if t < s.cap.entered then (s.capBump 12, false)
  else
    let hit := occMatches o (s.seqWord 1) (fun i => s.obj 0xA010 (i + 1)) (fun i => s.obj 0xA011 (i + 1))
    let n := s.cap.counter + 1
    let full := hit && s.seqWord 2 != 0 && decide (s.seqWord 2 ≤ n)
    let late : Bool := match s.timerDue with | none => false | some d => decide (d < t) || (d == t && !full)
    if late then (s.modCap fun c => { c with wait := c.wait ++ [(t, o)] }, false)
    else if full then (s.seqGo 1 t, true)
    else if hit then (s.modCap fun c => { c with counter := n }, false)
    else (s.capBump 12, false)

/-- Occurrences in the order of their times; those that waited follow a transition. -/
def State.seqRun : Nat → List (Nat × Occ) → State → State
  | 0, _, s => s
  | _, [], s => s
  | n + 1, (t, o) :: rest, s =>
    let r := s.seqOcc t o
    if r.2 then
      let l := sortBy (fun x y => decide (x.1 ≤ y.1)) (r.1.cap.wait ++ rest)
      State.seqRun n l (r.1.modCap fun c => { c with wait := [] })
    else State.seqRun n rest r.1

/-- The occurrences that wait, and further ones, in the order of their times. -/
def State.seqWait (s : State) (l : List (Nat × Occ)) : State :=
  let w := sortBy (fun x y => decide (x.1 ≤ y.1)) (s.cap.wait ++ l)
  if w.isEmpty then s else State.seqRun ((w.length + 1) * (w.length + 1)) w (s.modCap fun c => { c with wait := [] })

/-- An occurrence reaches the sequencer. -/
def State.occur (s : State) (t : Nat) (o : Occ) : State := s.capRearm.seqWait [(t, o)]

/-- What is an occurrence of a condition at all: hits and edges of the selected channels, and crossings of a level that some state watches
(R263, log entry 103). -/
def State.isOcc (s : State) (o : Occ) : Bool :=
  match o with
  | .hit ch _ => s.inChannels 0xA010 ch
  | .edge ch _ => s.inChannels 0xA011 ch
  | .crossing _ _ _ => (List.range 8).any fun i => occMatches o (s.objN 0xA100 (4 * i + 1)) (fun j => s.obj 0xA010 (j + 1)) (fun j => s.obj 0xA011 (j + 1))
  | _ => true

/-- An occurrence is on its way to the sequencer (R261, R262, log entry 76). -/
def State.occNote (s : State) (t : Nat) (o : Occ) : State :=
  if s.capRuns && s.isOcc o then s.modCap fun c => { c with occs := c.occs ++ [(t, o)] } else s

/-- It is counted: the oldest of its kind that is on its way. The crossings of the high threshold reach the model by this row alone, with
their time; host triggers, logged events and relays are counted where they arise. -/
def State.occCount (s : State) (t : Nat) (o : Occ) : State :=
  match o with
  | .host => s
  | .event _ => s
  | .relay _ => s
  | o =>
    if (match o with | .edge _ k => k == 3 || k == 4 | _ => false) then (if s.isOcc o then s.occur t o else s)
    else match s.cap.occs.find? fun x => x.2 == o with
      | none => s
      | some x => (s.modCap fun c => { c with occs := c.occs.erase x }).occur x.1 o

/-- The timer is evaluated 200 ns after its limit, once every earlier occurrence has been counted (R261). -/
def State.seqTimer (s : State) : State :=
  let s := s.capRearm.seqWait []
  match s.timerDue with
  | none => s
  | some d => if s.capRuns ∧ d + 200 * 65536 ≤ s.capNow then (s.seqGo 2 d).seqWait [] else s

/-! ### Records (R256 ... R260) -/

/-- The record's source is selected (R256). -/
def State.capSelected (s : State) (src unit data : Nat) : Bool :=
  let on := s.capWants src
  match src with
  | 1 => on && s.inChannels 0xA010 (256 * unit + data / 2 ^ 56)
  | 2 => on && s.inChannels 0xA011 (256 * unit + data / 2 ^ 56)
  | 3 => on
  | 4 => on
  | 5 => on && bit (s.objN 0xA012 3) unit
  | 6 => on
  | 7 => on && bit (s.objN 0xA012 2) unit
  | 8 => s.objN 0xA012 4 == 1
  | _ => false

/-- Refill of the meter of R259: a token every 10 ns, kept in quarters. -/
def State.capRefill (s : State) : State :=
  s.modCap fun c => { c with tok4 := min 4096 (c.tok4 + (s.now - c.tokAt)), tokAt := s.now }

/-- A record of a selected source arrives: metered, written, or lost in a gap. -/
def State.capRecord (s : State) (src unit t data : Nat) (bad : Bool) : State :=
  let s := s.capRearm
  if !s.capSelected src unit data then s
  else match s.cap.st with
  | 3 => (s.modCap fun c => { c with gap := c.gap + 1 }).capBump 11
  | 1 => put s
  | 2 => put s
  | _ => s
where
  put (s : State) : State :=
    let s := s.capRefill
    if s.cap.tok4 < 4 then
      let g := s.seg s.cap.use
      (s.setSeg s.cap.use { g with dropped := min 65535 (g.dropped + 1), flags := setBit g.flags 3 }).capBump 8
    else (s.modCap fun c => { c with tok4 := c.tok4 - 4 }).segPut (capRec src unit t data bad)

/-- A source hands a record to the engine, which it reaches within 15 µs (R258); only selected sources have records (R256). -/
def State.capNote (s : State) (src unit t data : Nat) : State :=
  if s.capRuns && s.capSelected src unit data then s.modCap fun c => { c with bus := c.bus ++ [(src, unit, t, data)] } else s

/-- Records of a source on their way that are older than an instant enter before it (R258). -/
def State.capFlush (s : State) (src t : Nat) : State :=
  (sortBy (fun x y => decide (x.2.2.1 ≤ y.2.2.1)) (s.cap.bus.filter fun r => r.1 == src && decide (r.2.2.1 < t))).foldl
    (fun s r => (s.modCap fun c => { c with bus := c.bus.erase r }).capRecord src r.2.1 r.2.2.1 r.2.2.2 false) s

/-- The oldest record of a source and unit that is on its way. -/
def State.capFront (s : State) (src unit : Nat) : Option (Nat × Nat × Nat × Nat) :=
  (s.cap.bus.filter fun r => r.1 == src && r.2.1 == unit).foldl (fun (b : Option (Nat × Nat × Nat × Nat)) r => match b with
    | none => some r
    | some x => if r.2.2.1 < x.2.2.1 then some r else some x) none

/-- A record arrives: those of one source enter in the order of their times (R258). The crossings of the high threshold reach the model by this
row alone, with their time and data; `bad`: the octets of capture memory that take it fail beyond correction (R269). -/
def State.capArrive (s : State) (src unit t data : Nat) (bad : Bool) : State :=
  if src = 2 ∧ (data % 16 = 3 ∨ data % 16 = 4) then (s.capFlush src t).capRecord src unit t data bad
  else match s.capFront src unit with
    | none => s
    | some r => ((s.capFlush src r.2.2.1).modCap fun c => { c with bus := c.bus.erase r }).capRecord src unit r.2.2.1 r.2.2.2 bad

/-- The post-trigger time limit passes (R254). -/
def State.segLimit (s : State) : State :=
  let s := s.capRearm
  let g := s.seg s.cap.use
  match g.trig with
  | some (_, p) => if s.cap.st = 2 ∧ p + s.objN 0xA000 6 * msP ≤ s.now then s.segClose (setBit g.flags 4) else s
  | none => s

/-! ### Start, stop, reading (R268 ... R272) -/

/-- Capture starts (R271): counts from zero, state 0, a segment armed. -/
def State.capStart (s : State) : State :=
  if s.capRuns then s
  else
    let s1 := (List.range 12).foldl (fun (s : State) i => s.setObj 0xA020 (i + 1) 0) s
    let s2 := s1.modCap fun c => { c with
      seqNo := 0, state := 0, counter := 0, entered := s.capNow, enteredRef := s.now * 163840, wait := [], held := none, gap := 0, missedFull := false, stopAfter := false
      bus := [], occs := [], sliceFrame := none }
    s2.capArm

/-- Capture is stopped by the host (R271). -/
def State.capStop (s : State) : State :=
  if !s.capRuns then s
  else
    let g := s.seg s.cap.use
    let s1 := if s.cap.st = 1 ∨ s.cap.st = 2 then (s.setSeg s.cap.use { g with st := 3, flags := setBit g.flags 2 }).capBump 3 else s
    s1.capHalt 3

/-- PD_CAP is off: powered down, or kept off by its self-test (R271, R412). -/
def State.capOff (s : State) : Bool := s.cap.st == 5 || s.life.capBad

/-- Checks of a start (R253, R255, R263, R271); none is made while a power-down of PD_CAP is held (R39). -/
def State.capStartCodes (s : State) : List Nat :=
  when (s.capOff || s.dma.holds.any fun h => h.1 == 4) 0x0601
  ++ when (8388608 < 256 * 2 ^ s.objN 0xA000 1 * s.segCount || (s.objN 0xA000 4 == 1 && s.segCount < 2)
      || (List.range 8).any fun i => 11 < s.objN 0xA100 (4 * i + 1) / 2 ^ 24) 0x0301

/-- Header of a segment (R270). -/
def State.segHeader (s : State) (i : Nat) : Octets :=
  let g := s.seg i
  let t := match g.trig with | some (t, _) => t | none => 0
  toBE 4 g.seq ++ toBE 2 i ++ toBE 1 g.st ++ toBE 1 g.flags ++ toBE 8 (t / 65536) ++ toBE 2 t ++ toBE 1 g.tstate ++ [0]
    ++ toBE 4 g.frame ++ toBE 2 g.size ++ toBE 2 (if g.trig.isSome then g.tpos else 0) ++ toBE 2 g.dropped ++ toBE 2 g.missed

/-- A record as read out: a damaged one with `src` FFh and zero fields (R269). -/
def CapRec.image (r : CapRec) : Octets := if r.bad then 0xFF :: zeros 15 else r.o

/-- Image of a segment (R269). -/
def State.segImage (s : State) (i : Nat) : Octets := s.segHeader i ++ (s.seg i).all.flatMap (·.image)

/-- What a read of `n` octets of a segment's image from an offset does (R268, R269): the lock is renewed, damaged records are counted, and
the first of a segment sets its flag and is event 2601h. -/
def State.segRead (s : State) (i off n : Nat) : State :=
  let k := ((s.seg i).all.zipIdx.filter fun r => r.1.bad && decide (off < 48 + 16 * r.2) && decide (32 + 16 * r.2 < off + n)).length
  let s1 := s.modCap fun c => { c with readAt := s.now }
  if k = 0 then s1
  else
    let s2 := s1.bump 0xA020 9 k
    let g := s2.seg i
    if bit g.flags 5 then s2 else (s2.setSeg i { g with flags := setBit g.flags 5 }).evt 0x2601 i

/-- The segment is closed, selected and locked (R268). -/
def State.segLocked (s : State) : Option Nat := s.cap.lock

/-- A segment is freed (R272). -/
def State.segFree (s : State) (i : Nat) : State :=
  s.modCap fun c => { c with segs := AMap.del c.segs i, lock := if c.lock = some i then none else c.lock }

/-- Ranges that the catalogue gives by a rule: channels, transition words (R261, R272). -/
def capChanCodes (w : List (Nat × Int)) : List Nat := when (w.any fun x => 1023 < x.2 && x.2 != 0xFFFF) 0x0301
def capSeqCodes (w : List (Nat × Int)) : List Nat :=
  when (w.any fun x => x.1 % 4 == 0 && x.1 != 0 && (bits x.2.toNat 16 16 != 0 || bits x.2.toNat 8 2 != 0 || bits x.2.toNat 0 2 != 0)) 0x0301

/-! ### Commands -/

def execCaptureStart (r : Req) (s : State) : Host.Outcome State Fault Refusal :=
  .next (s.hostWrite r (ent 0xA001 0 .bool 1) State.capStartCodes State.capStart false)

def execCaptureStop (r : Req) (s : State) : Host.Outcome State Fault Refusal :=
  .next (s.hostWrite r (ent 0xA001 0 .bool 0) (fun s => when s.capOff 0x0601) State.capStop false)

def execCaptureRecord (src unit t : Nat) (data : CapWord) (s : State) : Host.Outcome State Fault Refusal :=
  .next (s.capArrive src unit (t * 256) data.data data.bad)

def execTriggerConditionOccurrence (t : Nat) (o : Occ) (s : State) : Host.Outcome State Fault Refusal :=
  .next (s.occCount (t * 256) o)

def execTriggerSequencerTimer (s : State) : Host.Outcome State Fault Refusal := .next s.seqTimer

def execHostTrigger (r : Req) (arg : Nat) (s : State) : Host.Outcome State Fault Refusal :=
  .next (s.hostWrite r (entArg 0xA102 .u8 arg) (fun _ => []) (fun s => s.occur s.capNow .host) false)

def execSegmentTimeLimit (s : State) : Host.Outcome State Fault Refusal := .next s.segLimit

end Sys2Proof.Machine
end

