-- ==== Sys2Proof/Machine/Steering.lean ====
section
/-! DEFINITION. Beam steering: the two axes and their validity, Helm A and Helm B, the output stage and the Ferry (R101 ... R113). -/

namespace Sys2Proof.Machine

/-- Position of one axis. -/
def State.axis (s : State) (fast : Bool) : AxisPos := if fast then s.steer.fast else s.steer.slow

def State.setAxis (s : State) (fast : Bool) (a : AxisPos) : State :=
  if fast then { s with steer := { s.steer with fast := a } } else { s with steer := { s.steer with slow := a } }

/-- Axis number in `6.030.06` and event 1202h: 0 fast, 1 slow (R125). -/
def axisNo (fast : Bool) : Nat := if fast then 0 else 1

/-- A cause of R105 is present: the axis becomes invalid at once, the governor stops emission (R41, R106, R354) and the
invalidation is logged and counted; on an axis that is invalid already the cause is only added. -/
def State.posInvalid (s : State) (fast : Bool) (c : Nat) : State :=
  let a := s.axis fast
  let a1 := { a with causes := setBit a.causes c }
  if a.valid then
    let s1 := s.setAxis fast { a1 with valid := false, invalidAt := s.now }
    let s2 := (s1.bump 0x6030 5 1).setObj 0x6030 6 ((c + 128 * axisNo fast : Nat) : Int)
    let s3 := { s2 with gov := { s2.gov with enable := false } }
    let s4 := if s.gov.enable then (s3.bump 0xC310 130 1).evt 0x4041 (axisNo fast) else s3
    s4.evt 0x1202 (c + 128 * axisNo fast)
  else s.setAxis fast a1

/-- A cause of R105 is no longer present; once none is, the time of R106 begins. -/
def State.causeGone (s : State) (fast : Bool) (c : Nat) : State :=
  let a := s.axis fast
  if bit a.causes c then
    let m := clrBit a.causes c
    s.setAxis fast (if m = 0 then { a with causes := m, clearAt := s.now, clearPeriods := 0 } else { a with causes := m })
  else s

/-- An axis is valid again when no cause has been present for 1 ms and for two fast-axis periods (R106). -/
def State.revalidate (s : State) (fast : Bool) : State :=
  let a := s.axis fast
  if !a.valid && a.causes == 0 && a.clearAt + msP ≤ s.now && 2 ≤ a.clearPeriods then
    s.setAxis fast { a with valid := true, validAt := s.now }
  else s

/-- The axis was valid at an instant, as far as the last invalidation tells. -/
def AxisPos.validAtTime (a : AxisPos) (t : Nat) : Bool :=
  if a.valid then !(a.invalidAt ≤ t && t < a.validAt) else t < a.invalidAt

/-! ### Trajectory (R103, R104) -/

/-- Breakpoints of a list of members: phase and elevation. -/
def breakpoints (l : List Nat) : List (Nat × Nat) := l.map fun m => (m / 65536, m % 65536)

/-- Members of the trajectory in effect. -/
def State.trajectory (s : State) : List Nat :=
  (List.range (s.objN 0x6020 0)).map fun i => s.objN 0x6020 (i + 1)

/-- The segment at a phase in units of 1/65,536 of the frame period, given as el·65536 over pp: start and end breakpoints, or the
last elevation held. -/
def segment (el pp : Nat) : List (Nat × Nat) → Option ((Nat × Nat) × (Nat × Nat)) × Nat
  | [] => (none, 32768)
  | [b] => (none, b.2)
  | a :: b :: rest => if el * 65536 < b.1 * pp then (some (a, b), 0) else segment el pp (b :: rest)

/-- Angle and slope as fractions over one positive denominator: (angle, slope in codes/µs, denominator). -/
def trajAt (el pp : Nat) (tr : List (Nat × Nat)) : Int × Int × Int :=
  match segment el pp tr with
  | (some (a, b), _) =>
    let d : Int := ((b.1 - a.1) * pp : Nat)
    let rise : Int := (b.2 : Int) - a.2
    ((a.2 : Int) * d + rise * (((el * 65536 : Nat) : Int) - ((a.1 * pp : Nat) : Int)), rise * 65536 * 400, d)
  | (none, e) => ((e : Int), 0, 1)

/-- The trajectory now: phase 0 at the frame start, or at the last idle Landing (R104, R33); a prepare command drives the slow axis by
itself (R416). -/
def State.trajNow (s : State) : Int × Int × Int :=
  match s.life.prepEl with
  | some e => ((e : Int), 0, 1)
  | none => trajAt (s.now - s.steer.phase0) (s.objN 0x3010 0 * 400) (breakpoints s.trajectory)

/-- Newest output and rate of a stamping channel (R221): the fast axis's is named by `7.602.01`, the slow axis's by `7.602.02`. -/
def State.stampCh (s : State) (fast : Bool) : FiltCh :=
  assocD { integ := [], comb := [], phase := 0, hist := [], inbox := [], lastIn := 0, flagRun := 0, outs := [], rate := 0 } s.ana.filt
    (s.objN 0x7602 (if fast then 1 else 2))

def State.axisNow (s : State) (fast : Bool) : Int × Int :=
  let c := s.stampCh fast
  ((match c.outs with | o :: _ => o.y | [] => 0), c.rate)

/-- The slow-axis current setpoint i* of R103. The curvature of a piecewise linear trajectory is taken as 0. -/
def State.slowSetpoint (s : State) : Int :=
  let (aN, wN, d) := s.trajNow
  let (th, om) := s.axisNow false
  let kp := s.obj 0x6021 1
  let kd := s.obj 0x6021 2
  let ks := s.obj 0x6021 3
  let num := kp * (aN - th * d) * 65536 + kd * (wN * 65536 - om * d) + ks * (aN - 32768 * d) * 65536
  clampI (-32768) 32767 (divRound num (d * 65536 * 65536))

/-! ### Helms and the output stage (R107 ... R112) -/

def State.helm (s : State) (b : Bool) : Helm := if b then s.steer.helmB else s.steer.helmA

def State.setHelm (s : State) (b : Bool) (h : Helm) : State :=
  if b then { s with steer := { s.steer with helmB := h } } else { s with steer := { s.steer with helmA := h } }

/-- Claim a is higher than claim b (R108). -/
def claimHigher (a b : Nat) : Bool :=
  let d := (a + 256 - b % 256) % 256
  1 ≤ d && d ≤ 127

/-- A claim the output stage may accept (R108). -/
def claimOk (c last : Nat) : Bool := c == last || claimHigher c last

/-- A Helm is retired: event 3201h and its cause of R423 (R112). -/
def State.retireHelm (s : State) (b : Bool) : State :=
  let s1 := s.setHelm b { s.helm b with st := 4, claim := (s.helm b).claim }
  ((s1.evt 0x3201 (b2n b)).raiseCause (if b then 5 else 4)).readmitFailed (0x5000 + b2n b) 1

/-- A self-check failure of a Helm: it sends nothing further, yields and re-initialises; the third within 600 s retires it
(R107, R112). -/
def State.helmFail (s : State) (b : Bool) : State :=
  let h := s.helm b
  let fails := (s.now :: h.fails).filter fun t => s.now < t + 600 * secP
  let s1 := (s.setHelm b { h with st := 3, fails := fails, syncPeriods := 0, syncLanding := false }).bump 0x6100 (if b then 8 else 7) 1
  let s2 := if h.st = 0 then { s1 with steer := { s1.steer with yield := true } } else s1
  if 3 ≤ fails.length then s2.retireHelm b else s2

/-- A setpoint differed while resynchronising: event 1201h and a new start; the third in a row retires the Helm (R111, R112). -/
def State.helmDiffer (s : State) (b : Bool) : State :=
  let h := s.helm b
  let s1 := (s.setHelm b { h with failedSync := h.failedSync + 1, syncAt := s.now, syncPeriods := 0, syncLanding := false }).evt 0x1201 (b2n b)
  if 3 ≤ h.failedSync + 1 then s1.retireHelm b else s1

/-- A Helm sends a command this period: active or ready standby, with its lanes in agreement (R107). -/
def Helm.sends (h : Helm) (ok : Bool) : Bool := ok && (h.st == 0 || h.st == 1)

/-- The source the output stage picks among the Helms that send an acceptable claim (R108): the higher claim, the source accepted
last when they are equal; none when there is no candidate. -/
def State.pick (s : State) (sendA sendB : Bool) : Option Bool :=
  let ca := sendA && claimOk s.steer.helmA.claim s.steer.lastClaim
  let cb := sendB && claimOk s.steer.helmB.claim s.steer.lastClaim
  if ca && cb then
    if claimHigher s.steer.helmA.claim s.steer.helmB.claim then some false
    else if claimHigher s.steer.helmB.claim s.steer.helmA.claim then some true
    else some (s.steer.lastSrc == 1)
  else if ca then some false
  else if cb then some true
  else none

/-- The command of a Helm (R107). -/
def State.helmCmd (s : State) (b : Bool) : HelmCmd :=
  { claim := (s.helm b).claim, src := b2n b, setpoint := s.slowSetpoint, burst := s.objN 0x6000 8, width := s.objN 0x6000 9
    amp := s.obj 0x6010 0, good := true }

/-- A Helm is active again: its cause of R423 clears, and the field is seen from the next frame on (R110, R423). -/
def State.helmBack (s : State) : State :=
  { s with
    steer := { s.steer with noHelm := false }
    tap := { s.tap with field := match s.tap.field with | some (n, none) => some (n, some (s.frm.no + 1)) | f => f } }.setCause 6 false

/-- A command is accepted (R108); when its source was not the active Helm the Ferry ends: the former active Helm becomes standby
one claim below, and the hand-over is logged and counted (R109, R113). -/
def State.acceptCmd (s : State) (b : Bool) : State :=
  let c := s.helmCmd b
  let heldBefore := s.steer.held
  let s1 := { s with steer := { s.steer with cmd := c, lastClaim := c.claim, lastSrc := b2n b, held := 0, driving := true, yield := false, missed := false } }
  let s2 := (s1.causeGone true 4).causeGone false 4
  if (s.helm b).st = 0 then (if s.steer.noHelm then s2.helmBack else s2)
  else
    let s3 := s2.setHelm b { s2.helm b with st := 0 }
    let o := s3.helm (!b)
    let s4 := if o.st = 0 then s3.setHelm (!b) { o with st := 1, claim := (c.claim + 255) % 256 } else s3
    let s5 := (s4.bump 0x6100 6 1).setObj 0x6100 9 (heldBefore : Int)
    let s7 := s5.helmBack
    if s.steer.ferryOrdered && !s.steer.ferry then
      ({ s7 with steer := { s7.steer with ferryOrdered := false } }.evt 0x0201 (b2n b)).commandDone 0x6110
    else
      { s7 with steer := { s7.steer with ferry := false } }.evt 0x2201 (b2n b + 256 * heldBefore)

/-- A Helm is active, or ready to take over. -/
def State.helmLeft (s : State) : Bool := decide (s.steer.helmA.st ≤ 1) || decide (s.steer.helmB.st ≤ 1)

/-- A period without an accepted command (R108): after three held ones the stage drives off. Where the active Helm has failed and no ready
standby exists, the whole field is blind for both evaluators from this frame on (R110). -/
def State.noCmd (s : State) : State :=
  let held := s.steer.held + 1
  let s1 := { s with steer := { s.steer with held := held, missed := true } }
  if held ≤ 3 then s1
  else
    let s2 := { s1 with steer := { s1.steer with driving := false } }
    let s3 := (s2.posInvalid true 4).posInvalid false 4
    if s.steer.noHelm || s.helmLeft then s3
    else { (s3.evt 0x3202 0) with
        steer := { s3.steer with noHelm := true }
        tap := { s3.tap with field := some (match s3.tap.field with | some (n, _) => n | none => s3.frm.no, none) } }.raiseCause 6

/-- The ready standby takes over: it raises its claim over the last accepted one and sends from the next period (R109). -/
def State.takeOver (s : State) : State :=
  if !(s.steer.yield || s.steer.missed) then s
  else
    let go (s : State) (b : Bool) : State :=
      { (s.setHelm b { s.helm b with claim := (s.steer.lastClaim + 1) % 256 }) with
        steer := { (s.setHelm b { s.helm b with claim := (s.steer.lastClaim + 1) % 256 }).steer with ferry := true, yield := false } }
    if s.steer.helmA.st = 1 then go s false
    else if s.steer.helmB.st = 1 then go s true
    else s

/-- One control period of 1 µs (R103, R107 ... R110): a command whose check code arrives bad is no candidate (R108). -/
def State.controlPeriod (s : State) (okA okB same goodA goodB : Bool) : State :=
  if !s.steer.running then s
  else
    let s1 := if s.steer.helmA.st ≤ 2 && !okA then s.helmFail false else s
    let s2 := if s1.steer.helmB.st ≤ 2 && !okB then s1.helmFail true else s1
    let s3 := if s2.steer.helmA.st = 2 && !same then s2.helmDiffer false else s2
    let s4 := if s3.steer.helmB.st = 2 && !same then s3.helmDiffer true else s3
    let (aN, _, d) := s4.trajNow
    let (th, _) := s4.axisNow false
    let s5 := { s4 with steer := { s4.steer with trackErr := max s4.steer.trackErr ((aN - th * d).natAbs / d.natAbs) } }
    let s6 := match s5.pick (s5.steer.helmA.sends okA && goodA) (s5.steer.helmB.sends okB && goodB) with
      | some b => s5.acceptCmd b
      | none => s5.noCmd
    s6.takeOver

/-- One Helm or the other is a ready standby. -/
def State.standbyReady (s : State) : Bool := s.steer.helmA.st == 1 || s.steer.helmB.st == 1

/-- Step 5 of a Landing: a commanded Ferry makes the standby raise its claim (R113), and resynchronising Helms have passed one
Landing (R111). -/
def State.helmLanding (s : State) : State :=
  let s1 :=
    if s.steer.ferryOrdered && s.steer.running then
      if s.steer.helmA.st = 1 then s.setHelm false { s.steer.helmA with claim := (s.steer.lastClaim + 1) % 256 }
      else if s.steer.helmB.st = 1 then s.setHelm true { s.steer.helmB with claim := (s.steer.lastClaim + 1) % 256 }
      else s
    else s
  { s1 with steer := { s1.steer with
      helmA := { s1.steer.helmA with syncLanding := s1.steer.helmA.syncLanding || s1.steer.helmA.st == 2 }
      helmB := { s1.steer.helmB with syncLanding := s1.steer.helmB.syncLanding || s1.steer.helmB.st == 2 } } }

/-- A Helm has re-initialised and begins resynchronising (R111). -/
def State.helmReinit (s : State) (b : Bool) : State :=
  let h := s.helm b
  if h.st = 3 then s.setHelm b { h with st := 2, syncAt := s.now, syncPeriods := 0, syncLanding := false } else s

/-- A resynchronised Helm becomes ready standby, one claim below (R111). -/
def State.helmReady (s : State) (b : Bool) : State :=
  let h := s.helm b
  if h.st = 2 && 2 ≤ h.syncPeriods && h.syncLanding then
    (((s.setHelm b { h with st := 1, claim := (s.steer.lastClaim + 255) % 256, failedSync := 0 }).evt 0x0202 (b2n b)).setCause (if b then 5 else 4) false).readmitPassed (0x5000 + b2n b)
  else s

/-- Reference periods in which the fast axis lies within the frequency window `6.000.05` ... `6.000.06` (R102). -/
def State.inWindow (s : State) (p : Nat) : Bool :=
  s.objN 0x6000 5 * p ≤ secP && secP ≤ s.objN 0x6000 6 * p

/-- A whole fast-axis period that began at or after an instant has passed at a rising crossing: the last one was not before it. -/
def State.wholeSince (s : State) (t : Nat) : Nat := b2n (t ≤ s.steer.lastZero && s.steer.zeros != 0)

/-- A rising zero crossing of the fast axis ends a period (R102): its length, and the whole periods counted for R106 and R111. -/
def State.periodEnds (s : State) : State :=
  let first := s.steer.zeros = 0
  let bump (h : Helm) : Helm := if h.st = 2 then { h with syncPeriods := h.syncPeriods + s.wholeSince h.syncAt } else h
  { s with steer := { s.steer with
    period := if first then s.steer.period else s.now - s.steer.lastZero
    lastZero := s.now
    zeros := s.steer.zeros + 1
    helmA := bump s.steer.helmA
    helmB := bump s.steer.helmB
    fast := { s.steer.fast with clearPeriods := s.steer.fast.clearPeriods + s.wholeSince s.steer.fast.clearAt }
    slow := { s.steer.slow with clearPeriods := s.steer.slow.clearPeriods + s.wholeSince s.steer.slow.clearAt } } }

/-- A zero crossing of the fast axis, rising or falling, begins a half period: the amplitude of the half period before it, cause 3 of
R105, and the burst offered for this one (R102); `burstOn` is the state of target 4h. -/
def State.zeroCrossing (s : State) (rising : Bool) (halfAmp : Nat) (burstOn : Bool) : State :=
  if !s.steer.running then s
  else
    let s0 := if rising then s.periodEnds else s
    let s1 := { s0 with steer := { s0.steer with halfAmp := halfAmp, halves := s0.steer.halves + 1 } }
    let weak := decide (2 * (halfAmp : Int) < s.obj 0x6010 0)
    let bad := weak || (rising && s.steer.zeros != 0 && !s.inWindow s1.steer.period)
    let s2 := if bad then s1.posInvalid true 3 else if rising then s1.causeGone true 3 else s1
    if burstOn && s2.steer.driving then s2.emit (.burst (s2.steer.cmd.burst * s2.steer.period / 256) s2.steer.cmd.width) else s2

/-- No zero crossing within 1.5 expected periods (cause 3 of R105). -/
def State.crossingTimeout (s : State) : State :=
  if s.steer.running && 3 * s.steer.period ≤ 2 * (s.now - s.steer.lastZero) then s.posInvalid true 3 else s

/-- The steering stream of an axis runs: its stamping channel does (R105 cause 5, R222). -/
def State.streamOn (s : State) (fast : Bool) : Bool :=
  s.obj 0x7601 (s.objN 0x7602 (if fast then 1 else 2) + 1) == 1 && !s.ana.filtStopped

/-- Where its stream is stopped, cause 5 is present. -/
def State.streamCheck (s : State) (fast : Bool) : State := if s.streamOn fast then s else s.posInvalid fast 5

/-- Steering starts: Helms, claims and output stage as R108 says; cause 6 is gone, and an axis whose stream is stopped has cause 5. -/
def State.steerStart (s : State) : State :=
  let pref := s.obj 0x6111 0 == 1
  let act := if (s.helm pref).st = 4 then !pref else pref
  let put (s : State) (b : Bool) : State :=
    let h := s.helm b
    if h.st = 4 then s
    else s.setHelm b { h with st := if b == act then 0 else 1, claim := if b == act then 1 else 0, failedSync := 0, syncPeriods := 0, syncLanding := false }
  let s1 := put (put s false) true
  let s2 := { s1 with steer := { s1.steer with
    running := true, lastClaim := 1, lastSrc := b2n act, held := 0, driving := true, yield := false, missed := false
    ferryOrdered := false, ferry := false, period := secP / max 1 (s1.objN 0x6000 5), lastZero := s.now, zeros := 0
    fastStopped := false, slowStopped := false } }
  let s3 := if (s2.helm act).st = 0 then s2.helmBack else s2
  (((s3.streamCheck true).streamCheck false).causeGone true 6).causeGone false 6

/-- Steering stops (R105 cause 6); retired Helms stay retired. -/
def State.steerStop (s : State) : State :=
  let put (s : State) (b : Bool) : State :=
    let h := s.helm b
    if h.st = 4 then s else s.setHelm b { h with st := 5 }
  let s1 := put (put s false) true
  let s2 := { s1 with steer := { s1.steer with running := false, driving := false, ferryOrdered := false, ferry := false } }
  let s3 := if s.steer.ferryOrdered then s2.commandDone 0x6110 else s2
  (s3.posInvalid true 6).posInvalid false 6

/-! ### Checks of writes (R104) -/

/-- Phases strictly increase. -/
def rising : List (Nat × Nat) → Bool
  | [] => true
  | [_] => true
  | a :: b :: rest => a.1 < b.1 && rising (b :: rest)

/-- The four conditions of R104 on a trajectory, against the first elevation in effect. -/
def trajOk (tr : List (Nat × Nat)) (lim effFirst : Nat) : Bool :=
  match tr with
  | [] => false
  | a :: _ =>
    2 ≤ tr.length && tr.length ≤ 256 && a.1 == 0 && rising tr && (tr.getLast?.map (·.2)) == some a.2
      && ((a.2 : Int) - effFirst).natAbs ≤ lim

/-- Value a member will have: pending, or in effect. -/
def State.upcoming (s : State) (obj el : Nat) : Int :=
  match s.pendOf obj el with
  | some p => p.val
  | none => s.obj obj el

/-- Value a member will have once a write is taken too. -/
def State.withWrite (s : State) (w : List (Nat × Int)) (obj el : Nat) : Int :=
  match w.find? fun x => x.1 == el with
  | some x => x.2
  | none => s.upcoming obj el

/-- Checks of a write to `6.020`. -/
def State.trajCodes (s : State) (e : Entry) : List Nat :=
  match Catalogue.find e.obj with
  | none => []
  | some r =>
    let w := written r e.el e.val
    let n := (s.withWrite w 0x6020 0).toNat
    let tr := breakpoints ((List.range n).map fun i => (s.withWrite w 0x6020 (i + 1)).toNat)
    let first := (s.objN 0x6020 1) % 65536
    when (!trajOk tr (s.objN 0x6000 7) first) 0x0301

end Sys2Proof.Machine
end

