-- ==== Sys2Proof/Machine/Loops.lean ====
section
/-! DEFINITION. The control engine: loop slots, competition groups, repetitive compensators and the detector bias (R114 ... R124). -/

namespace Sys2Proof.Machine

/-- Structure word of a loop slot (R116) and its fields. -/
def State.loopWord (s : State) (k : Nat) : Nat := s.objN 0x6200 (k + 1)
def lwInst (w : Nat) : Bool := bit w 30
def lwKind (w : Nat) : Nat := bits w 28 2
def lwRate (w : Nat) : Nat := bits w 25 3
def lwRef (w : Nat) : Nat := bits w 22 3
def lwIn (w : Nat) : Nat := bits w 16 6
def lwOut (w : Nat) : Nat := bits w 12 4

/-- A slot runs (`6.210`). -/
def State.loopRuns (s : State) (k : Nat) : Bool := s.obj 0x6210 (k + 1) == 1

/-- Instances of a slot. -/
def lwCount (w : Nat) : Nat := if lwInst w then 4 else 1

/-- An instance before its first sample: SWITCH off, RAMP 65,536 (R115). -/
def loopInit (kind : Nat) : LoopInst :=
  { running := true, faulted := false, u := if kind = 1 then 65536 else 0, appl := if kind = 1 then 65536 else 0
    dir := 0, applDir := 0, err := 0, missedNow := 0, missedAll := 0, seen := 0 }

/-- Index of an instance in `6.220` and the tables (R121). -/
def loopIx (k i : Nat) : Nat := 4 * k + i

/-- An instance; one that has never started applies nothing and reads 0 (R120). -/
def State.loopInst (s : State) (k i : Nat) : LoopInst := assocD { loopInit 0 with running := false } s.forge.inst (loopIx k i)

def State.setLoopInst (s : State) (k i : Nat) (v : LoopInst) : State :=
  { s with forge := { s.forge with inst := assocPut s.forge.inst (loopIx k i) v } }

/-- Member slots of a competition group, primary first (R117, `6.300`). -/
def groupSlots (w : Nat) : List Nat :=
  ([bits w 12 4, bits w 8 4, bits w 4 4, bits w 0 4]).take (bits w 16 4)

def State.groups (s : State) : List (List Nat) := (List.range 5).map fun g => groupSlots (s.objN 0x6300 (g + 1))

/-- The group of a slot. -/
def State.groupOf (s : State) (k : Nat) : Option (List Nat) := s.groups.find? fun g => g.contains k

/-- The group or the ungrouped running slot that drives a target (R117, R118). -/
def State.driver (s : State) (t : Nat) : Option (List Nat) :=
  match s.groups.find? fun g => match g with | [] => false | p :: _ => lwOut (s.loopWord p) == t with
  | some g => some g
  | none =>
    match (List.range 12).find? fun k => s.loopRuns k && lwOut (s.loopWord k) == t && (s.groupOf k).isNone with
    | some k => some [k]
    | none => none

/-- Lowest applied output of the members for an instance, with the lowest-numbered slot that has it (R117). -/
def State.compete (s : State) (g : List Nat) (i : Nat) : Nat × Nat :=
  let ix (k : Nat) : Nat := if lwInst (s.loopWord k) then i else 0
  g.foldl (fun best k =>
    let v := (s.loopInst k (ix k)).appl
    if v < best.1 ∨ (v = best.1 ∧ k < best.2) then (v, k) else best) (2 ^ 20, 2 ^ 20)

/-- What a target instance gets: the competed value; off, or 0, while a member is stopped or faulted, the Quench holds it, for a reservoir
charger the emission enable lane has stopped, for bias gate and slow-axis bridge VDD_HV is low, for the bridge the output stage drives off; for κ 65,536 while
nothing drives it (R21, R94, R108, R117, R119, R383, R437). -/
def State.target (s : State) (t i : Nat) : Nat :=
  if (s.forge.heldOff && (t == 1 || t == 2 || t == 4 || t == 5)) || (bit s.die.stopped 0 && t == 2)
      || ((s.die.hvLow || !s.steer.driving) && t == 5) || (s.die.hvLow && t == 1) then 0
  else match s.driver t with
  | none => if t = 3 then 65536 else 0
  | some g =>
    let ix (k : Nat) : Nat := if lwInst (s.loopWord k) then i else 0
    if g.all (fun k => s.loopRuns k && !(s.loopInst k (ix k)).faulted) then (s.compete g i).1 else 0

/-- The slot whose output is applied to an instance of the target of slot k (R117). -/
def State.winner (s : State) (k i : Nat) : Bool :=
  match s.groupOf k with
  | none => s.loopRuns k
  | some g => (s.compete g i).2 == k

/-- The kept fraction κ of a Quadrant (R94). -/
def State.kappa (s : State) (q : Nat) : Nat := min (s.objN 0x3340 0) (s.target 3 q)

/-- Converter and selector of a loop input for an instance (R116, R200); none for the inputs no converter samples. -/
def loopKey (inp i : Nat) : Option Nat :=
  if inp < 0x20 then some (64 * (inp / 8) + inp % 8)
  else match inp with
  | 0x20 => some (64 * i + 0x10) | 0x21 => some (64 * i + 0x11) | 0x22 => some (64 * i + 0x12)
  | 0x25 => some (64 * 2 + 0x18) | 0x26 => some (64 * 3 + 0x18) | 0x27 => some (64 * 1 + 0x18)
  | _ => none

def newest0 : Newest := { cal := 0, lin := 0, cls := 3, seq := 0, at_ := 0, tk := 0, void := false }

def State.newestOf (s : State) (key : Nat) : Newest := assocD newest0 s.ana.newest key

/-- Newest input value with the number of the sample it came with (R115, R116). -/
def State.loopInput (s : State) (inp i : Nat) : Int × Nat :=
  match inp with
  | 0x23 => (s.obj 0x8011 0x15, s.objN 0x8012 5)
  | 0x24 => (s.steer.halfAmp, s.steer.halves)
  | _ =>
    match loopKey inp i with
    | none => (0, 0)
    | some key =>
      let n := s.newestOf key
      let v := if inp = 0x26 then n.cal - 32768 else if inp = 0x27 then ((n.lin - 32768).natAbs : Int) else n.cal
      (v, n.seq)

/-- The newest sample of an input counts as missing: its converter faulted in the pass that took it (R203). -/
def State.inputVoid (s : State) (inp i : Nat) : Bool :=
  match loopKey inp i with
  | some key => (s.newestOf key).void
  | none => false

/-- Least and greatest value of an input (R116). -/
def loopRange (inp : Nat) : Int × Int :=
  match inp with
  | 0x23 => (-32768, 32767) | 0x24 => (0, 32767) | 0x26 => (-32768, 32767) | 0x27 => (0, 32768)
  | _ => (0, 65535)

/-- Temperature used for a Quadrant's breakdown reference: 25 °C when none is named, −55 °C after the fallback (R123). -/
def State.biasT16 (s : State) (q : Fin 4) : Int :=
  if s.obj 0x6500 (4 * q + 4) = -1 then 400
  else if (s.forge.bias.get q).fallback then -880 else (s.forge.bias.get q).t16

/-- Breakdown-tracking reference r of R123. -/
def State.breakdownRef (s : State) (q : Fin 4) : Int :=
  s.obj 0x6500 (4 * q + 1) + s.obj 0x6500 (4 * q + 3) + divRound (s.obj 0x6500 (4 * q + 2) * (s.biasT16 q - 400)) (2 ^ 20)

/-- Selectors of the pass of a converter (R201, `7.001`). -/
def State.passSels (s : State) (c : Nat) : List Nat :=
  (List.range (s.objN 0x7001 (c + 1))).map fun i => bits (s.objN 0x7000 (16 * c + i + 1)) 10 6

def State.seqRuns (s : State) (c : Nat) : Bool := s.obj 0x7003 (c + 1) == 1

/-- A selector of a converter is being sampled: it stands in the pass, and the sequencer runs. -/
def State.sampledNow (s : State) (c sel : Nat) : Bool :=
  s.seqRuns c && !(s.ana.adcs.get (Fin.ofNat 4 c)).stopped && (s.passSels c).contains sel

/-- Take the newest detector temperature; a flagged or absent one starts the 100 ms of R123. -/
def State.biasTemp (s : State) (q : Fin 4) : State :=
  let ix := s.obj 0x6500 (4 * q + 4)
  if ix < 0 then { s with forge := { s.forge with bias := s.forge.bias.set q { s.forge.bias.get q with lostAt := none, fallback := false } } }
  else
    let n := s.newestOf (64 * (ix.toNat / 8) + ix.toNat % 8)
    let b := s.forge.bias.get q
    let b1 := if n.cls = 0 ∧ 0 < n.seq ∧ !n.void ∧ s.sampledNow (ix.toNat / 8) (ix.toNat % 8) then { b with t16 := n.lin, lostAt := none, fallback := false }
      else match b.lostAt with
        | some _ => b
        | none => { b with lostAt := some s.now }
    { s with forge := { s.forge with bias := s.forge.bias.set q b1 } }

/-- Reference of an instance from its slot's source (R116). -/
def State.baseRef (s : State) (k i : Nat) : Int :=
  let w := s.loopWord k
  match lwRef w with
  | 0 => s.obj 0x6201 (loopIx k i + 1)
  | 1 => s.breakdownRef (Fin.ofNat 4 i)
  | 2 => s.obj 0xC302 (13 + i)
  | 3 => if lwOut w = 5 then s.steer.cmd.setpoint else s.steer.cmd.amp
  | 4 => s.obj 0x8010 3 - s.obj 0x8010 4 / 2
  | _ => 0

/-- Band of a slot: half the hysteresis with source 4 (R116). -/
def State.band (s : State) (k : Nat) : Int :=
  if lwRef (s.loopWord k) = 4 then s.obj 0x8010 4 / 2 else s.obj 0x6202 (k + 1)

/-- Sample period of a slot in reference periods (R116). -/
def State.loopPeriod (s : State) (w : Nat) : Nat :=
  match lwRate w with
  | 6 => s.steer.period / 2
  | 7 => 409600
  | r => 400 * 2 ^ r

/-! ### Repetitive compensators (R121, R122) -/

def comp0 : Comp := { tab := [], p0 := 0, outside := 0, term := 0 }

def State.comp (s : State) (k i : Nat) : Comp := assocD comp0 s.forge.comps (loopIx k i)

def State.setComp (s : State) (k i : Nat) (c : Comp) : State :=
  { s with forge := { s.forge with comps := assocPut s.forge.comps (loopIx k i) c } }

/-- Configuration word of a slot's compensator. -/
def State.compWord (s : State) (k : Nat) : Nat := s.objN 0x6400 (k + 1)

/-- Two periods within 0.5 % of each other (R122). -/
def within005 (a b : Nat) : Bool := 200 * ((a : Int) - b).natAbs ≤ b

/-- Index of this instant in the table, none where φ ≥ 1 of a frame lock (R121, R122): the frame of an instant before the next start is the
one before. Where a crossing is late, φ ≥ 1 of a fast-axis lock wraps round the table (DESIGN CHOICE, log entry 91). -/
def State.compIndex (s : State) (w : Nat) : Option Nat :=
  if bit w 62 then
    if s.steer.period = 0 then none else some (1024 * (s.now - s.steer.lastZero) / s.steer.period % 1024)
  else
    let k := 1024 * (s.now - (if s.now < s.frm.start then s.frm.lastStart else s.frm.start)) / (400 * max 1 (s.objN 0x3010 0))
    if s.frm.active && k < 1024 then some k else none

/-- The lock is valid (R122). -/
def State.lockOk (s : State) (w : Nat) (c : Comp) : Bool :=
  if bit w 62 then within005 s.steer.period c.p0
  else s.objN 0x3020 1 == 0 || within005 (s.frm.start - s.frm.lastStart) (400 * s.objN 0x3010 0)

/-- The slot is a steering slot: its target is 4h or 5h. -/
def State.steerSlot (s : State) (k : Nat) : Bool := lwOut (s.loopWord k) == 4 || lwOut (s.loopWord k) == 5

/-- A Ferry is in progress: from the loss of the active Helm's command to the next one accepted (R109). -/
def State.ferrying (s : State) : Bool := s.steer.ferry || s.steer.yield || 0 < s.steer.held

/-- The term of a sample: what the table, learned up to the sample before, holds for this index and the lead (R121). -/
def State.compTerm (s : State) (k i : Nat) : Int :=
  let w := s.compWord k
  match bit w 63 && s.lockOk w (s.comp k i), s.compIndex w with
  | true, some k1 => AMap.get 0 (s.comp k i).tab ((k1 + bits w 52 6) % 1024)
  | _, _ => 0

/-- Learn at a sample, whose term was `term` (R121, R122); the tables of steering loops hold during a Ferry (R109). -/
def State.compStep (s : State) (k i : Nat) (e term : Int) : State :=
  let w := s.compWord k
  if !bit w 63 then s
  else
    let c := s.comp k i
    let learn := s.lockOk w c && s.winner k i && (!bit w 62 || s.steer.fast.valid) && !(s.ferrying && (bit w 62 || s.steerSlot k))
    let tab := match learn, s.compIndex w with
      | true, some ix =>
        let old := AMap.get 0 c.tab ix
        let d := ((bits w 32 16 : Int) * e + 32768) / 65536
        let l := bits w 58 4
        let leak := if l = 0 then 0 else old / (2 ^ l : Nat)
        let cl : Int := bits w 16 16
        AMap.put 0 c.tab ix (clampI (-cl) cl (old + d - leak))
      | _, _ => c.tab
    s.setComp k i { c with tab := tab, term := term }

/-- Clear one table (R122, `6.403`); where no table has been made there is nothing to clear. -/
def State.compClear (s : State) (ix : Nat) : State :=
  if s.forge.comps.any fun kv => kv.1 == ix then
    { s with forge := { s.forge with comps := assocPut s.forge.comps ix { assocD comp0 s.forge.comps ix with tab := [], term := 0 } } }
  else s

/-- An enable takes effect at a Landing with a cleared table and latches the period (R122): `old` is the word before. -/
def State.compEnable (s : State) (k old : Nat) : State :=
  let w := s.compWord k
  if bit w 63 && !bit old 63 then
    (List.range (lwCount (s.loopWord k))).foldl (fun s i => s.setComp k i { tab := [], p0 := s.steer.period, outside := 0, term := 0 }) s
  else s

/-- At each rising zero crossing the fast-axis locks of the instances that exist compare the period with the one latched; the sixteenth in a row outside clears
the table with event 2203h (R122). -/
def State.compCrossing (s : State) : State :=
  s.forge.comps.foldl (fun s kv =>
    let w := s.compWord (kv.1 / 4)
    if bit w 63 && bit w 62 && decide (kv.1 % 4 < lwCount (s.loopWord (kv.1 / 4))) then
      let c := assocD comp0 s.forge.comps kv.1
      if within005 s.steer.period c.p0 then { s with forge := { s.forge with comps := assocPut s.forge.comps kv.1 { c with outside := 0 } } }
      else if c.outside + 1 < 16 then { s with forge := { s.forge with comps := assocPut s.forge.comps kv.1 { c with outside := c.outside + 1 } } }
      else { s with forge := { s.forge with comps := assocPut s.forge.comps kv.1 { tab := [], p0 := s.steer.period, outside := 0, term := 0 } } }.evt 0x2203 kv.1
    else s) s

/-! ### The law (R115) -/

/-- Next output and direction: `primary5` for the member that gives the direction of target 5h (R115, R117). -/
def loopLaw (kind : Nat) (primary5 : Bool) (e b : Int) (step u : Nat) (dir : Int) : Nat × Int :=
  if kind = 1 then
    (if e > b then min (u + step) 65536 else if e < -b then u - step else u, 0)
  else if primary5 then
    if e > b then (1, 1) else if e < -b then (1, -1) else (u, dir)
  else (if e > b then 1 else if e < -b then 0 else u, 0)

/-- The slot gives the direction of the slow-axis bridge: it drives target 5h as the primary of its group or alone. -/
def State.isPrimary5 (s : State) (k : Nat) : Bool :=
  lwOut (s.loopWord k) == 5 && (match s.groupOf k with | some (p :: _) => p == k | _ => true)

/-- The voltage loop of a Quadrant, the primary of the driver of target 1h. -/
def State.voltageLoop (s : State) (k : Nat) : Bool := match s.driver 1 with | some (p :: _) => p == k | _ => false

/-- The bias of a Quadrant has left its band, or its voltage loop no longer wins or runs: it is not settled, a shadow frame fails (R421),
and a live Quadrant logs event 1204h (R124). -/
def State.biasLeft (s : State) (i : Nat) : State :=
  let q := Fin.ofNat 4 i
  let bs := s.forge.bias.get q
  let s1 := { s with forge := { s.forge with bias := s.forge.bias.set q { bs with inBand := none, settled := false } } }
  let s2 := if (s.quad q).st = 3 then s1.modQuad q fun qd => { qd with shadowBad := true } else s1
  if bs.settled && (s.quad q).st == 0 then s2.evt 0x1204 i else s2

/-- A fault of an instance: held off until the next Landing, event 2202h (R119). Counting it against the Quadrant or the axis is
the caller's. -/
def State.loopFault (s : State) (k i cause : Nat) : State :=
  ((if s.voltageLoop k then s.biasLeft i else s).setLoopInst k i { s.loopInst k i with faulted := true, u := 0, appl := 0 }).evt 0x2202 (k + 16 * i + 256 * cause)

/-- A fault of a steering slot stops that axis; the third within 10 s leaves the slot stopped (R119). -/
def State.steerSlotFault (s : State) (k : Nat) : State :=
  let fast := lwOut (s.loopWord k) == 4
  let l := ((k, s.now) :: s.forge.faults).filter fun x => s.now < x.2 + 10 * secP
  let s1 := { s with forge := { s.forge with faults := l } }
  let s2 := { s1 with steer := { s1.steer with fastStopped := s1.steer.fastStopped || fast, slowStopped := s1.steer.slowStopped || !fast } }
  let s3 := s2.posInvalid fast 6
  if 3 ≤ (l.filter fun x => x.1 == k).length then
    ({ s3 with forge := { s3.forge with stoppedSlots := k :: s3.forge.stoppedSlots } }.evt 0x3203 k).raiseCause 7
  else s3

/-- Bias settling seen at a sample of the voltage loop (R124). -/
def State.biasSample (s : State) (k i : Nat) (e b : Int) : State :=
  if s.voltageLoop k then
    let q := Fin.ofNat 4 i
    let bs := s.forge.bias.get q
    if e.natAbs ≤ b.natAbs && s.winner k i then
      match bs.inBand with
      | some _ => s
      | none => { s with forge := { s.forge with bias := s.forge.bias.set q { bs with inBand := some s.now } } }
    else s.biasLeft i
  else s

/-- One sample instant of an instance (R115, R119). Answers the fault cause of R119 when it faults: 1 result late, 2 samples
missing. -/
def State.loopSample (s : State) (k i : Nat) (ready : Bool) : State × Nat :=
  let w := s.loopWord k
  let inst := s.loopInst k i
  if !s.loopRuns k || inst.faulted || (!lwInst w && i != 0) then (s, 0)
  else if !ready then (s.loopFault k i 1, 1)
  else
    let inp := s.loopInput (lwIn w) i
    -- the value computed at the previous instant is applied now
    let i1 := { inst with running := true, appl := inst.u, applDir := inst.dir }
    if inp.2 = inst.seen || s.inputVoid (lwIn w) i then
      if 2 ≤ i1.missedNow + 1 then (s.loopFault k i 2, 2)
      else (s.setLoopInst k i { i1 with missedNow := i1.missedNow + 1, missedAll := min 255 (i1.missedAll + 1) }, 0)
    else
      let s0 := if lwRef w = 1 then s.biasTemp (Fin.ofNat 4 i) else s
      let lim := loopRange (lwIn w)
      let term := s0.compTerm k i
      let r := clampI lim.1 lim.2 (s0.baseRef k i + term)
      let e := r - inp.1
      let b := s0.band k
      let nu := loopLaw (lwKind w) (s0.isPrimary5 k) e b (s0.objN 0x6203 (k + 1)) inst.u inst.dir
      let nu := if lwRef w = 2 ∧ s0.baseRef k i = 0 then (0, 0) else nu
      let s1 := s0.setLoopInst k i { i1 with u := nu.1, dir := nu.2, err := e, missedNow := 0, seen := inp.2 }
      let s2 := s1.compStep k i e term
      (s2.biasSample k i e b, 0)

/-! ### Starting and stopping (R114, R118, R202) -/

/-- `in`, `out`, `kind` and `inst` agree with the tables of R116. -/
def fieldsOk (w : Nat) : Bool :=
  let inp := lwIn w
  let inOk := if inp < 0x20 then !lwInst w else if inp ≤ 0x22 then lwInst w else if inp = 0x23 then true else inp ≤ 0x27 && !lwInst w
  let outOk := match lwOut w with
    | 0 => true
    | 1 => lwKind w == 0 && lwInst w
    | 2 => lwKind w == 0 && lwInst w
    | 3 => lwKind w == 1 && lwInst w
    | 4 => lwKind w == 0 && !lwInst w
    | 5 => lwKind w == 0 && !lwInst w
    | _ => false
  inOk && outOk && lwKind w ≤ 1

/-- Instance samples per second of a slot; a slot once per fast-axis half period is counted at the upper end of the window. -/
def State.loopLoad (s : State) (w : Nat) : Nat :=
  lwCount w * (match lwRate w with | 6 => 2 * s.objN 0x6000 6 | 7 => 977 | r => 1000000 / 2 ^ r)

/-- Two groups share a slot. -/
def shareSlot : List (List Nat) → Bool
  | [] => false
  | g :: gs => gs.any (fun h => h.any fun k => g.contains k) || shareSlot gs

/-- The longest distance between successive samples of a selector in a pass, in steps, none when it is not in it (R202). -/
def stepGap (steps : List Nat) (sel : Nat) : Option Nat :=
  let n := steps.length
  let pos := (steps.zipIdx).filterMap fun p => if p.1 = sel then some p.2 else none
  match pos with
  | [] => none
  | f :: _ =>
    let nxt := pos.drop 1 ++ [f + n]
    some ((pos.zip nxt).foldl (fun m p => max m (p.2 - p.1)) 0)

/-- The input of a slot is sampled at least once per loop sample period, on every instance (R202); `runs` says which sequencers
run. -/
def State.sampledOk (s : State) (w : Nat) (runs : Nat → Bool) : Bool :=
  match lwIn w with
  | 0x23 => lwRate w == 7
  | 0x24 => lwRate w ≥ 6
  | inp => (List.range (lwCount w)).all fun i =>
      match loopKey inp i with
      | none => false
      | some key =>
        runs (key / 64) && (match stepGap (s.passSels (key / 64)) (key % 64) with
          | none => false
          | some g => g * 80 ≤ s.loopPeriod w)

/-- Drivers that would reach a target with a set of running slots: each group, whether its members run or not, and each ungrouped one. -/
def State.driversWith (s : State) (run : List Nat) (t : Nat) : Nat :=
  (s.groups.filter fun g => match g with | p :: _ => lwOut (s.loopWord p) == t | [] => false).length
  + (run.filter fun k => (s.groupOf k).isNone && lwOut (s.loopWord k) == t).length

/-- The start of a set of slots beside those running is allowed (R118, R202). -/
def State.startOk (s : State) (new : List Nat) : Bool :=
  let run := ((List.range 12).filter fun k => s.loopRuns k) ++ new.filter fun k => !s.loopRuns k
  let gs := s.groups
  new.all (fun k => fieldsOk (s.loopWord k) && s.sampledOk (s.loopWord k) s.seqRuns)
  && !shareSlot gs
  && gs.all (fun g => match g with
      | [] => true
      | p :: _ => g.all fun k => lwOut (s.loopWord k) == lwOut (s.loopWord p) && lwKind (s.loopWord k) == lwKind (s.loopWord p)
          && lwInst (s.loopWord k) == lwInst (s.loopWord p))
  && [1, 2, 3, 4, 5].all (fun t => s.driversWith run t ≤ 1)
  && (run.map fun k => s.loopLoad (s.loopWord k)).sum ≤ 24000000

/-- A slot starts from its initial state. -/
def State.loopOn (s : State) (k : Nat) : State :=
  let s1 := s.setObj 0x6210 (k + 1) 1
  (List.range (lwCount (s.loopWord k))).foldl (fun s i => s.setLoopInst k i { loopInit (lwKind (s.loopWord k)) with seen := (s.loopInput (lwIn (s.loopWord k)) i).2 }) s1

/-- A slot stops, and a fault that was holding it ends. -/
def State.loopOff (s : State) (k : Nat) : State :=
  let s0 := if s.voltageLoop k then (List.range 4).foldl State.biasLeft s else s
  let s1 := s0.setObj 0x6210 (k + 1) 0
  (List.range 4).foldl (fun s i => s.setLoopInst k i { s.loopInst k i with
    running := false, faulted := false, u := 0, appl := 0, dir := 0, applDir := 0 }) s1

/-- Steering slots, in order (R118). -/
def State.steerSlots (s : State) : List Nat := (List.range 12).filter s.steerSlot

/-- Checks of a start through `6.210` (R118): a steering slot follows steering. -/
def State.loopStartCodes (s : State) (k : Nat) : List Nat :=
  if s.steerSlot k then when (!s.steer.running) 0x0601
  else when (!s.loopRuns k && !s.startOk [k]) 0x0301

/-- Checks of a stop through `6.210` (R118). -/
def State.loopStopCodes (s : State) (k : Nat) : List Nat :=
  let t := lwOut (s.loopWord k)
  let idle := s.life.st == .config || s.life.st == .service || quads4.all fun q => (s.quad q).st == 5 || (s.quad q).st == 7
  when (((t == 1 || t == 2 || t == 3) && s.loopRuns k && !idle) || ((t == 4 || t == 5) && s.steer.running)) 0x0601

/-- Effect of an accepted write to a member of `6.210`: steering slots run exactly while steering runs. -/
def State.loopRunWrite (s : State) (k : Nat) (on was : Bool) : State :=
  if s.steerSlot k then s.setObj 0x6210 (k + 1) (b2n s.steer.running : Nat)
  else if on && !was then s.loopOn k
  else if !on && was then s.loopOff k
  else s

/-- Faulted slots re-initialise and restart at the next Landing; a slot stopped after repeated faults stays so (R119). Of a slot with four
instances the faulted one alone does (DESIGN CHOICE, log entry 92). -/
def State.loopsLanding (s : State) : State :=
  let s1 := s.forge.inst.foldl (fun s kv =>
    if kv.2.faulted && s.loopRuns (kv.1 / 4) && !s.forge.stoppedSlots.contains (kv.1 / 4) then
      s.setLoopInst (kv.1 / 4) (kv.1 % 4) { loopInit (lwKind (s.loopWord (kv.1 / 4))) with seen := kv.2.seen, missedAll := kv.2.missedAll }
    else s) s
  let fastBack := s1.steer.fastStopped && !(s1.forge.stoppedSlots.any fun k => lwOut (s1.loopWord k) == 4)
  let slowBack := s1.steer.slowStopped && !(s1.forge.stoppedSlots.any fun k => lwOut (s1.loopWord k) == 5)
  let s2 := if fastBack && s1.steer.running then { s1 with steer := { s1.steer with fastStopped := false } }.causeGone true 6 else s1
  if slowBack && s2.steer.running then { s2 with steer := { s2.steer with slowStopped := false } }.causeGone false 6 else s2

/-- Steering and its slots start together (R118). -/
def State.steeringOn (s : State) : State :=
  let s1 := (s.steerStart).steerSlots.foldl State.loopOn s.steerStart
  { s1 with forge := { s1.forge with stoppedSlots := [], faults := [] } }.setCause 7 false

/-- Steering and its slots stop together (R118). -/
def State.steeringOff (s : State) : State :=
  let s1 := s.steerStop
  s1.steerSlots.foldl State.loopOff s1

/-- The bias of a Quadrant has been inside its band, with the voltage loop as winner, for 1 ms (R124). -/
def State.biasSettled (s : State) (q : Fin 4) : State :=
  let b := s.forge.bias.get q
  match b.inBand with
  | some t => if t + msP ≤ s.now then { s with forge := { s.forge with bias := s.forge.bias.set q { b with settled := true } } } else s
  | none => s

/-- The detector temperature has been lost for 100 ms: −55 °C is used and event 1203h logged (R123). -/
def State.tempFallback (s : State) (q : Fin 4) : State :=
  let b := s.forge.bias.get q
  match (if s.obj 0x6500 (4 * q + 4) < 0 then none else b.lostAt) with
  | some t =>
    if !b.fallback && t + 100 * msP ≤ s.now then
      { s with forge := { s.forge with bias := s.forge.bias.set q { b with fallback := true } } }.evt 0x1203 q.val
    else s
  | none => s

end Sys2Proof.Machine
end

