-- ==== Sys2Proof/Machine/Filter.lean ====
section
/-! DEFINITION. The filter and resampling engine and angle stamping (R220 ... R225). -/

namespace Sys2Proof.Machine

/-- Configuration word of a filter channel and its fields (R220). -/
def State.filtWord (s : State) (k : Nat) : Nat := s.objN 0x7600 (k + 1)
def fwAdc (w : Nat) : Nat := bits w 30 2
def fwStep (w : Nat) : Nat := bits w 26 4
def fwLin (w : Nat) : Bool := bit w 25
def fwDec (w : Nat) : Nat := bits w 19 6 + 1
def fwOrd (w : Nat) : Nat := bits w 17 2 + 1
def fwTaps (w : Nat) : Nat := bits w 10 7 + 1

/-- Input and output periods in reference periods (R220). -/
def State.pIn (s : State) (w : Nat) : Nat := s.objN 0x7001 (fwAdc w + 1) * 80
def State.pOut (s : State) (w : Nat) : Nat := fwDec w * s.pIn w

/-- Selector a channel's step names (R201). -/
def State.filtSel (s : State) (w : Nat) : Nat := bits (s.objN 0x7000 (16 * fwAdc w + fwStep w + 1)) 10 6

/-- The channel's source is the position signal of an excitation channel (R200, R223). -/
def State.filtPos (s : State) (w : Nat) : Bool := s.filtSel w == 0x18 && fwAdc w ≤ 1

def filt0 : FiltCh := { integ := [], comb := [], phase := 0, hist := [], inbox := [], lastIn := 0, flagRun := 0, outs := [], rate := 0 }

def State.filtCh (s : State) (k : Nat) : FiltCh := assocD filt0 s.ana.filt k

def State.setFilt (s : State) (k : Nat) (c : FiltCh) : State := { s with ana := { s.ana with filt := assocPut s.ana.filt k c } }

def State.filtRuns (s : State) (k : Nat) : Bool := s.obj 0x7601 (k + 1) == 1 && !s.ana.filtStopped

/-- FIR coefficients of a channel. -/
def State.firCoef (s : State) (k : Nat) : List Int :=
  (List.range (s.objN (0x7610 + k) 0)).map fun i => s.obj (0x7610 + k) (i + 1)

/-- 64-bit two's complement. -/
def wrap64 (v : Int) : Int := toSigned 64 (ofInt 64 v)

/-- n integrators in cascade at the input rate: each adds the one before it. -/
def integrate : List Int → Int → List Int
  | [], _ => []
  | a :: as, x => wrap64 (a + x) :: integrate as (wrap64 (a + x))

/-- n combs in cascade at the output rate: each subtracts its previous input; answers the new memories and the output. -/
def combs : List Int → Int → List Int × Int
  | [], x => ([], x)
  | m :: ms, x => let r := combs ms (wrap64 (x - m)); (x :: r.1, r.2)

/-- Scaled CIC output v (R221). -/
def cicScale (sum : Int) (d n : Nat) : Int :=
  let k : Nat := (2 * 2 ^ 32 + d ^ n) / (2 * d ^ n)
  (sum * k + 2 ^ 31) / (2 ^ 32 : Nat)

/-- FIR output y before saturation (R221); `hist` newest first. A sum that 48 bits do not hold gives the free value `f`: no rule states
the result (log entry 65). -/
def firOut (c : List Int) (hist : List Int) (f : Int) : Int :=
  let sum := (c.zip hist).foldl (fun a p => a + p.1 * p.2) 0
  if -(2 ^ 47) ≤ sum ∧ sum < 2 ^ 47 then (sum + 2 ^ 13) / (2 ^ 14 : Nat) else f

/-- Saturation of an output: codes and angles to 0 ... FFFFh, other linearised values to I32 (R221). -/
def firSat (code : Bool) (y : Int) : Int :=
  if code then clampI 0 65535 y else clampI (-2147483648) 2147483647 y

/-- Outputs that are kept: the newest 64, and those that a search for an angle may still look back on, over two fast-axis periods (R83). -/
def State.keepOuts (s : State) (l : List FiltOut) : List FiltOut :=
  l.take 64 ++ (l.drop 64).takeWhile fun o => s.now ≤ o.prod + 2 * s.steer.period

/-- Enter one input sample; answers the channel and whether an output was produced (R207, R221). -/
def State.filtEnter (s : State) (k : Nat) (c : FiltCh) (x : Int × Nat × Nat × Nat) : FiltCh × Bool :=
  let w := s.filtWord k
  let d := fwDec w
  let n := fwOrd w
  let v0 := if x.2.2.1 = 0 then x.1 else c.lastIn
  let fl := max c.flagRun x.2.2.1
  let integ := if d = 1 then [] else integrate (if c.integ.length = n then c.integ else List.replicate n 0) v0
  let c1 := { c with lastIn := v0, flagRun := fl, integ := integ, phase := c.phase + 1 }
  if c1.phase < d then (c1, false)
  else
    let cm := combs (if c.comb.length = n then c.comb else List.replicate n 0) (integ.getLastD 0)
    let v := if d = 1 then v0 else cicScale cm.2 d n
    let hist := (v :: c1.hist).take (fwTaps w)
    let y := firSat (!fwLin w || s.filtPos w) (firOut (s.firCoef k) (hist ++ List.replicate (fwTaps w - hist.length) 0) (Config.freeInt (s.free + k)))
    let prev := match c.outs with | o :: _ => o.y | [] => 0
    let y := if fl = 1 then prev else y
    let pin := s.pIn w
    let po := s.pOut w
    let delay := n * (d - 1) * pin + (fwTaps w - 1) * po   -- twice the group delay
    let t : Int := (x.2.1 : Int) - (delay / 2 : Nat)
    let tk : Int := (x.2.2.2 : Int) - (delay * 81920 : Nat)
    let rate := ((y - prev) * 65536 * 1000 * 2).tdiv (((max 1 po) * 5 : Nat) : Int)
    ({ c1 with phase := 0, comb := if d = 1 then [] else cm.1, hist := hist, flagRun := 0, outs := s.keepOuts ({ y := y, at_ := t, tk := tk, flag := fl, prod := s.now } :: c.outs), rate := rate }, true)

/-- Enter waiting samples until one output has been produced: at most one per round (R220). -/
def State.filtDrain (s : State) (k : Nat) : Nat → FiltCh → FiltCh × Bool
  | 0, c => (c, false)
  | n + 1, c =>
    match c.inbox with
    | [] => (c, false)
    | x :: rest =>
      let r := s.filtEnter k { c with inbox := rest } x
      if r.2 then r else s.filtDrain k n r.1

/-- An output for the capture engine: a record, and with the output before it an occurrence (R256, R263). -/
def State.noteOutput (s : State) (k : Nat) (o : FiltOut) (prev : Option Int) : State :=
  let t := o.tk.toNat
  let s1 := s.capNote 7 k t (ofInt 32 o.y * 2 ^ 32 + b2n (o.flag == 1) * 2 ^ 31 + b2n (o.flag == 2) * 2 ^ 30)
  match prev with
  | some p => s1.occNote t (.crossing k p o.y)
  | none => s1

/-- One channel's part of a round: the output stands in `7.641`, and the steering stream runs again with a good output of a
stamping channel (cause 5 of R105). -/
def State.filtOne (s : State) (k : Nat) : State :=
  if !s.filtRuns k then s
  else
    let c := s.filtCh k
    let r := s.filtDrain k c.inbox.length c
    let s1 := s.setFilt k r.1
    match r.2, r.1.outs with
    | true, o :: _ =>
      let s2 := (s1.setObj 0x7641 (k + 1) o.y).noteOutput k o (r.1.outs[1]?.map (·.y))
      let s3 := if s2.objN 0x7602 1 = k ∧ o.flag = 0 then s2.causeGone true 5 else s2
      if s3.objN 0x7602 2 = k ∧ o.flag = 0 then s3.causeGone false 5 else s3
    | _, _ => s1

/-- A round of 1 µs (R220). -/
def State.filterRound (s : State) : State :=
  if s.ana.filtStopped then s
  else
    let s1 := (List.range 16).foldl State.filtOne s
    { s1 with ana := { s1.ana with rounds := s1.ana.rounds + 1 }, free := s1.free + 16 }

/-- A round has not completed in 2 µs: the engine restarts with cleared state, and after the third such fault within 10 s stays
stopped (R222). -/
def State.filterOverrun (s : State) : State :=
  if s.ana.filtStopped then s
  else
    let l := (s.now :: s.ana.filtFaults).filter fun t => s.now < t + 10 * secP
    let s1 := { s with ana := { s.ana with filt := [], filtFaults := l } }
    let s2 := (s1.bump 0x7640 0x11 1).evt 0x2701 (s.ana.rounds % 65536)
    let s3 := (s2.posInvalid true 5).posInvalid false 5
    if 3 ≤ l.length then
      ({ s3 with ana := { s3.ana with filtStopped := true } }.evt 0x3702 0).raiseCause 9 |>.sourceLost (s3.capWants 7)
    else s3

/-- Twice the stamp latency bound L of a channel, in ns (R223). -/
def State.latency2 (s : State) (w : Nat) : Nat :=
  let pin := s.objN 0x7001 (fwAdc w + 1) * 200
  2600 + 2 * pin + fwOrd w * (fwDec w - 1) * pin + (fwTaps w + 3) * (fwDec w * pin)

/-- Symmetric coefficients (R223). -/
def symmetric (c : List Int) : Bool := c == c.reverse

/-- A stamping channel meets R223: its source, its linearised value, its symmetry, and L at most 10 µs. -/
def State.stampOk (s : State) (fast : Bool) : Bool :=
  let k := s.objN 0x7602 (if fast then 1 else 2)
  let w := s.filtWord k
  s.filtSel w == 0x18 && fwAdc w == (if fast then 0 else 1) && fwLin w && symmetric (s.firCoef k) && s.latency2 w ≤ 20000

/-- Checks of the start of a filter channel (R220, R222, R223). -/
def State.filtStartCodes (s : State) (k : Nat) : List Nat :=
  let w := s.filtWord k
  let stamping := s.objN 0x7602 1 == k || s.objN 0x7602 2 == k
  when (s.pOut w < 400 || s.objN (0x7610 + k) 0 != fwTaps w || (stamping && !(s.stampOk true && s.stampOk false))) 0x0301

/-- Checks of a stop (R222). -/
def State.filtStopCodes (s : State) (k : Nat) : List Nat :=
  when ((s.objN 0x7602 1 == k || s.objN 0x7602 2 == k) && s.steer.running) 0x0601

/-- A channel stops (R222, R260): with a stamping channel the steering stream of its axis does (R105 cause 5). -/
def State.filtOff (s : State) (k : Nat) : State :=
  let s1 := if s.objN 0x7602 1 = k then s.posInvalid true 5 else s
  let s2 := if s.objN 0x7602 2 = k then s1.posInvalid false 5 else s1
  s2.sourceLost (s.capWants 7 && bit (s.objN 0xA012 2) k)

/-- A channel starts with cleared state. -/
def State.filtOn (s : State) (k : Nat) : State := s.setFilt k filt0

/-- A new input sample for the channels that take it: those of the converter and the step (R220); the class is that of R207. -/
def State.filtFeed (s : State) (adc step : Nat) (cal lin : Int) (cls at_ tk : Nat) : State :=
  (List.range 16).foldl (fun s k =>
    let w := s.filtWord k
    if s.filtRuns k && fwAdc w == adc && fwStep w == step then
      let c := s.filtCh k
      let fl := if cls = 2 then 1 else if cls = 3 then 2 else 0
      s.setFilt k { c with inbox := c.inbox ++ [((if fwLin w then lin else cal), at_, fl, tk)] }
    else s) s

/-! ### Stamps (R224, R225) -/

/-- Coefficient h[p][i]. -/
def State.interpCoef (s : State) (p i : Nat) : Int := s.obj 0x7620 (4 * p + i + 1)

/-- The span y[m−1 ... m+2] around an instant in half ns, with t_m: the outputs newest first. -/
def spanAt (t2 : Int) : List FiltOut → Option (FiltOut × FiltOut × FiltOut × FiltOut)
  | d :: c :: b :: a :: rest =>
    if b.at_ * 5 ≤ t2 ∧ t2 < c.at_ * 5 then some (a, b, c, d) else spanAt t2 (c :: b :: a :: rest)
  | _ => none

/-- v(m, p) of R224. -/
def State.interpV (s : State) (p : Nat) (sp : FiltOut × FiltOut × FiltOut × FiltOut) : Int :=
  if p = 64 then 16384 * sp.2.2.1.y
  else s.interpCoef p 0 * sp.1.y + s.interpCoef p 1 * sp.2.1.y + s.interpCoef p 2 * sp.2.2.1.y + s.interpCoef p 3 * sp.2.2.2.y

/-- The interpolated angle at an instant in half ns; none when the stamp is invalid (R224, R225). -/
def State.stampAt (s : State) (fast : Bool) (t2 : Nat) : Option Nat :=
  let k := s.objN 0x7602 (if fast then 1 else 2)
  let c := s.filtCh k
  match spanAt t2 c.outs with
  | none => none
  | some sp =>
    if sp.1.flag ≠ 0 ∨ sp.2.1.flag ≠ 0 ∨ sp.2.2.1.flag ≠ 0 ∨ sp.2.2.2.flag ≠ 0 then none
    else if !(s.axis fast).validAtTime (t2 / 5) then none
    else
      let p := s.pOut (s.filtWord k) * 5   -- Pout in half ns
      let u := (((t2 : Int) - sp.2.1.at_ * 5) * 16384 / (max 1 p : Nat)).toNat
      let phi := min 63 (u / 256)
      let r := u % 256
      some (clampI 0 65535 ((s.interpV phi sp * (256 - r) + s.interpV (phi + 1) sp * r + 2 ^ 21) / (2 ^ 22 : Nat))).toNat

/-- The line through two outputs, newer first, at an instant, less a code: its sign and zeros are those of forecast less `trig`. -/
def lineLess (a b : FiltOut) (trig : Nat) (t : Int) : Int := (a.y - trig) * (a.at_ - b.at_) + (a.y - b.y) * (t - a.at_)

/-- A line reaches or crosses zero after one instant and up to another. -/
def meetsZero (x y : Int) : Bool := y == 0 && x != 0 || decide (x * y < 0)

/-- The lines that forecasts followed up to period `b`, newest first: each with its first and last period and its two outputs (R225). -/
def lines (b : Int) : List FiltOut → List (Int × Int × FiltOut × FiltOut)
  | x :: y :: rest => ((x.prod : Int), b, x, y) :: lines ((x.prod : Int) - 1) (y :: rest)
  | _ => []

/-- The first period after `a` and up to `b` at which the lines, oldest first, reach or cross `trig`, in either direction; `prev` is the
value at the period before, less `trig`: a refresh may carry the forecast across. -/
def firstReach (trig : Nat) (a b : Int) : Option Int → List (Int × Int × FiltOut × FiltOut) → Option Int
  | _, [] => none
  | prev, (lo0, hi0, x, y) :: rest =>
    let lo := max lo0 a
    let hi := min hi0 b
    if hi < lo then firstReach trig a b prev rest
    else if x.at_ = y.at_ then firstReach trig a b none rest
    else
      let u := lineLess x y trig lo
      let m := x.y - y.y
      let d : Int := if u * m < 0 then ((u.natAbs + m.natAbs - 1) / m.natAbs : Nat) else 0
      if (match prev with | some p => meetsZero p u | none => false) then some lo
      else if 0 < d ∧ lo + d ≤ hi then some (lo + d)
      else firstReach trig a b (some (lineLess x y trig hi)) rest

/-- The first period after `a` and up to `b` at which the forecast of the fast-axis angle reaches or crosses `trig` (R83, R225). -/
def State.angleFirst (s : State) (trig : Nat) (a b : Int) : Option Int :=
  firstReach trig a b none (lines b (s.stampCh true).outs).reverse

/-- It does so at all. -/
def State.angleSeen (s : State) (trig : Nat) (a b : Int) : Bool := (s.angleFirst trig a b).isSome

/-- Forecast of the fast-axis angle now, extrapolated linearly from the newest two outputs (R225). -/
def State.forecastAz (s : State) (t : Nat) : Nat :=
  let c := s.stampCh true
  match c.outs with
  | a :: b :: _ =>
    let dt := a.at_ - b.at_
    (clampI 0 65535 (if dt = 0 then a.y else a.y + (a.y - b.y) * ((t : Int) - a.at_) / dt)).toNat
  | [a] => (clampI 0 65535 a.y).toNat
  | [] => 32768

end Sys2Proof.Machine
end

