-- ==== Sys2Proof/Machine/Float32.lean ====
section
/-! DEFINITION. IEEE 754 binary32 arithmetic, rounding to nearest even, on bit patterns (R13, R216). A pattern with exponent field
255 is not finite, and every operation on one gives the pattern 7FC00000h. -/

namespace Sys2Proof.Machine

/-- Not finite. -/
def f32NonFinite (b : Nat) : Bool := bits b 23 8 == 255

/-- The pattern used for every result that is not finite. -/
def f32NaN : Nat := 0x7FC00000

/-- A finite pattern as mantissa and exponent: value = ± m · 2^(e - 149), with e ≥ 0. -/
def f32Mant (b : Nat) : Nat := if bits b 23 8 = 0 then bits b 0 23 else bits b 0 23 + 2 ^ 23
def f32Exp (b : Nat) : Nat := bits b 23 8 - 1
def f32Signed (b : Nat) : Int := if bit b 31 then -(f32Mant b : Int) else f32Mant b

/-- Bit length. -/
def bitLen (n : Nat) : Nat := if n = 0 then 0 else Nat.log2 n + 1

/-- Round m · 2^(e - 149) / 2^k to binary32, where a nonzero `sticky` adds a part below the last bit. -/
def f32Round (neg : Bool) (m e k : Nat) (sticky : Bool) : Nat :=
  if m = 0 ∧ !sticky then (if neg then 2 ^ 31 else 0)
  else
    -- exponent of the unit of the result: at least 0, and such that the mantissa has at most 24 bits
    let top := bitLen m + e            -- value < 2^(top - k - 149)
    let unit := if top ≤ 24 + k then 0 else top - 24 - k
    -- mantissa = m · 2^e / 2^(k + unit)
    let den := 2 ^ (k + unit)
    let num := m * 2 ^ e
    let q := num / den
    let r := num % den
    let up := 2 * r > den ∨ (2 * r = den ∧ (sticky ∨ q % 2 = 1))
    let q1 := if up then q + 1 else q
    let uq := if q1 = 2 ^ 24 then (unit + 1, 2 ^ 23) else (unit, q1)
    let pat := if uq.2 < 2 ^ 23 then uq.2 else (uq.1 + 1) * 2 ^ 23 + (uq.2 - 2 ^ 23)
    if pat ≥ 255 * 2 ^ 23 then f32NaN else (if neg then pat + 2 ^ 31 else pat)

/-- Sum. -/
def f32Add (a b : Nat) : Nat :=
  if f32NonFinite a ∨ f32NonFinite b then f32NaN
  else
    let s := f32Signed a * 2 ^ f32Exp a + f32Signed b * 2 ^ f32Exp b
    if s = 0 then (if bit a 31 ∧ bit b 31 then 2 ^ 31 else 0)
    else f32Round (s < 0) s.natAbs 0 0 false

/-- Product. -/
def f32Mul (a b : Nat) : Nat :=
  if f32NonFinite a ∨ f32NonFinite b then f32NaN
  else f32Round (bit a 31 != bit b 31) (f32Mant a * f32Mant b) (f32Exp a + f32Exp b) 149 false

/-- Quotient by a positive integer below 2^24. -/
def f32DivNat (a d : Nat) : Nat :=
  if f32NonFinite a ∨ d = 0 then f32NaN
  else
    let n := f32Mant a * 2 ^ f32Exp a * 2 ^ 40
    f32Round (bit a 31) (n / d) 0 40 (n % d != 0)

/-- The integer n / 2^k, rounded. -/
def f32OfInt (n : Int) (k : Nat) : Nat := f32Round (n < 0) n.natAbs 149 k false

/-- Nearest integer of a finite pattern, ties to even. -/
def f32ToInt (a : Nat) : Int :=
  let num : Nat := f32Mant a * 2 ^ f32Exp a
  let q : Nat := num / 2 ^ 149
  let r : Nat := num % 2 ^ 149
  let q1 : Nat := if 2 * r > 2 ^ 149 ∨ (2 * r = 2 ^ 149 ∧ q % 2 = 1) then q + 1 else q
  if bit a 31 then -(q1 : Int) else (q1 : Int)

/-- p_j of R216 for coefficients c0 ... c4. -/
def f32Poly (c : Nat → Nat) (x : Nat) : Nat :=
  f32Add (f32Mul (f32Add (f32Mul (f32Add (f32Mul (f32Add (f32Mul (c 4) x) (c 3)) x) (c 2)) x) (c 1)) x) (c 0)

/-- The linearised value before saturation, none when it is not finite (R216): `c j i` is c_ij, `t16` the temperature in 1/16 °C. -/
def linearise (c : Nat → Nat → Nat) (cal : Int) (t16 : Option Int) : Option Int :=
  let x := f32DivNat (f32OfInt (cal - 32768) 0) 32768
  let t := match t16 with
    | none => 0
    | some v => f32DivNat (f32Add (f32OfInt v 4) (f32OfInt (-25) 0)) 100
  let y := f32Add (f32Mul (f32Add (f32Mul (f32Poly (c 2) x) t) (f32Poly (c 1) x)) t) (f32Poly (c 0) x)
  if f32NonFinite y then none else some (f32ToInt y)

end Sys2Proof.Machine
end

