-- ==== Sys2Proof/Machine/Analogue.lean ====
section
/-! DEFINITION. Converters and their sequencers, calibration, accumulators and min-max trackers, sense faults and supply monitors
(R199 ... R219, R386). -/

namespace Sys2Proof.Machine

/-- Key of an input: converter and selector (R200). -/
def inKey (c sel : Nat) : Nat := 64 * c + sel

/-- Key of an input's range in the tables of trims (R208). -/
def trimKey (c sel rng : Nat) : Nat := 128 * c + 2 * sel + rng

/-- The converter reaches the selector (R200). -/
def reaches (c sel : Nat) : Bool :=
  sel ≤ 7 || (0x10 ≤ sel && sel ≤ 0x14) || sel == 0x18 || (sel == 0x19 && c ≤ 1) || sel == 0x20 || sel == 0x21

/-- Member of `7.020` of a two-range input (R206). -/
def rangeMember (c sel : Nat) : Option Nat :=
  if sel = 0x10 then some (c + 1) else if sel = 0x13 ∨ sel = 0x14 then some (5 + 2 * c + (sel - 0x13)) else none

/-- Position signal of an excitation channel (R200). -/
def isPosition (c sel : Nat) : Bool := c ≤ 1 && sel == 0x18

def State.adc (s : State) (c : Fin 4) : Adc := s.ana.adcs.get c
def State.setAdc (s : State) (c : Fin 4) (a : Adc) : State := { s with ana := { s.ana with adcs := s.ana.adcs.set c a } }

/-- The sequencer of a converter runs (R202, R203). -/
def State.adcRuns (s : State) (c : Fin 4) : Bool := s.fromConfig && s.seqRuns c.val && !(s.adc c).stopped

def range0 : RangeSt := { fine := false, switched := false, passHigh := false, passOver7168 := false, lowPasses := 0, sampled := false }
def State.rangeOf (s : State) (key : Nat) : RangeSt := assocD range0 s.ana.ranges key
def State.setRange (s : State) (key : Nat) (r : RangeSt) : State := { s with ana := { s.ana with ranges := assocPut s.ana.ranges key r } }

/-- Offset and gain in effect: a stored calibration, else the factory trim (R208). -/
def State.trimOf (s : State) (k : Nat) : Trim :=
  assocD { off16 := Config.trimOff k, gain := Config.trimGain k, sys := false } s.ana.trims k

/-- The calibrated code (R208). -/
def calCode (raw : Nat) (t : Trim) : Int :=
  clampI 0 65535 (((16 * (raw : Int) - t.off16) * t.gain + 2 ^ 33) / (2 ^ 34 : Nat))

/-- An instant in reference periods, on the Time Keeper timescale in 2^-16 ns (R199). -/
def State.sampleTk (s : State) (at_ : Nat) : Nat := s.capNow - (s.now - at_) * 163840

/-- A sequencer samples at the step its grid has reached (R199): one sample a step, at pass start + s × 200 ns. -/
def State.adcSample (s : State) (c : Fin 4) : State :=
  let a := s.adc c
  if s.adcRuns c && a.step < s.objN 0x7001 (c.val + 1) && a.passAt + 80 * a.step ≤ s.now then
    let sel := bits (s.objN 0x7000 (16 * c.val + a.step + 1)) 10 6
    let key := inKey c.val sel
    let r := s.rangeOf key
    let t := a.passAt + 80 * a.step
    let s1 := s.setAdc c { a with
      step := a.step + 1
      taken := a.taken ++ [{ step := a.step, pass := a.passAt, sel := sel, at_ := t, tk := s.sampleTk t, fine := r.fine, trans := r.switched }] }
    if r.switched then s1.setRange key { r with switched := false } else s1
  else s

/-! ### Accumulators and min-max trackers (R211 ... R214) -/

def window0 : Window := { sum := 0, count := 0, exOver := 0, exTrans := 0, exInv := 0, offered := 0, lo := 0xFFFFFFFF, hi := 0, flags := 0, pend := [] }

/-- Configuration word of an accumulator, or of a tracker, and its fields (R211, R214). -/
def State.winWord (s : State) (mm : Bool) (n : Nat) : Nat := s.objN (if mm then 0x7200 else 0x7100) (n + 1)
def wwOn (w : Nat) : Bool := bit w 31
def wwWin (w : Nat) : Nat := bits w 28 2
def wwKey (w : Nat) : Nat := inKey (bits w 26 2) (bits w 20 6)
def wwLen (w : Nat) : Nat := bits w 0 20

def State.window (s : State) (mm : Bool) (n : Nat) : Window := assocD window0 (if mm then s.ana.mms else s.ana.accs) n

def State.setWindow (s : State) (mm : Bool) (n : Nat) (v : Window) : State :=
  if mm then { s with ana := { s.ana with mms := assocPut s.ana.mms n v } }
  else { s with ana := { s.ana with accs := assocPut s.ana.accs n v } }

/-- One sample into one window (R207, R211, R214): class 0 clean, 1 over-range, 2 transition, 3 invalid. -/
def Window.add (w : Window) (v cls : Nat) : Window :=
  let w := { w with offered := w.offered + 1 }
  match cls with
  | 0 => { w with sum := w.sum + v, count := w.count + 1, lo := min w.lo v, hi := max w.hi v }
  | 1 => { w with exOver := w.exOver + 1, flags := setBit w.flags 3 }
  | 2 => { w with exTrans := w.exTrans + 1 }
  | _ => { w with exInv := w.exInv + 1 }

/-- The window with every sample that it holds so far. -/
def Window.all (w : Window) : Window := { w.pend.foldl (fun w x => w.add x.2.1 x.2.2) w with pend := [] }

/-- A new sample; one taken 5 µs ago or earlier stays for good: its pass, at most 3.2 µs long, can no longer fault. -/
def Window.feed (w : Window) (now at_ v cls : Nat) : Window :=
  let w1 := (w.pend.filter fun x => x.1 + 2000 ≤ now).foldl (fun w x => w.add x.2.1 x.2.2) w
  { w1 with pend := (w.pend.filter fun x => now < x.1 + 2000) ++ [(at_, v, cls)] }

/-- The sequencer of a converter is stopped, or restarts (R203). -/
def State.seqStopped (s : State) (c : Fin 4) : Bool := !s.adcRuns c || decide (s.now < (s.adc c).passAt)

/-- Converter of a window's configuration word. -/
def wwAdc (w : Nat) : Fin 4 := Fin.ofNat 4 (bits w 26 2)

/-- A cleared window: one that starts while its sequencer is stopped says so (`7.140`.08). -/
def State.clearWindow (s : State) (mm : Bool) (n : Nat) : Window :=
  let w := s.winWord mm n
  if wwOn w && s.seqStopped (wwAdc w) then { window0 with flags := 4 } else window0

/-- Publication at one instant: values, counts, flags, the next generation, and a cleared window (R212, R214). -/
def State.publishWin (s : State) (mm : Bool) (n : Nat) (flag : Nat) : State :=
  let w := (s.window mm n).all
  let o := (if mm then 0x7240 else 0x7140) + n
  let gen : Int := ((s.objN o 4 + 1) % 65536 : Nat)
  let f0 := if s.seqStopped (wwAdc (s.winWord mm n)) then setBit w.flags 2 else w.flags
  let fl := if flag = 8 then f0 else setBit f0 flag
  let s1 := if mm then
      ((((s.setObj o 1 w.lo).setObj o 2 w.hi).setObj o 3 (s.u32Of w.count)).setObj o 4 gen).setObj o 5 fl
    else
      (((((((s.setObj o 1 (w.sum % 2 ^ 32 : Nat)).setObj o 2 (w.sum / 2 ^ 32 : Nat)).setObj o 3 (s.u32Of w.count)).setObj o 4 gen).setObj o 5
        (s.u32Of w.exOver)).setObj o 6 (s.u32Of w.exTrans)).setObj o 7 (s.u32Of w.exInv)).setObj o 8 (fl % 8 : Nat)
  s1.setWindow mm n (s1.clearWindow mm n)

/-- The window of a count of samples is full (R211, R212). -/
def State.windowDue (s : State) (mm : Bool) (n : Nat) : Bool :=
  let w := s.winWord mm n
  wwOn w && wwWin w == 0 && wwLen w ≤ (s.window mm n).all.offered

/-- End the window of an accumulator or tracker whose condition is met. -/
def State.windowEnd (s : State) (mm : Bool) (n : Nat) : State :=
  if s.windowDue mm n then s.publishWin mm n 8 else s

/-- A sample reaches every accumulator and tracker of its input; a window that is full, or whose count the sample would make pass FFFFFFFFh,
is published first (R212). -/
def State.windowsFeed (s : State) (key at_ v cls : Nat) : State :=
  (List.range 64).foldl (fun s n =>
    let one (s : State) (mm : Bool) : State :=
      let w := s.winWord mm n
      if wwOn w && wwKey w == key then
        let s0 := s.windowEnd mm n
        let s1 := if cls = 0 ∧ 0xFFFFFFFF ≤ (s0.window mm n).all.count then s0.publishWin mm n 0 else s0
        (s1.setWindow mm n ((s1.window mm n).feed s.now at_ v cls)).windowEnd mm n
      else s
    one (one s false) true) s

/-- Publish every enabled window of a kind: 1 Landing, 2 housekeeping round, 3 on command (R211, R212). -/
def State.windowsEnd (s : State) (mm : Bool) (win : Nat) : State :=
  (List.range 64).foldl (fun s n =>
    let w := s.winWord mm n
    if wwOn w && wwWin w == win then s.publishWin mm n 8 else s) s

/-- Set a flag of every window an input feeds. -/
def State.windowsFlag (s : State) (c f : Nat) : State :=
  (List.range 64).foldl (fun s n =>
    let one (s : State) (mm : Bool) : State :=
      let w := s.winWord mm n
      if wwOn w && bits w 26 2 == c then
        let v := s.window mm n
        s.setWindow mm n { v with flags := setBit v.flags f }
      else s
    one (one s false) true) s

/-- Publish the partial windows an input feeds with the calibration-changed flag (R210). -/
def State.windowsCal (s : State) (key : Nat) : State :=
  (List.range 64).foldl (fun s n =>
    let one (s : State) (mm : Bool) : State :=
      let w := s.winWord mm n
      if wwOn w && wwKey w == key then s.publishWin mm n 1 else s
    one (one s false) true) s

/-- Bits of a configuration word that R211 lets be set: `len` 1 ... 1,048,575 for window 0 and zero otherwise. -/
def winWordOk (w : Nat) : Bool :=
  !bit w 30 && reaches (bits w 26 2) (bits w 20 6) && (if wwWin w = 0 then !wwOn w || 1 ≤ wwLen w else wwLen w == 0)

/-! ### Linearisation (R216, R217) -/

/-- Assignment word of an input; FFFFh where none can be assigned. -/
def State.assignOf (s : State) (c sel : Nat) : Nat :=
  if sel ≤ 7 then s.objN 0x7501 (8 * c + sel + 1)
  else if isPosition c sel then s.objN 0x7501 (0x21 + c)
  else 0xFFFF

/-- Newest temperature of a source in 1/16 °C; none without a source (R217). -/
def State.tempOf (s : State) (src : Nat) : Option Int :=
  if src < 0x20 then some (s.newestOf (inKey (src / 8) (src % 8))).lin
  else if src < 0x30 then some (assocD 400 s.ana.siteT (src - 0x20))
  else if src < 0x34 then some (assocD 400 s.ana.siteT (src - 0x30 + 16))
  else none

/-- Result of the linearisation of a calibrated code: 0 no set is assigned, 1 a value, 2 not finite. -/
def State.lineariseIn (s : State) (c sel : Nat) (cal : Int) : Nat × Int :=
  let a := s.assignOf c sel
  let k := a % 256
  if 7 < k then (0, 0)
  else
    match linearise (fun j i => s.objN 0x7500 (15 * k + 5 * j + i + 1)) cal (s.tempOf (a / 256)) with
    | none => (2, 0)
    | some y => (1, if isPosition c sel then clampI 0 65535 y else clampI (-2147483648) 2147483647 y)

/-! ### Sense conditions (R218) -/

/-- One conversion of selector 18h of an excitation channel with the conditions seen on it. -/
def State.senseCheck (s : State) (n : Fin 2) (conds : Nat) : State :=
  let se := s.ana.sense.get n
  let put (s : State) (v : Sense) : State := { s with ana := { s.ana with sense := s.ana.sense.set n v } }
  let fast := n.val == 0
  if conds = 0 then
    let clear := se.clear + 1
    if se.fault && 16 ≤ clear then
      ((put s { conds := 0, run := 0, clear := 0, fault := false }).setObj 0x7401 (2 * n.val + 1) 0).causeGone fast 1
    else put s { se with conds := 0, run := 0, clear := clear }
  else
    let run := se.run + 1
    if se.fault then (put s { se with conds := conds, run := run, clear := 0 }).setObj 0x7401 (2 * n.val + 1) conds
    else if 2 ≤ run then
      let s1 := (put s { conds := conds, run := run, clear := 0, fault := true }).setObj 0x7401 (2 * n.val + 1) conds
      ((s1.bump 0x7401 (2 * n.val + 2) 1).evt 0x1701 (n.val + 16 * conds)).posInvalid fast 1
    else put s { se with conds := conds, run := run, clear := 0 }

/-- Position samples away from the active Helm's prediction: the fourth in a row is cause 2 of R105. -/
def State.predCheck (s : State) (fast : Bool) (lin : Int) (pred : Nat) : State :=
  if !s.steer.running then s
  else
    let a := s.axis fast
    if s.objN 0x6000 7 < (lin - pred).natAbs then
      let s1 := s.setAxis fast { a with off4 := a.off4 + 1 }
      if 4 ≤ a.off4 + 1 then s1.posInvalid fast 2 else s1
    else (s.setAxis fast { a with off4 := 0 }).causeGone fast 2

/-! ### Supply monitors (R386) -/

/-- Number and full scale in mV of a supply. -/
def supplyOf (c sel : Nat) : Option (Nat × Nat) :=
  match c, sel with
  | 0, 0x20 => some (0, 1200) | 0, 0x21 => some (1, 1200) | 1, 0x20 => some (2, 2400) | 1, 0x21 => some (3, 1200)
  | 2, 0x20 => some (4, 2400) | 2, 0x21 => some (5, 4800) | 3, 0x20 => some (6, 4800) | 3, 0x21 => some (7, 48000)
  | _, _ => none

def supply0 : Supply := { outRun := 0, inSince := none, flag := false, sum := 0, n := 0 }

/-- One sample of a supply against its limits. -/
def State.supplyCheck (s : State) (c sel : Nat) (cal : Int) (at_ : Nat) : State :=
  match supplyOf c sel with
  | none => s
  | some (n, fs) =>
    let mv := cal.toNat * fs / 65535
    let v := assocD supply0 s.ana.supplies n
    let low := mv < s.objN 0x8200 (2 * n + 1)
    let out := low || s.objN 0x8200 (2 * n + 2) < mv
    let put (s : State) (v : Supply) : State := { s with ana := { s.ana with supplies := assocPut s.ana.supplies n v } }
    let v1 := { v with sum := v.sum + mv, n := v.n + 1 }
    if out then
      let s1 := put s { v1 with outRun := v.outRun + 1, inSince := none, flag := v.flag || 16 ≤ v.outRun + 1 }
      if !v.flag && 16 ≤ v.outRun + 1 then s1.evt 0x2B02 (n + (if low then 0 else 16)) else s1
    else
      let since := v.inSince.getD at_
      put s { v1 with outRun := 0, inSince := some since, flag := v.flag && at_ < since + msP }

/-! ### A converted sample (R204 ... R207, R219) -/

/-- Delivery to the accumulators, the trackers and the filter engine. -/
def State.deliver (s : State) (c : Fin 4) (sel : Nat) (x : Late) : State :=
  (s.windowsFeed (inKey c.val sel) x.at_ x.cal.toNat x.cls).filtFeed c.val x.step x.cal x.lin x.cls x.at_ x.tk

/-- Those consumers take the position signals one sample late, and a sample followed by one with a sense condition is withdrawn
(R219). -/
def State.deliverLate (s : State) (c : Fin 4) (sel : Nat) (x : Late) (withdraw : Bool) : State :=
  if isPosition c.val sel then
    let s1 := match (s.adc c).late with
      | none => s
      | some y => s.deliver c sel (if withdraw then { y with cls := 3 } else y)
    s1.setAdc c { s1.adc c with late := some x }
  else s.deliver c sel x

/-- One sample of a capture: `bad` is what fails it, 0 nothing; the first failure stands. -/
def Capt.add (p : Capt) (raw bad : Nat) : Capt := { p with n := p.n + 1, sum := p.sum + raw, bad := if p.bad = 0 then bad else p.bad }

/-- The capture with every sample that it holds so far. -/
def Capt.all (p : Capt) : Capt := { p.pend.foldl (fun p x => p.add x.2.1 x.2.2) p with pend := [] }

/-- A new sample; one taken 5 µs ago or earlier stays for good. -/
def Capt.feed (p : Capt) (now at_ raw bad : Nat) : Capt :=
  let p1 := (p.pend.filter fun x => x.1 + 2000 ≤ now).foldl (fun p x => p.add x.2.1 x.2.2) p
  { p1 with pend := (p.pend.filter fun x => now < x.1 + 2000) ++ [(at_, raw, bad)] }

/-- A sample enters a capture of its input and range in progress (R209). -/
def State.captFeed (s : State) (key at_ raw cls : Nat) : State :=
  match s.ana.capt with
  | none => s
  | some p =>
    if p.key = key ∧ p.all.n < 4096 then
      let bad := if cls ≠ 0 then 1 else if raw = 0 ∨ raw = 65535 then 2 else 0
      { s with ana := { s.ana with capt := some (p.feed s.now at_ raw bad) } }
    else s

/-- Automatic range selection watches every sample of a pass (R206). -/
def State.rangeWatch (s : State) (key : Nat) (beyond : Bool) (v : Int) : State :=
  let r := s.rangeOf key
  s.setRange key { r with sampled := true, passHigh := r.passHigh || beyond || 7680 ≤ v, passOver7168 := r.passOver7168 || 7168 ≤ v }

/-- The newest sample for the control engine: a transition or invalid one leaves the last value in place (R207). -/
def State.noteNewest (s : State) (key : Nat) (cal lin : Int) (cls at_ tk : Nat) : State :=
  let n := s.newestOf key
  let n1 := if cls ≤ 1 then { cal := cal, lin := lin, cls := cls, seq := n.seq + 1, at_ := at_, tk := tk, void := false } else { n with cls := cls }
  { s with ana := { s.ana with newest := assocPut s.ana.newest key n1 } }

/-- A conversion completes: `raw` the code, `beyond` the comparator of R205, `clampOn` a clamp on the input, `conds` the conditions of
R218 on an excitation channel, `pred` the angle the active Helm predicts. -/
def State.adcDone (s : State) (c : Fin 4) (raw : Nat) (beyond clampOn : Bool) (conds pred : Nat) : State :=
  let a := s.adc c
  match a.taken with
  | [] => s
  | t :: rest =>
    let raw := raw % 65536
    let key := inKey c.val t.sel
    let pos := isPosition c.val t.sel
    let cond := if pos then bits conds 0 4 else 0
    let s1 := s.setAdc c { a with taken := rest }
    let s2 := if pos then s1.senseCheck (Fin.ofNat 2 c.val) cond else s1
    let code := calCode raw (s2.trimOf (trimKey c.val t.sel (b2n t.fine)))
    let cal := if beyond then 65535 else if t.fine then (code + 4) / 8 else code
    let ln := s2.lineariseIn c.val t.sel cal
    let lin := if ln.1 = 0 then Config.freeInt s2.free else ln.2
    let s2 := if ln.1 = 0 then { s2 with free := s2.free + 1 } else s2
    let fault := pos && (s2.ana.sense.get (Fin.ofNat 2 c.val)).fault
    let cls := if clampOn || fault || ln.1 == 2 then 3 else if t.trans || (t.fine && beyond) then 2 else if beyond then 1 else 0
    let s3 := s2.noteNewest key cal lin cls t.at_ t.tk
    let s4 := if pos && cls ≤ 1 then s3.predCheck (c.val == 0) lin pred else s3
    let s5 := (s4.captFeed (trimKey c.val t.sel (b2n t.fine)) t.at_ raw cls).rangeWatch key beyond cal
    let s6 := s5.supplyCheck c.val t.sel cal t.at_
    s6.deliverLate c t.sel { cal := cal, lin := lin, cls := cls, at_ := t.at_, tk := t.tk, step := t.step } (cond != 0)

/-- An instant lies in the pass of a converter that began at `p` (R199). -/
def State.inPass (s : State) (c : Fin 4) (p at_ : Nat) : Bool := p ≤ at_ && at_ < p + 80 * max 1 (s.objN 0x7001 (c.val + 1))

/-- The samples that a converter has delivered in the pass that began at `p` count as missing for their consumers (R203): the newest of
each input for the control engine, a position sample held back, those in windows that have not been published and in a capture, and those in
filter channels, which take them as invalid; an output made since the pass began is invalid (log entry 72). -/
def State.passVoid (s : State) (c : Fin 4) (p : Nat) : State :=
  let a := s.adc c
  let mine (t : Nat) : Bool := s.inPass c p t
  let s1 := s.setAdc c { a with late := match a.late with
    | some x => if mine x.at_ then none else some x
    | none => none }
  let newest := s1.ana.newest.map fun kv =>
    if kv.1 / 64 = c.val ∧ mine kv.2.at_ ∧ 0 < kv.2.seq then (kv.1, { kv.2 with void := true }) else kv
  let drop (l : List (Nat × Nat × Nat)) : List (Nat × Nat × Nat) := l.filter fun x => !mine x.1
  let wins (mm : Bool) (l : List (Nat × Window)) : List (Nat × Window) := l.map fun kv =>
    if wwAdc (s.winWord mm kv.1) = c then (kv.1, { kv.2 with pend := drop kv.2.pend }) else kv
  let filt := s1.ana.filt.map fun kv =>
    if fwAdc (s1.filtWord kv.1) = c.val then (kv.1, { kv.2 with
      inbox := kv.2.inbox.map fun x => if mine x.2.1 then (x.1, x.2.1, 2, x.2.2.2) else x
      outs := kv.2.outs.map fun o => if p ≤ o.prod then { o with flag := 2 } else o })
    else kv
  { s1 with ana := { s1.ana with
      newest := newest
      filt := filt
      accs := wins false s1.ana.accs
      mms := wins true s1.ana.mms
      capt := s1.ana.capt.map fun k => if k.key / 128 = c.val then { k with pend := drop k.pend } else k } }

/-- A conversion is not ready 1 µs after its sample: the samples of its pass count as missing, the converter restarts, and after the third
fault within 10 s stays stopped (R203); the windows it feeds see a stopped sequencer (`7.140`.08). -/
def State.adcTimeout (s : State) (c : Fin 4) : State :=
  let a := s.adc c
  match a.taken with
  | [] => s
  | t :: _ =>
    if s.now < t.at_ + usP then s
    else
      let l := (s.now :: a.faults).filter fun x => s.now < x + 10 * secP
      let s0 := (s.passVoid c t.pass).windowsFlag c.val 2
      let s1 := (s0.setAdc c { s0.adc c with step := 0, passAt := s.now + 20 * usP, taken := [], faults := l }).evt 0x2702 c.val
      if 3 ≤ l.length then
        let s2 := (s1.setAdc c { s1.adc c with stopped := true }).evt 0x3701 c.val
        let s3 := s2.raiseCause 8
        -- a stopped position converter stops the steering stream (cause 5 of R105)
        if c.val ≤ 1 then s3.posInvalid (c.val == 0) 5 else s3
      else s1

/-- Range selection of one input at a pass boundary (R206). -/
def State.rangeStep (s : State) (c : Fin 4) (sel : Nat) : State :=
  match rangeMember c.val sel with
  | none => s
  | some m =>
    let key := inKey c.val sel
    let r := s.rangeOf key
    let low := if r.sampled then (if r.passOver7168 then 0 else r.lowPasses + 1) else r.lowPasses
    let want := match s.objN 0x7020 m with
      | 0 => false
      | 1 => true
      | _ => if r.fine then !r.passHigh else 4 ≤ low
    let s1 := s.setRange key { fine := want, switched := r.switched || want != r.fine, passHigh := false, passOver7168 := false
                               lowPasses := if want != r.fine then 0 else low, sampled := false }
    s1.setObj 0x7021 m (b2n want : Nat)

/-- Values stored by commands 3 and 4 take effect (R210). -/
def State.trimsApply (s : State) (c : Fin 4) : State :=
  let mine := s.ana.trimPend.filter fun kv => kv.1 / 128 == c.val
  let s1 := { s with ana := { s.ana with trimPend := s.ana.trimPend.filter fun kv => !(kv.1 / 128 == c.val) } }
  mine.foldl (fun s kv =>
    let sel := kv.1 % 128 / 2
    let s2 := { s with ana := { s.ana with trims := if kv.2.sys then assocPut s.ana.trims kv.1 kv.2 else AMap.del s.ana.trims kv.1 } }
    (s2.windowsCal (inKey c.val sel)).evt 0x0701 (c.val + 4 * sel + 256 * (kv.1 % 2))) s1

/-- A pass ends and the next begins (R199, R206, R210). -/
def State.passEnd (s : State) (c : Fin 4) : State :=
  let a := s.adc c
  let n := s.objN 0x7001 (c.val + 1)
  if s.adcRuns c && n ≤ a.step && a.passAt + 80 * n ≤ s.now then
    let s1 := s.setAdc c { a with step := 0, passAt := a.passAt + 80 * n }
    let s2 := [0x10, 0x13, 0x14].foldl (fun s sel => s.rangeStep c sel) s1
    s2.trimsApply c
  else s

/-! ### Starting and stopping a sequencer (R202) -/

/-- Every running slot that takes samples from the converter gets them at least once per loop period. -/
def State.seqStartOk (s : State) (c : Nat) : Bool :=
  (List.range 12).all fun k =>
    let w := s.loopWord k
    !s.loopRuns k || (List.range (lwCount w)).all fun i =>
      match loopKey (lwIn w) i with
      | none => true
      | some key =>
        key / 64 != c || (match stepGap (s.passSels c) (key % 64) with
          | none => false
          | some g => g * 80 ≤ s.loopPeriod w)

/-- A running slot, a running filter channel or running steering takes samples from the converter. -/
def State.seqNeeded (s : State) (c : Nat) : Bool :=
  ((List.range 12).any fun k => s.loopRuns k && (List.range (lwCount (s.loopWord k))).any fun i =>
    match loopKey (lwIn (s.loopWord k)) i with | none => false | some key => key / 64 == c)
  || ((List.range 16).any fun k => s.filtRuns k && fwAdc (s.filtWord k) == c)
  || (s.steer.running && c ≤ 1)

/-- A sequencer starts with its configured steps. -/
def State.seqOn (s : State) (c : Fin 4) : State :=
  s.setAdc c { s.adc c with step := 0, passAt := s.now, taken := [] }

/-- A sequencer stops; the windows it fed say so (`7.140`.08). -/
def State.seqOff (s : State) (c : Fin 4) : State :=
  (s.setAdc c { s.adc c with step := 0, taken := [] }).windowsFlag c.val 2

/-- Checks and effect of a write of one member of `7.003`. -/
def State.seqCodes (s : State) (c : Nat) (on : Bool) : List Nat :=
  if on then when (!s.seqRuns c && !s.seqStartOk c) 0x0301
  else when (s.seqRuns c && s.seqNeeded c) 0x0601

def State.seqEff (s : State) (c : Fin 4) (on was : Bool) : State :=
  if on && !was then s.seqOn c else if !on && was then s.seqOff c else s

/-! ### System calibration (R209, R210) -/

/-- Target of `7.300`. -/
def State.calTarget (s : State) : Nat × Nat × Nat := (s.objN 0x7300 1, s.objN 0x7300 2, s.objN 0x7300 3)
def State.calKey (s : State) : Nat := let t := s.calTarget; trimKey t.1 t.2.1 t.2.2

/-- The target is a supply monitor, which keeps its factory trim. -/
def State.calSupply (s : State) : List Nat := when (s.calTarget.2.1 == 0x20 || s.calTarget.2.1 == 0x21) 0x0301

/-- A capture of an input that is not sampled, or of a range that is not in effect or is automatic; a capture that still runs. -/
def State.captCodes (s : State) : List Nat :=
  let (c, sel, r) := s.calTarget
  let sampled := s.sampledNow c sel
  let rangeOk := match rangeMember c sel with
    | none => r == 0
    | some m => s.objN 0x7020 m != 2 && (s.rangeOf (inKey c sel)).fine == (r == 1)
  s.calSupply ++ when (!sampled || !rangeOk) 0x0601 ++ when s.ana.capt.isSome 0x0701

/-- Commands 3 and 4: outside CONFIG and SERVICE, not on an input that feeds a running loop with a target or a stamping channel. -/
def State.calStoreCodes (s : State) : List Nat :=
  let (c, sel, _) := s.calTarget
  let key := inKey c sel
  let feeds := ((List.range 12).any fun k => s.loopRuns k && lwOut (s.loopWord k) != 0 &&
      (List.range (lwCount (s.loopWord k))).any fun i => loopKey (lwIn (s.loopWord k)) i == some key)
    || [1, 2].any fun j =>
      let k := s.objN 0x7602 j
      s.filtRuns k && fwAdc (s.filtWord k) == c && s.filtSel (s.filtWord k) == sel
  s.calSupply ++ when (!(s.life.st == .config || s.life.st == .service) && feeds) 0x0601

/-- A capture begins. -/
def State.captBegin (s : State) (full : Bool) : State :=
  { s with ana := { s.ana with capt := some { full := full, key := s.calKey, n := 0, sum := 0, bad := 0, pend := [] } } }

/-- A calibration fails with a cause of event 6701h. -/
def State.calFail (s : State) (cause : Nat) : State :=
  ((s.setObj 0x7302 1 5).setObj 0x7302 7 cause).evt 0x6701 cause

/-- The zero and full-scale captures held of the input and range that `7.300` names (R209). -/
def State.calOf (s : State) (m : Option (Nat × Int)) : Option Int :=
  match m with
  | some v => if v.1 = s.calKey then some v.2 else none
  | none => none

/-- Status 0 ... 3 from the captures held of the input. -/
def State.calStatus (s : State) : State :=
  s.setObj 0x7302 1 ((b2n (s.calOf s.ana.m0).isSome + 2 * b2n (s.calOf s.ana.mfs).isSome : Nat) : Int)

/-- A capture has its 4,096 samples. -/
def State.captDone (s : State) : State :=
  match s.ana.capt with
  | none => s
  | some p0 =>
    let p := p0.all
    if p.n < 4096 then s
    else
      let m : Option Int := if p.bad = 0 then some ((p.sum + 128) / 256 : Nat) else none
      let s1 := if p.full then { s with ana := { s.ana with capt := none, mfs := m.map (p.key, ·) } }
        else { s with ana := { s.ana with capt := none, m0 := m.map (p.key, ·) } }
      let s2 := if p.full then s1.setObj 0x7302 3 (m.getD 0) else s1.setObj 0x7302 2 (m.getD 0)
      let s3 := if p.bad = 0 then s2.calStatus else s2.calFail p.bad
      s3.commandDone 0x7301

/-- Quotient of 2^30 × 1,048,560 by a positive difference, rounded with ties upward (R209). -/
def calGain (d : Nat) : Nat := (2 * (2 ^ 30 * 1048560) + d) / (2 * d)

/-- Command 3. -/
def State.calCompute (s : State) : State :=
  match s.calOf s.ana.m0, s.calOf s.ana.mfs with
  | some m0, some mfs =>
    if m0 < 0 ∨ 32768 < m0 then s.calFail 4
    else if mfs ≤ m0 then s.calFail 5
    else
      let g := calGain (mfs - m0).toNat
      if g < 1030792152 ∨ 1234803097 < g then s.calFail 5
      else
        { s with ana := { s.ana with trimPend := assocPut s.ana.trimPend s.calKey { off16 := m0, gain := g, sys := true } } }.setObj 0x7302 1 4
  | _, _ => s.calFail 3

/-- Command 4. -/
def State.calRestore (s : State) : State :=
  { s with ana := { s.ana with trimPend := assocPut s.ana.trimPend s.calKey { off16 := 0, gain := 0, sys := false } } }

/-- Command 0; the answer owed to an abandoned capture is sent. -/
def State.calAbandon (s : State) : State :=
  let had := s.ana.capt.isSome
  let s1 := { s with ana := { s.ana with capt := none, m0 := none, mfs := none } }.setObj 0x7302 1 0
  if had then s1.commandDone 0x7301 else s1

/-! ### Checks of writes -/

/-- Fine settings exist for two-range inputs (R206); the row's range covers `7.020`. Step words: bits [9:0] zero and a selector the
converter reaches (R200, R201). -/
def stepWordOk (c w : Nat) : Bool := bits w 0 10 == 0 && w < 65536 && reaches c (bits w 10 6)

/-- Owned by the sequencer of each member's converter. -/
def State.stepCodes (s : State) (w : List (Nat × Int)) : List Nat :=
  when (w.any fun x => !stepWordOk ((x.1 - 1) / 16) x.2.toNat) 0x0301
  ++ when (w.any fun x => s.seqRuns ((x.1 - 1) / 16)) 0x0401

/-- Step counts are owned by their sequencers. -/
def State.stepCountCodes (s : State) (w : List (Nat × Int)) : List Nat := when (w.any fun x => s.seqRuns (x.1 - 1)) 0x0401

/-- Mode 1 of an excitation channel requires gain 0 (R215); owned by steering. -/
def State.exciteCodes (s : State) (w : List (Nat × Int)) : List Nat :=
  let v (i : Nat) : Int := match w.find? fun x => x.1 == i with | some x => x.2 | none => s.obj 0x7400 i
  when ((v 2 == 1 && v 3 != 0) || (v 5 == 1 && v 6 != 0)) 0x0301 ++ when s.steer.running 0x0401

/-- Sets and assignments (R217): an ANA temperature source with a source of its own is refused, and so is a change of an excitation
channel's while steering runs. -/
def State.assignCodes (s : State) (w : List (Nat × Int)) : List Nat :=
  let v (i : Nat) : Nat := (s.withWrite w 0x7501 i).toNat
  let srcOk (a : Nat) : Bool :=
    let t := a / 256
    (a % 256 ≤ 7 || a % 256 == 255) && (t == 255 || (0x20 ≤ t && t ≤ 0x33) || (t ≤ 0x1F && v (t + 1) / 256 == 255))
  when (!((List.range 34).all fun i => srcOk (v (i + 1)))) 0x0301
  ++ when (s.steer.running && w.any fun x => decide (0x21 ≤ x.1) && x.2 != s.upcoming 0x7501 x.1) 0x0401

def State.linSetCodes (s : State) (w : List (Nat × Int)) : List Nat :=
  let used (k : Nat) : Bool := s.upcoming 0x7501 0x21 % 256 == (k : Int) || s.upcoming 0x7501 0x22 % 256 == (k : Int)
  when (w.any fun x => f32Bad x.2) 0x0301 ++ when (s.steer.running && w.any fun x => used ((x.1 - 1) / 15) && x.2 != s.upcoming 0x7500 x.1) 0x0401

/-- Filter words (R220): bits [9:0] zero, a step the pass may have; owned by the channel. -/
def State.filtWordCodes (s : State) (w : List (Nat × Int)) : List Nat :=
  when (w.any fun x => bits x.2.toNat 0 10 != 0) 0x0301 ++ when (w.any fun x => s.obj 0x7601 x.1 == 1) 0x0401

def State.stampChCodes (s : State) (w : List (Nat × Int)) : List Nat :=
  let v (i : Nat) : Int := match w.find? fun x => x.1 == i with | some x => x.2 | none => s.obj 0x7602 i
  when (v 1 == v 2) 0x0301 ++ when s.steer.running 0x0401

def State.firCodes (s : State) (k : Nat) (w : List (Nat × Int)) : List Nat :=
  when (w.any fun x => x.1 == 0 && x.2 < 1) 0x0301 ++ when (s.obj 0x7601 (k + 1) == 1) 0x0401

/-- Phase 0 of the interpolator is 0, 4000h, 0, 0 (R224). -/
def State.interpCodes (s : State) (w : List (Nat × Int)) : List Nat :=
  let v (i : Nat) : Int := match w.find? fun x => x.1 == i with | some x => x.2 | none => s.obj 0x7620 i
  when (!(v 1 == 0 && v 2 == 0x4000 && v 3 == 0 && v 4 == 0)) 0x0301 ++ when s.steer.running 0x0401

/-- A write of configuration words clears the windows it touches without publishing (R212). -/
def State.winWriteEff (s : State) (mm : Bool) (w : List (Nat × Int)) : State :=
  w.foldl (fun s x => s.setWindow mm (x.1 - 1) (s.clearWindow mm (x.1 - 1))) s

def winCodes (w : List (Nat × Int)) : List Nat := when (w.any fun x => !winWordOk x.2.toNat) 0x0301

/-- Limits of the supply monitors: low below high, at most full scale (R403). -/
def supplyFS (n : Nat) : Int := ([1200, 1200, 2400, 1200, 2400, 4800, 4800, 48000] : List Int).getD n 0

def supplyBad (lo hi fs : Int) : Bool := decide (hi ≤ lo) || decide (fs < hi)

def State.supplyCodes (s : State) (w : List (Nat × Int)) : List Nat :=
  let v (i : Nat) : Int := match w.find? fun x => x.1 == i with | some x => x.2 | none => s.obj 0x8200 i
  when ((List.range 8).any fun n => supplyBad (v (2 * n + 1)) (v (2 * n + 2)) (supplyFS n)) 0x0301

/-! ### The commands -/

/-- ADC_SAMPLE (R199). -/
def execAdcSample (c : Fin 4) (s : State) : Host.Outcome State Fault Refusal := .next (s.adcSample c)

/-- ADC_CONVERSION_TIMEOUT (R203). -/
def execAdcConversionTimeout (c : Fin 4) (s : State) : Host.Outcome State Fault Refusal := .next (s.adcTimeout c)

/-- SEQUENCER_PASS_END (R206, R210). -/
def execSequencerPassEnd (c : Fin 4) (s : State) : Host.Outcome State Fault Refusal := .next (s.passEnd c)

/-- SEQUENCER_START (R202). -/
def execSequencerStart (r : Req) (c : Fin 4) (s : State) : Host.Outcome State Fault Refusal :=
  .next (s.hostWrite r (ent 0x7003 (c.val + 1) .bool 1) (fun s => s.seqCodes c.val true) (fun t => t.seqEff c true (s.seqRuns c.val)) false)

/-- SEQUENCER_STOP (R202). -/
def execSequencerStop (r : Req) (c : Fin 4) (s : State) : Host.Outcome State Fault Refusal :=
  .next (s.hostWrite r (ent 0x7003 (c.val + 1) .bool 0) (fun s => s.seqCodes c.val false) (fun t => t.seqEff c false (s.seqRuns c.val)) false)

/-- CAL_CAPTURE_ZERO (R209). -/
def execCalCaptureZero (r : Req) (s : State) : Host.Outcome State Fault Refusal :=
  .next (s.hostWrite r (ent 0x7301 0 .u8 1) State.captCodes (fun s => s.captBegin false) true)

/-- CAL_CAPTURE_FULL_SCALE (R209). -/
def execCalCaptureFullScale (r : Req) (s : State) : Host.Outcome State Fault Refusal :=
  .next (s.hostWrite r (ent 0x7301 0 .u8 2) State.captCodes (fun s => s.captBegin true) true)

/-- CAL_CAPTURE_COMPLETE (R209). -/
def execCalCaptureComplete (s : State) : Host.Outcome State Fault Refusal := .next s.captDone

/-- CAL_COMPUTE_STORE (R209, R210). -/
def execCalComputeStore (r : Req) (s : State) : Host.Outcome State Fault Refusal :=
  .next (s.hostWrite r (ent 0x7301 0 .u8 3) State.calStoreCodes State.calCompute false)

/-- CAL_RESTORE_FACTORY (R209). -/
def execCalRestoreFactory (r : Req) (s : State) : Host.Outcome State Fault Refusal :=
  .next (s.hostWrite r (ent 0x7301 0 .u8 4) State.calStoreCodes State.calRestore false)

/-- CAL_ABANDON (R209). -/
def execCalAbandon (r : Req) (s : State) : Host.Outcome State Fault Refusal :=
  .next (s.hostWrite r (ent 0x7301 0 .u8 0) State.calSupply State.calAbandon false)

/-- ACCUMULATOR_WINDOW_END (R212, R214). -/
def execAccumulatorWindowEnd (mm : Bool) (n : Fin 64) (s : State) : Host.Outcome State Fault Refusal := .next (s.windowEnd mm n.val)

/-- ACCUMULATOR_CONFIG_WRITE (R211, R212). -/
def execAccumulatorConfigWrite (r : Req) (n : Fin 64) (word : Nat) (s : State) : Host.Outcome State Fault Refusal :=
  .next (s.hostWrite r (ent 0x7100 (n.val + 1) .u32 word) (fun _ => winCodes [(n.val + 1, word)])
    (fun s => s.winWriteEff false [(n.val + 1, word)]) false)

/-- ACCUMULATOR_LATCH (R212). -/
def execAccumulatorLatch (r : Req) (arg : Nat) (s : State) : Host.Outcome State Fault Refusal :=
  .next (s.hostWrite r (entArg 0x7101 .u8 arg) (fun _ => []) (fun s => s.windowsEnd false 3) false)

/-- MINMAX_CONFIG_WRITE (R214). -/
def execMinmaxConfigWrite (r : Req) (n : Fin 64) (word : Nat) (s : State) : Host.Outcome State Fault Refusal :=
  .next (s.hostWrite r (ent 0x7200 (n.val + 1) .u32 word) (fun _ => winCodes [(n.val + 1, word)])
    (fun s => s.winWriteEff true [(n.val + 1, word)]) false)

/-- MINMAX_LATCH (R214). -/
def execMinmaxLatch (r : Req) (arg : Nat) (s : State) : Host.Outcome State Fault Refusal :=
  .next (s.hostWrite r (entArg 0x7201 .u8 arg) (fun _ => []) (fun s => s.windowsEnd true 3) false)

/-- FILTER_ROUND (R220, R221). -/
def execFilterRound (s : State) : Host.Outcome State Fault Refusal := .next s.filterRound

/-- FILTER_ROUND_OVERRUN (R222). -/
def execFilterRoundOverrun (s : State) : Host.Outcome State Fault Refusal := .next s.filterOverrun

/-- FILTER_CHANNEL_START (R220, R222, R223): a channel that runs already is left as it is. -/
def execFilterChannelStart (r : Req) (k : Fin 16) (s : State) : Host.Outcome State Fault Refusal :=
  .next (s.hostWrite r (ent 0x7601 (k.val + 1) .bool 1) (fun s => if s.filtRuns k.val then [] else s.filtStartCodes k.val)
    (fun t => if s.filtRuns k.val then t else t.filtOn k.val) false)

/-- FILTER_CHANNEL_STOP (R222). -/
def execFilterChannelStop (r : Req) (k : Fin 16) (s : State) : Host.Outcome State Fault Refusal :=
  .next (s.hostWrite r (ent 0x7601 (k.val + 1) .bool 0) (fun s => s.filtStopCodes k.val) (fun t => if s.filtRuns k.val then t.filtOff k.val else t) false)

end Sys2Proof.Machine
end

