-- ==== Sys2Proof/Machine/Quadrant.lean ====
section
/-! DEFINITION. What every unit of a Quadrant shares: frame counters, the safety tap with its markers (R35, R146, R322), the pool of
Crucible blocks (R154, R157), the discarding of contexts, and the self-check mismatch and retirement of a Quadrant (R420). -/

namespace Sys2Proof.Machine

/-- Now in half ns. -/
def State.now2 (s : State) : Nat := 5 * s.now

/-- Channel number 256q + c. -/
def chanNo (q : Fin 4) (c : Nat) : Nat := 256 * q.val + c

/-! ### Frame counters -/

/-- Key of a frame counter. -/
def cntKey (obj m : Nat) : Nat := 32 * obj + m

/-- Count `k` for member `m` of Quadrant q in an object of `w` members a Quadrant that shows the last frame: into the counters of
the running frame, or straight into the object for a frame that has ended. -/
def State.cntAdd (s : State) (q : Fin 4) (frame obj w m k : Nat) : State :=
  if frame = s.frm.no ∧ s.frm.running then
    s.modQuad q fun qd => { qd with cru := { qd.cru with
      cnt := AMap.put 0 qd.cru.cnt (cntKey obj m) (AMap.get 0 qd.cru.cnt (cntKey obj m) + k) } }
  else s.bump obj (w * q.val + m) k

/-- A counter of the running frame. -/
def State.cntOf (s : State) (q : Fin 4) (obj m : Nat) : Nat := AMap.get 0 (s.quad q).cru.cnt (cntKey obj m)

/-- Objects that show the last frame, with their members per Quadrant. -/
def frameObjs : List (Nat × Nat) := [(0x3360, 5), (0x3440, 5), (0x4021, 5), (0x4310, 6), (0x4052, 11)]

/-- At the frame end the counters become the last frame's. -/
def State.publishCnt (s : State) (q : Fin 4) : State :=
  let s1 := frameObjs.foldl (fun s ow =>
    (List.range ow.2).foldl (fun s i => s.setObj ow.1 (ow.2 * q.val + i + 1) (s.u32Of (s.cntOf q ow.1 (i + 1)))) s) s
  let s2 := ([4, 5, 6] : List Nat).foldl (fun s m => s.setObj 0x4300 (6 * q.val + m) (s.u32Of (if m = 4 then (s.quad q).cru.peak else s.cntOf q 0x4300 m))) s1
  s2.modQuad q fun qd => { qd with cru := { qd.cru with
    cnt := [], ev1401c := false, ev1401z := false, ev1402 := false, ev2402 := false, peak := qd.cru.ctxs.length } }

/-! ### The safety tap -/

/-- A Quadrant's candidates, markers and echo lists reach the tap only while it is live (R421). -/
def State.taps (s : State) (q : Fin 4) : Bool := (s.quad q).st == 0

/-- A blind marker for a channel-cell of a frame. -/
def State.tapBlind (s : State) (ch cell frame : Nat) : State :=
  { s with tap := { s.tap with blinds := s.tap.blinds ++ [{ chan := ch, cell := cell, frame := frame }] } }

/-- A channel enters a blind state in the running frame: the marker carries the new state (R146). -/
def State.tapChanBlind (s : State) (ch st : Nat) : State :=
  if s.tap.chans.any (fun x => x.chan == ch && x.upTo.isNone) then s
  else { s with tap := { s.tap with chans := s.tap.chans ++ [{ chan := ch, st := st, back := 0, since := s.frm.no, upTo := none }] } }

/-- A channel leaves a blind state at a Landing: the marker carries its new state, and the frame after it is the first that counts the
channel as seeing (R146). -/
def State.tapChanSees (s : State) (ch st : Nat) : State :=
  { s with tap := { s.tap with chans := s.tap.chans.map fun x =>
      if x.chan == ch && x.upTo.isNone then { x with back := st, upTo := some (s.frm.no + 1) } else x } }

/-- The region of a Quadrant is blind from the running frame on (R25, R420). -/
def State.tapQuadBlind (s : State) (q : Fin 4) : State :=
  if s.tap.quads.any (fun x => x.1 == q.val) then s
  else { s with tap := { s.tap with quads := s.tap.quads ++ [(q.val, s.frm.no)] } }

/-- The blind region is withdrawn at the Landing at which the Quadrant joins (R425 step 7). -/
def State.tapQuadSees (s : State) (q : Fin 4) : State :=
  { s with tap := { s.tap with quads := s.tap.quads.filter fun x => x.1 != q.val } }

/-- At the entry to RUN frames are numbered anew: what is blind is so from frame 0 on, and what has ended is past (R146, R413). -/
def Tap.rebase (t : Tap) : Tap :=
  { t with
    chans := (t.chans.filter fun x => x.upTo.isNone).map fun x => { x with since := 0 }
    quads := t.quads.map fun x => (x.1, 0)
    field := match t.field with
      | some (_, none) => some (0, none)
      | _ => none }

/-- A range candidate (R35, R161). -/
def State.tapCand (s : State) (q : Fin 4) (c : Cand) : State :=
  if s.taps q then { s with tap := { s.tap with cands := s.tap.cands ++ [c] } } else s

/-- A slot marker (R322). -/
def State.tapMarker (s : State) (q : Fin 4) (m : Marker) : State :=
  if s.taps q then { s with tap := { s.tap with markers := s.tap.markers ++ [m] } } else s

/-- An echo list to evaluator A (R178). -/
def State.tapList (s : State) (q : Fin 4) (l : EchoList) : State :=
  if s.taps q then { s with tap := { s.tap with lists := s.tap.lists ++ [l] } } else s

/-! ### Crucible blocks (R154, R155, R157) -/

/-- Blocks in use count against the usable 48,896: those with a free block left. -/
def Crucible.freeBlocks (c : Crucible) : Nat := c.released.length + (48896 - c.fresh)

/-- Take `n` blocks, cleared; released ones first. -/
def Crucible.alloc (c : Crucible) (n : Nat) : Option (List Nat × Crucible) :=
  if c.freeBlocks < n then none
  else
    let a := c.released.take n
    let k := n - a.length
    some (a ++ (List.range k).map (· + c.fresh), { c with released := c.released.drop n, fresh := c.fresh + k })

/-- Give blocks back to the free pool. -/
def Crucible.release (c : Crucible) (bs : List Nat) : Crucible := { c with released := c.released ++ bs }

/-- Discard contexts that a test picks, with their blocks (R153, R157). -/
def Crucible.discard (c : Crucible) (p : Ctx → Bool) : Crucible :=
  { (c.release ((c.ctxs.filter p).flatMap (·.blocks))) with ctxs := c.ctxs.filter fun x => !p x }

/-- Discard every context, cell and lane of a frame, or of all frames. -/
def Crucible.discardFrame (c : Crucible) (p : Nat → Bool) : Crucible :=
  let c1 := c.discard fun x => p x.frame
  { c1 with
    cells := c1.cells.filter fun x => !p x.frame
    fin := c1.fin.filter fun x => !p x.1
    lanes := c1.lanes.filter fun x => !p x.2.frame }

/-! ### Quadrant faults (R420) -/

/-- In the in-hand Ingots of a frame, or of every frame, a Quadrant is no longer live (R306, R420). -/
def State.notLive (s : State) (q : Fin 4) (p : Nat → Bool) : State :=
  let one (h : InHand) : InHand := if p h.frame then { h with live := clrBit h.live q.val } else h
  { s with links := s.links.map fun (lk : Link) => { lk with inHand := lk.inHand.map one } }

/-- A Quadrant is retired by a fault: its contexts are discarded, its region is blind, and its cause of R423 arises. `cause` is that
of event 3D01h; spares exhausted, or three retirements within 3,600 s, refuse requests until the next power cycle (R425). -/
def State.quadRetire (s : State) (q : Fin 4) (cause : Nat) : State :=
  let qd := s.quad q
  let l := (s.now :: qd.retires).filter fun t => s.now < t + 3600 * secP
  let bar := qd.barred || cause == 3 || 3 ≤ l.length
  let s1 := s.setQuad q { qd with
    st := if bar then 7 else 5
    retires := l
    barred := bar
    shots := []
    visit := none
    step := 0
    auto := false
    cru := qd.cru.discardFrame fun _ => true }
  let s2 := s1.notLive q fun _ => true
  ((((s2.tapQuadBlind q).bump 0x3110 (9 + q.val) 1).evt 0x3D01 (q.val + 16 * cause)).quadLost q).raiseCause q.val

/-- A self-check mismatch of a Quadrant (R420): blind region, contexts of the frame discarded, event 2D01h, and the shadow frame; the
second within 1 s, or the first without automatic return, retires it. One that has stood down stays so until then, one under re-admission
fails its step, and one that is retired already has nothing left to lose. -/
def State.quadMismatch (s : State) (q : Fin 4) (cause : Nat) : State :=
  let qd := s.quad q
  if qd.st == 5 || qd.st == 7 then s
  else
    let member : Bool := decide (qd.st ≤ 3)
    let again := match qd.misAt with
      | some t => s.now ≤ t + secP
      | none => false
    let no := s.frm.no
    let s1 := s.setQuad q { qd with
      misAt := some s.now
      st := if member then 2 else qd.st
      shots := []
      visit := none
      step := if member then 6 else qd.step
      auto := member
      shadowBad := false
      seq := { qd.seq with done := true }
      cru := qd.cru.discardFrame fun f => f == no }
    let s2 := s1.notLive q fun f => f == no
    let s3 := ((s2.tapQuadBlind q).bump 0x3110 (5 + q.val) 1).evt 0x2D01 (q.val + 16 * cause)
    if s.life.readm.contains (0x4000 + q.val) then
      (s3.modQuad q fun qd => { qd with st := 5, step := 0, auto := false }).readmitFailed (0x4000 + q.val) (if qd.st = 4 then qd.step else 6) |>.quadLost q
    else if again || s.obj (0x3100 + q.val) 2 == 0 then s3.quadRetire q 1 else s3

end Sys2Proof.Machine
end

