-- ==== Sys2Proof/Machine/Channels.lean ====
section
/-! DEFINITION. Return channels: gates, switch points, time stamps, calibration, transients, suspect and retired channels
(R126 ... R149). -/

namespace Sys2Proof.Machine

def chan0 : Chan :=
  { st := 0, relief := none, relNext := none, sus := 0, susAt := 0, lastCause := 0, fails := [], rets := [], ev2301 := none, barred := false, due := false
    calAt := 0, calStart := 0, gen := 0, table := none, offset := none, inl := 0, hist := [], calNext := none, recal := 0, check := 0, d0 := none, d1 := none, delayNext := none
    gain := 0, dlt := 0, switches := [(0, 0, 0)], inj := false, lastClose2 := 0, clampAt := none, clampWas := 0, clampEnd2 := 0, clampEvt := false, clamps := 0, clampsLast := 0
    compAt := none, inHit := false, wordDue := false, trail80 := none, tagFrame := 0, tagSlot := 0, tagHits := 0, hits := 0, gates := 0, unres := 0
    buf := [], late := [], readmit := 0, readBad := false, was := 6 }

/-- A channel of a Quadrant; the numbers 256 ... 263 are its relief converters. -/
def State.chan (s : State) (q : Fin 4) (c : Nat) : Chan := assocD chan0 (s.quad q).chans c

def State.setChan (s : State) (q : Fin 4) (c : Nat) (v : Chan) : State :=
  s.modQuad q fun qd => { qd with chans := assocPut qd.chans c v }

/-- Configuration word of a channel (R148). -/
def State.chanWord (s : State) (q : Fin 4) (c : Nat) : Nat := s.objN (0x3400 + 2 * q.val + c / 128) (c % 128 + 1)

/-- Gain code of a configuration word: transimpedance index z, low threshold lt and high threshold ht (R126, R148). -/
def gainZ (w g : Nat) : Nat := if g = 0 then bits w 27 3 else bits w 12 3
def gainLt (w g : Nat) : Nat := if g = 0 then bits w 21 6 else bits w 6 6
def gainHt (w g : Nat) : Nat := if g = 0 then bits w 15 6 else bits w 0 6

/-- High-gain transimpedance in Ω, and the high threshold in mV at the low-gain comparator (R126). -/
def transimpedance (w g : Nat) : Nat := 500 * 2 ^ gainZ w g
def highThreshold (w g : Nat) : Nat := 16 * gainHt w g

/-- Low threshold in effect under an adaptive offset, in mV at the high-gain comparator: the sum saturates at 63 (R126). -/
def lowThreshold (w g dlt : Nat) : Nat := 2 * min 63 (gainLt w g + dlt)

/-- Health state as `3.410` shows it: 7 where the host disables the channel or the Quadrant is retired. -/
def State.chanState (s : State) (q : Fin 4) (c : Nat) : Nat :=
  let ch := s.chan q c
  if !bit (s.chanWord q c) 31 || 5 ≤ (s.quad q).st then 7
  else if ch.st = 0 && ch.relief.isSome then 1
  else ch.st

/-- Live, recalibrating after a transient, or under re-admission: its gates open (R130). -/
def State.chanGates (s : State) (q : Fin 4) (c : Nat) : Bool := let st := s.chanState q c; st ≤ 2 || st == 4

/-- Health word (R148). -/
def State.healthWord (s : State) (q : Fin 4) (c : Nat) : Nat :=
  let ch := s.chan q c
  let fails := (ch.fails.filter fun t => s.now < t + 10 * secP).length
  let conv := match ch.relief with | some r => s.chan q r | none => ch
  s.chanState q c * 2 ^ 29 + ch.lastCause * 2 ^ 27 + min 3 fails * 2 ^ 25 + min 255 ((s.now - conv.calAt) / msP) * 2 ^ 17
    + min 255 (ch.inl / 2) * 2 ^ 9 + min 511 ch.clampsLast

/-! ### Suspect and retired channels (R143 ... R146) -/

/-- Enter the suspect state with a cause of event 1302h (R144). In a channel under re-admission the condition fails the step (R147). -/
def State.chanSuspect (s : State) (q : Fin 4) (c cause : Nat) : State :=
  let ch := s.chan q c
  if ch.st = 3 ∨ 4 < ch.st then s
  else if ch.st = 4 then s.setChan q c { ch with readBad := true }
  else
    let s1 := s.setChan q c { ch with st := 3, sus := cause, susAt := s.now, recal := 0, check := 0, readBad := true }
    let s2 := (s1.tapChanBlind (chanNo q c) 3).evt 0x1302 (chanNo q c + 4096 * cause)
    s2.modQuad q fun qd => { qd with shadowBad := true }

/-- Retire a channel: state 5 for a stuck cause 1 or 2, 6 for cause 3; three entries within 600 s bar it until the next power cycle,
and more than eight retired within 10 s are one mismatch of the Quadrant, from which they are counted anew (R145, R147). -/
def State.chanRetire (s : State) (q : Fin 4) (c cause : Nat) : State :=
  let ch := s.chan q c
  let l := (s.now :: ch.rets).filter fun t => s.now < t + 600 * secP
  let st := if cause = 3 then 6 else 5
  let s1 := s.setChan q c { ch with
    st := st
    was := st
    rets := l
    barred := ch.barred || 3 ≤ l.length
    sus := 0
    recal := 0
    check := 0
    readmit := 0
    relief := none
    relNext := none }
  let s2 := ((s1.tapChanBlind (chanNo q c) st).evt 0x3301 (chanNo q c + 4096 * cause)).sourceLost (s.chanWanted (chanNo q c))
  let k := (s.now :: (s.quad q).chanRet).filter fun t => s.now < t + 10 * secP
  let hit : Bool := s2.frm.active && decide (8 < k.length)
  let s3 := s2.modQuad q fun qd => { qd with chanRet := if hit then [] else k }
  if hit then s3.quadMismatch q 4 else s3

/-- A recalibration that a cause of R143 started has failed: the third within 10 s retires the channel. -/
def State.chanRecalFail (s : State) (q : Fin 4) (c cause : Nat) : State :=
  let ch := s.chan q c
  let l := (s.now :: ch.fails).filter fun t => s.now < t + 10 * secP
  let log : Bool := match ch.ev2301 with | some t => t + secP ≤ s.now | none => true
  let s1 := s.setChan q c { ch with fails := l, ev2301 := if log then some s.now else ch.ev2301, readBad := true }
  let s2 := if log then s1.evt 0x2301 (chanNo q c + 4096 * cause) else s1
  if 3 ≤ l.length then s2.chanRetire q c 3 else s2

/-- Begin the handling of a transient: the channel stays live in health state 2. -/
def State.chanTransient (s : State) (q : Fin 4) (c cause : Nat) (convCal delay : Bool) : State :=
  let ch := s.chan q c
  if 3 ≤ ch.st then s
  else s.setChan q c { ch with
    st := 2
    lastCause := cause
    recal := if convCal then cause else ch.recal
    calStart := if convCal then s.now else ch.calStart
    due := ch.due || convCal
    check := if delay then cause else ch.check }

/-- The transient is over once no recalibration and no check is outstanding. -/
def State.chanSettle (s : State) (q : Fin 4) (c : Nat) : State :=
  let ch := s.chan q c
  if ch.st = 2 ∧ ch.recal = 0 ∧ ch.check = 0 then s.setChan q c { ch with st := 0 } else s

/-! ### Gates and switch points (R128, R130) -/

/-- Instants in half ns at which a shot's gate opens and closes: the first pulse plus `wstart`, and plus `wend` and the span. -/
def Shot.open2 (x : Shot) : Nat := x.at2 + 5 * x.wstart
def Shot.span (x : Shot) : Nat := x.pulses.getLastD 0
def Shot.close2 (x : Shot) : Nat := x.at2 + 5 * (x.wend + x.span)

/-- The gate of a shot is open on a channel. -/
def Shot.openOn (x : Shot) (c : Nat) : Bool := bit x.opened c && !bit x.closedM c

/-- Shots open on a channel, oldest first. -/
def State.openShots (s : State) (q : Fin 4) (c : Nat) : List Shot := (s.quad q).shots.filter fun x => x.openOn c

/-- Sector of a cell (R179). -/
def State.sectorOf (s : State) (cell : Nat) : Nat := if s.obj 0x4040 6 = 1 then cell / 256 % 16 else 0

/-- Threshold offset of a channel for a cell, 0 … Δmax (R181). -/
def State.offsetOf (s : State) (q : Fin 4) (c cell : Nat) : Nat :=
  if s.obj 0x4040 5 = 1 then min (s.objN 0x4040 3) (AMap.get 0 (s.quad q).cru.dlt (16 * c + s.sectorOf cell)) else 0

/-- The background estimates and threshold offsets of a channel start again at 0, as on its re-admission (R179, R181). -/
def State.freshEstimates (s : State) (q : Fin 4) (c : Nat) : State :=
  s.modQuad q fun qd => { qd with cru := { qd.cru with
    bg := qd.cru.bg.filter fun kv => kv.1 / 16 != c
    dlt := qd.cru.dlt.filter fun kv => kv.1 / 16 != c
    seen := qd.cru.seen.filter fun k => k / 16 != c } }

/-- With the adaptive threshold off every offset is held at 0 (R181). -/
def State.noOffsets (s : State) : State := forQuads s fun s q => s.modQuad q fun qd => { qd with cru := { qd.cru with dlt := [] } }

/-- Instant of the newest switch point, half ns. -/
def Chan.swAt2 (ch : Chan) : Nat := (ch.switches.headD (0, 0, 0)).1

/-- Gain code in effect at an instant: that of the last switch point no later than it. -/
def Chan.gainAt (ch : Chan) (t2 : Nat) : Nat := ((ch.switches.find? fun w => w.1 ≤ t2).getD (0, 0, 0)).2.1

/-- An instant lies within 40 ns after a switch point (R128). -/
def Chan.settling (ch : Chan) (t2 : Nat) : Bool := ch.switches.any fun w => w.1 != 0 && w.1 ≤ t2 && t2 < w.1 + 80

/-- The switch to the gain code and offset of a shot, from those of the last injection in any case (R140), no earlier than an instant and than 40 ns after the switch before. -/
def State.switchTo (s : State) (q : Fin 4) (c : Nat) (x : Shot) (from2 : Nat) : State :=
  let ch := s.chan q c
  let dl := s.offsetOf q c x.cell
  if ch.gain = x.gain ∧ ch.dlt = dl ∧ !ch.inj then s
  else
    let at2 := if ch.swAt2 = 0 then from2 else max from2 (ch.swAt2 + 80)
    s.setChan q c { ch with gain := x.gain, dlt := dl, switches := (at2, x.gain, dl) :: ch.switches.take 7, inj := false }

/-- Change the shot of a frame and slot number. -/
def State.modShot (s : State) (q : Fin 4) (frame slot : Nat) (f : Shot → Shot) : State :=
  s.modQuad q fun qd => { qd with shots := qd.shots.map fun x => if x.frame == frame && x.slot == slot then f x else x }

def State.findShot (s : State) (q : Fin 4) (frame slot : Nat) : Option Shot :=
  (s.quad q).shots.find? fun x => x.frame == frame && x.slot == slot

/-- A slot boundary of a channel: a hand-over that waits is made; then delays and a calibration that wait are adopted, and the hand-back of
its channel waits for the next boundary (R138, R142). -/
def Chan.boundary (ch : Chan) : Chan :=
  let c0 := match ch.delayNext with
    | some d => { ch with d0 := some d.1, d1 := some d.2, delayNext := none }
    | none => ch
  let c1 := match c0.relNext with
    | some r => { c0 with relief := r, relNext := none }
    | none => c0
  match c1.calNext with
  | none => c1
  | some n =>
    { c1 with table := some n.1, offset := some n.2.1, inl := n.2.2, gen := c1.gen + 1, calNext := none
              relNext := if c1.relief.isSome then some none else none }

def State.boundary (s : State) (q : Fin 4) (c : Nat) : State := s.setChan q c (s.chan q c).boundary

/-- With no gate open on the channel every instant is a slot boundary: what waits is made at once, hand-back included. -/
def State.settled (s : State) (q : Fin 4) (c : Nat) : State :=
  if (s.openShots q c).isEmpty then (s.boundary q c).boundary q c else s

/-- The gate of a shot opens on a channel: its mask, the gate count, and the switch to its gain code where no earlier gate is open: 50 ns
before it opens, or where the last earlier gate closed (R128). -/
def State.gateOpen (s : State) (q : Fin 4) (x : Shot) (c : Nat) : State :=
  let first := (s.openShots q c).isEmpty
  let s0 := s.settled q c
  let s1 := s0.modShot q x.frame x.slot fun y => { y with opened := setBit y.opened c }
  let s2 := s1.setChan q c { s1.chan q c with gates := (s1.chan q c).gates + 1 }
  if first then s2.switchTo q c x (max (x.open2 - 100) (s2.chan q c).lastClose2) else s2

/-- The gate closes. The close of the oldest gate is a slot boundary of the channel, and the gate that is the oldest from then on decides
the next switch; the close of a younger one switches nothing (R128, R138). -/
def State.gateClose (s : State) (q : Fin 4) (x : Shot) (c : Nat) : State :=
  let oldest : Bool := match s.openShots q c with
    | y :: _ => y.frame == x.frame && y.slot == x.slot
    | [] => false
  let s1 := s.modShot q x.frame x.slot fun y => { y with closedM := setBit y.closedM c }
  let s2 := s1.setChan q c { s1.chan q c with lastClose2 := max (s1.chan q c).lastClose2 x.close2 }
  let s3 := if oldest then s2.boundary q c else s2
  match s3.openShots q c with
  | [] => s3.settled q c
  | y :: _ => if oldest then s3.switchTo q c y x.close2 else s3

/-! ### The time stamp (R131, R141) -/

/-- Corrected fine time of a raw code on a converter: its own table, or the factory's before the first calibration; a code at or beyond
the table's length reads 0, which no rule states (log 71). -/
def State.convFine (s : State) (q : Fin 4) (conv raw : Nat) : Nat :=
  match (s.chan q conv).table with
  | some t => t.getD raw 0
  | none => Config.fineTab (264 * q.val + conv) raw % 4096

/-- Corrected fine time of a raw code on the converter that serves the channel (R139). -/
def State.fineOf (s : State) (q : Fin 4) (c raw : Nat) : Nat :=
  s.convFine q (((s.chan q c).relief).getD c) raw

/-- Front-end delay of a channel and gain code. -/
def State.delayOf (s : State) (q : Fin 4) (c gain : Nat) : Int :=
  ((if gain = 0 then (s.chan q c).d0 else (s.chan q c).d1)).getD (Config.delay0 (chanNo q c) gain)

/-- Walk correction (R141). -/
def State.walkOf (s : State) (q : Fin 4) (gain tot : Nat) : Int :=
  let w (b : Nat) : Int := s.obj (0x3420 + q.val) (32 * gain + b + 1)
  let b := min (tot / 128) 31
  if b = 31 then w 31 else w b + (w (b + 1) - w b) * (tot % 128 : Nat) / 128

/-- Slot jitter of a shot, 0.5 ns units. -/
def Shot.jit (x : Shot) : Int := (x.at2 : Int) - 5 * x.nom

/-- Coarse difference taken modulo 2^32 and read as an I32. -/
def coarseDiff (c cs : Nat) : Int := toSigned 32 (ofInt 32 ((c : Int) - cs))

/-- Stamp of a hit relative to a shot. -/
def stampOf (h : Hit) (x : Shot) : Int :=
  let t80 := coarseDiff h.at_ x.nom * 20480 + 5 * (h.fine : Int) - 4096 * x.jit - 5 * h.d - 5 * h.w
  (t80 + 40) / 80

/-- Hit word (R132). -/
def hitWord (c : Nat) (h : Hit) : Nat :=
  c * 2 ^ 56 + h.slot % 8 * 2 ^ 53 + h.stamp * 2 ^ 34 + h.tot * 2 ^ 22 + b2n h.rng * 2 ^ 21 + h.gain * 2 ^ 20 + b2n h.clamp * 2 ^ 19
    + b2n h.settle * 2 ^ 18 + b2n h.held * 2 ^ 17 + h.idx * 2 ^ 14 + b2n h.relief * 2 ^ 13 + h.gen % 32 * 2 ^ 8

/-- The hit word of a hit that has ended leaves on the hit bus, which the capture engine watches: its clamp flag covers the whole span up
to the trailing edge (R127, R129, R132). -/
def State.sendWord (s : State) (q : Fin 4) (c : Nat) : State :=
  match (s.chan q c).wordDue, (s.chan q c).buf with
  | true, h :: _ =>
    ((s.setChan q c { s.chan q c with wordDue := false }).capNote 1 q.val h.t (hitWord c h)).occNote h.t (.hit (chanNo q c) h.tot)
  | _, _ => s

/-- An edge of a channel's comparators, for the capture engine: 1 low rising, 2 low falling, 5 clamp on, 6 clamp off (R256). -/
def State.noteEdge (s : State) (q : Fin 4) (c kind : Nat) : State :=
  (s.capNote 2 q.val s.capNow (c * 2 ^ 56 + kind)).occNote s.capNow (.edge (chanNo q c) kind)

/-- What becomes of a leading edge. -/
inductive Edge where
  | outside
  | lost
  | stamped (h : Hit) (x : Shot)
  deriving DecidableEq, Repr

/-- A clamp episode is in progress: the current flows, or has fallen less than 20 ns ago (R129). -/
def Chan.clamped (ch : Chan) (t2 : Nat) : Bool := ch.clampAt.isSome || t2 < ch.clampEnd2

/-- A leading edge on a channel: `raw` the vernier code, `tot` and `rng` of the hit (R127). Counts what is lost; an edge that meets several
limits of R133 counts as lost to dead time first, then as beyond 8 hits, then as unresolved (DESIGN CHOICE, log entry 95). A hit leaves the
buffer once it is done and older than any gate, 5 µs. -/
def State.leadingEdge (s : State) (q : Fin 4) (c raw tot : Nat) (rng : Bool) : State × Edge :=
  let s := (s.setChan q c { s.chan q c with compAt := some s.now, inHit := false, wordDue := false }).noteEdge q c 1
  let ch := s.chan q c
  match s.openShots q c with
  | [] => (s, .outside)
  | x :: _ =>
    if ch.st = 3 then (s, .outside)
    else
      let count (s : State) (m : Nat) : State := s.cntAdd q x.frame 0x3440 5 m 1
      let unresolved (s : State) : State × Edge :=
        let s1 := count s 4
        let n := ch.unres + 1
        let s2 := s1.setChan q c { s1.chan q c with unres := n, readBad := true }
        (if n = s2.objN 0x3430 2 then s2.chanTransient q c 2 true false else s2, .lost)
      let f := s.fineOf q c raw
      let lead80 := s.now * 20480 + 5 * f
      let dead : Bool := match ch.trail80 with | some t => lead80 < t + 164 * 80 | none => false
      if dead then (count s 2, .lost)
      else
        let same := ch.tagFrame == x.frame && ch.tagSlot == x.slot
        let idx := if same then ch.tagHits else 0
        if 8 ≤ idx then (count s 3, .lost)
        else if 384 ≤ raw then unresolved s
        else
          let t2 := s.now2 + f * 5 / 4096
          let gain := ch.gainAt t2
          -- a span that ends after the gate closes is taken as FFFh (R127)
          let tot := if x.close2 * 4096 < lead80 + 320 * tot then 0xFFF else min tot 0xFFF
          let conv := ch.relief.getD c
          let h0 : Hit := { at_ := s.now, fine := f, d := s.delayOf q c gain, w := s.walkOf q gain tot, tot := tot, rng := rng, gain := gain
                            clamp := ch.clamped t2
                            settle := ch.settling t2
                            -- before the switch that the oldest shot asked for
                            held := t2 < ch.swAt2
                            frame := x.frame, slot := x.slot, stamp := 0, idx := idx, gen := (s.chan q conv).gen
                            relief := ch.relief.isSome, t := s.capNow + 40 * f, done := false }
          let st := stampOf h0 x
          if st < 0 ∨ 524287 < st then unresolved s
          else
            let h := { h0 with stamp := st.toNat }
            let s1 := s.setChan q c { ch with
              inHit := true
              wordDue := true
              tagFrame := x.frame
              tagSlot := x.slot
              tagHits := idx + 1
              hits := ch.hits + 1
              buf := h :: ch.buf.filter fun g => !g.done || s.now < g.at_ + 2000 }
            (count s1 1, .stamped h x)

/-- The falling crossing of the low threshold: the hit ends, its word leaves, and the dead time begins (R127, R132, R133). -/
def State.trailingEdge (s : State) (q : Fin 4) (c raw : Nat) : State :=
  let s1 := (s.sendWord q c).noteEdge q c 2
  let ch := s1.chan q c
  s1.setChan q c { ch with compAt := none, inHit := false, trail80 := some (s.now * 20480 + 5 * s.fineOf q c raw) }

/-! ### Clamp episodes (R129, R143) -/

def State.clampOn (s : State) (q : Fin 4) (c : Nat) : State :=
  let ch := s.chan q c
  if ch.clampAt.isSome then s
  else
    let buf := if ch.inHit then (match ch.buf with | h :: t => { h with clamp := true } :: t | [] => []) else ch.buf
    (s.setChan q c { ch with clampAt := some s.now, clampEvt := false, clamps := min 511 (ch.clamps + 1), buf := buf }).noteEdge q c 5

/-- The clamp current has fallen below 1 mA: the episode ends 20 ns later. -/
def State.clampOff (s : State) (q : Fin 4) (c : Nat) : State :=
  let ch := s.chan q c
  match ch.clampAt with
  | some t => (s.setChan q c { ch with clampAt := none, clampWas := t, clampEnd2 := s.now2 + 40 }).noteEdge q c 6
  | none => s

/-- How long the last clamp episode has lasted by now, its last 20 ns included, half ns. -/
def State.clampLen (s : State) (ch : Chan) : Nat :=
  match ch.clampAt with
  | some t => 5 * (s.now - t)
  | none => min s.now2 ch.clampEnd2 - 5 * ch.clampWas

/-- The episode has lasted longer than `3.430.01`. -/
def State.clampLong (s : State) (q : Fin 4) (c : Nat) : State :=
  let ch := s.chan q c
  if !ch.clampEvt && decide (2 * s.objN 0x3430 1 < s.clampLen ch) then
    let s1 := s.setChan q c { ch with clampEvt := true }
    (s1.cntAdd q s1.frm.no 0x3440 5 5 1).chanTransient q c 1 false true
  else s

/-- The comparator has been active for more than 50 µs, none of them in a clamp episode (R144). -/
def State.stuckOn (s : State) (q : Fin 4) (c : Nat) : State :=
  let ch := s.chan q c
  match ch.compAt with
  | none => s
  | some t =>
    if ch.clampAt.isNone ∧ t + 50 * usP < s.now ∧ ch.clampEnd2 + 250 * usP < s.now2 ∧ s.chanGates q c then s.chanSuspect q c 2 else s

end Sys2Proof.Machine
end

