-- ==== Sys2Proof/Machine/Pattern.lean ====
section
/-! DEFINITION. Pattern entries, banks, the code book, writes to the shadow and the cell table (R82, R85 ... R89, R150, R152, R169). -/

namespace Sys2Proof.Machine

/-- Fields of an entry (R82). -/
def entEmit (e : Nat) : Nat := bits e 80 48
def entHpc (e : Nat) : Nat := bits e 78 2
def entGset (e : Nat) : Nat := bits e 70 8
def entGain (e : Nat) : Nat := bits e 69 1
def entWstart (e : Nat) : Nat := bits e 58 11
def entWend (e : Nat) : Nat := bits e 47 11
def entCode (e : Nat) : Nat := bits e 41 6
def entWeight (e : Nat) : Nat := bits e 33 8
def entAngle (e : Nat) : Bool := bit e 32
def entTrig (e : Nat) : Nat := bits e 16 16
def entCell (e : Nat) : Nat := bits e 4 12
def entRep (e : Nat) : Nat := bits e 1 3
def entLast (e : Nat) : Bool := bit e 0

/-- Number of set bits of a word of `n` bits. -/
def popCount (w : Nat) : Nat → Nat
  | 0 => 0
  | n + 1 => b2n (bit w n) + popCount w n

/-- The entry at an index; unwritten entries are zero. -/
def Bank.entry (b : Bank) (i : Nat) : Nat := AMap.get 0 b.entries i

/-- Index of the first entry with `last` set. -/
def Bank.lastIndex (b : Bank) : Option Nat := (b.entries.find? fun kv => entLast kv.2).map (·.1)

/-- Entries of the pattern; 0 if it has no `last` flag (`3.200`). -/
def Bank.size (b : Bank) : Nat := match b.lastIndex with | some i => i + 1 | none => 0

/-- The entries from index 0 to the first `last`. -/
def Bank.list (b : Bank) : List Nat := (List.range b.size).map b.entry

/-- The gate set of 256 bits, octet 0 of its first unit in the most significant place. -/
def Bank.gates256 (b : Bank) (g : Nat) : Nat := AMap.get 0 b.gates (2 * g) * 2 ^ 128 + AMap.get 0 b.gates (2 * g + 1)

/-! ### Code book (R88, R89) -/

/-- A code keeps to R88. -/
def codeOk (w : Nat) : Bool :=
  let n := bits w 24 2
  let s := [bits w 16 8, bits w 8 8, bits w 0 8]
  w / 2 ^ 26 == 0 && (s.take n).all (fun x => 10 ≤ x && x ≤ 100) && (s.drop n).all (· == 0) && (s.take n).sum ≤ 225

/-- Code index in effect; 0 outside a domain (R89, `2.200`). -/
def State.codeIndex (s : State) : Nat := s.objN 0x2200 1

/-- Pulse offsets of a code, in reference periods, after the code index has been added (R88, R89). -/
def State.trainOf (s : State) (code : Nat) : List Nat :=
  let w := s.objN 0x3240 (code + 1)
  let k := s.codeIndex
  let s1 := bits w 16 8 + bits k 0 4
  let s2 := bits w 8 8 + bits k 4 3
  let s3 := bits w 0 8 + bits k 7 3
  ([0, s1, s1 + s2, s1 + s2 + s3]).take (bits w 24 2 + 1)

/-- Pulses of a code. -/
def State.pulsesOf (s : State) (code : Nat) : Nat := bits (s.objN 0x3240 (code + 1)) 24 2 + 1

/-! ### Durations (R86) -/

/-- Computed duration in reference periods: the sum over the entries plus 4.8 µs. -/
def Bank.computed (b : Bank) : Nat := (b.list.map fun e => entTrig e + entRep e * max (entTrig e) 332).sum + 1920

/-- Duration used by the frame-timing set, in reference periods. -/
def Bank.duration (b : Bank) : Nat := if b.dur = 0 then b.computed else b.dur * 400

/-! ### Writes to the shadow (R85) -/

/-- An entry that R85 accepts at an index. -/
def entryOk (i e : Nat) : Bool :=
  popCount (entEmit e) 48 ≤ 16 && entWstart e ≤ 1598 && entWstart e + 1 ≤ entWend e && entWend e ≤ 1599
    && (i == 0 || entAngle e || 332 ≤ entTrig e)

/-- 16-octet units of a write. -/
def units16 (o : Octets) : List Nat := (List.range (o.length / 16)).map fun i => fieldAt o (16 * i) 16

/-- Units written from an index of a region of a bank. -/
def Bank.put (b : Bank) (region idx : Nat) (l : List Nat) : Bank :=
  (l.zipIdx idx).foldl (fun b p =>
    if region = 0 then { b with entries := AMap.put 0 b.entries p.2 p.1 } else { b with gates := AMap.put 0 b.gates p.2 p.1 }) b

/-- Lay queued writes over the refreshed shadow in arrival order (R85, R87). -/
def Bank.overlay (b : Bank) : List (Nat × Nat × Octets) → Bank
  | [] => b
  | (r, i, o) :: t => (if r = 2 then { b with dur := beNat o } else b.put r i (units16 o)).overlay t

/-- A commit for the Quadrant is pending (R85, R86). -/
def State.commitPending (s : State) (q : Nat) : Bool := s.tv.pend.any fun p => p.obj == 0x3210 && bit p.val.toNat q

/-- Pointer `3.201`. -/
def State.patPtr (s : State) : Fin 4 × Nat × Nat := (Fin.ofNat 4 (s.objN 0x3201 1), s.objN 0x3201 2, s.objN 0x3201 3)

/-- Checks of a write to `3.202` (R85). -/
def State.patCodes (s : State) (o : Octets) : List Nat :=
  let (q, reg, i) := s.patPtr
  let us := units16 o
  let past := (if reg = 0 then 65536 else 512) < i + us.length
  let bad := reg == 0 && (us.zipIdx i).any fun p => !entryOk p.2 p.1
  let queued := ((s.quad q).wq.map fun x => x.2.2.length).sum
  when (past || bad) 0x0301 ++ when (s.commitPending q.val) 0x0401
    ++ when (!(s.quad q).ready && 4096 < queued + o.length) 0x0701

/-- Effect: into the shadow, or into the queue while it is refreshed; the pointer advances. A pointer that would pass the end of its
region stays at its last value of range. -/
def State.patWrite (s : State) (o : Octets) : State :=
  let (q, reg, i) := s.patPtr
  let us := units16 o
  let s1 := s.modQuad q fun qd =>
    if qd.ready then { qd with shd := qd.shd.put reg i us } else { qd with wq := qd.wq ++ [(reg, i, o)] }
  s1.setObj 0x3201 3 (min 65535 (i + us.length) : Nat)

/-- Checks and effect of a write of declared durations, which belong to the shadow (`3.203`). -/
def State.durCodes (s : State) (w : List (Nat × Int)) : List Nat :=
  when (w.any fun x => s.commitPending (x.1 - 1)) 0x0401
  ++ when (w.any fun x => !(s.quad (Fin.ofNat 4 (x.1 - 1))).ready && 4096 < ((s.quad (Fin.ofNat 4 (x.1 - 1))).wq.map fun y => y.2.2.length).sum + 4) 0x0701

def State.durWrite (s : State) (w : List (Nat × Int)) : State :=
  w.foldl (fun s x =>
    let q : Fin 4 := Fin.ofNat 4 (x.1 - 1)
    s.modQuad q fun qd =>
      if qd.ready then { qd with shd := { qd.shd with dur := x.2.toNat } } else { qd with wq := qd.wq ++ [(2, 0, toBE 4 x.2.toNat)] }) s

/-- Quadrants of a mask. -/
def quadsOf (m : Nat) : List (Fin 4) := quads4.filter fun q => bit m q.val

/-- Checks of a commit (R86). -/
def State.commitCodes (s : State) (m : Nat) : List Nat :=
  when ((quadsOf m).any fun q => !(s.quad q).ready) 0x0701
  ++ when ((quadsOf m).any fun q =>
      (s.quad q).shd.lastIndex.isNone || ((s.quad q).shd.dur == 0 && (s.quad q).shd.list.any entAngle)) 0x0301

/-! ### Visits and the cell table (R150, R152, R169) -/

/-- Each entry of a pattern with the number of the visit of its cell that it lies in, from 0: `seen` counts visits by cell. -/
def visitsGo : Option Nat → AMap Nat → List Nat → List (Nat × Nat)
  | _, _, [] => []
  | cur, seen, e :: es =>
    let c := entCell e
    if cur = some c then (e, AMap.get 0 seen c - 1) :: visitsGo cur seen es
    else (e, AMap.get 0 seen c) :: visitsGo (some c) (AMap.put 0 seen c (AMap.get 0 seen c + 1)) es

def Bank.visits (b : Bank) : List (Nat × Nat) := visitsGo none [] b.list

/-- The cell has a zoom pass. -/
def Bank.hasZoom (b : Bank) (cell : Nat) : Bool := b.visits.any fun p => entCell p.1 == cell && p.2 == 1

/-- Entries in surplus visits. -/
def Bank.surplus (b : Bank) : Nat := (b.visits.filter fun p => 2 ≤ p.2).length

/-- Cells with a coarse pass, and with a zoom pass. -/
def Bank.coarseCells (b : Bank) : List Nat := (b.list.map entCell).eraseDups
def Bank.zoomCells (b : Bank) : List Nat := ((b.visits.filter fun p => p.2 == 1).map fun p => entCell p.1).eraseDups

/-- Zoom entries of non-zero weight. -/
def Bank.zoomEntries (b : Bank) : List Nat := (b.visits.filter fun p => p.2 == 1 && entWeight p.1 != 0).map (·.1)

/-- Setting in effect of a sink: current code, width and enable; of a pulse-command channel: width code and enable (`3.311`). -/
def State.sinkC (s : State) (m : Nat) : Nat := bits (s.objN 0x3311 (m + 1)) 16 10
def State.sinkW (s : State) (m : Nat) : Nat := bits (s.objN 0x3311 (m + 1)) 8 7
def State.sinkOn (s : State) (m : Nat) : Bool := bit (s.objN 0x3311 (m + 1)) 0
def State.hpcW (s : State) (p : Nat) : Nat := bits (s.objN 0x3311 (193 + p)) 24 7
def State.hpcOn (s : State) (p : Nat) : Bool := bit (s.objN 0x3311 (193 + p)) 31
def State.globalG (s : State) : Nat := s.objN 0x3311 201

/-- Emitters of an entry: sinks by number 0 ... 191, pulse-command channels as 192 ... 199. -/
def emittersOf (q : Fin 4) (e : Nat) : List Nat :=
  ((List.range 48).filter fun n => bit (entEmit e) n).map (· + 48 * q.val)
  ++ ((List.range 2).filter fun n => bit (entHpc e) n).map (· + 192 + 2 * q.val)

/-- Cost of one pulse of an emitter (R169). -/
def State.pulseCost (s : State) (m : Nat) : Nat :=
  if m < 192 then s.globalG * s.sinkC m * s.sinkW m else s.objN 0x4020 (6 + (m - 192)) * s.hpcW (m - 192)

/-- Cost k of one shot of an entry. -/
def State.shotCost (s : State) (q : Fin 4) (e : Nat) : Nat :=
  s.pulsesOf (entCode e) * ((emittersOf q e).map s.pulseCost).sum

/-- The cell table that the validation of a commit records in a bank: the pulses P of every emitter and the weight total V (R152, R169). -/
def State.cellTable (s : State) (q : Fin 4) (b : Bank) : Bank :=
  { b with
    pulses := b.zoomEntries.foldl (fun t e =>
      (emittersOf q e).foldl (fun t m => AMap.put 0 t m (AMap.get 0 t m + s.pulsesOf (entCode e) * (entRep e + 1))) t) []
    weight := (b.zoomEntries.map fun e => entWeight e * (entRep e + 1)).sum }

/-- Account of a frame: ρ times the cost of the pulses of the cell table at the settings in effect. -/
def State.accountOf (s : State) (b : Bank) : Nat := s.objN 0x4020 2 * (b.pulses.map fun kv => s.pulseCost kv.1 * kv.2).sum / 65536

end Sys2Proof.Machine
end

