-- ==== Sys2Proof/Machine/Queues.lean ====
section
/-! DEFINITION. The four output queues (R274 ... R284), the Ingot and its packers (R306 ... R309). -/

namespace Sys2Proof.Machine

def State.queue (s : State) (n : Fin 4) : OutQ := s.queues.get n
def State.setQueue (s : State) (n : Fin 4) (v : OutQ) : State := { s with queues := s.queues.set n v }
def State.link (s : State) (l : Fin 2) : Link := s.links.get l
def State.setLink (s : State) (l : Fin 2) (v : Link) : State := { s with links := s.links.set l v }
def State.modLink (s : State) (l : Fin 2) (f : Link → Link) : State := s.setLink l (f (s.link l))

/-- Stream and bulk queue of a link (R274). -/
def streamQ (l : Fin 2) : Fin 4 := Fin.ofNat 4 l.val
def bulkQ (l : Fin 2) : Fin 4 := Fin.ofNat 4 (2 + l.val)
def linkQ (l : Fin 2) (bulk : Bool) : Fin 4 := if bulk then bulkQ l else streamQ l

/-- Link of a queue. -/
def queueLink (n : Fin 4) : Fin 2 := Fin.ofNat 2 n.val

/-- Reservations are refused while the link is stopped or its domain is off (R276, R316). -/
def State.queueOpen (s : State) (n : Fin 4) : Bool :=
  let st := (s.link (queueLink n)).st
  !(st == 0 || st == 5)

/-- Reserve `l` read words (R278). -/
def State.reserve (s : State) (n : Fin 4) (l : Nat) : State × Bool :=
  let q := s.queue n
  if s.queueOpen n ∧ l ≤ 2048 ∧ l ≤ q.free then (s.setQueue n { q with free := q.free - l }, true)
  else (s.bump 0x5110 (8 * n.val + 5) 1, false)

/-- The 64-bit words in which a producer writes a packet, with their valid octets; the last one holds 1 ... 8, most significant (R277). -/
def writeWords : Nat → Octets → List (Octets × Nat)
  | 0, _ => []
  | n + 1, o => if o.isEmpty then [] else (fitTo 8 (o.take 8), (o.take 8).length) :: writeWords n (o.drop 8)

/-- Four writes fill a read word, the first in its most significant octets; octets beyond the valid ones are 00h (R277). -/
def readWords : List (Octets × Nat) → List ReadWord
  | a :: b :: c :: d :: rest =>
    { o := a.1 ++ b.1 ++ c.1 ++ d.1, last := rest.isEmpty, vb := a.2 + b.2 + c.2 + d.2 } :: readWords rest
  | [] => []
  | l => [{ o := fitTo 32 (l.flatMap (·.1)), last := true, vb := (l.map (·.2)).sum }]

/-- The octets that the consumer reads. -/
def Packet.octets (p : Packet) : Octets := p.words.flatMap fun w => w.o.take w.vb

/-- The position after another, and the way from one position to another, modulo 2^32 (R281). -/
def qNext (p : Nat) : Nat := (p + 1) % 2 ^ 32
def qDist (a b : Nat) : Nat := (b + 2 ^ 32 - a) % 2 ^ 32

/-- Commit a packet of octets into a reservation of `l` words; the words not used return (R278, R279). -/
def State.commit (s : State) (n : Fin 4) (l : Nat) (o : Octets) (frame : Nat) : State :=
  let q := s.queue n
  let w := readWords (writeWords (o.length / 8 + 1) o)
  s.setQueue n { q with
    free := q.free + (l - w.length)
    c := qNext q.c
    pkts := q.pkts ++ [{ pos := q.c, words := w, frame := frame, damaged := false, evt := false }] }

/-- A producer rewinds its open packet (R279). -/
def State.rewindOpen (s : State) (n : Fin 4) (l : Nat) : State :=
  let q := s.queue n
  (s.setQueue n { q with free := q.free + l }).bump 0x5110 (8 * n.val + 6) 1

/-- Read one packet (R281). -/
def State.readPacket (s : State) (n : Fin 4) : State × Option Packet :=
  let q := s.queue n
  if q.r ≠ q.c then (s.setQueue n { q with r := qNext q.r }, q.pkts.find? fun p => p.pos == q.r) else (s, none)

/-- Read on past a packet, when the consumer already has the acknowledgement of all that it reads and drops (R281). -/
def State.readPast (s : State) (n : Fin 4) (p : Nat) : State :=
  let q := s.queue n
  if qDist q.o q.r ≤ qDist q.o p ∧ qDist q.o p < qDist q.o q.c then s.setQueue n { q with r := qNext p } else s

/-- Mark(p), within O ≤ p ≤ R (R281). -/
def State.mark (s : State) (n : Fin 4) (p : Nat) : State :=
  let q := s.queue n
  if qDist q.o p ≤ qDist q.o q.r then s.setQueue n { q with m := p } else s

/-- Rewind: the consumer reads again from the mark (R281). -/
def State.rewind (s : State) (n : Fin 4) : State :=
  (s.setQueue n { s.queue n with r := (s.queue n).m }).bump 0x5110 (8 * n.val + 7) 1

/-- Release(k) of the oldest packets that have been read (R281). -/
def State.release (s : State) (n : Fin 4) (k : Nat) : State :=
  let q := s.queue n
  if qDist q.o q.r < k then s
  else
    let gone (p : Packet) : Bool := decide (qDist q.o p.pos < k)
    let o := (q.o + k) % 2 ^ 32
    s.setQueue n { q with
      o := o
      m := if qDist q.o q.m < k then o else q.m
      pkts := q.pkts.filter fun p => !gone p
      free := q.free + ((q.pkts.filter gone).map (·.words.length)).sum }

/-- Empty a queue (R276): every packet is released. -/
def State.emptyQueue (s : State) (n : Fin 4) : State :=
  let q := s.queue n
  s.setQueue n { q with o := q.c, m := q.c, r := q.c, pkts := [], free := q.free + (q.pkts.map (·.words.length)).sum }

/-! ### The Ingot (R306) -/

/-- The 4,096 octets of an Ingot as it stands in the queue. -/
def ingot (frame qmask flags count iseq total ftime : Nat) (recs : Octets) : Octets :=
  let head := toBE 4 frame ++ toBE 2 0 ++ toBE 1 qmask ++ toBE 1 flags ++ toBE 2 count ++ toBE 2 iseq ++ toBE 2 1 ++ toBE 2 0
  let body := head ++ fitTo 4064 recs
  let cchk := 65535 - (count + iseq + total + frame) % 65536
  body ++ toBE 4 (crc32c body) ++ toBE 8 ftime ++ toBE 2 (total % 65536) ++ toBE 2 cchk

/-- The in-hand Ingot of a frame on a link. -/
def State.inHand (s : State) (l : Fin 2) (frame : Nat) : Option InHand := (s.link l).inHand.find? fun h => h.frame == frame

def State.setInHand (s : State) (l : Fin 2) (h : InHand) : State :=
  s.modLink l fun lk => { lk with inHand := lk.inHand.map fun x => if x.frame == h.frame then h else x }

/-- Records lost: the next Ingot says so, and the first loss of a frame is logged (R307, R308). -/
def State.recordsLost (s : State) (l : Fin 2) (frame why : Nat) : State :=
  let known := (s.link l).lostFrames
  let s1 := s.modLink l fun lk => { lk with lost := true, lostFrames := if known.contains frame then known else (frame :: known).take 4 }
  if known.contains frame then s1 else s1.evt 0x1901 (l.val + 2 * why)

/-- Octets of the next Ingot of a frame, with further flags. -/
def State.nextIngot (s : State) (l : Fin 2) (h : InHand) (fl count : Nat) (recs : Octets) : Octets :=
  let flags := b2n (h.iseq == 0) + fl + 8 * b2n (s.link l).lost
  ingot h.frame (16 * h.live + h.quads) flags count h.iseq (h.total + count) h.ftime recs

/-- Commit the in-hand point Ingot with further flags; a closing one is not followed by a reservation. -/
def State.commitInHand (s : State) (l : Fin 2) (frame fl : Nat) (again : Bool) : State :=
  match s.inHand l frame with
  | none => s
  | some h =>
    let o := s.nextIngot l h fl h.recs.length h.recs.flatten
    let s1 := (s.commit (streamQ l) 128 o frame).bump (if l = 0 then 0x5304 else 0x5314) 5 1
    let s2 := s1.modLink l fun lk => { lk with lost := false }
    let r := if again then s2.reserve (streamQ l) 128 else (s2, false)
    r.1.setInHand l { h with reserved := r.2, recs := [], quads := 0, firstAt := none, iseq := h.iseq + 1, total := h.total + h.recs.length }

/-- Commit the export Ingot in hand. -/
def State.commitExport (s : State) (l : Fin 2) (frame : Nat) : State :=
  match s.inHand l frame with
  | none => s
  | some h =>
    if h.dump.isEmpty then s
    else
      let n := h.dump.length / 16
      let o := s.nextIngot l { h with quads := 0 } 16 n h.dump
      let s1 := (s.commit (streamQ l) 128 o frame).bump (if l = 0 then 0x5304 else 0x5314) 5 1
      let s2 := s1.modLink l fun lk => { lk with lost := false }
      s2.setInHand l { h with dump := [], iseq := h.iseq + 1, total := h.total + n }

/-- A frame closes on a link: its export Ingot, and its closing Ingot or, without a reservation, the mark that records are missing (R307). -/
def State.closeFrame (s : State) (l : Fin 2) (frame : Nat) : State :=
  let s1 := s.commitExport l frame
  let s2 := match s1.inHand l frame with
    | some x => if x.reserved then s1.commitInHand l frame 2 false else s1.modLink l fun lk => { lk with lost := true }
    | none => s1
  s2.modLink l fun lk => { lk with inHand := lk.inHand.filter fun x => x.frame != frame }

/-- A frame never starts while two are open on a link: all but the latest are closed by then (R307). -/
def State.closeOlder (s : State) (l : Fin 2) : State :=
  ((s.link l).inHand.take ((s.link l).inHand.length - 1)).foldl (fun s h => s.closeFrame l h.frame) s

/-- A frame starts: each packer reserves its in-hand Ingot (R307). `live` is the mask of live Quadrants. -/
def State.openInHand (s : State) (l : Fin 2) (live : Nat) : State :=
  let route := s.objN 0x5000 (l.val + 1)
  let r := (s.closeOlder l).reserve (streamQ l) 128
  r.1.modLink l fun lk => { lk with inHand := lk.inHand ++ [{ frame := s.frm.no, ftime := s.frm.startNs, live := (List.range 4).foldl (fun m i => if bit live i && bit route i then setBit m i else m) 0
                                                              reserved := r.2, recs := [], quads := 0, firstAt := none, iseq := 0, total := 0, dump := [], ended := false }] }

/-- Releases let a refused reservation be tried again (R307). -/
def State.retryInHand (s : State) (l : Fin 2) : State :=
  (s.link l).inHand.foldl (fun s h =>
    if h.reserved then s
    else
      let q := s.queue (streamQ l)
      if s.queueOpen (streamQ l) ∧ 128 ≤ q.free then
        let r := s.reserve (streamQ l) 128
        match r.1.inHand l h.frame with
        | some x => r.1.setInHand l { x with reserved := true }
        | none => r.1
      else s) s

/-- Refill of the meter of R308: 6 tokens at every 125 ns, 50 periods, of the reference. -/
def State.meterRefill (s : State) : State :=
  { s with recTok := min 4096 (s.recTok + 6 * (s.now / 50 - s.recAt / 50)), recAt := s.now }

/-- One point record of a Quadrant for a link (R307, R308). -/
def State.putRecord (s : State) (l : Fin 2) (frame : Nat) (q : Fin 4) (o : Octets) : State :=
  let cnt := if l = 0 then 0x5304 else 0x5314
  match s.inHand l frame with
  | none => (s.bump cnt 7 1).recordsLost l frame 1
  | some h =>
    if !h.reserved then (s.bump cnt 7 1).recordsLost l frame 1
    else
      let s := s.meterRefill
      if s.recTok < 1 then (s.bump cnt 6 1).recordsLost l frame 0
      else
        let s1 := { s with recTok := s.recTok - 1 }
        let h1 := { h with recs := h.recs ++ [o], quads := setBit h.quads q.val, firstAt := some (h.firstAt.getD s.now) }
        let s2 := s1.setInHand l h1
        if h1.recs.length = 254 then s2.commitInHand l frame 0 true else s2

/-- A record goes to every link its Quadrant is routed to in the frame (R275). -/
def State.shipRecord (s : State) (frame : Nat) (q : Fin 4) (o : Octets) : State :=
  ([0, 1] : List (Fin 2)).foldl (fun s l =>
    match s.inHand l frame with
    | some h => if bit h.live q.val then s.putRecord l frame q o else s
    | none => if bit (s.objN 0x5000 (l.val + 1)) q.val then s.putRecord l frame q o else s) s

/-- One dump on a link: into the export Ingot in hand, or into a new one; skipped when that cannot be reserved (R173, R309). -/
def State.putDump (s : State) (l : Fin 2) (frame : Nat) (o : Octets) : State :=
  match s.inHand l frame with
  | none => s.bump 0x4110 2 1
  | some h =>
    if !h.dump.isEmpty ∧ h.dump.length + o.length ≤ 4064 then (s.setInHand l { h with dump := h.dump ++ o }).bump 0x4110 1 1
    else
      let s1 := s.commitExport l frame
      let r := s1.reserve (streamQ l) 128
      match r.1.inHand l frame with
      | some x => if r.2 then (r.1.setInHand l { x with dump := o }).bump 0x4110 1 1 else r.1.bump 0x4110 2 1
      | none => r.1

/-- Links whose Ingot in hand carries a Quadrant of the frame. -/
def State.carriers (s : State) (frame : Nat) (q : Fin 4) : List (Fin 2) :=
  ([0, 1] : List (Fin 2)).filter fun l => match s.inHand l frame with | some h => bit h.live q.val | none => false

/-- One dump on every link that carries the Quadrant; without one it is skipped (R173). -/
def State.shipDump (s : State) (frame : Nat) (q : Fin 4) (o : Octets) : State :=
  match s.carriers frame q with
  | [] => s.bump 0x4110 2 1
  | l => l.foldl (fun s l => s.putDump l frame o) s

/-- Every routed Quadrant that is live in the frame has decomposed every cell of it. -/
def State.frameDecomposed (s : State) (frame live : Nat) : Bool :=
  quads4.all fun q => !bit live q.val || ((s.quad q).cru.cells.all fun r => r.frame != frame || r.shipped)

/-- Close the frames that have ended and are decomposed (R307). -/
def State.closeFrames (s : State) (l : Fin 2) : State :=
  (s.link l).inHand.foldl (fun s h0 =>
    match s.inHand l h0.frame with
    | none => s
    | some h => if h.ended && s.frameDecomposed h.frame h.live then s.closeFrame l h.frame else s) s

def State.closeAllFrames (s : State) : State := (s.closeFrames 0).closeFrames 1

/-- The frame has ended: its Ingots may close. -/
def State.endInHand (s : State) (frame : Nat) : State :=
  { s with links := s.links.map fun (lk : Link) => { lk with inHand := lk.inHand.map fun (h : InHand) => if h.frame == frame then { h with ended := true } else h } }

/-- A frame aborted by a trigger: its in-hand Ingots are rewound and an empty closing one takes their place (R280, R309). -/
def State.abortInHand (s : State) (l : Fin 2) (frame : Nat) : State :=
  match s.inHand l frame with
  | none => s
  | some h =>
    let s1 := if h.reserved then s.rewindOpen (streamQ l) 128 else s
    let s2 := if h.dump.isEmpty then s1 else s1.rewindOpen (streamQ l) 128
    let r := s2.reserve (streamQ l) 128
    let s3 := if r.2 then
        let o := r.1.nextIngot l { h with quads := 0 } 6 0 []
        ((r.1.commit (streamQ l) 128 o frame).bump (if l = 0 then 0x5304 else 0x5314) 5 1).modLink l fun lk => { lk with lost := false }
      else r.1.modLink l fun lk => { lk with lost := true }
    s3.modLink l fun lk => { lk with inHand := lk.inHand.filter fun x => x.frame != frame }

/-- A link switches off or stops: its queues are emptied and its open Ingots rewound (R276, R316). -/
def State.emptyLink (s : State) (l : Fin 2) : State :=
  let s1 := (s.link l).inHand.foldl (fun s h =>
    let s2 := if h.reserved then s.rewindOpen (streamQ l) 128 else s
    if h.dump.isEmpty then s2 else s2.rewindOpen (streamQ l) 128) s
  let s2 := s1.modLink l fun lk => { lk with inHand := lk.inHand.map fun (h : InHand) => { h with reserved := false, recs := [], quads := 0, firstAt := none, dump := [] } }
  (s2.emptyQueue (streamQ l)).emptyQueue (bulkQ l)

/-- The flush time has passed since an Ingot's first record (R307). -/
def State.flushIngots (s : State) (l : Fin 2) : State :=
  let t := s.objN (if l = 0 then 0x5300 else 0x5310) 5
  if t = 0 then s
  else (s.link l).inHand.foldl (fun s h =>
    match h.firstAt with
    | some a => if a + t * usP ≤ s.now ∧ h.reserved then s.commitInHand l h.frame 0 true else s
    | none => s) s

end Sys2Proof.Machine
end

