-- ==== Sys2Proof/Machine/Crucible.lean ====
section
/-! DEFINITION. The Crucible: visits and contexts, attribution of hits to shots, pouring, zoom windows and shot reallocation
(R150 ... R173). -/

namespace Sys2Proof.Machine

def State.cru (s : State) (q : Fin 4) : Crucible := (s.quad q).cru
def State.modCru (s : State) (q : Fin 4) (f : Crucible → Crucible) : State := s.modQuad q fun qd => { qd with cru := f qd.cru }

def cell0 (frame cell : Nat) : CellRec :=
  { frame := frame, cell := cell, visits := 0, coarseEnd2 := 0, zoomEnd2 := 0, coarseFired := false, zoomFired := false, coarseLate := false, zoomLate := false, coarseClosed := false, zoomClosed := false
    searched := false, need := 0, refused := [], zoomRefused := [], finished := false, shipped := false, todo := [], recs := [], masked := 0, found := [] }

/-- The record of a cell in a frame. -/
def State.cellRec (s : State) (q : Fin 4) (frame cell : Nat) : CellRec :=
  ((s.cru q).cells.find? fun x => x.frame == frame && x.cell == cell).getD (cell0 frame cell)

def State.setCell (s : State) (q : Fin 4) (r : CellRec) : State :=
  s.modCru q fun c =>
    if c.cells.any fun x => x.frame == r.frame && x.cell == r.cell then
      { c with cells := c.cells.map fun x => if x.frame == r.frame && x.cell == r.cell then r else x }
    else { c with cells := c.cells ++ [r] }

/-- A context, if it is open or waiting. -/
def State.ctx (s : State) (q : Fin 4) (frame cell chan : Nat) (zoom : Bool) : Option Ctx :=
  (s.cru q).ctxs.find? fun x => x.frame == frame && x.cell == cell && x.chan == chan && x.zoom == zoom

def State.modCtx (s : State) (q : Fin 4) (frame cell chan : Nat) (zoom : Bool) (f : Ctx → Ctx) : State :=
  s.modCru q fun c => { c with ctxs := c.ctxs.map fun x =>
    if x.frame == frame && x.cell == cell && x.chan == chan && x.zoom == zoom then f x else x }

/-- The cell has a zoom pass in the active bank (R152). -/
def State.hasZoom (s : State) (q : Fin 4) (cell : Nat) : Bool := (s.quad q).act.hasZoom cell

/-! ### Opening and refusing a context (R151, R155, R156) -/

/-- Report a channel-cell blind to both evaluators, unless its Quadrant does not reach the tap. -/
def State.blindCell (s : State) (q : Fin 4) (c cell frame : Nat) : State :=
  if s.taps q then s.tapBlind (chanNo q c) cell frame else s

/-- The same for several channels. -/
def State.blindCells (s : State) (q : Fin 4) (cs : List Nat) (cell frame : Nat) : State :=
  cs.foldl (fun s c => s.blindCell q c cell frame) s

/-- A refusal, counted, with event 1401h for the first of its pass in the frame. -/
def State.ctxRefuse (s : State) (q : Fin 4) (frame cell c : Nat) (zoom : Bool) : State :=
  let r := s.cellRec q frame cell
  if zoom then
    let s1 := (s.setCell q { r with zoomRefused := c :: r.zoomRefused }).cntAdd q frame 0x4300 6 6 1
    if (s.cru q).ev1401z then s1 else (s1.modCru q fun k => { k with ev1401z := true }).evt 0x1401 (q.val + 16)
  else
    let s1 := (s.setCell q { r with refused := c :: r.refused }).cntAdd q frame 0x4300 6 5 1
    let s2 := if (s.cru q).ev1401c then s1 else (s1.modCru q fun k => { k with ev1401c := true }).evt 0x1401 q.val
    s2.blindCell q c cell frame

/-- A context as the gate of a shot opens it. -/
def ctx0 (x : Shot) (c : Nat) (zoom : Bool) (n : Nat) (blocks : List Nat) (open2 : Nat) : Ctx :=
  { frame := x.frame, chan := c, cell := x.cell, zoom := zoom, first := if zoom then 0 else x.wstart, n := n, blocks := blocks
    bins := [], wins := [], groups := [], sCoarse := 0, sZoom := 0, pulses := 0, pours := 0, amb := 0, sat := 0, intf := 0
    limited := false, fixed := false, early := false, surplus := false, unusable := false
    sumAz := 0, sumEl := 0, sumT := 0, stamped := 0, open2 := open2, zopen2 := none, closed := false, zoomFirst := !zoom && x.pass == 1, bg := 0
    searched := false, cands := [] }

/-- Coarse, or zoom, contexts open or waiting. -/
def State.ctxCount (s : State) (q : Fin 4) (zoom : Bool) : Nat := ((s.cru q).ctxs.filter fun x => x.zoom == zoom).length

/-- Open a context of a shot's cell, or refuse it. -/
def State.ctxOpen (s : State) (q : Fin 4) (x : Shot) (c : Nat) (zoom : Bool) (wins : List Zoom) : State :=
  let n := if zoom then wins.length else min (x.wend - x.wstart + 1) (s.objN 0x4000 1)
  let need := if zoom then wins.length else (n + 63) / 64
  let limit := if zoom then s.objN 0x4010 2 else s.objN 0x4000 2
  if limit ≤ s.ctxCount q zoom then s.ctxRefuse q x.frame x.cell c zoom
  else match (s.cru q).alloc need with
  | none => s.ctxRefuse q x.frame x.cell c zoom
  | some (bs, k) =>
    s.modCru q fun _ =>
      let l := k.ctxs ++ [{ ctx0 x c zoom n bs x.open2 with wins := wins }]
      { k with ctxs := l, peak := max k.peak l.length }

/-- A shot whose gate opens on a channel with a context counts as poured into it (R171, R179, R186). -/
def countShot (x : Shot) (zoomPass : Bool) (k : Ctx) : Ctx :=
  if x.listening then k
  else { k with
    sCoarse := k.sCoarse + b2n (!zoomPass)
    sZoom := k.sZoom + b2n zoomPass
    pulses := k.pulses + x.pulses.length
    zopen2 := if zoomPass && k.zopen2.isNone then some x.open2 else k.zopen2
    early := k.early || (zoomPass && x.early) }

/-- The contexts of a channel at a gate that opens (R151, R165, R166). -/
def State.gateContexts (s : State) (q : Fin 4) (x : Shot) (c : Nat) : State :=
  if 2 ≤ x.pass ∨ (s.chan q c).st = 4 then s
  else
    let r := s.cellRec q x.frame x.cell
    let s1 := match s.ctx q x.frame x.cell c false with
      | some _ => s.modCtx q x.frame x.cell c false fun k => { k with closed := false }
      | none => if r.refused.contains c then s else s.ctxOpen q x c false []
    let s2 := s1.modCtx q x.frame x.cell c false (countShot x (x.pass == 1))
    if x.pass = 0 ∨ x.early then s2
    else
      let s3 := match s2.ctx q x.frame x.cell c true, s2.ctx q x.frame x.cell c false with
        | none, some k =>
          if k.wins.isEmpty ∨ !k.searched ∨ (s2.cellRec q x.frame x.cell).zoomRefused.contains c then s2
          else s2.ctxOpen q x c true k.wins
        | _, _ => s2
      s3.modCtx q x.frame x.cell c true (countShot x true)

/-- The cell's search has ended once its coarse visit has closed and every coarse context of that visit has been searched; with none the
need is E (R151, R171). -/
def State.cellSearched (s : State) (q : Fin 4) (frame cell : Nat) : State :=
  let r := s.cellRec q frame cell
  let cs := (s.cru q).ctxs.filter fun x => x.frame == frame && x.cell == cell && !x.zoom && !x.zoomFirst
  if r.coarseClosed && !r.searched && cs.all (·.searched) then
    s.setCell q { r with searched := true, need := if cs.isEmpty then s.objN 0x4020 5 else r.need }
  else s

/-- An instant lies within either visit of a channel-cell: from the first gate on the channel to the close, 50 ns after the last gate
(R179). -/
def State.inVisits (s : State) (q : Fin 4) (k : Ctx) (t2 : Nat) : Bool :=
  let r := s.cellRec q k.frame k.cell
  (k.open2 ≤ t2 && t2 ≤ r.coarseEnd2 + 100)
    || (match (if k.zoom then some k.open2 else k.zopen2) with | some z => decide (z ≤ t2) && decide (t2 ≤ r.zoomEnd2 + 100) | none => false)

/-- A switch point that took a new threshold offset to the comparator of a channel makes the channel-cells in whose visits it fell unusable
for a sample; `old` is the channel before (R179). -/
def State.markSwitch (s : State) (old : Chan) (q : Fin 4) (c : Nat) : State :=
  let ch := s.chan q c
  if ch.dlt = old.dlt then s
  else s.modCru q fun k => { k with
    ctxs := k.ctxs.map fun x => if x.chan == c && s.inVisits q x ch.swAt2 then { x with unusable := true } else x }

/-! ### Memory errors (R157) -/

/-- A physical block is retired and replaced from the spares; with no spare left the Quadrant is retired. -/
def State.blockRetire (s : State) (q : Fin 4) (b : Nat) : State :=
  let k := s.cru q
  let s1 := s.bump 0x4320 (4 * q.val + 3) 1
  if k.spares = 0 then (s1.evt 0x3401 q.val).quadRetire q 3
  else (s1.modCru q fun k => { k with spares := k.spares - 1, released := k.released.filter (· != b) ++ [49152 - k.spares] }).setObj 0x4320 (4 * q.val + 4) ((k.spares - 1 : Nat) : Int)

/-- Where a memory error of a channel-cell lies: `blk` counts the blocks of the coarse context, then those of the zoom context, and then the
descriptor, which no block holds (R154). -/
def State.errAt (s : State) (q : Fin 4) (k : Ctx) (blk : Nat) : Ctx × Option Nat :=
  match k.blocks[blk]?, s.ctx q k.frame k.cell k.chan true with
  | some b, _ => (k, some b)
  | none, none => (k, none)
  | none, some z => match z.blocks[blk - k.blocks.length]? with
    | some b => (z, some b)
    | none => (k, none)

/-- A block with a double-bit error: recorded, and retired where it fails its release test or had one within 1 h. -/
def State.blockError (s : State) (q : Fin 4) (b : Nat) (fails : Bool) : State :=
  let again := (s.cru q).blockErrs.any fun e => e.block == b && s.now < e.at_ + 3600 * secP
  let s1 := s.modCru q fun k => { k with blockErrs := { block := b, at_ := s.now } :: k.blockErrs.filter fun e => e.block != b }
  if fails || again then s1.blockRetire q b else s1

/-- A double-bit error in a channel-cell: the context that it lies in is discarded, the channel-cell is reported blind and yields no points;
a block that holds it is tested, `fails` says that it fails the test. Without its coarse context a zoom context serves nothing more. -/
def State.doubleBit (s : State) (q : Fin 4) (k : Ctx) (blk : Nat) (fails : Bool) : State :=
  let r := s.cellRec q k.frame k.cell
  let zoom := (s.errAt q k blk).1.zoom
  let s1 := s.setCell q { r with refused := k.chan :: r.refused, zoomRefused := k.chan :: r.zoomRefused }
  let s2 := s1.modQuad q fun qd => { qd with
    shadowBad := true
    cru := qd.cru.discard fun x => x.frame == k.frame && x.cell == k.cell && x.chan == k.chan && (x.zoom || !zoom) }
  let s3 := ((s2.bump 0x4320 (4 * q.val + 2) 1).evt 0x2401 q.val).blindCell q k.chan k.cell k.frame
  let s4 := s3.cellSearched q k.frame k.cell
  match (s.errAt q k blk).2 with
  | some b => s4.blockError q b fails
  | none => s4

/-- Single-bit errors are corrected and counted, and noted in the context that holds the word. -/
def State.singleBit (s : State) (q : Fin 4) (k : Ctx) (blk : Nat) : State :=
  (s.bump 0x4320 (4 * q.val + 1) 1).modCtx q k.frame k.cell k.chan (s.errAt q k blk).1.zoom fun x => { x with fixed := true }

/-! ### Pouring (R163, R164, R166, R178) -/

/-- Amplitude code of a hit (R178). -/
def Hit.ampCode (h : Hit) : Nat := if h.rng then 2048 + h.tot / 2 else h.tot / 2

/-- Refill the token bucket: 3 tokens every 2 ns, in quarters 15 a period. -/
def State.pourRefill (s : State) (q : Fin 4) : State :=
  s.modCru q fun k => { k with tok4 := min 16384 (k.tok4 + 15 * (s.now - k.tokAt)), tokAt := s.now }

/-- Zoom window that covers an aligned time. -/
def winOf (l : List Zoom) (a : Int) : Option Nat := l.findIdx? fun w => w.start ≤ a && a < w.start + 512

/-- Engine octets of the coarse context for an aligned time. -/
def groupPour (k : Ctx) (h : Hit) (a : Int) (amb : Bool) : Ctx :=
  let b := a / 256 - k.first
  if b < 0 ∨ (k.n : Int) ≤ b then k
  else
    let g := b.toNat / 16
    let v := AMap.get ({ amp := 0, amb := 0, high := 0 } : Group) k.groups g
    { k with groups := AMap.ins k.groups g {
        amp := if amb then v.amp else min (2 ^ 32 - 1) (v.amp + h.ampCode)
        amb := if amb then min 65535 (v.amb + 1) else v.amb
        high := if h.rng then min 65535 (v.high + 1) else v.high } }

/-- A pour into a coarse bin. -/
def coarsePour (k : Ctx) (h : Hit) (a : Int) (amb : Bool) : Ctx :=
  let b := (a / 256 - k.first).toNat
  let v := AMap.get 0 k.bins b
  if 0xFFF ≤ v then { k with sat := k.sat + 1, pours := k.pours + 1, amb := k.amb + b2n amb }
  else groupPour { k with bins := AMap.put 0 k.bins b (v + 1), pours := k.pours + 1, amb := k.amb + b2n amb, unusable := k.unusable || h.held || h.settle } h a amb

/-- A pour into a zoom window. -/
def zoomPour (k : Ctx) (i : Nat) (h : Hit) (a : Int) (amb : Bool) : Ctx :=
  match k.wins[i]? with
  | none => k
  | some w =>
    let d := (a - w.start).toNat
    let v := AMap.get 0 w.bins (d / 8)
    if 0xFFFF ≤ v then { k with wins := k.wins.set i { w with sat := true }, sat := k.sat + 1, pours := k.pours + 1, amb := k.amb + b2n amb }
    else { k with
      wins := k.wins.set i { w with bins := AMap.put 0 w.bins (d / 8) (v + 1), hits := w.hits + 1, residue := w.residue + d }
      pours := k.pours + 1
      amb := k.amb + b2n amb
      unusable := k.unusable || h.held || h.settle }

/-- The meter's decision on a pour: the state with a token spent, or a dropped pour and what it costs the context. -/
def State.meterPour (s : State) (q : Fin 4) (x : Shot) (c : Nat) (zoom amb : Bool) : State × Bool :=
  let s := s.pourRefill q
  let t := (s.cru q).tok4
  if t < 4 ∨ (amb ∧ t < 4096) then
    let s1 := s.cntAdd q x.frame 0x4310 6 5 1
    if amb then (s1, false)
    else
      let s2 := s1.modCtx q x.frame x.cell c zoom fun k => { k with limited := true }
      let s3 := s2.blindCell q c x.cell x.frame
      let s4 := if (s.cru q).ev1402 then s3 else (s3.modCru q fun k => { k with ev1402 := true }).evt 0x1402 q.val
      (s4, false)
  else (s.modCru q fun k => { k with tok4 := k.tok4 - 4 }, true)

/-- Close of the latest gate of the visit that a shot belongs to, half ns; none while the visit is in progress. -/
def State.visitEnd2 (s : State) (q : Fin 4) (x : Shot) : Option Nat :=
  let r := s.cellRec q x.frame x.cell
  if !(s.quad q).seq.done && (s.quad q).visit == some (x.cell, x.pass) then none
  else some (if x.pass = 0 then r.coarseEnd2 else r.zoomEnd2)

/-- A hit becomes unmatched, 650 ns after its leading edge, before its visit closes (R153, R160). -/
def State.unmatchedInVisit (s : State) (q : Fin 4) (x : Shot) (h : Hit) : Bool :=
  match s.visitEnd2 q x with
  | none => true
  | some e => decide (5 * (h.at_ + 260) < e + 100)

/-- The visit that a shot belongs to has closed, so its contexts take no more pours of it (R153, R166). -/
def State.visitClosed (s : State) (q : Fin 4) (x : Shot) : Bool :=
  let r := s.cellRec q x.frame x.cell
  if x.pass = 0 then r.coarseClosed else r.zoomClosed

/-- One hit of a matched train at its aligned time. -/
def State.pour (s : State) (q : Fin 4) (c : Nat) (x : Shot) (h : Hit) (a : Int) (amb : Bool) : State :=
  if 2 ≤ x.pass then
    let seen (k : Ctx) : Ctx := { k with surplus := true }
    ((s.cntAdd q x.frame 0x4310 6 6 1).modCtx q x.frame x.cell c false seen).modCtx q x.frame x.cell c true seen
  else match s.ctx q x.frame x.cell c false with
  | none => s
  | some k =>
    let z := if x.pass = 1 ∧ !x.early then s.ctx q x.frame x.cell c true else none
    let wi := match z with | some zk => (if s.visitClosed q x then none else winOf zk.wins a) | none => none
    let b := a / 256 - k.first
    if wi.isNone ∧ (b < 0 ∨ (k.n : Int) ≤ b) then s.cntAdd q x.frame 0x4310 6 4 1
    else if s.visitClosed q x then s
    else
      let m := s.meterPour q x c wi.isSome amb
      if !m.2 then m.1
      else
        let s1 := m.1.cntAdd q x.frame 0x4310 6 (if amb then 2 else 1) 1
        match wi with
        | some i =>
          let s2 := s1.modCtx q x.frame x.cell c true fun k => zoomPour k i h a amb
          s2.modCtx q x.frame x.cell c false fun k => groupPour k h a amb
        | none => s1.modCtx q x.frame x.cell c false fun k => coarsePour k h a amb

/-! ### Attribution (R158 ... R161) -/

/-- The hit of the buffer nearest to an aligned time for an offset, the earlier one on a tie; the buffer is newest first. -/
def nearestHit (buf : List Hit) (x : Shot) (o : Nat) (a : Int) (tau : Nat) : Option Hit :=
  (buf.foldl (fun (best : Option (Nat × Hit)) g =>
    let d := (stampOf g x - 256 * o - a).natAbs
    if tau < d then best
    else match best with
      | none => some (d, g)
      | some (d', _) => if d ≤ d' then some (d, g) else best) none).map (·.2)

/-- The hits found for the offsets of a train, in order. -/
def trainHits (buf : List Hit) (x : Shot) (a : Int) (tau : Nat) (os : List Nat) : List (Option Hit) :=
  os.map fun o => nearestHit buf x o a tau

/-- A shot matches a hit taken as its last pulse: the aligned time and the hits with their aligned times (R158). -/
def matchShot (buf : List Hit) (tau : Nat) (missing : Bool) (x : Shot) (h : Hit) : Option (Int × List (Hit × Int)) :=
  let n := x.pulses.length
  let a := stampOf h x - 256 * x.span
  let os := x.pulses.take (n - 1)
  let gs := trainHits buf x a tau os
  let lost := (gs.filter Option.isNone).length
  if lost = 0 ∨ (missing ∧ 3 ≤ n ∧ lost = 1) then
    some (a, ((gs.zip os).filterMap fun p => p.1.map fun g => (g, stampOf g x - 256 * p.2)) ++ [(h, a)])
  else none

/-- The train lacks only its last pulse when the hit is its penultimate one. -/
def matchLate (buf : List Hit) (tau : Nat) (x : Shot) (h : Hit) : Bool :=
  let n := x.pulses.length
  let o := x.pulses.getD (n - 2) 0
  let a := stampOf h x - 256 * o
  3 ≤ n && (trainHits buf x a tau (x.pulses.take (n - 2))).all Option.isSome

/-- Mark hits of a channel as attributed. -/
def State.markDone (s : State) (q : Fin 4) (c : Nat) (l : List Hit) : State :=
  let ch := s.chan q c
  s.setChan q c { ch with buf := ch.buf.map fun g => if l.any (fun h => h.at_ == g.at_ && h.fine == g.fine) then { g with done := true } else g }

/-- A train matched to one or more shots: its pours and one candidate for each shot (R159, R161, R163). -/
def State.attribute (s : State) (q : Fin 4) (c : Nat) (ms : List (Shot × Int × List (Hit × Int))) : State :=
  let amb := 2 ≤ ms.length
  let s1 := s.markDone q c (ms.flatMap fun m => m.2.2.map (·.1))
  ms.foldl (fun s m =>
    let s2 := m.2.2.foldl (fun s p => s.pour q c m.1 p.1 p.2 amb) s
    s2.tapCand q { chan := chanNo q c, frame := m.1.frame, cell := m.1.cell, bin := m.2.1 / 256, stamp := m.2.1, res := b2n amb }) s1

/-- The look-back buffer of a channel: its 32 most recent hits (R158). -/
def State.lookBack (s : State) (q : Fin 4) (c : Nat) : List Hit := (s.chan q c).buf.take 32

/-- The open shots that a new hit completes a train of, oldest first, with the aligned times (R158). -/
def State.hitMatches (s : State) (q : Fin 4) (c : Nat) (h : Hit) : List (Shot × Int × List (Hit × Int)) :=
  ((s.openShots q c).filter fun x => !x.listening).filterMap fun x =>
    (matchShot (s.lookBack q c) (s.objN 0x4000 3) (s.obj 0x4000 4 == 1) x h).map fun r => (x, r.1, r.2)

/-- The matcher on a new hit (R158): every open shot that fires a train. -/
def State.matchHit (s : State) (q : Fin 4) (c : Nat) (h : Hit) : State :=
  if (s.chan q c).st = 4 then s
  else
    let buf := s.lookBack q c
    let tau := s.objN 0x4000 3
    let missing := s.obj 0x4000 4 == 1
    let shots := (s.openShots q c).filter fun x => !x.listening
    let ms := s.hitMatches q c h
    let lates := if missing then shots.filter fun x => matchLate buf tau x h else []
    let entry (x : Shot) : LatePulse :=
      let o1 := x.span - x.pulses.getD (x.pulses.length - 2) 0
      { frame := x.frame, slot := x.slot, at_ := h.at_, fine := h.fine, due := h.at_ + o1 + (h.fine / 16 + tau + 255) / 256 }
    let s1 := if ms.isEmpty then s else s.attribute q c ms
    s1.setChan q c { s1.chan q c with late := (s1.chan q c).late ++ lates.map entry }

/-- τ after the last pulses of a hit's trains were due: those still missing only that pulse are matched now (R158, R159). -/
def State.lateMatch (s : State) (q : Fin 4) (c : Nat) : State :=
  let ch := s.chan q c
  match ch.late.find? fun l => l.due ≤ s.now with
  | none => s
  | some l0 =>
    let mine := ch.late.filter fun l => l.at_ == l0.at_ && l.fine == l0.fine && l.due ≤ s.now
    let s1 := s.setChan q c { ch with late := ch.late.filter fun l => !mine.contains l }
    match ch.buf.find? fun h => h.at_ == l0.at_ && h.fine == l0.fine with
    | none => s1
    | some h =>
      let tau := s.objN 0x4000 3
      let ms := mine.filterMap fun l =>
        match s.findShot q l.frame l.slot with
        | none => none
        | some x =>
          let n := x.pulses.length
          let o := x.pulses.getD (n - 2) 0
          let a := stampOf h x - 256 * o
          let os := x.pulses.take (n - 2)
          let gs := trainHits (s.lookBack q c) x a tau os
          if (nearestHit (s.lookBack q c) x x.span a tau).isSome ∨ gs.any Option.isNone then none
          else some (x, a, ((gs.zip os).filterMap fun p => p.1.map fun g => (g, stampOf g x - 256 * p.2)) ++ [(h, a)])
      -- judged among the shots open now; the oldest stands for shots whose gates have all closed meanwhile
      let live := ms.filter fun m => m.1.openOn c
      let by_ := if live.isEmpty then ms.take 1 else live
      if by_.isEmpty then s1 else s1.attribute q c by_

/-- 650 ns after its leading edge a hit in no train is unmatched (R160, R161). -/
def State.hitUnmatched (s : State) (q : Fin 4) (c : Nat) (force : Bool) : State :=
  let ch := s.chan q c
  match (ch.buf.reverse.find? fun h => !h.done) with
  | none => s
  | some h =>
    if !force ∧ s.now < h.at_ + 260 then s
    else
      let s1 := s.markDone q c [h]
      if ch.st = 4 then s1
      else
        let s2 := s1.cntAdd q h.frame 0x4310 6 3 1
        match s.findShot q h.frame h.slot with
        | none => s2
        | some x =>
          let s3 := if s2.visitClosed q x || !s2.unmatchedInVisit q x h then s2 else s2.modCtx q x.frame x.cell c false fun k => { k with intf := k.intf + 1 }
          s3.tapCand q { chan := chanNo q c, frame := x.frame, cell := x.cell, bin := stampOf h x / 256, stamp := stampOf h x, res := 2 }

/-! ### Background samples (R179, R181) -/

/-- A sample x for a channel and cell: the estimate, and the threshold offset that follows it. -/
def State.bgSample (s : State) (q : Fin 4) (c cell x : Nat) : State :=
  let key := 16 * c + s.sectorOf cell
  let k := s.cru q
  let old := AMap.get 0 k.bg key
  let new : Nat := if k.seen.contains key then ((old : Int) + ((x : Int) - old) / (2 ^ s.objN 0x4040 1 : Nat)).toNat else x
  let rt := s.objN 0x4040 2
  let dmax := s.objN 0x4040 3
  let d := min dmax (AMap.get 0 k.dlt key)
  let d1 := if s.obj 0x4040 5 = 1 then (if 2 * rt < new ∧ d < dmax then d + 1 else if 2 * new < rt ∧ 0 < d then d - 1 else d) else 0
  let s1 := s.modCru q fun k => { k with bg := AMap.put 0 k.bg key new, dlt := AMap.put 0 k.dlt key d1, seen := if k.seen.contains key then k.seen else key :: k.seen }
  let log : Bool := match k.ev1404 with | some t => decide (t + 60 * secP ≤ s.now) | none => true
  if d < dmax ∧ d1 = dmax ∧ log then (s1.modCru q fun k => { k with ev1404 := some s.now }).evt 0x1404 (chanNo q c) else s1

/-- A listening slot's sample when its gate closes on a channel. -/
def State.listenSample (s : State) (q : Fin 4) (x : Shot) (c : Nat) : State :=
  let n := ((s.chan q c).buf.filter fun h => x.open2 ≤ 5 * h.at_ + h.fine * 5 / 4096 && 5 * h.at_ ≤ x.close2).length
  let len := x.wend - x.wstart + x.span
  s.bgSample q c x.cell (n * 65536 / max 1 len)

/-! ### Peak search and need (R165, R171) -/

/-- Peak candidates of coarse counts: bin and p, in falling p, the lower bin on a tie. -/
def peakCands (bins : AMap Nat) (n : Nat) (g tz : Int) : List (Nat × Int) :=
  let h (b : Nat) : Int := if b < n then ((AMap.get (0 : Nat) bins b : Nat) : Int) else 0
  let prev (b : Nat) : Int := if b = 0 then 0 else h (b - 1)
  let all := bins.filterMap fun kv =>
    let b := kv.1
    let p := prev b + h b + h (b + 1) - 3 * g
    if prev b ≤ h b ∧ h (b + 1) < h b ∧ tz ≤ p ∧ b < n then some (b, p) else none
  sortBy (fun x y => y.2 < x.2 || (x.2 == y.2 && x.1 ≤ y.1)) all

/-- Start of the window of a candidate. -/
def winStart (bins : AMap Nat) (first b : Nat) : Int :=
  let lo : Int := if b = 0 then 0 else ((AMap.get (0 : Nat) bins (b - 1) : Nat) : Int)
  let hi : Int := ((AMap.get (0 : Nat) bins (b + 1) : Nat) : Int)
  let sum := lo + ((AMap.get (0 : Nat) bins b : Nat) : Int) + hi
  let centre := 256 * ((first + b : Nat) : Int) + 128 + 256 * (hi - lo) / (max 1 sum)
  (centre - 256) / 8 * 8

/-- Windows taken: up to `w`, none overlapping one already taken. -/
def takeWins (bins : AMap Nat) (first w : Nat) : List (Nat × Int) → List Zoom → List Zoom
  | [], acc => acc
  | (b, p) :: t, acc =>
    let st := winStart bins first b
    if w ≤ acc.length then acc
    else if acc.any fun z => st < z.start + 512 && z.start < st + 512 then takeWins bins first w t acc
    else takeWins bins first w t (acc ++ [{ start := st, p := p, bins := [], hits := 0, residue := 0, sat := false }])

/-- Need for a list of excesses p (R171). -/
def State.needOf (s : State) (s0 : Nat) (ps : List Int) : Nat :=
  match ps with
  | [] => s.objN 0x4020 5
  | _ => min 64 ((ps.map fun p => let d := (max p 1).toNat; (s.objN 0x4020 4 * s0 + d - 1) / d).foldl max 0)

/-- The peak search of one coarse context ends (R165). It reads the bins as they stand by then, hits of early zoom slots poured since the
close included (DESIGN CHOICE, log entry 98). -/
def State.peakSearch (s : State) (q : Fin 4) (frame cell c : Nat) : State :=
  match s.ctx q frame cell c false with
  | none => s
  | some k =>
    if !(s.cellRec q frame cell).coarseClosed || k.searched || k.zoomFirst || !s.hasZoom q cell then s
    else
      let g : Int := ((k.bg * k.sCoarse + 32768) / 65536 : Nat)
      let cs := peakCands k.bins k.n g (s.obj 0x4010 3)
      let wz := s.objN 0x4010 1
      let ws := takeWins k.bins k.first wz cs []
      let need := s.needOf k.sCoarse (if wz = 0 then cs.map (·.2) else ws.map (·.p))
      let s1 := s.modCtx q frame cell c false fun x => { x with searched := true, wins := ws, cands := cs.map (·.2) }
      let r := s1.cellRec q frame cell
      (s1.setCell q { r with need := max r.need need }).cellSearched q frame cell

/-! ### Histogram export (R173, R174) -/

/-- Dump of a context (R174). -/
def State.dumpOf (_s : State) (q : Fin 4) (k : Ctx) (coarseOnly : Bool) : Octets :=
  let anySat := if k.zoom then k.wins.any fun w => w.bins.any fun kv => kv.2 == 0xFFFF else k.bins.any fun kv => kv.2 == 0xFFF
  let satBins := if k.zoom then (k.wins.map fun w => (w.bins.filter fun kv => kv.2 == 0xFFFF).length).sum else (k.bins.filter fun kv => kv.2 == 0xFFF).length
  let flags := b2n anySat + 2 * b2n k.limited + 4 * b2n k.fixed + 8 * b2n k.early + 16 * b2n coarseOnly + 32 * b2n k.surplus
  let head := toBE 4 k.frame ++ toBE 2 (chanNo q k.chan) ++ toBE 2 k.cell ++ toBE 1 (b2n k.zoom) ++ toBE 1 flags
    ++ toBE 2 ((if k.zoom then k.sZoom else k.sCoarse + k.sZoom) % 65536) ++ toBE 2 k.first ++ toBE 2 k.n ++ toBE 4 k.amb ++ toBE 4 k.intf ++ toBE 4 satBins ++ zeros 4
  let body := if k.zoom then
      (k.wins.map fun w => toBE 4 (ofInt 32 w.start) ++ toBE 4 w.hits ++ toBE 4 w.residue ++ zeros 4
        ++ ((List.range 64).map fun i => toBE 2 (AMap.get (0 : Nat) w.bins i)).flatten).flatten
    else ((List.range k.n).map fun b => toBE 2 (AMap.get (0 : Nat) k.bins b)).flatten
  let o := head ++ body
  fitTo ((o.length + 15) / 16 * 16) o

/-- The cell is exported in place of its points: bit q of `4.100.01` (R173). -/
def State.exports (s : State) (q : Fin 4) : Bool := bit (s.objN 0x4100 1) q.val

/-- A context lies within the export ranges. -/
def State.exportsCtx (s : State) (q : Fin 4) (k : Ctx) : Bool :=
  let o (i : Nat) : Nat := s.objN 0x4100 i
  let ch := chanNo q k.chan
  o 3 ≤ ch && ch ≤ o 4 && o 5 ≤ k.cell && k.cell ≤ o 6 && bit (o 7) (b2n k.zoom) && k.frame % (max 1 (o 2)) == 0

/-- The points of a Quadrant ship: it is live, or has been stood down since (R421). -/
def State.ships (s : State) (q : Fin 4) : Bool := (s.quad q).st == 0 || (s.quad q).st == 6

/-- The dumps of a finished cell, whose Quadrant exports and ships: each is committed where the credits cover it now, or skipped (R173). -/
def State.exportCell (s : State) (q : Fin 4) (frame cell : Nat) : State :=
  if s.ships q ∧ s.exports q then
    ((s.cru q).ctxs.filter fun k => k.frame == frame && k.cell == cell && s.exportsCtx q k).foldl (fun s k =>
      s.shipDump frame q (s.dumpOf q k (!k.zoom && (s.ctx q frame cell k.chan true).isNone))) s
  else s

/-! ### Visits (R150, R153) -/

/-- A finished cell goes to the echo engine with its channels in ascending order, and its dumps are committed (R153, R173, R177). -/
def State.cellFinish (s : State) (q : Fin 4) (frame cell : Nat) : State :=
  let r := s.cellRec q frame cell
  if r.finished then s
  else
    let chans := ((s.cru q).ctxs.filter fun x => x.frame == frame && x.cell == cell && !x.zoom && !r.refused.contains x.chan).map (·.chan)
    let s1 := s.setCell q { r with finished := true, todo := sortBy (fun a b => decide (a ≤ b)) chans }
    (s1.modCru q fun k => { k with fin := k.fin ++ [(frame, cell)] }).exportCell q frame cell

/-- A visit closes: its contexts take no more pours; the coarse one starts a peak search or finishes the cell, the zoom one finishes
it. -/
def State.visitClose (s : State) (q : Fin 4) (frame cell pass : Nat) : State :=
  let r := s.cellRec q frame cell
  let shut (s : State) : State := s.modCru q fun k => { k with ctxs := k.ctxs.map fun x =>
    if x.frame == frame && x.cell == cell then
      { x with closed := true, bg := if pass = 0 then AMap.get 0 k.bg (16 * x.chan + s.sectorOf cell) else x.bg }
    else x }
  match pass with
  | 0 =>
    if r.coarseClosed then s
    else
      let s1 := shut (s.setCell q { r with coarseClosed := true })
      if s.hasZoom q cell then s1.cellSearched q frame cell else s1.cellFinish q frame cell
  | 1 => if r.zoomClosed then s else (shut (s.setCell q { r with zoomClosed := true })).cellFinish q frame cell
  | _ => s

/-- The visit is over for the sequencer: it is not the one in progress, or its last position has run and the next entry names another
cell. -/
def State.visitOver (s : State) (q : Fin 4) (cell pass : Nat) : Bool :=
  let sq := (s.quad q).seq
  sq.done || !((s.quad q).visit == some (cell, pass)) || (sq.rep == 0 && entCell ((s.quad q).act.entry sq.entry) != cell)

/-- 50 ns after the last gate of the visit. -/
def State.visitCloseDue (s : State) (q : Fin 4) (cell pass : Nat) : Bool :=
  let r := s.cellRec q s.frm.no cell
  pass < r.visits && s.visitOver q cell pass && (if pass = 0 then r.coarseEnd2 else r.zoomEnd2) + 100 ≤ s.now2

/-- A slot position of a cell: the visit it lies in, started when the entry names another cell than the one before. -/
def State.visitStep (s : State) (q : Fin 4) (cell : Nat) : State × Nat :=
  match (s.quad q).visit with
  | some (c, v) =>
    if c = cell then (s, v)
    else start s
  | none => start s
where
  start (s : State) : State × Nat :=
    let r := s.cellRec q s.frm.no cell
    let s1 := (s.setCell q { r with visits := r.visits + 1 }).modQuad q fun qd => { qd with visit := some (cell, r.visits) }
    (s1, r.visits)

/-- The last gate of the last slot that fired counts for its visit; while none has fired, the would-be close of the last position does
(R153, R171). -/
def State.visitEnd (s : State) (q : Fin 4) (cell pass close2 : Nat) (fired late : Bool) : State :=
  let r := s.cellRec q s.frm.no cell
  let next (had : Bool) (e : Nat) : Nat := if had ∧ !fired then e else close2
  if pass = 0 then s.setCell q { r with coarseEnd2 := next r.coarseFired r.coarseEnd2, coarseFired := r.coarseFired || fired, coarseLate := r.coarseLate || late }
  else if pass = 1 then s.setCell q { r with zoomEnd2 := next r.zoomFired r.zoomEnd2, zoomFired := r.zoomFired || fired, zoomLate := r.zoomLate || late }
  else s

/-! ### Shot reallocation (R167 ... R170) -/

/-- The spread selector. -/
def State.selectorZ (s : State) (q : Fin 4) : State × Bool :=
  let a := (s.cru q).accZ + s.objN 0x4020 2
  if 65536 ≤ a then (s.modCru q fun k => { k with accZ := a - 65536 }, true) else (s.modCru q fun k => { k with accZ := a }, false)

/-- Settle a zoom entry when its first position is read: how many of its positions fire; none when they are decided one by one. -/
def State.settle (s : State) (q : Fin 4) (e : Nat) : State × Option Nat :=
  if s.obj 0x4020 1 ≠ 1 then (s, none)
  else
    let r := s.cellRec q s.frm.no (entCell e)
    let k := s.cru q
    let n := entRep e + 1
    let w := entWeight e
    let s1 := s.modCru q fun k => { k with vrem := k.vrem - w * n }
    if !r.searched then (s1, none)
    else
      let cost := s.shotCost q e
      let share := k.acct * w * n / max 1 k.vrem
      let allow := if cost = 0 then n else min n (min (s.objN 0x4020 3 * share / (256 * cost)) (k.acct / cost))
      let a := min allow r.need
      let s2 := s1.setCell q { r with need := r.need - a }
      (s2.modCru q fun k => { k with acct := k.acct - a * cost }, some a)

/-- Decision on one zoom position of non-zero weight: it fires, or is donated (R168, R170). -/
def State.zoomPosition (s : State) (q : Fin 4) (e : Nat) (first : Bool) : State × Bool :=
  let no := s.frm.no
  let s := s.cntAdd q no 0x4021 5 1 1
  let st := if first then s.settle q e else (s, (s.quad q).seq.fire)
  let s := st.1
  let done (s : State) (f : Bool) : State × Bool := (s.cntAdd q no 0x4021 5 (if f then 2 else 3) 1, f)
  match st.2 with
  | some a =>
    let s1 := s.modQuad q fun qd => { qd with seq := { qd.seq with fire := some (a - 1) } }
    done s1 (0 < a)
  | none =>
    let s1 := s.modQuad q fun qd => { qd with seq := { qd.seq with fire := none } }
    let r := s1.selectorZ q
    if s.obj 0x4020 1 ≠ 1 then done r.1 r.2
    else
      let s2 := r.1.cntAdd q no 0x4021 5 4 1
      let cost := s2.shotCost q e
      if r.2 ∧ cost ≤ (s2.cru q).acct then done (s2.modCru q fun k => { k with acct := k.acct - cost }) true
      else done s2 false

/-- The account of the new frame, set at step 5 after the strike (R169). -/
def State.accountLanding (s : State) (q : Fin 4) : State :=
  let a := s.accountOf (s.quad q).act
  s.modCru q fun k => { k with acct := a, acct0 := a, vrem := (s.quad q).act.weight }

/-- Account spent in the frame, in 1/65,536 of the frame's account (`4.021`). -/
def State.acctSpent (s : State) (q : Fin 4) : Nat :=
  let k := s.cru q
  if k.acct0 = 0 then 0 else (k.acct0 - k.acct) * 65536 / k.acct0

/-- Agreement set Crucible layout (R155). -/
def layoutOk (n c wz z : Nat) : Bool := c + z ≤ 2048 && c * ((n + 63) / 64) + z * wz ≤ 48896

end Sys2Proof.Machine
end

