-- ==== Sys2Proof/Machine/Fields.lean ====
section
/-! DEFINITION. Protective and warning fields: field sets, the detections of both evaluators, particle tolerance, the coverage grid,
window contamination and the ego speed (R323, R324, R329 ... R333, R339, R344). Ranges are kept in 1/100,000 of a quarter
millimetre, in which both a range word and a coarse bin are whole numbers. -/

namespace Sys2Proof.Machine

/-- One quarter millimetre, 1 cm and 1 mm in range units, and a coarse bin of 2.5 ns at half the speed of light. -/
def uQuarter : Int := 100000
def uCm : Int := 4000000
def uMm : Int := 400000
def uBin : Int := 149896229

/-- One field of a set (R329): near range in cm, and vertices (az, el, r in cm). -/
structure Field where
  near : Nat
  verts : List (Int × Int × Int)
  deriving DecidableEq, Repr

/-- A field set (R329). -/
structure FieldSet where
  dcap : Nat
  taz : Int
  tel : Int
  trng : Nat
  fields : List Field
  deriving DecidableEq, Repr

/-- Vertices from an offset. -/
def vertsAt (o : Octets) (i : Nat) : Nat → List (Int × Int × Int)
  | 0 => []
  | n + 1 => ((fieldAt o i 2 : Int), (fieldAt o (i + 2) 2 : Int), (fieldAt o (i + 4) 2 : Int)) :: vertsAt o (i + 6) n

/-- The set a BLOB holds; none for the empty one. -/
def parseSet (o : Octets) : Option FieldSet :=
  if o.isEmpty then none
  else
    let n0 := octAt o 8
    let n1 := octAt o 9
    let n2 := octAt o 10
    some {
      dcap := octAt o 1
      taz := fieldAt o 2 2
      tel := fieldAt o 4 2
      trng := fieldAt o 6 2
      fields := [{ near := fieldAt o 12 2, verts := vertsAt o 24 n0 }, { near := fieldAt o 14 2, verts := vertsAt o (24 + 6 * n0) n1 }, { near := fieldAt o 16 2, verts := vertsAt o (24 + 6 * (n0 + n1)) n2 }] }

/-- Set s in effect. -/
def State.fieldSet (s : State) (i : Nat) : Option FieldSet := parseSet (assocD [] s.blobs (0xC100 + i))

/-- Detection capability in mm. -/
def dcapMm (c : Nat) : Int := match c with | 0 => 30 | 1 => 40 | 2 => 50 | 3 => 70 | 4 => 150 | _ => 200

/-- Edges of a polygon. -/
def edges {α : Type} (l : List α) : List (α × α) := l.zip (l.drop 1 ++ l.take 1)

/-- A point lies on the segment. -/
def onEdge (x y x1 y1 x2 y2 : Int) : Bool :=
  (x2 - x1) * (y - y1) == (y2 - y1) * (x - x1) && min x1 x2 ≤ x && x ≤ max x1 x2 && min y1 y2 ≤ y && y ≤ max y1 y2

/-- A ray toward rising x from the point crosses the segment. -/
def crosses (x y x1 y1 x2 y2 : Int) : Bool :=
  if (y1 ≤ y) = (y2 ≤ y) then false
  else if y1 < y2 then (x - x1) * (y2 - y1) < (x2 - x1) * (y - y1) else (x2 - x1) * (y - y1) < (x - x1) * (y2 - y1)

/-- Even-odd rule with edges inside (R330); `k` scales the vertices. -/
def inPolygon (k : Int) (v : List (Int × Int × Int)) (x y : Int) : Bool :=
  let es := edges v
  es.any (fun e => onEdge x y (k * e.1.1) (k * e.1.2.1) (k * e.2.1) (k * e.2.2.1))
    || (es.filter fun e => crosses x y (k * e.1.1) (k * e.1.2.1) (k * e.2.1) (k * e.2.2.1)).length % 2 == 1

/-- Minimum of a list, with a default. -/
def minL (d : Int) (l : List Int) : Int := match l with | [] => d | a :: t => t.foldl min a
def maxL (d : Int) (l : List Int) : Int := match l with | [] => d | a :: t => t.foldl max a

/-- R(az) in cm (R330). -/
def contour (v : List (Int × Int × Int)) (az : Int) : Int :=
  let spans := (edges v).filter fun e => e.1.1 != e.2.1 && min e.1.1 e.2.1 ≤ az && az ≤ max e.1.1 e.2.1
  let all := v.map fun p => p.2.2
  minL (minL 0 all) (spans.map fun e => e.1.2.2 + Int.tdiv ((e.2.2.2 - e.1.2.2) * (az - e.1.1)) (e.2.1 - e.1.1))

/-! ### Detections (R323) -/

/-- A detection: channel, cell, range span, whether it is sparse, and its directions. -/
structure Det where
  chan : Nat
  cell : Nat
  lo : Int
  hi : Int
  sparse : Bool
  dirs : List (Int × Int)
  deriving DecidableEq, Repr

/-- Offsets of a channel in `C.150`. -/
def State.safeOff (s : State) (ch : Nat) : Int × Int :=
  let w := s.objN 0xC150 (ch + 1)
  (toSigned 16 (w / 65536), toSigned 16 (w % 65536))

/-- Markers of a frame that gate a channel in a cell, oldest first. -/
def State.markersOf (s : State) (frame ch cell : Nat) : List Marker :=
  s.tap.markers.filter fun m => m.frame == frame && m.quad == ch / 256 && m.cell == cell && bit m.gmask (ch % 256)

/-- Directions of a channel-cell. -/
def State.dirsOf (s : State) (frame ch cell : Nat) : List (Int × Int) :=
  let off := s.safeOff ch
  (s.markersOf frame ch cell).filterMap fun m => m.stamp.map fun p => ((p.1 : Int) + off.1, (p.2 : Int) + off.2)

/-- Channel-cells that the markers of a frame make expected. -/
def State.expected (s : State) (frame : Nat) : List (Nat × Nat) :=
  ((s.tap.markers.filter fun m => m.frame == frame).flatMap fun m =>
    ((List.range 256).filter fun c => bit m.gmask c).map fun c => (256 * m.quad + c, m.cell)).eraseDups

/-- Zone of an azimuth code (R339, R400). -/
def State.zoneOf (s : State) (az : Nat) : Nat :=
  let z := s.objN 0xC040 1
  ((List.range z).filter fun i => 65536 * i / max 1 z ≤ az).length - 1

/-- A zone that no judgement has come to yet. -/
def zone0 : Zone := { cands := 0, shots := 0, st := 0, since := 0, was := false }
def State.zone (s : State) (z : Nat) : Zone := assocD zone0 s.isl.zones z

/-- The zone's cells are blind in a frame: a judgement counts from the frame after it (R339). -/
def Zone.blindIn (z : Zone) (frame : Nat) : Bool := if frame < z.since then z.was else z.st == 2
def State.zoneBlind (s : State) (frame z : Nat) : Bool := (s.zone z).blindIn frame

/-- A channel-cell is blind for causes common to both evaluators (R110, R324, R339). -/
def State.blindCommon (s : State) (frame ch cell : Nat) : Bool :=
  let ms := s.markersOf frame ch cell
  ms.all (fun m => m.stamp.isNone)
    || s.tap.chans.any (fun x => x.chan == ch && x.since ≤ frame && (match x.upTo with | none => true | some u => frame < u))
    || s.tap.blinds.any (fun x => x.chan == ch && x.cell == cell && x.frame == frame)
    || s.tap.quads.any (fun x => x.1 == ch / 256 && x.2 ≤ frame)
    || (match s.tap.field with | some (n, u) => decide (n ≤ frame) && (match u with | none => true | some u => frame < u) | none => false)
    || ms.any (fun m => match m.stamp with | some p => s.zoneBlind frame (s.zoneOf p.1) | none => false)

/-- The echo list of a channel-cell. -/
def State.listOf (s : State) (frame ch cell : Nat) : Option EchoList :=
  s.tap.lists.find? fun l => l.frame == frame && l.chan == ch && l.cell == cell

/-- Blind for evaluator A (`eb` false) or B. -/
def State.blindFor (s : State) (eb : Bool) (frame ch cell : Nat) : Bool :=
  s.blindCommon frame ch cell || (!eb && ((s.listOf frame ch cell).isNone || bit s.isl.mcBlind (ch / 256)))

/-- Bins h of a channel-cell for evaluator B: from `wstart`, n of them. -/
def State.binsB (s : State) (frame ch cell : Nat) : Int × List Nat :=
  match s.markersOf frame ch cell with
  | [] => (0, [])
  | m :: _ =>
    let n := m.wend + 1 - m.wstart
    (m.wstart, (List.range n).map fun i => (s.tap.cands.filter fun k =>
      k.frame == frame && k.chan == ch && k.cell == cell && k.res < 2 && k.bin == ((m.wstart + i : Nat) : Int)).length)

/-- Peaks of evaluator B (R323): absolute bin and fill. -/
def State.peaksB (s : State) (frame ch cell : Nat) : List (Int × Nat) :=
  let b := s.binsB frame ch cell
  let h := b.2
  let n := h.length
  let m := if n = 0 then 0 else h.sum / n
  let np := ((s.markersOf frame ch cell).map (·.pulses)).sum
  (List.range n).filterMap fun i =>
    let l := if i = 0 then 0 else h.getD (i - 1) 0
    let c := h.getD i 0
    let r := h.getD (i + 1) 0
    if s.objN 0xC010 6 + 3 * m ≤ l + c + r ∧ l ≤ c ∧ r < c then
      some (b.1 + i, if np = 0 then 0 else min 255 (256 * (l + c + r - 3 * m) / np))
    else none

/-- Detections of a channel-cell for one evaluator; none without a direction. -/
def State.detsOf (s : State) (eb : Bool) (frame ch cell : Nat) : List Det :=
  let ds := s.dirsOf frame ch cell
  if ds.isEmpty then []
  else if eb then
    (s.peaksB frame ch cell).map fun p =>
      { chan := ch, cell := cell, lo := (p.1 - 1) * uBin, hi := (p.1 + 2) * uBin, sparse := p.2 < s.objN 0xC010 7, dirs := ds }
  else match s.listOf frame ch cell with
    | none => []
    | some l => l.echoes.map fun e =>
      { chan := ch, cell := cell, lo := e.1 * uQuarter, hi := e.1 * uQuarter, sparse := e.2 == 2 || e.2 == 3, dirs := ds }

/-! ### Inside a field, and particle tolerance (R330, R332, R333) -/

/-- A detection lies in a field at one of its directions: some part of its span lies between `near` and R(az) there. -/
def Field.holds (f : Field) (d : Det) : Bool :=
  d.dirs.any fun p => inPolygon 1 f.verts p.1 p.2
    && max d.lo ((f.near : Int) * uCm) ≤ min d.hi (contour f.verts p.1 * uCm)

/-- A sparse detection is see-through: others of its channel-cell lie beyond R(az) at every one of its directions. -/
def Field.through (f : Field) (all : List Det) (d : Det) : Bool :=
  d.dirs.all fun p => all.any fun o => o != d && o.chan == d.chan && o.cell == d.cell && contour f.verts p.1 * uCm < o.lo

/-- Two detections are adjacent within d mm. -/
def adjacent (mm : Int) (a b : Det) : Bool :=
  decide (((a.cell : Int) - b.cell).natAbs ≤ 1) && decide (((a.chan : Int) - b.chan).natAbs ≤ 1)
    && decide (((a.lo + a.hi) - (b.lo + b.hi)).natAbs ≤ (2 * mm * uMm).toNat)

/-- Connected group within a list, grown step by step. -/
def group (mm : Int) : Nat → List Det → List Det → List Det
  | 0, _, g => g
  | n + 1, l, g =>
    let more := l.filter fun d => !(g.contains d) && g.any fun e => adjacent mm e d
    if more.isEmpty then g else group mm n l (g ++ more)

/-- Detections of a field that count at the tolerance level of `C.010.02`. -/
def Field.counts (f : Field) (level : Nat) (mm : Int) (all : List Det) : Bool :=
  let ins := all.filter f.holds
  ins.any fun d =>
    if !d.sparse then true
    else match level with
    | 0 => true
    | 1 => !(f.through all d && ins.all fun e => e == d || !adjacent mm e d)
    | 2 =>
      let g := group mm ins.length (ins.filter (·.sparse)) [d]
      !(f.through all d && (g.map fun e => (e.chan, e.cell)).eraseDups.length < 4)
    | _ => !f.through all d

/-! ### Coverage grid (R331) -/

/-- π to 36 digits. -/
def piNum : Int := 3141592653589793238462643383279502884
def piDen : Int := 10 ^ 36

/-- Grid steps of a field with a detection capability and a full width in millidegrees. -/
def gridStep (mm : Int) (f : Field) (width : Nat) : Nat :=
  let rmax := 10 * maxL 0 (f.verts.map fun p => p.2.2)
  let d := piNum * rmax * width
  if d = 0 then 0 else ((mm * 65536 * 180000 * piDen) / d).toNat

/-- Grid of a field: origin, steps, and the bins whose centre lies inside. -/
def gridBins (f : Field) (daz del : Nat) : List (Nat × Nat) :=
  let azs := f.verts.map (·.1)
  let els := f.verts.map (·.2.1)
  let a0 := minL 0 azs
  let e0 := minL 0 els
  let na := (maxL 0 azs - a0).toNat / max 1 daz + 1
  let ne := (maxL 0 els - e0).toNat / max 1 del + 1
  ((List.range na).flatMap fun i => (List.range ne).map fun j => (i, j)).filter fun b =>
    inPolygon 2 f.verts (2 * a0 + 2 * daz * b.1 + daz) (2 * e0 + 2 * del * b.2 + del)

/-- Seen shot directions of a frame for one evaluator. -/
def State.seenDirs (s : State) (eb : Bool) (frame : Nat) : List (Int × Int) :=
  (s.tap.markers.filter fun m => m.frame == frame).flatMap fun m =>
    match m.stamp with
    | none => []
    | some p => ((List.range 256).filter fun c => bit m.gmask c && !s.blindFor eb frame (256 * m.quad + c) m.cell).map fun c =>
        let off := s.safeOff (256 * m.quad + c)
        ((p.1 : Int) + off.1, (p.2 : Int) + off.2)

/-- A field holds a blind sector: a grid bin without a seen shot direction. -/
def Field.blind (f : Field) (daz del : Nat) (seen : List (Int × Int)) : Bool :=
  let a0 := minL 0 (f.verts.map (·.1))
  let e0 := minL 0 (f.verts.map (·.2.1))
  (gridBins f daz del).any fun b => !(seen.any fun p =>
    Int.fdiv (p.1 - a0) (max 1 daz : Nat) == b.1 && Int.fdiv (p.2 - e0) (max 1 del : Nat) == b.2)

/-! ### Judgement of a frame (R334) -/

/-- What one evaluator finds of a set: per field, a counted detection and a blind sector. The detections of a blind channel-cell that have
a direction count as well (R323, R334). -/
def State.judge (s : State) (eb : Bool) (frame : Nat) (fs : FieldSet) : List (Bool × Bool) :=
  let mm := dcapMm fs.dcap
  let dets := (s.expected frame).flatMap fun x => s.detsOf eb frame x.1 x.2
  let seen := s.seenDirs eb frame
  fs.fields.map fun f =>
    if f.verts.isEmpty then (false, false)
    else (f.counts (s.objN 0xC010 2) mm dets, f.blind (gridStep mm f (s.objN 0xC010 11)) (gridStep mm f (s.objN 0xC010 12)) seen)

/-! ### Window contamination (R339) -/

/-- The gate of a marker covers the window band. -/
def State.coversBand (s : State) (m : Marker) : Bool :=
  m.wstart * uBin ≤ s.obj 0xC040 2 * uCm && s.obj 0xC040 3 * uCm ≤ (m.wend + 1 : Nat) * uBin

/-- The range of a candidate lies in the band: its stamp at half the speed of light. -/
def State.inBand (s : State) (k : Cand) : Bool :=
  let r := k.stamp * 299792458 * 488281250
  s.obj 0xC040 2 * 10 ^ 18 ≤ r && r ≤ s.obj 0xC040 3 * 10 ^ 18

/-- Zone a covering marker counts in. -/
def State.bandZone (s : State) (m : Marker) : Option Nat :=
  if s.coversBand m then m.stamp.map fun p => s.zoneOf p.1 else none

/-- Candidates and shots of a frame in a zone; a candidate counts in the zone of the first covering shot that gated its channel-cell. -/
def State.bandCounts (s : State) (frame z : Nat) : Nat × Nat :=
  let ms := s.tap.markers.filter fun m => m.frame == frame && s.bandZone m == some z
  let cs := s.tap.cands.filter fun k => k.frame == frame && s.inBand k &&
    (match (s.markersOf frame k.chan k.cell).find? s.coversBand with | some m => s.bandZone m == some z | none => false)
  (cs.length, ms.length)

/-- Counts of a frame added to the zones. -/
def State.bandAdd (s : State) (frame : Nat) : State :=
  let add (i : Nat) : Nat × Zone :=
    let z := s.zone i
    let c := s.bandCounts frame i
    (i, { z with cands := z.cands + c.1, shots := z.shots + c.2 })
  { s with isl := { s.isl with zones := (List.range (s.objN 0xC040 1)).map add } }

/-! ### Ego speed (R344) -/

/-- A direction and a range lie in the ground region of `C.030`. -/
def State.inGround (s : State) (d : Det) : Bool :=
  let w (i : Nat) : Nat × Nat := let v := ofInt 32 (s.obj 0xC030 i); (v / 65536, v % 65536)
  let (az, el, rg) := (w 10, w 11, w 12)
  (d.dirs.any fun p => (az.1 : Int) ≤ p.1 && p.1 ≤ az.2 && (el.1 : Int) ≤ p.2 && p.2 ≤ el.2)
    && (rg.1 : Int) * uCm ≤ d.hi && d.lo ≤ (rg.2 : Int) * uCm

/-- Nearest detections, not sparse, of the channel-cells in the region: for A of class 0 or 1. -/
def State.nearest (s : State) (eb : Bool) (frame : Nat) : List Near :=
  (s.expected frame).filterMap fun x =>
    let ds := (s.detsOf eb frame x.1 x.2).zipIdx.filter fun d => s.inGround d.1 && !d.1.sparse &&
      (eb || (match s.listOf frame x.1 x.2 with | some l => (l.echoes.getD d.2 (0, 9)).2 < 2 | none => false))
    match ds.map fun d => (d.1.lo + d.1.hi) / 2 / uMm with
    | [] => none
    | a :: t => some { chan := x.1, cell := x.2, mm := t.foldl min a }

/-- Magnitude of the lower median of at least 16 rates. -/
def medianSpeed (rates : List Int) : Option Nat :=
  if rates.length < 16 then none
  else
    let l := sortBy (fun a b => decide (a ≤ b)) rates
    some (l.getD ((l.length - 1) / 2) 0).natAbs

/-- v_e of an evaluator from the nearest detections of two frames in succession; times in µs. -/
def egoSpeed (kappa : Int) (dt : Nat) (before now_ : List Near) : Option Nat :=
  if dt = 0 then none
  else medianSpeed (now_.filterMap fun n =>
    (before.find? fun b => b.chan == n.chan && b.cell == n.cell).map fun b =>
      Int.tdiv ((b.mm - n.mm) * 1000000 * 32768) ((dt : Int) * kappa))

end Sys2Proof.Machine
end

