-- ==== Sys2Proof/Machine/Island.lean ====
section
/-! DEFINITION. The safety island: states, lock-out and reset, safe inputs and outputs, speed and safe stop, verdict and field switching
(R321, R325 ... R328, R334 ... R351). Both evaluators share what they read alike; where their sources differ, A and B are told apart. -/

namespace Sys2Proof.Machine

def State.modIsl (s : State) (f : Island → Island) : State := { s with isl := f s.isl }

/-- Code of a safety state in `C.000.01` (R356). -/
def Safe.code : Safe → Nat
  | .init => 0 | .startTest => 1 | .enabled => 2 | .stopping => 3 | .off => 4 | .lockout => 5

/-- Causes of LOCKOUT that stop emission (R350). -/
def darkCause (c : Nat) : Bool := c ≤ 7 || c == 15

/-- The island lets the governor emit: not in INIT, and in LOCKOUT by its cause (R328, R350). -/
def State.mayEmit (s : State) : Bool :=
  match s.isl.st with
  | .init => false
  | .lockout => !darkCause s.isl.cause
  | _ => true

/-- The switches of a side are open: no output channel carries current without both of its switches (R21, R348). -/
def State.sideOff (s : State) (lane : Nat) : State :=
  { s with
    die := { s.die with stopped := setBit s.die.stopped lane }
    isl := { s.isl with outA := false, outB := false } }

/-- The evaluators' enable lanes stop: both outputs off at once, and no on-command given before counts any more (R21, R326, R345). -/
def State.outputsOff (s : State) : State :=
  let s1 := (s.sideOff 1).sideOff 2
  { s1 with die := { s1.die with onCmd := clrBit (clrBit s1.die.onCmd 1) 2 }, isl := { s1.isl with lanes := 0 } }

/-- Both outputs are to be on: the lanes toggle and new on-commands leave for the Anchor die (R20, R21). -/
def State.outputsOn (s : State) : State :=
  let s1 := { s with die := { s.die with onCmd := setBit (setBit s.die.onCmd 1) 2 }, isl := { s.isl with lanes := 6 } }
  (s1.emit (.anchor 1 1)).emit (.anchor 1 2)

/-- The emission enable lane stops toggling (R350, R354). -/
def State.emissionOff (s : State) : State :=
  { s with gov := { s.gov with enable := false }, die := { s.die with onCmd := clrBit s.die.onCmd 0 } }

/-- LOCKOUT (R350, R351): outputs off, event 4001h, and emission by the cause. A later fault does not replace the cause, unless it is one
that stops emission and the first is not. A lock-out counts once among the three within 1 h, with the cause it has then. -/
def State.lockout (s : State) (c : Nat) : State :=
  let inside := s.isl.st == .lockout
  let again := inside && darkCause s.isl.cause
  let cause := if inside && (darkCause s.isl.cause || !darkCause c) then s.isl.cause else c
  let l := if darkCause c && !again then (s.now :: s.isl.lockouts).filter fun t => s.now < t + 3600 * secP else s.isl.lockouts
  let s1 := s.outputsOff.modIsl fun i => { i with
    st := .lockout, cause := cause, lockouts := l, barred := i.barred || (darkCause c && !again && 3 ≤ l.length), conds := none, stopReq := false }
  let s2 := (if inside then s1 else s1.bump 0xC210 4 1).evt 0x4001 c
  if darkCause cause then s2.emissionOff else s2

/-! ### Safe inputs (R340 ... R342) -/

/-- Type, start-up test, category and discrepancy time of a pair (R356). -/
def State.pairType (s : State) (n : Fin 4) : Nat := bits (s.objN 0xC020 (n.val + 1)) 12 4
def State.pairTested (s : State) (n : Fin 4) : Bool := bit (s.objN 0xC020 (n.val + 1)) 11
def State.pairCat (s : State) (n : Fin 4) : Nat := bits (s.objN 0xC020 (n.val + 1)) 10 1
def State.pairDisc (s : State) (n : Fin 4) : Nat := bits (s.objN 0xC020 (n.val + 1)) 0 9

def SafePair.closed (p : SafePair) : Bool := p.a.closed && p.b.closed

def State.pair (s : State) (n : Fin 4) : SafePair := s.isl.pairs.get n
def State.setPair (s : State) (n : Fin 4) (p : SafePair) : State := s.modIsl fun i => { i with pairs := i.pairs.set n p }

/-- A pair differs for longer than its discrepancy time (R341). -/
def State.pairDiffers (s : State) (n : Fin 4) : Bool :=
  s.pairType n != 0 && (match (s.pair n).differ with | some t => decide (t + s.pairDisc n * msP ≤ s.now) | none => false)

/-- The speed sources disagree for longer than 100 ms (R343). -/
def State.speedsDiffer (s : State) : Bool := match s.isl.disagree with | some t => decide (t + 100 * msP < s.now) | none => false

/-- Causes that are still present lead back to LOCKOUT (R351); the others show again where START-TEST meets them. -/
def State.standingCause (s : State) : Option Nat :=
  if !s.isl.setOk then some 7
  else if s.die.failed then some 6
  else if s.isl.supplyBad ≠ 0 then some 5
  else if quads4.any s.pairDiffers then some 8
  else if s.speedsDiffer then some 10
  else none

/-- START-TEST begins (R328, R349). -/
def State.startTest (s : State) : State :=
  let s1 := s.outputsOff.modIsl fun i => { i with
    st := .startTest, cause := 0, testStep := 0, testDone := false, synthDone := false, swAt := none, conds := none, stopReq := false }
  match s1.standingCause with
  | some c => s1.lockout c
  | none => s1

/-- START-TEST ends once the output cycle, the synthetic test and every demanded pair have passed (R328). -/
def State.startTestEnd (s : State) : State :=
  if s.isl.st = .startTest ∧ s.isl.testDone ∧ s.isl.synthDone ∧ quads4.all (fun n => s.pairType n == 0 || !s.pairTested n || (s.pair n).tested) then
    s.modIsl fun i => { i with st := .off }
  else s

/-! ### Conditions of a restart (R347) -/

/-- Slot 1 is enabled (R364, R376). -/
def State.cmdEnabled (s : State) : Bool := bit (s.objN 0xC400 5) 27 && s.objN 0xC401 0 != 0xFFFF

/-- The status connection counts as in its fail-safe reaction (R364, R368). -/
def State.statusFails (s : State) : Bool := s.cmdEnabled && (s.plv.slots[1].cond != 0 || s.plv.hostfs)

/-- The selection of an evaluator is invalid (R338). -/
def State.selInvalid (s : State) : Bool := s.isl.selBad.isSome || s.isl.selBadB.isSome

/-- The selection is invalid from now, in both evaluators alike. -/
def State.selDrop (s : State) : State :=
  s.modIsl fun i => { i with selBad := some (i.selBad.getD s.now), selBadB := some (i.selBadB.getD s.now) }

/-- What R347 asks, except delay and reset. -/
def State.restartOk (s : State) : Bool :=
  quads4.all (fun n => !(s.pairType n == 1 || s.pairType n == 2) || (s.pair n).closed)
    && s.objN 0xC010 1 ≤ s.isl.clean && !s.selInvalid && s.isl.setNow.isSome && !s.statusFails && !s.plv.stopReq

/-- The conditions are watched: since when they hold. -/
def State.condWatch (s : State) : State :=
  if s.restartOk then (if s.isl.conds.isNone then s.modIsl fun i => { i with conds := some s.now } else s)
  else s.modIsl fun i => { i with conds := none }

/-- ENABLED: outputs on (R328, R347). -/
def State.enableIsl (s : State) : State := (s.modIsl fun i => { i with st := .enabled, stopReq := false }).outputsOn

/-- A reset from a pair or over Plovivo (R342, R351). -/
def State.reset_ (s : State) : State :=
  match s.isl.st with
  | .lockout => if s.isl.barred then s.evt 0x4002 s.isl.cause else s.startTest
  | .off => if s.objN 0xC010 4 = 1 ∧ s.restartOk then s.enableIsl else s
  | _ => s

/-! ### Safe stop (R345, R346) -/

/-- A stop is triggered: category asked, and why (event 4003h). In STOPPING a later violation changes nothing. -/
def State.stopIsl (s : State) (why cat : Nat) : State :=
  let c := if why = 2 ∨ s.isl.vm = none ∨ s.statusFails then 0 else cat
  match s.isl.st with
  | .enabled =>
    let s1 := s.evt 0x4003 (c + 16 * why)
    if c = 0 then s1.outputsOff.modIsl fun i => { i with st := .off, stopReq := true, conds := none }
    else s1.modIsl fun i => { i with st := .stopping, stopReq := true, v0 := i.vm.getD 0, stopAt := s.now, conds := none }
  | .stopping =>
    if c = 0 ∧ why ≠ 1 ∧ why ≠ 3 then
      (s.evt 0x4003 (16 * why)).outputsOff.modIsl fun i => { i with st := .off, conds := none }
    else s
  | _ => s

/-- Tolerance between v_m and v_e (R344). -/
def State.speedTol (s : State) (vm : Nat) : Nat := max (s.objN 0xC030 4) (s.objN 0xC030 5 * vm / 256)

/-- One evaluator's check in STOPPING: the reason of event 4004h, 0 to go on. -/
def State.rampReason (s : State) (ve : Option Nat) : Nat :=
  let tms := (s.now - s.isl.stopAt) * 1000 / msP            -- t in µs
  let lim : Int := max ((s.isl.v0 : Int) * 1000000 - s.obj 0xC030 6 * tms) 0 + s.obj 0xC030 7 * 1000000
  let above (v : Option Nat) : Bool := match v with | some v => lim < (v : Int) * 1000000 | none => false
  if above s.isl.vm || above ve then 1
  else match s.isl.vm, ve with
  | some m, some e =>
    if s.speedTol m < ((m : Int) - e).natAbs then 2
    else if s.objN 0xC030 8 * 1000 ≤ tms then 3
    else if m ≤ s.objN 0xC030 9 ∧ e ≤ s.objN 0xC030 9 then 4
    else 0
  | _, _ => 2

/-- The check of R346 by both evaluators. -/
def State.stoppingCheck (s : State) : State :=
  if s.isl.st ≠ .stopping then s
  else
    let a := s.rampReason s.isl.ve
    let b := s.rampReason s.isl.veB
    let r := if a = 0 then b else if b = 0 then a else min a b
    if r = 0 then s else (s.evt 0x4004 r).outputsOff.modIsl fun i => { i with st := .off, conds := none }

/-! ### Pairs -/

/-- Length of a low pulse at a test-pulse output (R340). -/
def tpWidth : Nat := 400 * usP

/-- A test-pulse output is low: in its pulse, or with VDD_HV low (R340, R437). -/
def State.tpLow (s : State) (tpB : Bool) : Bool :=
  s.die.hvLow || (match (if tpB then s.isl.tpB else s.isl.tpA) with | some t => decide (s.now < t + tpWidth) | none => false)

/-- The pulse of a test-pulse output is due: every 20 ms at TP_A, 10 ms after it at TP_B (R340). -/
def State.tpDue (s : State) (tpB : Bool) : Bool :=
  match s.isl.tpA with
  | none => !tpB
  | some a =>
    if tpB then decide (a + 10 * msP ≤ s.now) && (match s.isl.tpB with | some b => decide (b < a) | none => true)
    else decide (a + 20 * msP ≤ s.now)

/-- End of the test-pulse window that now lies in, of either output. -/
def State.tpWindow (s : State) : Option Nat :=
  ([s.isl.tpA, s.isl.tpB].filterMap id).find? (fun t => decide (s.now < t + tpWidth)) |>.map (· + tpWidth)

/-- Level of a channel outside the test-pulse windows. -/
def SafeCh.level (c : SafeCh) : Bool := if c.pend.isSome then !c.ball else c.ball

/-- A change inside a window that has lasted beyond it counts from the window's end. -/
def SafeCh.settle (c : SafeCh) (now : Nat) : SafeCh :=
  match c.pend with
  | some t => if t ≤ now then { c with changed := some t, pend := none } else c
  | none => c

/-- A level at the ball, met inside the window that ends at `win` or outside (R340). -/
def SafeCh.edge (c : SafeCh) (closed : Bool) (now : Nat) (win : Option Nat) : SafeCh :=
  if c.ball == closed then c
  else match win with
  | some t => { c with ball := closed, pend := if c.pend.isSome then none else some t }
  | none => { c with ball := closed, changed := some now, pend := none }

/-- Since when the two channels differ, outside the windows (R341). -/
def SafePair.judge (p : SafePair) : SafePair :=
  { p with differ := if p.a.level == p.b.level then none else some (p.differ.getD (max (p.a.changed.getD 0) (p.b.changed.getD 0))) }

/-- Both channels settled and compared. -/
def SafePair.settle (p : SafePair) (now : Nat) : SafePair := { p with a := p.a.settle now, b := p.b.settle now }.judge

/-- A level change at a ball (R340, R341). -/
def State.safeEdge (s : State) (n : Fin 4) (chB closed : Bool) : State :=
  let p := (s.pair n).settle s.now
  let p1 := if chB then { p with b := p.b.edge closed s.now s.tpWindow } else { p with a := p.a.edge closed s.now s.tpWindow }
  s.setPair n p1.judge

/-- A change held for 3 ms is accepted (R340, R342). -/
def State.safeAccept (s : State) (n : Fin 4) (chB : Bool) : State :=
  let p := (s.pair n).settle s.now
  let c := if chB then p.b else p.a
  match c.changed with
  | none => s
  | some t =>
    if s.now < t + 3 * msP then s
    else
      let c1 : SafeCh := { c with closed := c.level, changed := none, sawOpen := c.sawOpen || !c.level }
      let p1 := if chB then { p with b := c1 } else { p with a := c1 }
      let was := p.closed
      let is_ := p1.closed
      let saw := p1.sawOpen || !c.level
      let p2 := { p1 with
        sawOpen := saw
        tested := p1.tested || (is_ && saw)
        since := if is_ then (if was then p1.since else some s.now) else none
        long := if is_ && !was then false else p1.long }
      let s1 := s.setPair n p2
      let s2 :=
        if was && !is_ then
          match s.pairType n with
          | 1 => s1.stopIsl 4 (s.pairCat n)
          | 2 => s1.stopIsl 4 (s.pairCat n)
          | 3 => match p.since with
            | some t0 => if t0 + 100 * msP ≤ s.now ∧ s.now ≤ t0 + 5 * secP then s1.reset_ else s1
            | none => s1
          | _ => s1
        else s1
      s2.condWatch.startTestEnd

/-- The discrepancy time of a pair has passed (R341). -/
def State.safeDiffer (s : State) (n : Fin 4) : State :=
  let s1 := s.setPair n ((s.pair n).settle s.now)
  if s1.pairDiffers n then s1.lockout 8 else s1

/-- A reset pair has been closed for more than 5 s (R342). -/
def State.longPress (s : State) (n : Fin 4) : State :=
  let p := s.pair n
  match p.since with
  | some t => if s.pairType n = 3 ∧ !p.long ∧ t + 5 * secP < s.now then (s.setPair n { p with long := true }).evt 0x4031 (n.val + 1) else s
  | none => s

/-- A test pulse that is due, and what the inputs show in it: `bad` the pairs with a short, a stuck channel or a cross-short (R340,
R341). -/
def State.testPulse (s : State) (tpB : Bool) (bad : List Nat) : State :=
  if s.die.hvLow || !s.tpDue tpB then s
  else
    let s1 := (s.modIsl fun i => if tpB then { i with tpB := some s.now } else { i with tpA := some s.now }).emit (.testPulse (b2n tpB))
    if quads4.any fun n => s.pairType n != 0 && bad.contains n.val then s1.lockout 9 else s1

/-! ### Safe outputs (R348, R349) -/

/-- The evaluators take the outputs as on: the lanes toggle, and no on-command is on its way any more. -/
def State.outputsDue (s : State) : Bool :=
  (s.isl.outA && s.isl.outB) || (s.isl.lanes == 6 && !bit s.die.onCmd 1 && !bit s.die.onCmd 2)

/-- The next switch test is due: 10 ms after the last (R348, R349). -/
def State.swDue (s : State) : Bool := match s.isl.swAt with | some t => decide (t + 10 * msP ≤ s.now) | none => true

/-- A switch is under test, for 300 µs (R348, R349); switches 0 ... 3 in the order of the tests. -/
def State.underTest (s : State) (k : Nat) (next : Nat) : Bool :=
  (match s.isl.swAt with | some t => decide (s.now < t + 300 * usP) | none => false) && (next + 3) % 4 == k

/-- A switch is closed: A and B high side (0, 1) by evaluator A's lane, A and B low side (2, 3) by evaluator B's, opened while its test
lasts; in START-TEST only the switch under test is (R348, R349). -/
def State.switchClosed (s : State) (k : Nat) : Bool :=
  if s.isl.st = .startTest then s.underTest k s.isl.testStep && !s.die.hvLow
  else !bit s.die.stopped (1 + k / 2) && !s.underTest k s.isl.swTest

/-- Level of an output ball without a fault: a high-side ball is lifted by its switch and pulled down without it, a low-side ball is
pulled low by its switch and up without it (R348). -/
def State.ballHigh (s : State) (k : Nat) : Bool := if k < 2 then s.switchClosed k else !s.switchClosed k

/-- A channel carries current only while both of its switches are on (R348). -/
def State.carries (s : State) (ch : Nat) : Bool := s.switchClosed ch && s.switchClosed (ch + 2)

/-- A switch test while the outputs are on, in its turn. Switches that the Anchor die holds open, as a low VDD_HV does (R437), follow no
test. -/
def State.switchTest (s : State) (fault : Nat) : State :=
  if !s.outputsDue then
    -- with the outputs off the balls are read all the time: a high-side ball at VDD_HV
    (if s.isl.st ≠ .init ∧ fault = 12 then s.lockout 12 else s)
  else if !s.swDue then s
  else
    let s1 := s.modIsl fun i => { i with swTest := (i.swTest + 1) % 4, swAt := some s.now }
    let f := if s.isl.outA && s.isl.outB then fault else 11
    if 11 ≤ f ∧ f ≤ 14 then s1.lockout f else s1

/-- One switch of the start-up cycle (R349). -/
def State.startUpTest (s : State) (fault : Nat) : State :=
  if s.isl.st ≠ .startTest ∨ !s.swDue then s
  else
    let f := if s.die.hvLow then 11 else fault
    if 11 ≤ f ∧ f ≤ 14 then s.lockout f
    else
      let k := s.isl.testStep + 1
      (s.modIsl fun i => { i with testStep := k % 4, swAt := some s.now, testDone := i.testDone || k == 4 }).startTestEnd

/-! ### Speed (R343) -/

/-- v_m from the sources of `C.030.01`, and whether they agree. -/
def State.monitored (s : State) : Option Nat × Bool :=
  let a := s.isl.spdA
  let b := s.isl.spdB
  let enc := max a b
  let near (x y : Nat) : Bool := decide (((x : Int) - y).natAbs ≤ s.speedTol (max x y))
  let mirror : Option Nat := if s.plv.speedOk ∧ s.cmdEnabled ∧ s.plv.slots[1].cond = 0 then some s.plv.speed else none
  match s.objN 0xC030 1 with
  | 0 => (some enc, near a b)
  | 1 => (mirror, true)
  | _ => match mirror with
    | none => (none, near a b)
    | some m => (some (max enc m), near a b && near a m && near b m)

/-- v_m and the agreement are judged anew. -/
def State.speedJudge (s : State) : State :=
  let m := s.monitored
  s.modIsl fun i => { i with vm := m.1, disagree := if m.2 then none else some (i.disagree.getD s.now) }

/-- Every 10 ms: edges of the last 20 ms give the encoder speeds. -/
def State.speedUpdate (s : State) : State :=
  let s1 := s.modIsl fun i => { i with
    spdA := (i.edgeA.1 + i.edgeA.2) * s.objN 0xC030 2 / 20
    spdB := (i.edgeB.1 + i.edgeB.2) * s.objN 0xC030 3 / 20
    edgeA := (0, i.edgeA.1)
    edgeB := (0, i.edgeB.1) }
  s1.speedJudge

/-! ### Field switching (R337, R338) -/

/-- The case: 15 while an enabling pair is closed, else the coded selection, or 0 without slot 1 (R337, R364). -/
def State.caseNow (s : State) : Option Nat :=
  if quads4.any fun n => s.pairType n == 4 && (s.pair n).closed then some 15
  else if !s.cmdEnabled then some 0
  else if s.plv.slots[1].cond = 0 then s.isl.selCase
  else none

/-- A band that contains a speed in mm/s. -/
def State.inBandSpeed (s : State) (v b : Nat) : Bool :=
  let w := s.objN 0xC141 (b + 1)
  w / 65536 * 100 ≤ v && v ≤ w % 65536 * 100

/-- The band for a speed: the current one while it holds the speed, else the lowest that does (R337). -/
def State.bandFor (s : State) (cur : Option Nat) (v : Nat) : Option Nat :=
  match cur with
  | some b => if s.inBandSpeed v b then some b else (List.range 8).find? fun b => s.inBandSpeed v b
  | none => (List.range 8).find? fun b => s.inBandSpeed v b

/-- The next band of an evaluator whose current band and ego speed are given; none without a band speed (R337, R343). -/
def State.bandNext (s : State) (cur ve : Option Nat) : Option Nat :=
  match s.isl.vm with
  | some vm => s.bandFor cur (max vm (ve.getD 0))
  | none => none

/-- The coded selection fails its check, or none is received, from slot 1 enabled (R338, R364, R368). -/
def State.codeBad (s : State) : Bool := s.cmdEnabled && (s.plv.slots[1].cond != 0 || s.isl.selCase.isNone)

/-- The set that case and band select; none when the selection is invalid, for a coded selection that is bad in case 15 as well (R337,
R338). -/
def State.setOf (s : State) (band : Option Nat) : Option Nat :=
  if s.codeBad then none else
  match s.caseNow, band with
  | some c, some b =>
    let n := s.objN 0xC140 (8 * c + b + 1)
    if n < 32 ∧ (s.fieldSet n).isSome then some n else none
  | _, _ => none

/-- What each evaluator selects from its own band and ego speed. -/
def State.selectA (s : State) : Option Nat := s.setOf (s.bandNext s.isl.band s.isl.ve)
def State.selectB (s : State) : Option Nat := s.setOf (s.bandNext s.isl.bandB s.isl.veB)

/-- The evaluators do not have the same set in effect after the selection: an invalid one leaves the set as it is. Their next records
differ then (R325). -/
def State.selectDiffer (s : State) : Bool := s.selectA.or s.isl.setNow != s.selectB.or s.isl.setNow

/-- The selection at a frame end (R337, R338): each evaluator's band and invalid time go on by themselves, and the set selected, the same
in both or the next records differ, comes into effect. -/
def State.selectNext (s : State) : State :=
  let a := s.selectA
  let b := s.selectB
  let bad (old sel : Option Nat) : Option Nat := if sel.isSome then none else some (old.getD s.now)
  let s1 := s.modIsl fun i => { i with
    band := s.bandNext i.band i.ve
    bandB := s.bandNext i.bandB i.veB
    selBad := bad i.selBad a
    selBadB := bad i.selBadB b
    selViol := i.selViol && !(a.isSome && b.isSome)
    setBefore := match a.or b with | some n => if i.setNow == some n then none else i.setNow | none => none
    setNow := (a.or b).or i.setNow }
  match a.or b with
  | some n => if s.isl.setNow = some n then s1 else s1.evt 0x4005 n
  | none => s1

/-- The selection has been invalid for longer than `C.010.0A` (R338). -/
def State.selectionLate (s : State) : Bool :=
  [s.isl.selBad, s.isl.selBadB].any fun b => match b with | some t => decide (t + s.objN 0xC010 10 * msP < s.now) | none => false

/-! ### Verdict (R325, R327, R334) -/

/-- The protective counter after a frame, and the stop it triggers at N (R334, R345). -/
def State.countViol (s : State) (viol : Bool) (why cat : Nat) : State :=
  let s1 := s.modIsl fun i => { i with counter := if viol then i.counter + 1 else 0 }
  if viol ∧ s.objN 0xC010 1 ≤ s1.isl.counter then s1.stopIsl why cat else s1

/-- What has been judged leaves the tap. -/
def State.tapDone (s : State) (frame : Nat) : State :=
  { s with tap := { s.tap with
      cands := s.tap.cands.filter fun k => frame < k.frame
      markers := s.tap.markers.filter fun k => frame < k.frame
      lists := s.tap.lists.filter fun k => frame < k.frame
      blinds := s.tap.blinds.filter fun k => frame < k.frame
      chans := s.tap.chans.filter fun x => match x.upTo with | none => true | some u => frame + 1 < u
      field := match s.tap.field with | some (_, some u) => if frame + 1 < u then s.tap.field else none | f => f } }

/-- Ego speeds of both evaluators at a frame end. -/
def State.egoUpdate (s : State) (frame startNs : Nat) : State :=
  let a := s.nearest false frame
  let b := s.nearest true frame
  let dt := startNs / 1000 - s.isl.nearT / 1000
  let next := s.isl.lastVerdict + 1 == frame
  s.modIsl fun i => { i with
    ve := if next then egoSpeed (s.obj 0xC030 14) dt i.nearA a else none
    veB := if next then egoSpeed (s.obj 0xC030 14) dt i.nearB b else none
    nearA := a
    nearB := b
    nearT := startNs }

/-- The two ego speeds do not agree within the tolerance; a speed that only one evaluator has agrees with nothing (R325). -/
def State.egoDiffer (s : State) : Bool :=
  match s.isl.ve, s.isl.veB with
  | some a, some b => decide (s.speedTol (s.isl.vm.getD 0) < ((a : Int) - b).natAbs)
  | none, none => false
  | _, _ => true

/-- What the Pilot's window baseline and commissioning report take from a judged frame (R400, R401): counts by zone, and frames blind or
without a set; a changed parameter set abandons the report. -/
def State.pilotFrame (s : State) (frame crc : Nat) (noSet : Bool) : State :=
  let s1 := match s.pilot.base with
    | some (n + 1) =>
      let add (i : Nat) : Nat × Nat × Nat :=
        let c := s.bandCounts frame i
        let o := (s.pilot.baseCnt[i]?.map (·.2)).getD (0, 0)
        (i, o.1 + c.1, o.2 + c.2)
      { s with pilot := { s.pilot with base := some n, baseCnt := (List.range (s.objN 0xC040 1)).map add } }
    | _ => s
  match s.pilot.report with
  | some (n + 1) =>
    if crc ≠ s.pilot.repCrc then ({ s1 with pilot := { s1.pilot with report := none } }.evt 0x1B05 5).commandDone 0x9320
    else { s1 with pilot := { s1.pilot with
        report := some n, repBlind := s1.pilot.repBlind + b2n s.isl.blindP, repNone := s1.pilot.repNone + b2n noSet } }
  | _ => s1

/-- The stored set in effect, and its CRC-32C; 0 for the defaults (R369, R374). -/
def State.setImage (s : State) : Option Octets := if s.nv.setCur = 0 then s.nv.setA else s.nv.setB
def State.setCrc (s : State) : Nat := match s.setImage with | some o => crc32c o | none => 0

/-- Every marker that names the ended frame can have arrived: 10 µs after the end of the Landing that followed it (R146). -/
def State.verdictDue (s : State) : Bool := s.frm.landUntil + 10 * usP ≤ s.now

/-- The verdict on the oldest frame that has ended: `differ` a record of the other evaluator that is not equal in what one tap, one set
of inputs and one parameter set give both alike (the counts and CRCs of R325), `miss` a test point that an evaluator does not report. -/
def State.verdict (s : State) (differ miss : Bool) : State :=
  match s.isl.ended with
  | [] => s
  | e :: rest =>
    let no := e.no
    let sets := (e.set.toList ++ e.before.toList).filterMap s.fieldSet
    let ja := sets.map (s.judge false no)
    let jb := sets.map (s.judge true no)
    let some_ (f : Nat) (g : Bool × Bool → Bool) (j : List (List (Bool × Bool))) : Bool := j.any fun l => g (l.getD f (false, false))
    let prot (j : List (List (Bool × Bool))) : Bool := some_ 0 (fun x => x.1 || x.2) j
    let late := e.late
    let viol := prot ja || prot jb || late
    let dead := some_ 0 (·.2) (ja ++ jb)
    let s1 := (s.bandAdd no).modIsl fun i => { i with
      ended := rest
      viol := viol
      blindP := dead
      warn1 := some_ 1 (·.1) (ja ++ jb)
      warn2 := some_ 2 (·.1) (ja ++ jb)
      warnBlind1 := some_ 1 (·.2) (ja ++ jb)
      warnBlind2 := some_ 2 (·.2) (ja ++ jb)
      selViol := late
      clean := if viol || e.set.isNone then 0 else i.clean + 1 }
    let s2 := s1.egoUpdate no e.start
    let s3 := (s2.bump 0xC210 1 1).modIsl fun i => { i with lastVerdict := no }
    let s4 := if ja = jb then s3 else s3.bump 0xC210 2 1
    -- the synthetic test (R327)
    let s5 := if no % 16 = 15 ∧ e.set.isSome then
        (if miss then s4.lockout 4 else (s4.modIsl fun i => { i with synthDone := true }).bump 0xC210 3 1)
      else s4
    let s6 := if differ || e.differ || s5.egoDiffer then s5.lockout 1 else s5
    let s7 := s6.countViol viol (if prot ja || prot jb then 1 else 3) (s.objN 0xC010 13)
    ((s7.pilotFrame no s7.setCrc e.set.isNone).tapDone no).condWatch.startTestEnd

/-- A maximum frame period has passed without a frame end (R335). -/
def State.frameMissing (s : State) : State :=
  if s.isl.st ≠ .init ∧ s.isl.lastEnd + (s.isl.missed + 1) * (s.objN 0xC010 9 * msP) ≤ s.now then
    ((s.modIsl fun i => { i with missed := i.missed + 1, clean := 0, viol := true }).countViol true 2 0).condWatch
  else s

/-- The end of a frame reaches the evaluators: it waits for its verdict under the sets it ran under, and the set of the next frame is
selected (R334, R337, R338). -/
def State.frameEnded (s : State) (no startNs : Nat) (aborted : Bool) : State :=
  let s1 := s.selectNext
  s1.modIsl fun i => { i with
    ended := i.ended ++ [{ no := no, start := startNs, at_ := s.now, aborted := aborted, set := s.isl.setNow, before := s.isl.setBefore
                           late := s1.selectionLate, differ := s.selectDiffer }]
    lastEnd := s.now
    missed := 0 }

/-! ### Window contamination (R339) -/

/-- The judgement of one zone: 0 clean, 1 warning, 2 blind; a blind zone stays so until a judgement comes back clean. -/
def State.zoneJudge (s : State) (i : Nat) (z : Zone) : Nat :=
  let b := s.objN 0xC040 (i + 8)
  if z.shots = 0 ∨ b = 0 then 2
  else
    let rho := 256 * (256 * z.cands / z.shots) / b
    if s.objN 0xC040 6 ≤ rho ∨ rho < s.objN 0xC040 5 then 2
    else if s.objN 0xC040 4 ≤ rho then (if z.st = 2 then 2 else 1)
    else 0

def State.contamination (s : State) : State :=
  let zs := (List.range (s.objN 0xC040 1)).map fun i => (i, s.zone i)
  let from_ := if s.frm.active then s.frm.no + 1 else s.frm.no
  let new := zs.map fun p => (p.1,
    { cands := 0, shots := 0, st := s.zoneJudge p.1 p.2, since := from_, was := p.2.blindIn (from_ - 1) : Zone })
  let s1 := s.modIsl fun i => { i with zones := new }
  (zs.zip new).foldl (fun s p =>
    if p.1.2.st = p.2.2.st then s
    else if p.2.2.st = 1 then s.evt 0x4021 p.2.1
    else if p.2.2.st = 2 then s.evt 0x4022 p.2.1
    else s) s1

/-! ### Boot and restart of the safety function (R321, R328) -/

/-- Both evaluators have booted; `ok`: the stored set passes its CRC and the images agree. -/
def State.evalBooted (s : State) (ok : Bool) : State :=
  if s.isl.st ≠ .init ∨ s.life.st = .off then s
  else
    let s1 := (s.modIsl fun i => { i with setOk := ok, lastEnd := s.now, missed := 0 }).selDrop
    if ok then s1.startTest else s1.lockout 7

/-! ### Commands -/

def execVerdict (differ miss : Bool) (s : State) : Host.Outcome State Fault Refusal :=
  .next (if s.verdictDue then s.verdict differ miss else s)
def execFrameMissingTimeout (s : State) : Host.Outcome State Fault Refusal := .next s.frameMissing

/-- The invalid selection outlasts its time: from now every frame counts as a violation (R338). -/
def execSelectionInvalidTimeout (s : State) : Host.Outcome State Fault Refusal :=
  .next (if s.selectionLate then s.modIsl fun i => { i with selViol := true, clean := 0 } else s)

def execContaminationJudgement (s : State) : Host.Outcome State Fault Refusal := .next s.contamination
def execTestPulse (tpB : Bool) (bad : List Nat) (s : State) : Host.Outcome State Fault Refusal := .next (s.testPulse tpB bad)
def execSafeInputDebounced (n : Fin 4) (chB : Bool) (s : State) : Host.Outcome State Fault Refusal := .next (s.safeAccept n chB)
def execSafeInputDiscrepancy (n : Fin 4) (s : State) : Host.Outcome State Fault Refusal := .next (s.safeDiffer n)
def execResetPairLongPress (n : Fin 4) (s : State) : Host.Outcome State Fault Refusal := .next (s.longPress n)
def execSafeInputEdge (n : Fin 4) (chB closed : Bool) (s : State) : Host.Outcome State Fault Refusal := .next (s.safeEdge n chB closed)
def execSpeedUpdate (s : State) : Host.Outcome State Fault Refusal := .next s.speedUpdate

def execSpeedEncoderEdge (chB : Bool) (s : State) : Host.Outcome State Fault Refusal :=
  .next (s.modIsl fun i => if chB then { i with edgeB := (i.edgeB.1 + 1, i.edgeB.2) } else { i with edgeA := (i.edgeA.1 + 1, i.edgeA.2) })

def execSpeedDiscrepancyTimeout (s : State) : Host.Outcome State Fault Refusal :=
  .next (if s.speedsDiffer then s.lockout 10 else s)

def execStoppingCheck (s : State) : Host.Outcome State Fault Refusal := .next s.stoppingCheck

/-- The restart delay of mode 0 has passed (R347). -/
def execRestartDelayExpiry (s : State) : Host.Outcome State Fault Refusal :=
  .next (match s.isl.conds with
    | some t => if s.isl.st = .off ∧ s.objN 0xC010 4 = 0 ∧ s.restartOk ∧ t + s.objN 0xC010 5 * msP ≤ s.now then s.enableIsl else s
    | none => s)

def execOutputSwitchTest (fault : Nat) (s : State) : Host.Outcome State Fault Refusal := .next (s.switchTest fault)

def execOutputReadbackTimeout (s : State) : Host.Outcome State Fault Refusal :=
  .next (if s.outputsDue ∨ s.isl.st = .startTest then s.lockout 11 else s)

def execOutputCurrentLimit (s : State) : Host.Outcome State Fault Refusal :=
  .next (if s.isl.outA ∨ s.isl.outB then s.lockout 13 else s)

def execStartUpOutputTest (fault : Nat) (s : State) : Host.Outcome State Fault Refusal := .next (s.startUpTest fault)

/-- A safety domain's supply is out of range: its enable lanes stop (R40, R350); the report stands until the next power-up. -/
def execSafetySupplyFault (e : Fin 2) (s : State) : Host.Outcome State Fault Refusal :=
  let s1 := (s.modIsl fun i => { i with supplyBad := setBit i.supplyBad e.val }).lockout 5
  .next (if e = 0 then s1.emissionOff else s1)

/-- VDD_HV is low: the Anchor die opens all four safe-output switches; test pulses, bias gates and slow-axis gates stay off with it (R437). -/
def execVddHvUndervoltage (s : State) : Host.Outcome State Fault Refusal :=
  .next { ((s.sideOff 1).sideOff 2) with die := { ((s.sideOff 1).sideOff 2).die with hvLow := true } }
def execVddHvRestored (s : State) : Host.Outcome State Fault Refusal := .next { s with die := { s.die with hvLow := false } }

/-- The safety tap to an evaluator does not answer within 1 µs (R27). -/
def execSafetyTapWatchdog (e : Fin 2) (s : State) : Host.Outcome State Fault Refusal := .next (((s.satBump 0xF020 (5 + e.val) 65535 1).evtFree 0x4010).lockout 2)

/-- No verdict 1.5 ms after a frame end (R27). -/
def execVerdictWatchdog (e : Fin 2) (s : State) : Host.Outcome State Fault Refusal :=
  .next (match s.isl.ended with
    | e0 :: _ => if e0.at_ + 1500 * usP ≤ s.now then ((s.satBump 0xF020 (5 + e.val) 65535 1).evtFree 0x4011).lockout 3 else s
    | [] => s)

end Sys2Proof.Machine
end

