-- ==== Sys2Proof/Machine/Emission.lean ====
section
/-! DEFINITION. Slots and emitters: the emission governor (R352 ... R354), the slot sequencer (R83, R84, R90, R94), strikes and the
diagnosis of emitters (R92 ... R97). -/

namespace Sys2Proof.Machine

/-! ### Emitters -/

def em0 : Emitter :=
  { verdict := 0, suspected := false, retired := 0, suspended := false, passes := 0, above := 0, peak := 0, firedLong := false, fired := false
    retest := 0, report := false, at2 := 0 }

/-- An emitter: sinks 0 ... 191, pulse-command channels 192 ... 199. -/
def State.emitter (s : State) (m : Nat) : Emitter := assocD em0 s.em m

def State.modEm (s : State) (m : Nat) (f : Emitter → Emitter) : State := { s with em := assocPut s.em m (f (s.emitter m)) }

/-- Its settings in effect enable it. -/
def State.emEnabled (s : State) (m : Nat) : Bool := if m < 192 then s.sinkOn m else s.hpcOn (m - 192)

/-- Struck current of a sink in mA as a product of G and C: I = 600·G·C / (255·1023). -/
def State.sinkGC (s : State) (m : Nat) : Nat := s.globalG * s.sinkC m

/-- It fires nothing: disabled, retired or suspended (R97). -/
def State.emDark (s : State) (m : Nat) : Bool := !s.emEnabled m || (s.emitter m).retired != 0 || (s.emitter m).suspended

/-- A strike: every staged setting reaches the emitters at one instant (R92). -/
def State.strike (s : State) : State :=
  let s1 := (List.range 192).foldl (fun s m => s.setObj 0x3311 (m + 1) (s.obj 0x3310 (m + 1))) s
  let s2 := (List.range 8).foldl (fun s p => s.setObj 0x3311 (193 + p) (s.obj 0x3330 (p + 1))) s1
  (s2.setObj 0x3311 201 (s2.obj 0x3300 1)).emit (.anchor 0 0)

/-! ### The emission governor (R352, R353) -/

/-- Azimuth codes of a sector. -/
def State.sectorSpan (s : State) (i : Nat) : Nat × Nat :=
  (s.objN 0xC301 (i + 1), if i + 1 = s.objN 0xC300 1 then 0xFFFF else s.objN 0xC301 (i + 2) - 1)

/-- Sectors that a forecast azimuth covers, widened by the tracking allowance. -/
def State.charged (s : State) (az : Nat) : List Nat :=
  let w := s.objN 0xC300 0x85
  (List.range (s.objN 0xC300 1)).filter fun i => (s.sectorSpan i).1 ≤ az + w && az ≤ (s.sectorSpan i).2 + w

/-- The sum of a window: the total of its last 16 sub-intervals. -/
def govSum (l : List (Nat × List Nat)) (i : Nat) : Nat := (assocD [] l i).sum

/-- Energy of one pulse of an emitter; the sink's product of G and C may be capped (a diagnostic pulse). -/
def State.sinkEnergy (s : State) (m gc w : Nat) : Nat := gc * w * s.objN 0xC302 (m / 48 + 1) / 2 ^ 32
def State.pulseEnergy (s : State) (m : Nat) : Nat :=
  if m < 192 then s.sinkEnergy m (s.globalG * s.sinkC m) (s.sinkW m)
  else 255 * s.hpcW (m - 192) * s.objN 0xC302 (m - 192 + 5) / 2 ^ 16

/-- Energy of a slot. -/
def State.slotEnergy (s : State) (q : Fin 4) (e : Nat) : Nat :=
  s.pulsesOf (entCode e) * (((emittersOf q e).filter fun m => !s.emDark m).map s.pulseEnergy).sum

/-- The veto of R353 on an energy at an azimuth. -/
def State.veto (s : State) (e az : Nat) : Bool :=
  !s.gov.enable || s.objN 0xC300 4 < e
    || (s.charged az).any fun i => s.objN 0xC300 (5 + i) < govSum s.gov.short i + e || s.objN 0xC300 (0x45 + i) < govSum s.gov.long i + e

/-- Add to the running sub-interval of a sector. -/
def govAdd (l : List (Nat × List Nat)) (i e : Nat) : List (Nat × List Nat) :=
  match assocD [] l i with
  | [] => assocPut l i [e]
  | x :: xs => assocPut l i ((x + e) :: xs)

/-- Charge an energy to every sector the azimuth covers. -/
def State.charge (s : State) (e az : Nat) : State :=
  if e = 0 then s
  else { s with gov := { s.gov with
    short := (s.charged az).foldl (fun l i => govAdd l i e) s.gov.short
    long := (s.charged az).foldl (fun l i => govAdd l i e) s.gov.long } }

/-- A veto, counted for the frame. -/
def State.countVeto (s : State) : State := { s with gov := { s.gov with vetoes := s.gov.vetoes + 1 } }

/-- A new sub-interval begins in every sector of a window: the seventeenth-last leaves the sum. -/
def govRoll (l : List (Nat × List Nat)) : List (Nat × List Nat) :=
  (l.map fun p => (p.1, (0 :: p.2).take 16)).filter fun p => p.2.any (· ≠ 0)

/-- Length of a sub-interval in reference periods: a sixteenth of the window. -/
def State.govLen (s : State) (long : Bool) : Nat :=
  if long then s.objN 0xC300 3 * secP / 16 else s.objN 0xC300 2 * msP / 16

/-- A sub-interval ends. -/
def State.govInterval (s : State) (long : Bool) : State :=
  let n := s.now / max 1 (s.govLen long)
  let g := s.gov
  if long then
    if g.longNo < n then { s with gov := { g with long := govRoll g.long, longNo := g.longNo + 1 } } else { s with gov := { g with longNo := n } }
  else if g.shortNo < n then { s with gov := { g with short := govRoll g.short, shortNo := g.shortNo + 1 } }
  else { s with gov := { g with shortNo := n } }

/-- At a Landing the governor restarts the emission lane once both axes are valid and the island allows it, and sends an on-command
(R354). -/
def State.govLanding (s : State) : State :=
  if !s.gov.enable ∧ s.steer.fast.valid ∧ s.steer.slow.valid ∧ s.mayEmit then
    { s with gov := { s.gov with enable := true }, die := { s.die with onCmd := setBit s.die.onCmd 0 } }.emit (.anchor 1 0)
  else s

/-! ### Jitter and thinning (R90, R94) -/

/-- One step of the 48-bit generator. -/
def jitStep (x : Nat) : Nat :=
  let fb := (b2n (bit x 47) + b2n (bit x 46) + b2n (bit x 20) + b2n (bit x 19)) % 2
  (2 * x + fb) % 2 ^ 48

/-- Eight steps. -/
def jitNext (x : Nat) : Nat := jitStep (jitStep (jitStep (jitStep (jitStep (jitStep (jitStep (jitStep x)))))))

/-- Seed of a Quadrant: the seed rotated left by 12·q bits. -/
def jitSeed (seed q : Nat) : Nat :=
  let r := 12 * q
  (seed * 2 ^ r + seed / 2 ^ (48 - r)) % 2 ^ 48

def State.modSeq (s : State) (q : Fin 4) (f : Seq → Seq) : State := s.modQuad q fun qd => { qd with seq := f qd.seq }

/-- The jitter of a slot position in half ns; the generator advances for every position. -/
def State.jitter (s : State) (q : Fin 4) (angle : Bool) : State × Int :=
  let x := jitNext (s.quad q).seq.jit
  let j := toSigned 8 x
  let s1 := s.modSeq q fun sq => { sq with jit := x }
  (s1, if s.obj 0x3250 3 = 0 then 0 else if angle then j + 128 else j)

/-- The thinning decision of a slot of non-zero weight: kept or not. -/
def State.thin (s : State) (q : Fin 4) : State × Bool :=
  let a := (s.quad q).seq.acc + s.kappa q.val
  if 65536 ≤ a then (s.modSeq q fun sq => { sq with acc := a - 65536 }, true) else (s.modSeq q fun sq => { sq with acc := a }, false)

/-! ### The sequencer (R83, R84) -/

/-- A Quadrant issues slots now. -/
def State.sequences (s : State) (q : Fin 4) : Bool :=
  s.inRun && s.frm.running && (s.quad q).fires && !(s.quad q).seq.done

/-- The entry of the next slot position. -/
def State.nextEntry (s : State) (q : Fin 4) : Nat := (s.quad q).act.entry (s.quad q).seq.entry

/-- Nominal instant of the next position where it is placed by time: a time-triggered entry, or a repeat. -/
def State.timePlaced (s : State) (q : Fin 4) : Option Nat :=
  let e := s.nextEntry q
  let sq := (s.quad q).seq
  if sq.rep = 0 then (if entAngle e then none else some (sq.prevNom + entTrig e))
  else some (sq.prevNom + (if entAngle e then 332 else max (entTrig e) 332))

/-- Earliest permitted instant of the next position where an angle places it. -/
def State.angleFrom (s : State) (q : Fin 4) : Option Nat :=
  let sq := (s.quad q).seq
  if sq.rep = 0 ∧ entAngle (s.nextEntry q) then some (if sq.entry = 0 then s.frm.start else sq.prevNom + 332) else none

/-- The sequencer moves on to the next position. -/
def Seq.advance (sq : Seq) (e nom close2 : Nat) : Seq :=
  let sq := { sq with prevNom := nom, lastClose := max sq.lastClose close2 }
  if sq.rep < entRep e then { sq with rep := sq.rep + 1 }
  else if entLast e then { sq with done := true }
  else { sq with entry := sq.entry + 1, rep := 0 }

/-- A shot that neither open gates nor hits nor a stamp still concern. -/
def Shot.over (x : Shot) (now2 : Nat) : Bool := x.stamp.isSome && x.opened == x.closedM && x.close2 + 1500 < now2

/-- A train for the capture engine (R256, R263): `kind` 0 fired, 1 thinned, 2 vetoed, 3 angle-skipped, 4 donated, 5 diagnostic, at an instant
in half ns. -/
def State.noteTrain (s : State) (q : Fin 4) (emit hpc code kind at2 : Nat) : State :=
  let t := s.capAt2 at2
  (s.capNote 5 q.val t (emit * 2 ^ 16 + hpc * 2 ^ 14 + code * 2 ^ 8 + kind * 2 ^ 5)).occNote t (.train q.val kind)

/-- Emitters of an entry fire the train, every pulse with the width and current in effect (R88, R91); each is noted for the diagnosis
(R95). -/
def State.fireOne (s : State) (q : Fin 4) (at2 : Nat) (pulses : List Nat) (m : Nat) : State :=
  if s.emDark m then s
  else
    let s1 := s.modEm m fun x => { x with fired := true, firedLong := x.firedLong || (m < 192 && 32 ≤ s.sinkW m), at2 := at2 }
    let offs := pulses.map (5 * ·)
    if m < 192 then (if s.die.sinksOn then s1.emit (.train q.val (m % 48) at2 offs (s.sinkW m) (s.sinkGC m)) else s1)
    else s1.emit (.train q.val (48 + m % 2) at2 offs (s.hpcW (m - 192)) 0)

/-- A slot names an emitter that has been retired or suspended since before the frame began, or is disabled (R97). -/
def State.blindEms (s : State) (q : Fin 4) (e : Nat) : Bool := (emittersOf q e).any fun m => (s.emitter m).report || !s.emEnabled m

/-- Such a slot, fired or not, is reported blind for its cell and channels (R97). -/
def State.blindSlot (s : State) (q : Fin 4) (e : Nat) : State :=
  if s.blindEms q e then
    s.blindCells q ((List.range 256).filter fun c => bit ((s.quad q).act.gates256 (entGset e)) c) (entCell e) s.frm.no
  else s

/-- A slot fires: its train, and the shot with its gates to come. -/
def State.fireSlot (s : State) (q : Fin 4) (e pass : Nat) (at2 nom : Nat) (late : Bool) : State :=
  let pulses := s.trainOf (entCode e)
  let qd := s.quad q
  let ems := emittersOf q e
  let x : Shot :=
    { slot := qd.seq.slotNo, frame := s.frm.no, at2 := at2, nom := nom, cell := entCell e, pass := pass
      visit := (qd.visit.getD (0, 0)).2, gmask := qd.act.gates256 (entGset e), gain := entGain e, wstart := entWstart e, wend := entWend e
      pulses := pulses, listening := ems.isEmpty, angleTrig := entAngle e, late := late, early := false, opened := 0, closedM := 0
      blindEm := s.blindEms q e, stamp := none, closed := false }
  let s1 := s.modQuad q fun qd => { qd with
    shots := (qd.shots.filter fun y => !y.over s.now2) ++ [x]
    seq := { qd.seq with slotNo := qd.seq.slotNo + 1 } }
  ems.foldl (fun s m => s.fireOne q at2 pulses m) s1

/-- One slot position at its nominal instant (R84): entry and reallocation, thinning, veto, jitter, fire. A donated position is counted as
donated alone (R167). One whose angle is missed takes no thinning decision, and a listening slot counts among the slots fired (DESIGN
CHOICE, log entry 93). -/
def State.position (s : State) (q : Fin 4) (nom : Nat) (late missed : Bool) : State :=
  let e := s.nextEntry q
  let no := s.frm.no
  let v := s.visitStep q (entCell e)
  let pass := v.2
  let z := if pass = 1 ∧ entWeight e ≠ 0 then v.1.zoomPosition q e ((s.quad q).seq.rep == 0) else (v.1, true)
  let on := z.2 && !missed
  let t := if on ∧ entWeight e ≠ 0 then z.1.thin q else (z.1, true)
  let az := t.1.forecastAz nom
  let en := t.1.slotEnergy q e
  let vetoed := on && t.2 && t.1.veto en az
  let fires := on && t.2 && !vetoed
  let j := t.1.jitter q (entAngle e)
  let at2 := ((5 * nom : Nat) + j.2 : Int).toNat
  let count (s : State) (b : Bool) (m : Nat) : State := if b then s.cntAdd q no 0x3360 5 m 1 else s
  let late := late && z.2
  let s1 := count (count (count (count (count j.1 fires 1) (on && !t.2) 2) vetoed 3) late 4) (missed && z.2) 5
  let s2 := if vetoed then s1.countVeto else s1
  let s3 := if fires then (s2.charge en az).fireSlot q e pass at2 nom late else s2
  let close2 := at2 + 5 * (entWend e + (s.trainOf (entCode e)).getLastD 0)
  let kind := if !z.2 then 4 else if missed then 3 else if !t.2 then 1 else if vetoed then 2 else 0
  (((s3.blindSlot q e).noteTrain q (entEmit e) (entHpc e) (entCode e) kind at2).visitEnd q (entCell e) pass close2 fires late).modSeq q fun sq => sq.advance e nom close2

/-- An instant at which the running pattern may still issue a slot: before its declared duration (R87). -/
def State.beforeCut (s : State) (q : Fin 4) (t : Nat) : Bool :=
  (s.quad q).act.dur == 0 || t < s.frm.start + (s.quad q).act.dur * usP

/-- When the next position is run, half ns: at its nominal instant, or at its first pulse where jitter moves that ahead (R90, R130). -/
def State.slotAt (s : State) (q : Fin 4) (nom : Nat) : Nat :=
  ((5 * nom : Nat) + min 0 (s.jitter q (entAngle (s.nextEntry q))).2 : Int).toNat

/-- SLOT: the next time-placed position, once its instant has come, so that its gates can open however early. -/
def State.slot (s : State) (q : Fin 4) : State :=
  if s.sequences q then
    match s.timePlaced q with
    | some t => if s.slotAt q t ≤ s.now2 ∧ s.beforeCut q t then s.position q t false false else s
    | none => s
  else s

/-- The angle has been passed before the earliest permitted instant `t` of the next slot: after the previous nominal instant (R83). -/
def State.anglePassed (s : State) (q : Fin 4) (t : Nat) : Bool :=
  s.angleSeen (entTrig (s.nextEntry q)) (s.quad q).seq.prevNom (t - 1)

/-- The first instant, no earlier than the earliest permitted one `t` and within one fast-axis period, at which the angle reaches `trig`, as
far as it has come by now (R83). -/
def State.angleReach (s : State) (q : Fin 4) (t : Nat) : Option Nat :=
  (s.angleFirst (entTrig (s.nextEntry q)) ((t : Int) - 1) (min s.now (t + s.steer.period) : Nat)).map Int.toNat

/-- ANGLE_TRIGGER: the angle had been passed, and the slot fires late at its earliest permitted instant, or it has reached `trig`. -/
def State.angleTrigger (s : State) (q : Fin 4) : State :=
  if s.sequences q then
    match s.angleFrom q with
    | some t =>
      if s.anglePassed q t then (if t ≤ s.now ∧ s.beforeCut q t then s.position q t true false else s)
      else match s.angleReach q t with
      | some n => if s.beforeCut q n then s.position q n false false else s
      | none => s
    | none => s
  else s

/-- ANGLE_MISSED: one fast-axis period in which the angle has not been reached. -/
def State.angleMissed (s : State) (q : Fin 4) : State :=
  if s.sequences q then
    match s.angleFrom q with
    | some t =>
      if t + s.steer.period ≤ s.now ∧ s.beforeCut q (t + s.steer.period) ∧ !s.anglePassed q t ∧ (s.angleReach q t).isNone then
        s.position q (t + s.steer.period) false true
      else s
    | none => s
  else s

/-- Close of the latest open gate of the running frame in a Quadrant, half ns. -/
def State.openUntil (s : State) (q : Fin 4) : Nat :=
  (((s.quad q).shots.filter fun x => x.frame == s.frm.no).map Shot.close2).foldl max 0

/-- A pattern still issuing slots at its declared duration is cut (R87). -/
def State.durationCut (s : State) (q : Fin 4) : State :=
  let d := (s.quad q).act.dur
  if s.sequences q ∧ d ≠ 0 ∧ s.frm.start + d * usP ≤ s.now then
    (s.modSeq q fun sq => { sq with done := true, cut := true, lastClose := s.openUntil q }).evt 0x2102 q.val
  else s

/-! ### Peak readings and the diagnosis (R93, R95, R96) -/

/-- Limits of a channel's peak: low, high. -/
def State.peakLimits (s : State) (p : Nat) : Nat × Nat := (bits (s.objN 0x3311 (193 + p)) 8 8, bits (s.objN 0x3311 (193 + p)) 0 8)

/-- Kind of a peak: 0 inside its limits, 1 below, 2 above. -/
def State.peakKind (s : State) (p code : Nat) : Nat :=
  let l := s.peakLimits p
  if code < l.1 then 1 else if l.2 < code then 2 else 0

/-- The peak of a pulse, of a train or of a diagnostic command, is ready: the second in a row above the high limit suspends the channel at
once. -/
def State.peakReading (s : State) (p code : Nat) : State :=
  let k := s.peakKind p code
  (s.capNote 6 p (s.capAt2 (s.emitter (192 + p)).at2) (k * 2 ^ 8 + code % 256)).modEm (192 + p) fun x =>
    let n := if k = 2 then x.above + 1 else 0
    let sus := decide (2 ≤ n) && x.retired == 0 && !x.suspended
    { x with peak := k, above := n, suspended := x.suspended || sus, passes := if sus then 0 else x.passes }

/-- The struck current is below 10 mA. -/
def State.untestable (s : State) (m : Nat) : Bool := 600 * s.sinkGC m < 10 * (255 * 1023)

/-- An emitter is to receive a diagnostic pulse or command (R95, R97). -/
def State.wantsPulse (s : State) (m : Nat) : Bool :=
  let x := s.emitter m
  s.emEnabled m && (if 3 ≤ x.retest then true
    else x.retired == 0 && (if m < 192 then !x.firedLong || (0 < s.pilot.emit && !s.untestable m) else x.suspended || !x.fired))

/-- Drive of a diagnostic pulse: the lower of the struck and the diagnostic current. -/
def State.diagGC (s : State) (m : Nat) : Nat := min (s.sinkGC m) (s.objN 0x3300 2 * (255 * 1023) / 600)

/-- Energy of a diagnostic pulse: 20 ns at the lower of the struck and the diagnostic current, or a command at the struck width. -/
def State.diagEnergy (s : State) (m : Nat) : Nat := if m < 192 then s.sinkEnergy m (s.diagGC m) 80 else s.pulseEnergy m

/-- The diagnostic pulse of an emitter: 0 none was due, 1 fired, 2 vetoed. -/
def State.diagPulse (s : State) (m : Nat) : State × Nat :=
  if !s.wantsPulse m then (s, 0)
  else
    let az := s.forecastAz s.now
    if s.veto (s.diagEnergy m) az then (s.countVeto, 2)
    else
      let q : Fin 4 := Fin.ofNat 4 (if m < 192 then m / 48 else (m - 192) / 2)
      let s0 := ((s.charge (s.diagEnergy m) az).bump 0x3351 3 1).modEm m fun x => { x with at2 := s.now2 }
      let s1 := s0.noteTrain q (if m < 192 then 2 ^ (m % 48) else 0) (if m < 192 then 0 else 2 ^ (m % 2)) 0 5 s.now2
      (if m < 192 then (if s.die.sinksOn then s1.emit (.diagPulse m 80 (s.diagGC m)) else s1) else s1.emit (.diagPulse m (s.hpcW (m - 192)) 0), 1)

/-- Verdict of R96: 0 pass, 1 open, 2 short, 3 peak, 5 untestable; `pulsed` a diagnostic pulse was fired. -/
def State.emVerdict (s : State) (li : LandingIn) (m : Nat) (pulsed : Bool) : Nat :=
  let x := s.emitter m
  if m < 192 then
    if li.shorts.contains m then 2
    else if s.untestable m then 5
    else if (pulsed || x.firedLong) && li.noHeadroom.contains m then 1
    else 0
  else if x.peak ≠ 0 then 3 else 0

/-- Cause in events 1102h and 3101h (R100). -/
def Emitter.cause (x : Emitter) (v : Nat) : Nat := if v = 3 then 2 + x.peak else v

/-- What a verdict does: first suspicion, retirement at the second, and the passes of a suspension and of a re-test, which an untestable
sink does not pass. -/
def State.applyVerdict (s : State) (m v : Nat) : State :=
  let x := s.emitter m
  let bad := v == 1 || v == 2 || v == 3
  let base : Emitter := { x with verdict := v, suspected := bad, fired := false, firedLong := false }
  if x.retired ≠ 0 then
    if x.retest < 3 then s.modEm m fun _ => { x with fired := false, firedLong := false }
    else
      let s1 := s.modEm m fun _ => { base with suspected := false, retest := if v = 0 then x.retest - 1 else 0 }
      if v = 0 then s1 else s1.readmitFailed (0x2000 + m) (5 - x.retest)
  else if bad then
    if x.suspected ∧ x.verdict = v then
      (s.modEm m fun _ => { base with retired := 6 + v, suspended := false, retest := 0, report := true }).evt 0x3101 (m + 256 * x.cause v) |>.sourceLost (192 ≤ m && s.capWants 6)
    else (s.modEm m fun _ => { base with passes := 0 }).evt 0x1102 (m + 256 * x.cause v)
  else
    let n := if x.suspended then x.passes + 1 else 0
    let still : Bool := x.suspended && n < 2
    s.modEm m fun _ => { base with passes := n, suspended := still, above := if x.suspended && !still then 0 else x.above, retest := 0 }

/-- One emitter at a diagnostic Landing. -/
def State.diagnose (s : State) (li : LandingIn) (m : Nat) : State :=
  let r := s.diagPulse m
  let s1 := match (if 192 ≤ m ∧ r.2 = 1 then li.peaks.find? fun p => p.1 + 192 == m else none) with
    | some p => r.1.peakReading (m - 192) p.2
    | none => r.1
  if r.2 = 2 then s1 else s1.applyVerdict m (s1.emVerdict li m (r.2 == 1))

/-- Emitters of a Quadrant. -/
def quadEmitters (q : Fin 4) : List Nat := (List.range 48).map (· + 48 * q.val) ++ [192 + 2 * q.val, 193 + 2 * q.val]

/-- The sequence of a Landing that ends the frame of a number (R95): at multiples of D and in an emitter campaign (R402), skipped where VEM
is too low. -/
def State.diagLanding (s : State) (li : LandingIn) : State :=
  if s.frm.no % max 1 (s.objN 0x3300 4) ≠ 0 ∧ s.pilot.emit = 0 then s
  else
    let run := quads4.filter fun q => !bit li.vemLow q.val
    let s1 := run.foldl (fun s q => (quadEmitters q).foldl (fun s m => s.diagnose li m) s) s
    let s2 := if run.isEmpty then s1 else s1.bump 0x3351 1 1
    if li.vemLow % 16 = 0 then s2 else (s2.bump 0x3351 2 1).evt 0x1103 (li.vemLow % 16)

/-- A Landing that ends a frame begins: the emitters that have passed both diagnostic Landings of a re-test rejoin at this one (R97). -/
def State.emPassed (s : State) : State :=
  { s with em := s.em.map fun p => if p.2.retest == 2 then (p.1, { p.2 with retest := 1 }) else p }

/-- From the next frame on slots that name an emitter retired or suspended by now are reported blind (R97). -/
def State.emReport (s : State) : State :=
  { s with em := s.em.map fun p => (p.1, { p.2 with report := p.2.retired != 0 || p.2.suspended }) }

/-- Emitters that passed both Landings of a re-test rejoin at the Landing that follows (R97). -/
def State.emRejoin (s : State) : State :=
  let back := (s.em.filter fun p => p.2.retest == 1).map (·.1)
  let s1 := { s with em := s.em.map fun p =>
    if p.2.retest == 1 then (p.1, { p.2 with retired := 0, suspended := false, retest := 0, verdict := 0, report := false })
    else p }
  back.foldl (fun s m => s.readmitPassed (0x2000 + m)) s1

/-- A re-test of one emitter begins (R97). -/
def State.retest (s : State) (m : Nat) : State := s.modEm m fun x => { x with retest := 4 }

/-- Health of an emitter as `3.350` shows it. -/
def State.emHealth (s : State) (m : Nat) : Nat :=
  let x := s.emitter m
  if x.retired ≠ 0 then x.retired
  else if x.suspended then 4
  else if !s.emEnabled m then 6
  else x.verdict

/-- Checks of staged settings (`3.310`, `3.330`): the ranges that the catalogue gives by rule. -/
def sinkWordOk (v : Nat) : Bool :=
  v == 0 || (v / 2 ^ 26 == 0 && bits v 15 1 == 0 && bits v 1 7 == 0 && 4 ≤ bits v 8 7 && bits v 8 7 ≤ 80)
def hpcWordOk (v : Nat) : Bool :=
  v == 0 || (bits v 16 8 == 0 && 4 ≤ bits v 24 7 && bits v 24 7 ≤ 48 && bits v 8 8 < bits v 0 8)

/-! ### The commands -/

/-- A write to the pattern data window (R85). -/
def execPatternDataWrite (r : Req) (data : Octets) (s : State) : Host.Outcome State Fault Refusal :=
  .next (s.hostWrite r (entBlob 0x3202 data) (fun s => s.patCodes data) (fun s => s.patWrite data) false)

/-- Surplus visits are reported when a commit is accepted (R152). -/
def State.commitEvents (s : State) (m : Nat) : State :=
  (quadsOf m).foldl (fun s q =>
    let s1 := s.modQuad q fun qd => { qd with shd := s.cellTable q qd.shd }
    if (s.quad q).shd.surplus = 0 then s1 else s1.evt 0x1403 q.val) s

def execPatternCommit (r : Req) (mask : Nat) (s : State) : Host.Outcome State Fault Refusal :=
  .next (s.hostWrite r (entArg 0x3210 .u8 mask) (fun s => s.commitCodes mask) (fun s => s.commitEvents mask) false)

/-- The shadow has been refreshed: queued writes are laid over it in arrival order (R87). -/
def execShadowRefreshDone (q : Fin 4) (s : State) : Host.Outcome State Fault Refusal :=
  .next (if (s.quad q).ready then s
    else s.modQuad q fun qd => { qd with shd := qd.act.overlay qd.wq, wq := [], ready := true })

def execPatternDurationCut (q : Fin 4) (s : State) : Host.Outcome State Fault Refusal := .next (s.durationCut q)
def execSlot (q : Fin 4) (mis : Bool) (s : State) : Host.Outcome State Fault Refusal :=
  .next (if mis && ((s.slot q).quad q).fires then (s.slot q).quadMismatch q 1 else s.slot q)
/-- The sender's account of the crossing is not taken: the part finds instant and lateness itself (R83). -/
def execAngleTrigger (q : Fin 4) (_ : Nat) (_ : Bool) (s : State) : Host.Outcome State Fault Refusal := .next (s.angleTrigger q)
def execAngleMissed (q : Fin 4) (s : State) : Host.Outcome State Fault Refusal := .next (s.angleMissed q)

def execStrike (r : Req) (arg : Nat) (s : State) : Host.Outcome State Fault Refusal :=
  .next (s.hostWrite r (entArg 0x3320 .u8 arg) (fun _ => []) State.strike false)

def execHpcPeakReading (p : Fin 8) (code : Nat) (s : State) : Host.Outcome State Fault Refusal :=
  .next (s.peakReading p.val code)

def execEmitterRetest (r : Req) (emitter : Nat) (s : State) : Host.Outcome State Fault Refusal :=
  .next (s.hostWrite r (entArg 0x3352 .u8 emitter) (fun _ => []) (fun s => s.retest emitter) false)

def execGovernorSubinterval (long : Bool) (s : State) : Host.Outcome State Fault Refusal := .next (s.govInterval long)

end Sys2Proof.Machine
end

