-- ==== Sys2Proof/Machine/Calibrate.lean ====
section
/-! DEFINITION. Calibration without a pause: idle intervals, relief converters, code-density results, the injection of a Landing and what
it finds (R136 ... R147). -/

namespace Sys2Proof.Machine

/-! ### Calibration of the converters (R136 ... R139) -/

/-- A converter's age has reached 25 ms. -/
def State.calDue (s : State) (q : Fin 4) (conv : Nat) : State :=
  let ch := s.chan q conv
  if !ch.due && ch.calAt + 25 * msP ≤ s.now then s.setChan q conv { ch with due := true, calStart := s.now } else s

/-! ### Idle intervals (R136) -/

/-- Earliest instant, half ns, at which the gate of a slot can open: 64 ns of jitter before the nominal instant, or no jitter before that
of an angle-triggered entry. -/
def earliestGate (nom wstart : Nat) (angle : Bool) : Nat := 5 * (nom + wstart) - (if angle then 0 else 128)

/-- Earliest gate of the sequencer's next position where it gates the channel. Every later position lies 830 ns further on. -/
def State.nextGate (s : State) (q : Fin 4) (c : Nat) : List Nat :=
  let e := s.nextEntry q
  if s.sequences q && bit ((s.quad q).act.gates256 (entGset e)) c then
    match s.timePlaced q, s.angleFrom q with
    | some t, _ => [earliestGate t (entWstart e) (entAngle e)]
    | none, some t => [earliestGate t (entWstart e) true]
    | none, none => []
  else []

/-- Gates still to come on a channel, by their earliest instants: of the shots that have fired and whose gate is not past, and of the next
position. None opens on a channel that is blind but for a re-admission (R130). -/
def State.gatesAhead (s : State) (q : Fin 4) (c : Nat) : List Nat :=
  if s.chanGates q c then
    (((s.quad q).shots.filter fun x => bit x.gmask c && !bit x.opened c && decide (s.now2 ≤ x.close2)).map fun x =>
      earliestGate x.nom x.wstart x.angleTrig) ++ s.nextGate q c
  else []

/-- The channel is in an idle interval: from 50 ns after its last open gate has closed to 100 ns before the earliest instant of its next
gate, and not in the injection sequence that follows a frame's end. -/
def State.idleOn (s : State) (q : Fin 4) (c : Nat) : Bool :=
  (s.openShots q c).isEmpty && decide ((s.chan q c).lastClose2 + 100 ≤ s.now2) && ((s.gatesAhead q c).all fun t => decide (s.now2 + 200 ≤ t))
    && (s.frm.running || decide (s.frm.endAt = 0) || decide (s.frm.endAt + 480 ≤ s.now))

/-! ### Relief converters (R137, R138) -/

/-- Relief converters that serve no channel, nor are assigned to one, and are younger than 50 ms. -/
def State.reliefFree (s : State) (q : Fin 4) : List Nat :=
  ((List.range 8).map (· + 256)).filter fun r =>
    !((s.quad q).chans.any fun kv => kv.2.relief == some r || kv.2.relNext == some (some r)) && s.now < (s.chan q r).calAt + 50 * msP

/-- The calibration is out of turn: of a hit outlier, or of a re-admission (R143, R147). -/
def Chan.outOfTurn (ch : Chan) : Bool := ch.due && (ch.recal == 2 || ch.readmit == 1)

/-- The calibration waits for a relief converter: it is out of turn, or not complete 10 ms after its start. -/
def Chan.wantsRelief (ch : Chan) (now : Nat) : Bool :=
  ch.relief.isNone && ch.relNext.isNone && (ch.outOfTurn || (ch.due && decide (ch.calStart + 10 * msP ≤ now)))

/-- No converter that waits is older: due converters are served oldest first. -/
def State.oldestWaiting (s : State) (q : Fin 4) (c : Nat) : Bool :=
  (s.quad q).chans.all fun kv => kv.1 ≥ 256 || !kv.2.wantsRelief s.now || decide ((s.chan q c).calAt ≤ kv.2.calAt)

/-- Bins of two histograms. -/
def addBins : List Nat → List Nat → List Nat
  | [], b => b
  | a, [] => a
  | x :: a, y :: b => (x + y) :: addBins a b

/-- A relief converter is assigned, with the bins collected so far, which are kept; the hand-over follows at a slot boundary. A relief
converter whose own age has reached 50 ms gives its channel to another, or back (R137, R138). -/
def State.reliefHandover (s : State) (q : Fin 4) (c : Nat) (part : List Nat) : State :=
  let ch := s.chan q c
  if ch.wantsRelief s.now && (ch.outOfTurn || s.oldestWaiting q c) then
    match s.reliefFree q with
    | r :: _ => (s.setChan q c { ch with relNext := some (some r), hist := addBins ch.hist (part.take 384) }).settled q c
    | [] => s
  else
    match ch.relief with
    | some r =>
      if (s.chan q r).calAt + 50 * msP ≤ s.now ∧ ch.relNext = none then
        (s.setChan q c { ch with relNext := some (s.reliefFree q).head? }).settled q c
      else s
    | none => s

/-! ### Results (R139, R142, R143) -/

/-- Result of a code-density test (R139): table before the offset is taken off, and whether a bin is missing or too wide. -/
def densityTable (h : List Nat) : List Nat × Nat × Bool :=
  let n := h.sum
  let m := h.length - (h.reverse.takeWhile (· == 0)).length
  let used := h.take m
  let t := (used.foldl (fun (acc : Nat × List Nat) x => (acc.1 + x, acc.2 ++ [(2 * 4096 * acc.1 + 4096 * x + n) / (2 * max 1 n)])) (0, [])).2
  let bad := m < 160 || 380 < m || used.contains 0 || used.any fun x => 48 * n < 4096 * x
  (t, m, bad)

/-- Mean of the table over the edges taken on the reference, to nearest. -/
def meanOffset (t : List Nat) (refs : List Nat) : Nat :=
  let k := max 1 refs.length
  (2 * (refs.map fun f => t.getD f 0).sum + k) / (2 * k) % 4096

/-- Result of R139: table and offset, or none where it is an outlier; `hist` the code-density histogram, `refs` the raw codes on reference
edges, `lost` the edges unresolved, `prev` the previous offset. -/
def calResult (prev : Nat) (hist refs : List Nat) (lost : Nat) : Option (List Nat × Nat) :=
  let (t, _, bad) := densityTable (hist.take 384)
  let off := meanOffset t refs
  let far : Bool := decide (48 < ((off : Int) - prev).natAbs)
  if bad || far || 64 < lost then none else some (t.map fun f => (f + 4096 - off) % 4096, off)

/-- The previous offset of a converter. Before its first recorded calibration, and after it has been re-initialised, it is the one the
converter starts with, of which no rule gives a value (log entry 94). -/
def State.prevOffset (s : State) (q : Fin 4) (conv : Nat) : Nat := (s.chan q conv).offset.getD (Config.offset0 (264 * q.val + conv) % 4096)

/-- The converter can calibrate now: its channel is served by a relief converter or, in turn, idle, or it is a relief converter between
duties. -/
def State.canCalibrate (s : State) (q : Fin 4) (conv : Nat) : Bool :=
  if 256 ≤ conv then !((s.quad q).chans.any fun kv => kv.2.relief == some conv)
  else (s.chan q conv).relief.isSome || (!(s.chan q conv).outOfTurn && s.idleOn q conv)

/-- A good result: adopted at the next slot boundary of the channel, from where on a relief converter hands back (R138, R142). -/
def State.calAdopt (s : State) (q : Fin 4) (conv : Nat) (r : List Nat × Nat) : State :=
  let ch := s.chan q conv
  let s1 := s.setChan q conv { ch with
    calNext := some (r.1, r.2, Config.inlOf s.free)
    relNext := if ch.relief.isNone then none else ch.relNext
    calAt := s.now
    due := false
    hist := []
    recal := 0 }
  ({ s1.bump 0x3431 (4 * q.val + 2) 1 with free := s.free + 1 }).settled q conv

/-- A due converter's calibration ends. -/
def State.calDone (s : State) (q : Fin 4) (conv : Nat) (hist refs : List Nat) (lost : Nat) : State :=
  let ch := s.chan q conv
  if ch.due && s.canCalibrate q conv then
    match calResult (s.prevOffset q conv) (addBins ch.hist hist) refs lost with
    | some r => (s.calAdopt q conv r).chanSettle q conv
    | none =>
      let s1 := (s.bump 0x3431 (4 * q.val + 3) 1).setChan q conv { ch with readBad := true, hist := [], calStart := s.now }
      if 256 ≤ conv then s1
      else if ch.recal ≠ 0 then s1.chanRecalFail q conv ch.recal
      else s1.chanTransient q conv 3 true false
  else s

/-! ### The converters of WTB and WTB_AUX (R237) -/

def State.setPairConv (s : State) (k : Fin 2) (v : PairConv) : State := { s with wof := { s.wof with convs := s.wof.convs.set k v } }

/-- The age of a Wofen converter has reached 25 ms. -/
def State.pairDue (s : State) (k : Fin 2) : State :=
  let v := s.wof.convs.get k
  if !v.due && v.calAt + 25 * msP ≤ s.now then s.setPairConv k { v with due := true, calStart := s.now } else s

/-- The previous offset of a Wofen converter, as that of a channel's (log entry 94). -/
def State.pairOffset (s : State) (k : Fin 2) : Nat := (s.wof.convs.get k).offset.getD (Config.offset0 (1056 + k.val) % 4096)

/-- Its calibration ends: a good result is adopted, an outlier discarded (R139). -/
def State.pairDone (s : State) (k : Fin 2) (hist refs : List Nat) (lost : Nat) : State :=
  let v := s.wof.convs.get k
  if v.due then
    match calResult (s.pairOffset k) hist refs lost with
    | some r => s.setPairConv k { due := false, calAt := s.now, calStart := v.calStart, gen := v.gen + 1, table := some r.1, offset := some r.2 }
    | none => s.setPairConv k { v with calStart := s.now }
  else s

/-- Steps of a mark after the last edge of the reference, from the raw code of its pair's converter (R131, R134, R237). -/
def State.pairSteps (s : State) (k : Fin 2) (raw : Nat) : Nat :=
  (match (s.wof.convs.get k).table with
    | some t => t.getD raw 0
    | none => Config.fineTab (1056 + k.val) raw % 4096) / 16

/-- A converter's age has passed 150 ms (R144). -/
def State.calOverdue (s : State) (q : Fin 4) (c : Nat) : State :=
  if (s.chan q c).calAt + 150 * msP < s.now ∧ s.chanGates q c then s.chanSuspect q c 3 else s

/-! ### The injection at a Landing (R140, R144, R147) -/

/-- Measured delay of a channel and gain code: the mean of its injections, rounded down, or of the one that gave a hit (DESIGN CHOICE, log
entry 96); none where neither gave one. A channel the measurement does not list is found where it was. -/
def measured (li : LandingIn) (ch gain : Nat) (d : Int) : Option Int :=
  let l := (li.inject.filter fun x => x.1 == ch && x.2.1 == gain).take 2
  match l.isEmpty, l.filterMap (·.2.2) with
  | true, _ => some d
  | false, [] => none
  | false, m => some (m.sum / m.length)

/-- One gain code: the new delay, and 0 pass, 1 outlier, 2 no usable hit. -/
def delayStep (d : Int) (m : Option Int) : Int × Nat :=
  match m with
  | none => (d, 2)
  | some v =>
    let dev := v - d
    if dev.natAbs ≤ 48 then (d + dev / 8, 0) else if dev.natAbs ≤ 1024 then (d, 1) else (d, 2)

/-- The comparator is active without a clamp episode: a stuck-on condition that is still present (R144). -/
def Chan.stuck (ch : Chan) (t2 : Nat) : Bool := ch.compAt.isSome && !ch.clamped t2

/-- A suspect channel returns to live at this Landing. -/
def State.chanLive (s : State) (q : Fin 4) (c : Nat) : State :=
  let s1 := s.setChan q c { s.chan q c with st := 0, sus := 0, recal := 0, check := 0, readmit := 0 }
  s1.tapChanSees (chanNo q c) (s1.chanState q c)

/-- A failed re-admission: back to the retired state it came from, counted as a failed recalibration and as an entry (R147). -/
def State.readmitFail (s : State) (q : Fin 4) (c cause : Nat) : State :=
  let ch := s.chan q c
  let l := (s.now :: ch.rets).filter fun t => s.now < t + 600 * secP
  ((s.setChan q c { ch with
    st := ch.was
    readmit := 0
    relief := none
    relNext := none
    rets := l
    barred := ch.barred || 3 ≤ l.length
    fails := (s.now :: ch.fails).filter fun t => s.now < t + 10 * secP }).evt 0x1301 (chanNo q c + 4096 * cause)).readmitFailed (0x1000 + chanNo q c) cause |>.sourceLost (s.chanWanted (chanNo q c))

/-- Median of a list of counts, the lower middle on an even number. -/
def median (l : List Nat) : Nat := (sortBy (fun a b => decide (a ≤ b)) l).getD ((l.length - 1) / 2) 0

/-- The shadow frame of a channel under re-admission passes (R147 item 3). Where no other channel had its gate count there is no median, and
the band is taken as met (DESIGN CHOICE, log entry 97). -/
def State.readmitOk (s : State) (q : Fin 4) (c : Nat) : Bool :=
  let ch := s.chan q c
  let peers := ((List.range 256).filter fun d => d != c && s.chanState q d ≤ 2 && (s.chan q d).gates == ch.gates).map fun d => (s.chan q d).hits
  let m := median peers
  !ch.readBad && ch.unres == 0 && !ch.stuck s.now2 && (peers.isEmpty || (m ≤ 4 * ch.hits && ch.hits ≤ 4 * m))
    && (16 ≤ peers.length || !(ch.hits == 0 && 0 < m))

/-- What the injection of a Landing finds in a live or recalibrating channel, by its result: 0 pass, 1 outlier, 2 none or far off. A check
that R143 ordered and that does not pass is a failed recalibration. -/
def State.injectLive (s : State) (q : Fin 4) (c res : Nat) : State :=
  let check := (s.chan q c).check
  if res = 0 then (s.setChan q c { s.chan q c with check := 0 }).chanSettle q c
  else
    let s1 := if res = 1 then s.bump 0x3431 (4 * q.val + 3) 1 else s
    let s2 := if check ≠ 0 then s1.chanRecalFail q c check else if res = 1 then s1.chanTransient q c 3 false true else s1
    if res = 2 ∧ (s2.chan q c).st ≤ 2 then s2.chanSuspect q c 1 else s2

/-- A suspect channel: a stuck condition still present is confirmed; else the channel is live again, once its comparator is idle and an
overdue calibration is complete. An outlier of the injection then counts as one of a live channel (R144). -/
def State.injectSuspect (s : State) (q : Fin 4) (c res : Nat) : State :=
  let ch := s.chan q c
  if ch.sus ≠ 3 ∧ (res = 2 ∨ ch.stuck s.now2) then s.chanRetire q c ch.sus
  else if res ≤ 1 ∧ ch.compAt.isNone ∧ (ch.sus ≠ 3 ∨ s.now ≤ ch.calAt + 150 * msP) then (s.chanLive q c).injectLive q c res
  else s

/-- A channel under re-admission: the injection of step 2 against the freshly measured delays, and the end of the shadow frame (R147). -/
def State.injectReadmit (s : State) (q : Fin 4) (c res : Nat) : State :=
  let s := if res = 1 then s.bump 0x3431 (4 * q.val + 3) 1 else s
  let ch := s.chan q c
  let no := chanNo q c
  match ch.readmit with
  | 2 =>
    if res = 0 then s.setChan q c { ch with readmit := 3, readBad := false, hits := 0, gates := 0, unres := 0 } else s.readmitFail q c 2
  | 3 =>
    if res = 0 && s.readmitOk q c then (((s.chanLive q c).freshEstimates q c).evt 0x0301 no).readmitPassed (0x1000 + no) else s.readmitFail q c 3
  | _ => s

/-- One channel at the Landing that ends a frame (R140): both delays, and what the result does. -/
def State.chanLanding (s : State) (q : Fin 4) (li : LandingIn) (c : Nat) : State :=
  let ch := s.chan q c
  let no := chanNo q c
  if s.chanState q c = 7 ∨ ch.st = 5 ∨ ch.st = 6 then s
  else
    let r0 := delayStep (s.delayOf q c 0) (measured li no 0 (s.delayOf q c 0))
    let r1 := delayStep (s.delayOf q c 1) (measured li no 1 (s.delayOf q c 1))
    let res := max r0.2 r1.2
    let s1 := s.setChan q c { ch with d0 := some r0.1, d1 := some r1.1 }
    match ch.st with
    | 3 => s1.injectSuspect q c res
    | 4 => s1.injectReadmit q c res
    | _ => s1.injectLive q c res

/-- A channel as a Landing leaves it: the counts of the frame restart, and gain code 1 with the injection threshold is in effect until the
next switch point (R140). -/
def Chan.afterLanding (ch : Chan) : Chan :=
  { ch with unres := 0, clampsLast := ch.clamps, clamps := 0, hits := 0, gates := 0, gain := 1, switches := [(0, 1, ch.dlt)], inj := true }

/-- Every channel of a Quadrant at a Landing. -/
def State.channelsLanding (s : State) (q : Fin 4) (li : LandingIn) : State :=
  let s1 := (List.range 256).foldl (fun s c => s.chanLanding q li c) s
  s1.modQuad q fun qd => { qd with chans := qd.chans.map fun kv => (kv.1, kv.2.afterLanding) }

/-- A channel's enable has changed at a Landing: one that is suspect, retired or under re-admission stays blind (R146). -/
def State.chanEnable (s : State) (ch : Nat) (was now : Bool) : State :=
  if was && !now then (s.tapChanBlind ch 7).sourceLost (s.chanWanted ch)
  else if !was && now && (s.chan (Fin.ofNat 4 (ch / 256)) (ch % 256)).st ≤ 2 then
    s.tapChanSees ch (s.chanState (Fin.ofNat 4 (ch / 256)) (ch % 256))
  else s

/-- Checks of writes of configuration words: bit [30] is zero (R148). -/
def chanCfgCodes (w : List (Nat × Int)) : List Nat := when (w.any fun x => bit x.2.toNat 30) 0x0301
where when (b : Bool) (code : Nat) : List Nat := if b then [code] else []

end Sys2Proof.Machine
end

