-- ==== Sys2Proof/Machine/Echo.lean ====
section
/-! DEFINITION. The echo engine: lanes, echoes, ranges, classes, point records, dumps and the background estimate (R173, R174,
R177 ... R192). -/

namespace Sys2Proof.Machine

/-- One echo of a channel-cell (R182 ... R186). -/
structure Echo where
  bin : Nat
  peak : Int
  amp : Int
  pos : Int
  w50 : Nat
  edge : Bool
  /-- index of the zoom window it uses -/
  win : Option Nat
  fine : Bool
  tau64 : Int
  hitsN : Int
  backB : Int
  intensity : Nat
  ambG : Nat
  sat : Bool
  deriving DecidableEq, Repr

/-- The detection parameters of `4.030`. -/
def State.kernel (s : State) : List Int := (List.range 7).map fun i => s.obj 0x4030 (i + 1)
def State.shapeK (s : State) : List Int := (List.range 7).map fun i => s.obj 0x4030 (i + 8)

/-- Sliding products of a kernel of seven taps over a list: one value for each window of seven. -/
def slide (k : List Int) : List Int → List Int
  | [] => []
  | x :: xs => if (x :: xs).length < 7 then [] else ((k.zip (x :: xs)).map fun p => p.1 * p.2).sum :: slide k xs

/-- The list with `n` zeros on both sides. -/
def padBoth (n : Nat) (l : List Int) : List Int := List.replicate n 0 ++ l ++ List.replicate n 0

/-- Steps of a coarse bin that lie inside a zoom window (R180). -/
def coverOf (ws : List Zoom) (abs : Nat) : Nat :=
  min 256 (ws.map fun w => (min (w.start + 512) ((256 * abs + 256 : Nat) : Int) - max w.start ((256 * abs : Nat) : Int)).toNat).sum

/-- Background g(b) of every coarse bin (R180). -/
def backOf (k : Ctx) (ws : List Zoom) (bg : Nat) : List Int :=
  (List.range k.n).map fun b =>
    (((bg * (256 * k.sCoarse + k.sZoom * (256 - coverOf ws (k.first + b))) + 2 ^ 23) / 2 ^ 24 : Nat) : Int)

/-- Coarse counts. -/
def countsOf (k : Ctx) : List Int := (List.range k.n).map fun b => ((AMap.get (0 : Nat) k.bins b : Nat) : Int)

/-- σ(b) of every bin: 1 stands for a background below it, and for bins outside the window. -/
def sigmaOf (kern : List Int) (g : List Int) : List Nat :=
  (slide (kern.map fun x => x * x) (List.replicate 3 1 ++ g.map (fun x => max x 1) ++ List.replicate 3 1)).map fun v => isqrt 32 v.toNat

/-- The strongest candidate of a residual (R182): bin and m; `taken` the bins of the echoes found. -/
def bestCand (kern : List Int) (r : List Int) (sig : List Nat) (kd tmin : Int) (taken : List Nat) : Option (Nat × Int) :=
  let m := slide kern (padBoth 4 r)           -- m(-1) ... m(n)
  let rows := ((m.zip (m.drop 1)).zip ((m.drop 2).zip (sig.zip r))).zipIdx
  rows.foldl (fun (best : Option (Nat × Int)) p =>
    let b : Nat := p.2
    let m0 := p.1.1.1
    let m1 := p.1.1.2
    let m2 := p.1.2.1
    let sg := p.1.2.2.1
    let rb := p.1.2.2.2
    if m0 ≤ m1 ∧ m2 < m1 ∧ kd * sg ≤ 16 * m1 ∧ tmin ≤ rb ∧ taken.all (fun e => 2 ≤ (Int.ofNat b - Int.ofNat e).natAbs) then
      match best with
      | none => some (b, m1)
      | some (b', v) => if v < m1 then some (b, m1) else some (b', v)
    else best) none

/-- Subtract the shape of an echo of peak P at a bin. -/
def subtractShape (sh : List Int) (r : List Int) (b : Nat) (p : Int) : List Int :=
  r.zipIdx.map fun x =>
    let i : Int := (x.2 : Int) - b + 3
    if i < 0 ∨ 6 < i then x.1 else x.1 - (p * sh.getD i.toNat 0 + 128) / 256

/-- Crossing of the half height to one side, as a fraction of bins from the peak bin over a positive denominator; the window edge,
half a bin past the last centre, when there is none. The list goes outward from the bin next to the peak; `prev` is the value before. -/
def crossing (p prev : Int) : Nat → List Int → Int × Int × Bool
  | k, [] => (2 * (k : Int) + 1, 2, true)
  | k, v :: vs =>
    if 2 * v ≤ p then
      -- between k and k + 1 bins out: k + (prev - P/2) / (prev - v)
      let d := 2 * (prev - v)
      if d ≤ 0 then (2 * (k : Int) + 2, 2, false) else ((k : Int) * d + (2 * prev - p), d, false)
    else crossing p v (k + 1) vs

/-- W50 in steps and the edge flag (R185). -/
def width50 (r : List Int) (b : Nat) (p : Int) : Nat × Bool :=
  let l := crossing p p 0 ((r.take b).reverse)
  let u := crossing p p 0 (r.drop (b + 1))
  (((256 * (l.1 * u.2.1 + u.1 * l.2.1)) / (l.2.1 * u.2.1)).toNat, l.2.2 || u.2.2)

/-- Hits of an engine group: its coarse counts and the hits of the windows that start in it (R185). -/
def groupHits (k : Ctx) (ws : List Zoom) (g : Nat) : Nat :=
  ((List.range 16).map fun i => AMap.get (0 : Nat) k.bins (16 * g + i)).sum
  + ((ws.filter fun w => (w.start / 256 - (k.first : Int)) / 16 == (g : Int)).map (·.hits)).sum

/-- Intensity and ambiguous share, 1/256, of the engine group that holds a coarse bin (R185, R186): fixed function. -/
def groupIntensity (k : Ctx) (ws : List Zoom) (bin : Nat) : Nat × Nat :=
  let grp := bin / 16
  let gv := AMap.get ({ amp := 0, amb := 0, high := 0 } : Group) k.groups grp
  let gh := groupHits k ws grp
  let dv := gh - gv.amb
  (if dv = 0 then 0 else min 4095 ((2 * gv.amp + dv) / (2 * dv)), if gh = 0 then 0 else 256 * gv.amb / gh)

/-- Record the echoes of a channel-cell one after the other (R182); answers them with whether a ninth candidate is left. -/
def findEchoes (kern sh : List Int) (sig : List Nat) (kd tmin : Int) (first : Nat) : Nat → List Int → List (Nat × Int × Int × Nat × Bool) →
    List (Nat × Int × Int × Nat × Bool) × Bool
  | 0, r, acc => (acc, (bestCand kern r sig kd tmin (acc.map (·.1))).isSome)
  | n + 1, r, acc =>
    match bestCand kern r sig kd tmin (acc.map (·.1)) with
    | none => (acc, false)
    | some (b, _) =>
      let p := r.getD b 0
      let lo := if b = 0 then 0 else max (r.getD (b - 1) 0) 0
      let hi := max (r.getD (b + 1) 0) 0
      let pos := 256 * ((first + b : Nat) : Int) + 128 + 256 * (hi - lo) / (lo + p + hi)
      let w := width50 r b p
      findEchoes kern sh sig kd tmin first n (subtractShape sh r b p) (acc ++ [(b, p, pos, w.1, w.2)])

/-- The echoes of a channel-cell with positions, windows and features, sorted by range; and whether the channel-cell is full. `k` is
the coarse context, `ws` the windows of its zoom context, `bg` the background estimate. -/
def State.echoesOf (s : State) (k : Ctx) (ws : List Zoom) (bg : Nat) : List Echo × Bool :=
  let g := backOf k ws bg
  let h := countsOf k
  let kern := s.kernel
  let sh := s.shapeK
  let r := (h.zip g).map fun p => p.1 - p.2
  let raw := findEchoes kern sh (sigmaOf kern g) (s.obj 0x4030 15) (s.obj 0x4030 16) k.first 8 r []
  let sumS := sh.sum
  let ampOf (p : Int) : Int := (p * sumS + 128) / 256
  -- the window of each echo; with two in one window the larger A, the one found earlier on equal A, uses it
  let winAt (pos : Int) : Option Nat := winOf ws pos
  let owner (i : Nat) (e : Nat × Int × Int × Nat × Bool) : Option Nat :=
    match winAt e.2.2.1 with
    | none => none
    | some w =>
      if raw.1.zipIdx.any fun o => o.2 != i && winAt o.1.2.2.1 == some w
          && (decide (ampOf e.2.1 < ampOf o.1.2.1) || (decide (ampOf e.2.1 = ampOf o.1.2.1) && decide (o.2 < i))) then none else some w
  let es := raw.1.zipIdx.map fun p =>
    let e := p.1
    let a := ampOf e.2.1
    let w := owner p.2 e
    let bw16 : Int := ((bg * k.sZoom * 32 + 32768) / 65536 : Nat)
    let z := match w with | some i => ws[i]? | none => none
    let fine := match z with | some z => decide (64 ≤ 16 * (z.hits : Int) - bw16) | none => false
    let tau := match z with
      | some z => if fine then 64 * z.start + 32 * (32 * (z.residue : Int) - 511 * bw16) / (16 * (z.hits : Int) - bw16) else 64 * e.2.2.1
      | none => 64 * e.2.2.1
    let gi := groupIntensity k ws e.1
    let satBin (b : Nat) : Bool := AMap.get (0 : Nat) k.bins b == 0xFFF
    { bin := e.1, peak := e.2.1, amp := a, pos := e.2.2.1, w50 := e.2.2.2.1, edge := e.2.2.2.2
      win := w, fine := fine, tau64 := tau
      hitsN := match z, fine with | some z, true => (16 * (z.hits : Int) - bw16) / 16 | _, _ => a
      backB := if fine then bw16 / 16 else g.getD (e.1 - 1) 0 * (if e.1 = 0 then 0 else 1) + g.getD e.1 0 + g.getD (e.1 + 1) 0
      intensity := gi.1
      ambG := gi.2
      sat := satBin e.1 || satBin (e.1 + 1) || (e.1 != 0 && satBin (e.1 - 1))
        || (match z with | some z => z.sat || z.bins.any fun kv => kv.2 == 0xFFFF | none => false) }
  (sortBy (fun x y => x.tau64 < y.tau64 || (x.tau64 == y.tau64 && x.bin ≤ y.bin)) es, raw.2)

/-- Range word (R184). -/
def State.rangeWord (s : State) (e : Echo) : Nat :=
  (clampI 0 0x3FFFFF ((e.tau64 * s.obj 0x4030 19 + 2 ^ 31) / (2 ^ 32 : Nat) + s.obj 0x4030 18)).toNat

/-- Confidence (R185). -/
def Echo.conf (e : Echo) : Nat := min 255 (16 * e.hitsN.toNat / max 1 (isqrt 32 (e.hitsN + e.backB + 1).toNat))

/-- Rule 1 of R187. -/
def State.saturated (s : State) (e : Echo) : Bool := e.sat || s.objN 0x4050 6 ≤ e.intensity

/-- Class of an echo (R186, R187): `np` the pulses of its source, `iota` the interference of the channel-cell, `others` the echoes of
the channel-cell, `near` the times, amplitudes and saturation of those of the neighbour channels. -/
def State.classOf (s : State) (q : Fin 4) (k : Ctx) (np iota : Nat) (others : List Echo) (near : List (Int × Int × Bool))
    (e : Echo) : Nat :=
  let c (i : Nat) : Nat := s.objN 0x4050 i
  let omega := min 65535 (256 * e.w50 / max 1 (s.objN 0x4030 (20 + q.val)))
  let f := if np = 0 then 0 else min 255 (256 * e.hitsN.toNat / np)
  let pi := if !e.fine || k.sZoom == 0 || e.amp == 0 then 256
    else min 1023 (256 * e.hitsN.toNat * k.sCoarse / max 1 (e.amp.toNat * k.sZoom))
  let behind := others.any fun o => decide (e.tau64 < o.tau64) && decide (e.amp ≤ 4 * o.amp)
  let cross := near.any fun o => decide ((e.tau64 - o.1).natAbs ≤ 64 * c 10) && (o.2.2 || decide ((c 11 : Int) * e.amp ≤ o.2.1))
  if s.saturated e then 6
  else if cross then 5
  else if c 7 ≤ e.ambG ∨ (c 8 ≤ iota ∧ f < c 9) then 4
  else if omega < c 1 ∧ pi < c 4 then 3
  else if c 2 ≤ omega ∧ f < c 3 ∧ (behind ∨ pi < c 5) then 2
  else if c 2 ≤ omega then 1
  else 0

/-- Windows of the zoom context of a channel-cell. -/
def State.zoomWins (s : State) (q : Fin 4) (frame cell c : Nat) : List Zoom :=
  match s.ctx q frame cell c true with | some z => z.wins | none => []

/-- What rule 2 of R187 reads of an echo. -/
def State.seenAs (s : State) (e : Echo) : Int × Int × Bool := (e.tau64, e.amp, s.saturated e)

/-- Echoes of the neighbour channels named in `4.051` (R187 rule 2): as a lane found them, or as they stand for one not decomposed yet, with
the estimate of its lane where one has taken it up. -/
def State.neighbours (s : State) (q : Fin 4) (frame cell c : Nat) : List (Int × Int × Bool) :=
  (List.range 4).flatMap fun i =>
    let d := s.obj 0x4051 (i + 1)
    let n : Int := (c : Int) + d
    if d = 0 ∨ n < 0 ∨ 255 < n then []
    else match (s.cellRec q frame cell).found.find? fun x => x.1 == n.toNat, s.ctx q frame cell n.toNat false with
      | some x, _ => x.2
      | none, none => []
      | none, some k =>
        let bg := match (s.cru q).lanes.find? fun l => l.2.frame == frame && l.2.cell == cell && l.2.chan == n.toNat with
          | some l => l.2.bg
          | none => AMap.get 0 (s.cru q).bg (16 * n.toNat + s.sectorOf cell)
        (s.echoesOf k (s.zoomWins q frame cell n.toNat) bg).1.map s.seenAs

/-- Mean of codes, to nearest with ties upward, plus an offset; saturated, with the flag (R191). -/
def meanCode (sum n : Nat) (off : Int) : Nat × Bool :=
  let v : Int := ((2 * sum + n) / (2 * max 1 n) : Nat) + off
  ((clampI 0 65535 v).toNat, v < 0 || 65535 < v)

/-- The point record (R190). -/
def pointRecord (range intensity echo cls chan az el toff conf : Nat) (fine amb late clip limit edge : Bool) : Octets :=
  toBE 16 (range * 2 ^ 106 + intensity * 2 ^ 94 + echo * 2 ^ 91 + cls * 2 ^ 88 + chan * 2 ^ 78 + az * 2 ^ 62 + el * 2 ^ 46
    + toff % 2 ^ 20 * 2 ^ 26 + conf * 2 ^ 18 + b2n fine * 2 ^ 17 + b2n amb * 2 ^ 16 + b2n late * 2 ^ 15 + b2n clip * 2 ^ 14
    + b2n limit * 2 ^ 13 + b2n edge * 2 ^ 12)

/-- An angle-late slot lies in the visit of an echo's source: the zoom visit for a zoom window and for a context first opened there (R190). -/
def State.lateVisit (s : State) (q : Fin 4) (src : Ctx) : Bool :=
  let r := s.cellRec q src.frame src.cell
  if src.zoom || src.zoomFirst then r.zoomLate else r.coarseLate

/-- The mean instant after the frame start, rounded down to whole µs; where it lies before the frame start, as with a first slot that jitter
moves ahead of it, no rule says what the unsigned field holds: a free value (log entry 99). -/
def toffOf (sum : Int) (n : Nat) : Nat :=
  let us := sum / (n : Int) / 2000
  if us < 0 then Config.toffBefore us % 2 ^ 20 else us.toNat

/-- Record of one echo with its index and class; none without a valid stamp. `src` is the context of its source (R191). -/
def State.recordOf (s : State) (q : Fin 4) (src coarse : Ctx) (limited : Bool) (idx cls : Nat) (e : Echo) : Option Octets :=
  if src.stamped = 0 then none
  else
    let off := s.objN 0x4070 (chanNo q coarse.chan + 1)
    let az := meanCode src.sumAz src.stamped (toSigned 16 (off / 65536))
    let el := meanCode src.sumEl src.stamped (toSigned 16 (off % 65536))
    some (pointRecord (s.rangeWord e) e.intensity idx cls (chanNo q coarse.chan) az.1 el.1 (toffOf src.sumT src.stamped) e.conf
      e.fine (decide (64 ≤ e.ambG)) (s.lateVisit q src) (az.2 || el.2) limited e.edge)

/-- Background sample of a decomposed channel-cell (R179): quiet bins, and whether it is usable. -/
def State.bgFromCell (s : State) (q : Fin 4) (k : Ctx) (z : Option Ctx) (es : List Echo) : State :=
  let ws := match z with | some z => z.wins | none => []
  let guard := s.objN 0x4040 4
  let quiet := (List.range k.n).filter fun b => coverOf ws (k.first + b) == 0 && es.all fun e => guard < ((b : Int) - e.bin).natAbs
  let shots := k.sCoarse + k.sZoom
  let zBad := match z with
    | some z => z.limited || z.unusable || z.wins.any fun w => w.sat || w.bins.any fun kv => kv.2 == 0xFFFF
    | none => false
  let bad := k.limited || k.unusable || zBad || k.bins.any fun kv => kv.2 == 0xFFF
  if quiet.length < 16 ∨ bad ∨ shots = 0 then s
  else s.bgSample q k.chan k.cell ((quiet.map fun b => AMap.get (0 : Nat) k.bins b).sum * 65536 / (quiet.length * shots))

/-! ### Lanes (R177) -/

/-- Every shot of the cell has its stamp (R225). -/
def State.cellStamped (s : State) (q : Fin 4) (frame cell : Nat) : Bool :=
  (s.quad q).shots.all fun x => !(x.frame == frame && x.cell == cell) || x.stamp.isSome

/-- The next channel-cell of the finished cells, in their order. -/
def State.nextTodo (s : State) (q : Fin 4) : Option (Nat × Nat × Nat) :=
  match (s.cru q).fin.find? fun fc => !(s.cellRec q fc.1 fc.2).todo.isEmpty with
  | none => none
  | some fc => match (s.cellRec q fc.1 fc.2).todo with | [] => none | c :: _ => some (fc.1, fc.2, c)

/-- Ship the cells at the head of the queue that are wholly decomposed, release their contexts, and close frames (R153, R192). -/
def State.shipCells (s : State) (q : Fin 4) : Nat → State
  | 0 => s.closeAllFrames
  | n + 1 =>
    match (s.cru q).fin with
    | [] => s.closeAllFrames
    | (frame, cell) :: rest =>
      let r := s.cellRec q frame cell
      if !r.todo.isEmpty || (s.cru q).lanes.any fun l => l.2.frame == frame && l.2.cell == cell then s.closeAllFrames
      else
        let recs := (sortBy (fun x y => decide (x.1 ≤ y.1)) r.recs).flatMap (·.2)
        let s1 := if s.ships q ∧ !s.exports q then
            ((recs.foldl (fun s o => s.shipRecord frame q o) s).cntAdd q frame 0x4052 11 9 recs.length).cntAdd q frame 0x4052 11 10 r.masked
          else s
        let s3 := s1.modCru q fun k => { (k.discard fun x => x.frame == frame && x.cell == cell) with fin := rest }
        let s4 := (s3.setCell q { r with shipped := true, recs := [], masked := 0, found := [] })
        let s5 := s4.modCru q fun k => { k with cells := k.cells.filter fun x => !(x.shipped && x.frame != s4.frm.no) }
        s5.shipCells q n

/-- A free lane takes up the next channel-cell. -/
def State.laneTakeUp (s : State) (q : Fin 4) : State :=
  match s.nextTodo q, (List.range 16).find? fun i => !((s.cru q).lanes.any fun l => l.1 == i) with
  | some (frame, cell, c), some i =>
    if !s.cellStamped q frame cell then s
    else
      let r := s.cellRec q frame cell
      let s1 := s.setCell q { r with todo := r.todo.drop 1 }
      s1.modCru q fun k => { k with lanes := assocPut k.lanes i { frame := frame, cell := cell, chan := c
                                                                  bg := AMap.get 0 k.bg (16 * c + s.sectorOf cell), since := s.now } }
  | none, _ => s.shipCells q (s.cru q).fin.length
  | _, none => s

/-- Identity of a bank. -/
def Crucible.mcId (k : Crucible) (b : Nat) : Nat := if b = 0 then k.mcId0 else k.mcId1

/-- Identity of the image with which a frame is decomposed (R29). -/
def State.mcFor (s : State) (q : Fin 4) (frame : Nat) : Nat :=
  let k := s.cru q
  k.mcId (if frame = s.frm.no then k.mcAct else k.mcOut.getD k.mcAct)

/-- One echo of an image other than the built-in one: R193 leaves open what it finds, so every member is a free value but what is
fixed function: the intensity and the ambiguous share, which follow from its bin, and `fine`, which no echo carries without a zoom window. -/
def freeEcho (k : Ctx) (ws : List Zoom) (f i : Nat) : Echo :=
  let gi := groupIntensity k ws (Config.freeU32 (f + 16 * i) % max 1 k.n)
  let n (j : Nat) : Nat := Config.freeU32 (f + 16 * i + j)
  let z (j : Nat) : Int := Config.freeInt (f + 16 * i + j)
  { bin := n 0 % max 1 k.n, peak := z 1, amp := z 2, pos := z 3, w50 := n 4, edge := bit (n 5) 0, win := none, fine := bit (n 6) 0 && !ws.isEmpty
    tau64 := z 7, hitsN := z 8, backB := z 9, intensity := gi.1, ambG := gi.2, sat := bit (n 12) 0 }

/-- At most eight free echoes in order of range, and whether more were found. -/
def freeEchoes (k : Ctx) (ws : List Zoom) (f : Nat) : List Echo × Bool :=
  (sortBy (fun x y => decide (x.tau64 ≤ y.tau64)) ((List.range (Config.freeU32 f % 9)).map fun i => freeEcho k ws (f + 2) i), bit (Config.freeU32 (f + 1)) 0)

/-- A lane finishes its channel-cell: echo list to evaluator A, background, records kept for the cell (R178, R182 ... R192). -/
def State.decompose (s : State) (q : Fin 4) (ln : Lane) (k : Ctx) (beyond : Bool) : State :=
  let fr := ln.frame
  let z := s.ctx q fr ln.cell ln.chan true
  let ws := match z with | some z => z.wins | none => []
  let s0 := s.cntAdd q fr 0x4052 11 8 1
  if beyond then
    -- R196: no echoes, no points, blind
    let s1 := (s0.cntAdd q fr 0x4052 11 11 1).blindCell q ln.chan ln.cell fr
    let s2 := if (s.cru q).ev2402 then s1 else (s1.modCru q fun k => { k with ev2402 := true }).evt 0x2402 (q.val + 16 * ln.cell)
    let r := s2.cellRec q fr ln.cell
    (s2.setCell q { r with found := r.found ++ [(ln.chan, [])] }).tapList q { chan := chanNo q ln.chan, frame := fr, cell := ln.cell, echoes := [] }
  else
    let own : Bool := s.mcFor q fr == 0
    let (es, full) := if own then s.echoesOf k ws ln.bg else freeEchoes k ws s.free
    let near := s.neighbours q fr ln.cell ln.chan
    let shots := k.sCoarse + k.sZoom
    let iota := if shots = 0 then s.freeNat 65536 else min 65535 (256 * k.intf / shots)
    let src (e : Echo) : Ctx := match z, e.fine with | some z, true => z | _, _ => k
    let cls := es.map fun e => (e, if own then s.classOf q k (src e).pulses iota es near e else Config.freeU32 (s.free + 15 + 16 * e.bin) % 7)
    let s1 := { s0 with free := s0.free + (if own then b2n (shots == 0) else 256) }
    let s2 := if full then s1.cntAdd q fr 0x4052 11 11 1 else s1
    let s3 := cls.foldl (fun s p => s.cntAdd q fr 0x4052 11 (p.2 + 1) 1) s2
    let s4 := s3.tapList q { chan := chanNo q ln.chan, frame := fr, cell := ln.cell, echoes := cls.map fun p => (s.rangeWord p.1, p.2) }
    let limited := k.limited || (match z with | some z => z.limited | none => false)
    let out := cls.zipIdx.filterMap fun p =>
      let e := p.1.1
      if (s.rangeWord e : Int) < s.obj 0x4030 17 then none
      else match s.recordOf q (src e) k limited p.2 p.1.2 e with
        | none => none
        | some o => some (bit (s.objN 0x4050 12) p.1.2, o)
    let shipped := (out.filter (·.1)).map (·.2)
    let r := s4.cellRec q fr ln.cell
    (s4.setCell q { r with recs := r.recs ++ [(ln.chan, shipped)], masked := r.masked + (out.length - shipped.length), found := r.found ++ [(ln.chan, es.map s.seenAs)] }).bgFromCell q k z es

/-- DECOMPOSITION_DONE on a lane: `ecc` 0 none, 1 corrected, 2 double-bit, 3 double-bit in a block that then fails its test. -/
def State.laneDone (s : State) (q : Fin 4) (lane : Nat) (beyond : Bool) (ecc blk : Nat) : State :=
  match (s.cru q).lanes.find? fun l => l.1 == lane with
  | none => s
  | some l =>
    let ln := l.2
    let s1 := s.modCru q fun k => { k with lanes := AMap.del k.lanes lane }
    match s1.ctx q ln.frame ln.cell ln.chan false with
    | none => s1.shipCells q (s1.cru q).fin.length
    | some k =>
      let s2 := if ecc = 0 then s1.decompose q ln k beyond
        else if ecc = 1 then (s1.singleBit q k blk).decompose q ln { k with fixed := true } beyond
        else s1.doubleBit q k blk (ecc == 3)
      s2.shipCells q (s2.cru q).fin.length

/-! ### Interference status (R189) -/

/-- ι_F of the frame and the runs of 50 frames, at the frame end. -/
def State.interference (s : State) (q : Fin 4) : State :=
  let fired := s.cntOf q 0x3360 1
  if fired = 0 then s.setObj 0x4060 (q.val + 1) 0
  else
    let io := s.cntOf q 0x4310 3 * 256 / fired
    let s1 := s.setObj 0x4060 (q.val + 1) (s.u32Of io)
    let k := s.cru q
    if s.objN 0x4050 8 ≤ io then
      let s2 := (s1.bump 0x4060 (5 + q.val) 1).modCru q fun k => { k with quiet := 0 }
      if k.armed ∧ 50 ≤ s2.objN 0x4060 (5 + q.val) then (s2.modCru q fun k => { k with armed := false }).evt 0x1405 q.val else s2
    else
      (s1.setObj 0x4060 (5 + q.val) 0).modCru q fun k => { k with quiet := k.quiet + 1, armed := k.armed || 50 ≤ k.quiet + 1 }

/-! ### Microcode banks (R194, R195) -/

/-- Identity 0000h, or one of `C.050` (R195). -/
def State.approved (s : State) (id : Nat) : Bool := id == 0 || (List.range (s.objN 0xC050 0)).any fun i => s.objN 0xC050 (i + 1) == id

/-- Checks of a write to `4.201`. -/
def State.mcSelCodes (s : State) (w : List (Nat × Int)) : List Nat :=
  when (w.any fun x => !s.approved ((s.cru (Fin.ofNat 4 (x.1 - 1))).mcId x.2.toNat)) 0x0601

end Sys2Proof.Machine
end

