-- ==== Sys2Proof/Machine/Acquire.lean ====
section
/-! DEFINITION. The commands of the return channels, the Crucible and the echo engine: gates, hits, clamps, calibration, visits, peak
searches and decomposition (05, 06, 07). -/

namespace Sys2Proof.Machine

/-! ### Gates and hits -/

/-- A shot of the running frame by its slot number. -/
def State.shotNow (s : State) (q : Fin 4) (slot : Nat) : Option Shot := s.findShot q s.frm.no slot

/-- The start of the frame a shot belongs to: the last frame started is the one of `frm.no` while it runs, and the one before it from
its Landing on. -/
def State.startOf (s : State) (frame : Nat) : Nat :=
  if frame = s.frm.no ∨ !s.frm.running then s.frm.start else s.frm.lastStart

/-- A valid stamp of a shot enters the sums of the contexts that count the shot on a channel (R191). -/
def State.stampChan (s : State) (q : Fin 4) (x : Shot) (c : Nat) : State :=
  match x.stamp with
  | some (some p) =>
    if x.listening ∨ 2 ≤ x.pass then s
    else
      let add (k : Ctx) : Ctx :=
        { k with sumAz := k.sumAz + p.1, sumEl := k.sumEl + p.2, sumT := k.sumT + ((x.at2 : Int) - 5 * s.startOf x.frame), stamped := k.stamped + 1 }
      let s1 := s.modCtx q x.frame x.cell c false add
      if x.pass = 1 ∧ !x.early then s1.modCtx q x.frame x.cell c true add else s1
  | _ => s

/-- The gate of a shot opens on a channel once its instant has come (R130), with its contexts (R151, R166). -/
def State.gateOpens (s : State) (q : Fin 4) (slot c : Nat) : State :=
  match s.shotNow q slot with
  | none => s
  | some x =>
    if bit x.gmask c && !bit x.opened c && decide (x.open2 ≤ s.now2 + 4) && s.chanGates q c then
      let s1 := if x.pass = 1 ∧ x.opened = 0 then
          s.modShot q x.frame x.slot fun y => { y with early := !(s.cellRec q x.frame x.cell).searched }
        else s
      let x1 := (s1.findShot q x.frame x.slot).getD x
      let s2 := (s1.gateOpen q x1 c).markSwitch (s1.chan q c) q c
      if x1.listening then s2 else (s2.gateContexts q x1 c).stampChan q x1 c
    else s

/-- The gate closes: a hit still over its threshold takes ToT FFFh, and a listening slot gives its sample (R127, R179). -/
def State.gateCloses (s : State) (q : Fin 4) (slot c : Nat) : State :=
  match s.shotNow q slot with
  | none => s
  | some x =>
    if x.openOn c && decide (x.close2 ≤ s.now2 + 4) then
      let s1 := (s.gateClose q x c).markSwitch (s.chan q c) q c
      let ch := s1.chan q c
      let s2 := if ch.inHit then
          match ch.buf with
          | h :: t =>
            if h.rng || h.frame != x.frame || h.slot != x.slot then s1
            else s1.setChan q c { ch with buf := { h with tot := 0xFFF } :: t }
          | [] => s1
        else s1
      if x.listening then s2.listenSample q x c else s2
    else s

/-- A memory error of a context: corrected, or the context is lost (R157). -/
def State.ctxError (s : State) (q : Fin 4) (frame cell c ecc blk : Nat) : State :=
  match ecc, s.ctx q frame cell c false with
  | 0, _ => s
  | _, none => s
  | 1, some k => s.singleBit q k blk
  | e, some k => s.doubleBit q k blk (e == 3)

/-- The shot in whose context a hit's pour meets a memory error: the oldest that the hit completes a train of and that has a context still
taking pours. -/
def State.poured (s : State) (q : Fin 4) (c : Nat) (h : Hit) : Option Shot :=
  if (s.chan q c).st = 4 then none
  else ((s.hitMatches q c h).find? fun m => decide (m.1.pass < 2) && (s.ctx q m.1.frame m.1.cell c false).isSome && !s.visitClosed q m.1).map (·.1)

/-- A leading edge: stamped, matched, poured and tapped. A memory error is met in the context it is poured to. -/
def State.hit (s : State) (q : Fin 4) (c raw tot : Nat) (rng : Bool) (ecc blk : Nat) : State :=
  match s.leadingEdge q c raw tot rng with
  | (s1, .stamped h _) => match s1.poured q c h with
    | some x => (s1.matchHit q c h).ctxError q x.frame x.cell c ecc blk
    | none => s1.matchHit q c h
  | (s1, _) => s1

/-- The stamp of a shot can be formed: both axes have the outputs around its instant, or the latency bound has passed (R225). -/
def State.stampDue (s : State) (x : Shot) : Bool :=
  let one (fast : Bool) : Bool :=
    let k := s.objN 0x7602 (if fast then 1 else 2)
    (spanAt x.at2 (s.filtCh k).outs).isSome || decide (x.at2 + s.latency2 (s.filtWord k) ≤ s.now2)
  one true && one false

/-- The span of a shot on an axis holds an output made from an invalid or withdrawn sample (R219). -/
def State.spanBad (s : State) (fast : Bool) (x : Shot) : Bool :=
  match spanAt x.at2 (s.filtCh (s.objN 0x7602 (if fast then 1 else 2))).outs with
  | some p => p.1.flag == 2 || p.2.1.flag == 2 || p.2.2.1.flag == 2 || p.2.2.2.flag == 2
  | none => false

/-- The stamp of a shot becomes ready: its marker, and the sums of its contexts (R191, R219, R225, R322). -/
def State.stampReady (s : State) (q : Fin 4) (slot : Nat) : State :=
  match (s.quad q).shots.find? fun x => x.slot == slot && x.stamp.isNone with
  | none => s
  | some x =>
    if s.stampDue x then
      let r : Option (Nat × Nat) := match s.stampAt true x.at2, s.stampAt false x.at2 with
        | some a, some e => some (a, e)
        | _, _ => none
      let x1 := { x with stamp := some r }
      let s1 := s.modShot q x.frame x.slot fun _ => x1
      let s2 := { s1 with ana := { s1.ana with stamped := s1.ana.stamped + 1, badStamps := s1.ana.badStamps + b2n r.isNone } }
      let opened := (List.range 256).filter fun c => bit x.opened c
      let s3 := opened.foldl (fun s c => s.stampChan q x1 c) s2
      let s4 := if s.spanBad true x || s.spanBad false x then
          s3.blindCells q ((List.range 256).filter fun c => bit x.gmask c) x.cell x.frame
        else s3
      let s5 := if x.listening then s4
        else s4.tapMarker q { quad := q.val, cell := x.cell, frame := x.frame, gmask := x.gmask, wstart := x.wstart, wend := x.wend
                              span := x.span, pulses := x.pulses.length, stamp := r }
      s5
    else s

def execAngleStampReady (q : Fin 4) (slot : Nat) (s : State) : Host.Outcome State Fault Refusal := .next (s.stampReady q slot)
def execAdcConversionDone (c : Fin 4) (raw : Nat) (beyond clampOn : Bool) (conds pred : Nat) (s : State) : Host.Outcome State Fault Refusal :=
  .next (s.adcDone c raw beyond clampOn conds pred)
def execGateOpen (q : Fin 4) (slot : Nat) (c : Fin 256) (s : State) : Host.Outcome State Fault Refusal := .next (s.gateOpens q slot c.val)
def execGateClose (q : Fin 4) (slot : Nat) (c : Fin 256) (s : State) : Host.Outcome State Fault Refusal := .next (s.gateCloses q slot c.val)
def execHitLeadingEdge (q : Fin 4) (c : Fin 256) (raw tot : Nat) (rng mis : Bool) (ecc : Fin 4) (blk : Nat) (s : State) :
    Host.Outcome State Fault Refusal :=
  let s1 := s.hit q c.val raw tot rng ecc.val blk
  .next (if mis && (s1.quad q).fires then s1.quadMismatch q 1 else s1)
def execHitTrailingEdge (q : Fin 4) (c : Fin 256) (raw : Nat) (s : State) : Host.Outcome State Fault Refusal :=
  .next (if (s.chan q c.val).compAt.isSome then s.trailingEdge q c.val raw else s)
def execMissingPulseDeadline (q : Fin 4) (c : Fin 256) (s : State) : Host.Outcome State Fault Refusal := .next (s.lateMatch q c.val)
def execHitUnmatched (q : Fin 4) (c : Fin 256) (s : State) : Host.Outcome State Fault Refusal := .next (s.hitUnmatched q c.val false)

/-! ### Clamps, stuck channels and calibration -/

def execClampOn (q : Fin 4) (c : Fin 256) (s : State) : Host.Outcome State Fault Refusal := .next (s.clampOn q c.val)
def execClampOff (q : Fin 4) (c : Fin 256) (s : State) : Host.Outcome State Fault Refusal := .next (s.clampOff q c.val)
def execClampEvent (q : Fin 4) (c : Fin 256) (s : State) : Host.Outcome State Fault Refusal := .next (s.clampLong q c.val)
def execStuckOnDetected (q : Fin 4) (c : Fin 256) (s : State) : Host.Outcome State Fault Refusal := .next (s.stuckOn q c.val)
def execConverterCalibrationDue (q : Fin 4) (conv : Fin 266) (s : State) : Host.Outcome State Fault Refusal :=
  .next (if conv.val < 264 then s.calDue q conv.val else s.pairDue (Fin.ofNat 2 (conv.val - 264)))
def execReliefHandover (q : Fin 4) (c : Handover) (s : State) : Host.Outcome State Fault Refusal :=
  .next (s.reliefHandover q c.chan.val c.part)
def execCalibrationOverdue (q : Fin 4) (c : Fin 256) (s : State) : Host.Outcome State Fault Refusal := .next (s.calOverdue q c.val)

/-! ### Visits, peak searches, lanes -/

/-- Bins of a slice, four to a record. -/
def sliceWords (l : List Nat) (n : Nat) : List Nat :=
  (List.range ((n + 3) / 4)).map fun i =>
    let b (k : Nat) : Nat := if 4 * i + k < n then min 0xFFF (l.getD (4 * i + k) 0) else 0
    b 0 * 2 ^ 48 + b 1 * 2 ^ 32 + b 2 * 2 ^ 16 + b 3

/-- Counts of a context by bin: the coarse bins, or the bins of the zoom windows one after the other. -/
def Ctx.binAt (k : Ctx) (b : Nat) : Nat :=
  if k.zoom then AMap.get 0 ((k.wins.getD (b / 64) { start := 0, p := 0, bins := [], hits := 0, residue := 0, sat := false }).bins) (b % 64)
  else AMap.get 0 k.bins b

/-- The coarse slice of the selected context as its visit closes, at the instant of R153 (R256, R258): at most once a frame, in frames that the
divider picks. -/
def State.slice (s : State) (q : Fin 4) (cell pass : Nat) : State :=
  let ch := s.objN 0xA013 1
  let no := s.frm.no
  let r := s.cellRec q no cell
  if (if pass = 0 then r.coarseClosed else r.zoomClosed) then s
  else if ch / 256 = q.val ∧ s.objN 0xA013 2 = cell ∧ s.objN 0xA013 3 = pass ∧ no % max 1 (s.objN 0xA013 4) = 0 ∧ s.cap.sliceFrame ≠ some no then
    match s.ctx q no cell (ch % 256) (pass == 1) with
    | none => s
    | some k =>
      let first := s.objN 0xA013 5
      let n := s.objN 0xA013 6
      let t := s.capAt2 ((if pass = 0 then r.coarseEnd2 else r.zoomEnd2) + 100)
      let head := ch * 2 ^ 54 + cell * 2 ^ 42 + first * 2 ^ 31 + n * 2 ^ 20 + (min 65535 (if pass = 1 then k.sZoom else k.sCoarse)) * 16
      let s1 := (s.modCap fun c => { c with sliceFrame := some no }).capNote 3 pass t head
      ((sliceWords ((List.range n).map fun i => k.binAt (first + i)) n).zipIdx).foldl (fun s p => s.capNote 4 p.2 t p.1) s1
  else s

/-- VISIT_CLOSE. -/
def State.visitCloses (s : State) (q : Fin 4) (cell pass : Nat) : State :=
  if s.visitCloseDue q cell pass then (s.slice q cell pass).visitClose q s.frm.no cell pass else s

/-- Frame of the cell whose peak searches run. -/
def State.searchFrame (s : State) (q : Fin 4) (cell c : Nat) : Option Nat :=
  ((s.cru q).ctxs.find? fun k => k.cell == cell && k.chan == c && !k.zoom && !k.searched && !k.zoomFirst && (s.cellRec q k.frame cell).coarseClosed).map (·.frame)

def execVisitClose (q : Fin 4) (cell : Fin 4096) (pass : Fin 3) (s : State) : Host.Outcome State Fault Refusal :=
  .next (s.visitCloses q cell.val pass.val)
def execPeakSearchDone (q : Fin 4) (cell : Fin 4096) (c : Fin 256) (s : State) : Host.Outcome State Fault Refusal :=
  .next (match s.searchFrame q cell.val c.val with
    | some f => s.peakSearch q f cell.val c.val
    | none => s)

/-- An entry for one member of an array with a value as it is given. -/
def entMember (obj el : Nat) (t : Ty) (v : Nat) : Entry := { entArg obj t v with el := el }

def execMicrocodeBankSelect (r : Req) (q : Fin 4) (bank : Nat) (s : State) : Host.Outcome State Fault Refusal :=
  .next (s.hostWrite r (entMember 0x4201 (q.val + 1) .u8 bank) (fun s => s.mcSelCodes [(q.val + 1, bank)]) id false)

end Sys2Proof.Machine
end

