-- ==== Sys2Proof/Machine/Control.lean ====
section
/-! DEFINITION. The commands of beam steering and of the control engine (R101 ... R124). -/

namespace Sys2Proof.Machine

/-- A zero crossing, for steering and, where it rises, for the compensators locked to the fast axis (R102, R122). -/
def State.crossing (s : State) (rising : Bool) (halfAmp : Nat) : State :=
  let s1 := s.zeroCrossing rising halfAmp (s.target 4 0 == 1)
  if s.steer.running && rising then s1.compCrossing else s1

/-- What a slot fault counts against (R119): the axis of a steering slot, or the Quadrant an instance serves. -/
def State.loopFaultCount (s : State) (k i : Nat) : State :=
  if s.steerSlot k then s.steerSlotFault k
  else if lwInst (s.loopWord k) then s.quadMismatch (Fin.ofNat 4 i) 3
  else s

/-- A sample instant of an instance (R115, R119). -/
def State.loopStep (s : State) (k i : Nat) (ready : Bool) : State :=
  let x := s.loopSample k i ready
  if x.2 = 0 then x.1 else x.1.loopFaultCount k i

/-- Checks of a steering start (R118, R223). -/
def State.steerStartCodes (s : State) : List Nat :=
  when (!s.steer.running && !(s.startOk s.steerSlots && s.stampOk true && s.stampOk false)) 0x0301

/-- Checks of a steering stop (R104). -/
def State.steerStopCodes (s : State) : List Nat := when (s.life.st != .config && s.life.st != .service) 0x0601

/-- A Ferry is ordered for the next Landing (R113). -/
def State.ferryOrder (s : State) : State := { s with steer := { s.steer with ferryOrdered := true } }

def execFastAxisZeroCrossing (half : HalfPeriod) (s : State) : Host.Outcome State Fault Refusal :=
  .next (s.crossing half.rising half.amp)
def execFastAxisCrossingTimeout (s : State) : Host.Outcome State Fault Refusal := .next s.crossingTimeout
def execPositionRevalidation (axis : Fin 2) (s : State) : Host.Outcome State Fault Refusal := .next (s.revalidate (axis == 0))
def execHelmReinitDone (h : Fin 2) (s : State) : Host.Outcome State Fault Refusal := .next (s.helmReinit (h == 1))
def execHelmStandbyReady (h : Fin 2) (s : State) : Host.Outcome State Fault Refusal := .next (s.helmReady (h == 1))

/-- The command to `6.110` (R113). -/
def execFerryCommand (r : Req) (arg : Nat) (s : State) : Host.Outcome State Fault Refusal :=
  .next (s.hostWrite r (entArg 0x6110 .u8 arg) (fun s => when (!s.standbyReady) 0x0601) State.ferryOrder true)

def execLoopSample (slot : Fin 12) (i : Fin 4) (ready : Bool) (s : State) : Host.Outcome State Fault Refusal :=
  .next (s.loopStep slot.val i.val ready)

/-- A write of 01h to a member of `6.210` (R118). -/
def execLoopStart (r : Req) (slot : Fin 12) (s : State) : Host.Outcome State Fault Refusal :=
  .next (s.hostWrite r (ent 0x6210 (slot.val + 1) .bool 1) (fun s => s.loopStartCodes slot.val)
    (fun t => t.loopRunWrite slot.val true (s.loopRuns slot.val)) false)

/-- A write of 00h to a member of `6.210` (R118). -/
def execLoopStop (r : Req) (slot : Fin 12) (s : State) : Host.Outcome State Fault Refusal :=
  .next (s.hostWrite r (ent 0x6210 (slot.val + 1) .bool 0) (fun s => s.loopStopCodes slot.val)
    (fun t => t.loopRunWrite slot.val false (s.loopRuns slot.val)) false)

/-- A write of 01h to `6.001` (R118). -/
def execSteeringStart (r : Req) (s : State) : Host.Outcome State Fault Refusal :=
  .next (s.hostWrite r (ent 0x6001 0 .bool 1) State.steerStartCodes (fun t => if t.steer.running then t else t.steeringOn) false)

/-- A write of 00h to `6.001` (R104, R118). -/
def execSteeringStop (r : Req) (s : State) : Host.Outcome State Fault Refusal :=
  .next (s.hostWrite r (ent 0x6001 0 .bool 0) State.steerStopCodes (fun t => if t.steer.running then t.steeringOff else t) false)

/-- A write to `6.403` (R122). -/
def execCompensatorClear (r : Req) (table : Nat) (s : State) : Host.Outcome State Fault Refusal :=
  .next (s.hostWrite r (entArg 0x6403 .u8 table) (fun _ => []) (fun s => s.compClear table) false)

def execBiasSettled (q : Fin 4) (s : State) : Host.Outcome State Fault Refusal := .next (s.biasSettled q)
def execDetectorTempFallback (q : Fin 4) (s : State) : Host.Outcome State Fault Refusal := .next (s.tempFallback q)

end Sys2Proof.Machine
end

