-- ==== Sys2Proof/Machine/Signature.lean ====
section
/-! DEFINITION. The signature scheme of the images (R394): SHA-512 as FIPS 180-4 gives it and the verification of Ed25519 as RFC 8032 gives
it. The spec names both standards and does not restate them: PRESUMED, see the assumption log. -/

namespace Sys2Proof.Machine

/-! ### SHA-512 -/

/-- Round constants 0 ... 19. -/
def shaK0 : List Nat :=
  [0x428A2F98D728AE22, 0x7137449123EF65CD, 0xB5C0FBCFEC4D3B2F, 0xE9B5DBA58189DBBC,
   0x3956C25BF348B538, 0x59F111F1B605D019, 0x923F82A4AF194F9B, 0xAB1C5ED5DA6D8118,
   0xD807AA98A3030242, 0x12835B0145706FBE, 0x243185BE4EE4B28C, 0x550C7DC3D5FFB4E2,
   0x72BE5D74F27B896F, 0x80DEB1FE3B1696B1, 0x9BDC06A725C71235, 0xC19BF174CF692694,
   0xE49B69C19EF14AD2, 0xEFBE4786384F25E3, 0x0FC19DC68B8CD5B5, 0x240CA1CC77AC9C65]

/-- Round constants 20 ... 39. -/
def shaK1 : List Nat :=
  [0x2DE92C6F592B0275, 0x4A7484AA6EA6E483, 0x5CB0A9DCBD41FBD4, 0x76F988DA831153B5,
   0x983E5152EE66DFAB, 0xA831C66D2DB43210, 0xB00327C898FB213F, 0xBF597FC7BEEF0EE4,
   0xC6E00BF33DA88FC2, 0xD5A79147930AA725, 0x06CA6351E003826F, 0x142929670A0E6E70,
   0x27B70A8546D22FFC, 0x2E1B21385C26C926, 0x4D2C6DFC5AC42AED, 0x53380D139D95B3DF,
   0x650A73548BAF63DE, 0x766A0ABB3C77B2A8, 0x81C2C92E47EDAEE6, 0x92722C851482353B]

/-- Round constants 40 ... 59. -/
def shaK2 : List Nat :=
  [0xA2BFE8A14CF10364, 0xA81A664BBC423001, 0xC24B8B70D0F89791, 0xC76C51A30654BE30,
   0xD192E819D6EF5218, 0xD69906245565A910, 0xF40E35855771202A, 0x106AA07032BBD1B8,
   0x19A4C116B8D2D0C8, 0x1E376C085141AB53, 0x2748774CDF8EEB99, 0x34B0BCB5E19B48A8,
   0x391C0CB3C5C95A63, 0x4ED8AA4AE3418ACB, 0x5B9CCA4F7763E373, 0x682E6FF3D6B2B8A3,
   0x748F82EE5DEFB2FC, 0x78A5636F43172F60, 0x84C87814A1F0AB72, 0x8CC702081A6439EC]

/-- Round constants 60 ... 79. -/
def shaK3 : List Nat :=
  [0x90BEFFFA23631E28, 0xA4506CEBDE82BDE9, 0xBEF9A3F7B2C67915, 0xC67178F2E372532B,
   0xCA273ECEEA26619C, 0xD186B8C721C0C207, 0xEADA7DD6CDE0EB1E, 0xF57D4F7FEE6ED178,
   0x06F067AA72176FBA, 0x0A637DC5A2C898A6, 0x113F9804BEF90DAE, 0x1B710B35131C471B,
   0x28DB77F523047D84, 0x32CAAB7B40C72493, 0x3C9EBE0A15C9BEBC, 0x431D67C49C100D4C,
   0x4CC5D4BECB3E42B6, 0x597F299CFC657E2A, 0x5FCB6FAB3AD6FAEC, 0x6C44198C4A475817]

/-- Initial hash value. -/
def shaH0 : List Nat :=
  [0x6A09E667F3BCC908, 0xBB67AE8584CAA73B, 0x3C6EF372FE94F82B, 0xA54FF53A5F1D36F1,
   0x510E527FADE682D1, 0x9B05688C2B3E6C1F, 0x1F83D9ABFB41BD6B, 0x5BE0CD19137E2179]

/-- Rotation of a 64-bit word to the right. -/
def rotr64 (x n : Nat) : Nat := x / 2 ^ n + x * 2 ^ (64 - n) % 2 ^ 64

def shaS0 (x : Nat) : Nat := rotr64 x 28 ^^^ rotr64 x 34 ^^^ rotr64 x 39
def shaS1 (x : Nat) : Nat := rotr64 x 14 ^^^ rotr64 x 18 ^^^ rotr64 x 41
def shaM0 (x : Nat) : Nat := rotr64 x 1 ^^^ rotr64 x 8 ^^^ (x / 2 ^ 7)
def shaM1 (x : Nat) : Nat := rotr64 x 19 ^^^ rotr64 x 61 ^^^ (x / 2 ^ 6)

/-- The message schedule: sixteen words of the block, each further one from the last sixteen; `w` holds the newest first. -/
def shaSched : Nat → List Nat → List Nat
  | 0, w => w.reverse
  | n + 1, w => shaSched n (((shaM1 (w.getD 1 0) + w.getD 6 0 + shaM0 (w.getD 14 0) + w.getD 15 0) % 2 ^ 64) :: w)

/-- One round on the working variables a ... h. -/
def shaRound (v : List Nat) (kw : Nat) : List Nat :=
  match v with
  | [a, b, c, d, e, f, g, h] =>
    let t1 := h + shaS1 e + ((e &&& f) ^^^ ((2 ^ 64 - 1 - e) &&& g)) + kw
    let t2 := shaS0 a + ((a &&& b) ^^^ (a &&& c) ^^^ (b &&& c))
    [(t1 + t2) % 2 ^ 64, a, b, c, (d + t1) % 2 ^ 64, e, f, g]
  | _ => v

/-- One block of 128 octets. -/
def shaBlock (h : List Nat) (o : Octets) : List Nat :=
  let w := shaSched 64 ((List.range 16).map fun i => fieldAt o (8 * i) 8).reverse
  let v := (List.zipWith (· + ·) (shaK0 ++ shaK1 ++ shaK2 ++ shaK3) w).foldl shaRound h
  List.zipWith (fun x y => (x + y) % 2 ^ 64) h v

/-- The message with its padding: a one bit, zeros, and the length in bits over 16 octets. -/
def shaPad (o : Octets) : Octets := o ++ [0x80] ++ zeros ((239 - o.length % 128) % 128) ++ toBE 16 (8 * o.length)

/-- The blocks of a padded message, one after the other. -/
def shaBlocks : Nat → List Nat → Octets → List Nat
  | 0, h, _ => h
  | n + 1, h, o => shaBlocks n (shaBlock h (o.take 128)) (o.drop 128)

def sha512 (o : Octets) : Octets :=
  let p := shaPad o
  (shaBlocks (p.length / 128) shaH0 p).flatMap fun x => toBE 8 x

/-! ### Ed25519 -/

/-- The prime of the field, the order of the base point, and the constant d of the curve. -/
def edP : Nat := 2 ^ 255 - 19
def edL : Nat := 2 ^ 252 + 27742317777372353535851937790883648493
def edD : Nat := 37095705934669439343138083508754565189542113879843219016388785533085940283555

/-- Power modulo p, over the bits of an exponent below 2^n. -/
def edPow (b : Nat) : Nat → Nat → Nat
  | 0, _ => 1
  | n + 1, e => let r := edPow b n (e / 2)
    if e % 2 = 1 then r * r % edP * b % edP else r * r % edP

/-- A point (X, Y, Z, T) with x = X/Z, y = Y/Z and x·y = T/Z. -/
structure EdPoint where
  x : Nat
  y : Nat
  z : Nat
  t : Nat
  deriving DecidableEq, Repr

def edZero : EdPoint := { x := 0, y := 1, z := 1, t := 0 }

/-- Sum of two points. -/
def edAdd (p q : EdPoint) : EdPoint :=
  let a := (p.y + edP - p.x) * (q.y + edP - q.x) % edP
  let b := (p.y + p.x) * (q.y + q.x) % edP
  let c := 2 * p.t * q.t % edP * edD % edP
  let d := 2 * p.z * q.z % edP
  let e := b + edP - a
  let f := d + edP - c
  let g := d + c
  let h := b + a
  { x := e * f % edP, y := g * h % edP, z := f * g % edP, t := e * h % edP }

/-- Multiple of a point by a number below 2^n. -/
def edMul (p : EdPoint) : Nat → Nat → EdPoint
  | 0, _ => edZero
  | n + 1, k => let r := edMul p n (k / 2)
    let d := edAdd r r
    if k % 2 = 1 then edAdd d p else d

def edEq (p q : EdPoint) : Bool := p.x * q.z % edP == q.x * p.z % edP && p.y * q.z % edP == q.y * p.z % edP

/-- A number from octets, least significant first. -/
def leNat (o : Octets) : Nat := beNat o.reverse

/-- The point that 32 octets encode, if any. -/
def edDecode (o : Octets) : Option EdPoint :=
  let n := leNat o
  let y := n % 2 ^ 255
  let sign := n / 2 ^ 255
  if edP ≤ y then none
  else
    let u := (y * y + edP - 1) % edP
    let v := (edD * (y * y % edP) + 1) % edP
    let v3 := v * v % edP * v % edP
    let x0 := u * v3 % edP * edPow (u * v3 % edP * v3 % edP * v % edP) 252 ((edP - 5) / 8) % edP
    let vx := v * x0 % edP * x0 % edP
    let x1 := if vx = u then some x0 else if vx = (edP - u) % edP then some (x0 * edPow 2 253 ((edP - 1) / 4) % edP) else none
    match x1 with
    | none => none
    | some x =>
      if x = 0 ∧ sign = 1 then none
      else
        let x2 := if x % 2 = sign then x else edP - x
        some { x := x2, y := y, z := 1, t := x2 * y % edP }

/-- The base point. -/
def edBase : EdPoint :=
  { x := 15112221349535400772501151409588531511454012693041857206046113283949847762202, y := 46316835694926478169428394003475163141307993866256225615783033603165251855960, z := 1
    t := 46827403850823179245072216630277197565144205554125654976674165829533817101731 }

/-- Verification of a signature of 64 octets over a message: [8][S]B = [8]R + [8][k]A. -/
def ed25519Ok (key msg sig : Octets) : Bool :=
  let s := leNat ((sig.drop 32).take 32)
  match edDecode key, edDecode (sig.take 32) with
  | some a, some r =>
    let k := leNat (sha512 (sig.take 32 ++ key ++ msg)) % edL
    decide (s < edL) && edEq (edMul (edMul edBase 256 s) 4 8) (edMul (edAdd r (edMul a 256 k)) 4 8)
  | _, _ => false

end Sys2Proof.Machine
end

