-- ==== Sys2Proof/Machine/Images.lean ====
section
/-! DEFINITION. The external NOR and the images in it (R394 ... R398), and the validity of configuration copies (R391). -/

namespace Sys2Proof.Machine

/-- First octet of firmware slot 0 (A) or 1 (B), and of the Slip (2) (R394). -/
def norBase (i : Nat) : Nat := i * 0x1000000

/-- Octets of the NOR. -/
def State.norAt (s : State) (off n : Nat) : Octets := memGet s.nv.nor off n

/-- Header of the image in a region. -/
def State.imgHeader (s : State) (i : Nat) : Octets := s.norAt (norBase i) 256

/-- Fields of an image header (R394). -/
def hMagic (h : Octets) : Nat := fieldAt h 0 4
def hKind (h : Octets) : Nat := octAt h 4
def hRbi (h : Octets) : Nat := octAt h 5
def hKey (h : Octets) : Nat := octAt h 6
def hId (h : Octets) : Nat := fieldAt h 8 4
def hSteps (h : Octets) : Nat := fieldAt h 12 4
def hBlen (h : Octets) : Nat := fieldAt h 16 4
def hGen (h : Octets) : Nat := fieldAt h 20 2
def hDigest (h : Octets) : Octets := (h.drop 24).take 64
def hSig (h : Octets) : Octets := (h.drop 88).take 64

/-- Magic number of an image. -/
def magicOk (h : Octets) : Bool := hMagic h == 0x465A494D

/-- The public key that a header names, where it is present and allowed for the kind. -/
def State.imgKey (s : State) (h : Octets) : Option Octets :=
  if hKey h ≤ 1 then some (Config.romKey (hKey h))
  else if hKey h = 2 ∧ hKind h = 2 then s.nv.key else none

/-- The signature over octets 0 ... 87. -/
def State.sigOk (s : State) (h : Octets) : Bool :=
  match s.imgKey h with
  | some k => ed25519Ok k (h.take 88) (hSig h)
  | none => false

/-- The digest over the body. -/
def State.digestOk (s : State) (i : Nat) (h : Octets) : Bool := sha512 (s.norAt (norBase i + 256) (hBlen h)) == hDigest h

/-- Body length and step bound (R194, R394). -/
def sizesOk (h : Octets) : Bool :=
  if hKind h = 1 then 1 ≤ hBlen h && hBlen h ≤ 16776960
  else 1 ≤ hBlen h && hBlen h ≤ 32768 && hSteps h ≤ 4096

/-- Number of the first check of a verify that fails; 0 when all pass (R395). -/
def State.verifyImg (s : State) (i : Nat) : Nat :=
  let h := s.imgHeader i
  if !magicOk h || !(hKind h == 1 || hKind h == 2) then 1
  else if (s.imgKey h).isNone then 2
  else if !s.sigOk h then 3
  else if !s.digestOk i h then 4
  else if !sizesOk h then 5
  else if hKind h = 1 ∧ hRbi h < s.nv.fuse then 6
  else 0

/-- A firmware slot boots (R398). -/
def State.slotBoots (s : State) (i : Nat) : Bool :=
  let h := s.imgHeader i
  magicOk h && s.sigOk h && s.digestOk i h && hKind h == 1 && decide (s.nv.fuse ≤ hRbi h)

/-- The slot the boot ROM selects; none for recovery (R398). -/
def State.bootSlot (s : State) : Option Nat :=
  if s.slotBoots s.nv.preferred then some s.nv.preferred
  else if s.slotBoots (1 - s.nv.preferred) then some (1 - s.nv.preferred) else none

/-- The configuration generation that the running firmware reads (R391, R394). -/
def State.runGen (s : State) : Nat := hGen (s.imgHeader s.pilot.slot)

/-- Entries of an image: offset, address and value; none where it does not split. -/
def imageEntries : Nat → Nat → Octets → List (Nat × Option Entry)
  | 0, _, _ => []
  | n + 1, off, o =>
    if o.isEmpty then []
    else
      let len := fieldAt o 4 2
      if o.length < 6 ∨ o.length < 6 + len then [(off, none)]
      else
        (off, some { obj := fieldAt o 0 2, el := octAt o 2, ty := octAt o 3, val := (o.drop 6).take len })
          :: imageEntries n (off + 6 + len) (o.drop (6 + len))

/-- The CRC over `len` octets of the body matches (R391). A zeroed header is none (R393), though the CRC over no octet is 0 (DEDUCED, log
entry 107). -/
def Copy.sound (c : Copy) : Bool := decide (0 < c.len) && c.crc == crc32c (c.body.take c.len)

/-- A copy is valid (R391). -/
def State.copyOk (s : State) (c : Copy) : Bool := decide (c.len ≤ 262128) && c.sound && decide (c.gen ≤ s.runGen)

/-- The copy the part selects; 2 for defaults (R391). -/
def State.copyChoice (s : State) : Nat :=
  if s.copyOk s.nv.copy0 && s.copyOk s.nv.copy1 then (if serialHigher s.nv.copy1.seq s.nv.copy0.seq then 1 else 0)
  else if s.copyOk s.nv.copy0 then 0
  else if s.copyOk s.nv.copy1 then 1 else 2

end Sys2Proof.Machine
end

