-- ==== Sys2Proof/Machine/Dma.lean ====
section
/-! DEFINITION. The DMA engine: descriptors, checks, bursts, completion records, disable and the power-down hold (R285 ... R294). -/

namespace Sys2Proof.Machine

def State.dmaCh (s : State) (c : Fin 32) : DmaCh := s.dma.chans.get c
def State.setDmaCh (s : State) (c : Fin 32) (v : DmaCh) : State := { s with dma := { s.dma with chans := s.dma.chans.set c v } }

/-- The 32 channels in order. -/
def chans32 : List (Fin 32) := (List.range 32).map (Fin.ofNat 32)

/-- Fields of a descriptor (R287). -/
def dSrc (o : Octets) : Nat := fieldAt o 0 4
def dDst (o : Octets) : Nat := fieldAt o 4 4
def dLen (o : Octets) : Nat := fieldAt o 8 4
def dNext (o : Octets) : Nat := fieldAt o 12 2
def dCtl (o : Octets) : Nat := fieldAt o 14 2
def dTag (o : Octets) : Nat := fieldAt o 16 4

/-- Regions of the DMA space (R286). -/
inductive Region where
  | buffer | capture | nor | bulk (n : Nat) | unmapped
  deriving DecidableEq, Repr

def within (base size a len : Nat) : Bool := base ≤ a && a + len ≤ base + size

/-- Readable region that holds a whole source. -/
def srcRegion (a len : Nat) : Region :=
  if within 0x20000000 0x80000 a len then .buffer
  else if within 0x10000000 65568 a len then .capture
  else if within 0x40000000 0x4000000 a len then .nor
  else .unmapped

/-- Writable region that holds a whole destination. -/
def dstRegion (a len : Nat) : Region :=
  if within 0x20000000 0x80000 a len then .buffer
  else if a = 0x80000000 ∧ len ≤ 65536 then .bulk 2
  else if a = 0x81000000 ∧ len ≤ 65536 then .bulk 3
  else .unmapped

/-- Switchable domain of a region, numbered from 0 in the order of `8.100`. -/
def Region.domain : Region → Option Nat
  | .capture => some 4
  | .bulk 2 => some 5
  | .bulk _ => some 6
  | _ => none

/-- Domains a descriptor touches (R292). -/
def touches (o : Octets) (d : Nat) : Bool :=
  (srcRegion (dSrc o) (dLen o)).domain == some d || (dstRegion (dDst o) (dLen o)).domain == some d

/-- A domain is off, switching, or held for power-down (R288 check 3). -/
def State.domClosed (s : State) (d : Nat) : Bool := s.obj 0x8101 (domEl d) != 1 || s.dma.holds.any fun h => h.1 == d

/-- Checks 1 ... 4 of R288: the status of the first that fails, 0 when none does. -/
def State.descCheck (s : State) (o : Octets) : Nat :=
  let len := dLen o
  let sr := srcRegion (dSrc o) len
  let dr := dstRegion (dDst o) len
  -- the image of the segment that `A.300` selects (R286)
  let image := 32 + 16 * (s.seg (s.segLocked.getD (s.objN 0xA300 0))).size
  if dSrc o % 32 ≠ 0 ∨ dDst o % 32 ≠ 0 then 1
  else if 2 ^ 24 ≤ len ∨ len = 0 ∨ 2 ≤ dCtl o ∨ (1024 ≤ dNext o ∧ dNext o ≠ 0xFFFF) ∨ fieldAt o 20 12 ≠ 0
      ∨ sr = .unmapped ∨ dr = .unmapped ∨ (sr = .capture ∧ image < dSrc o - 0x10000000 + len) then 2
  else if (List.range 7).any fun d => touches o d && s.domClosed d then 4
  else if sr = .capture ∧ s.segLocked = none then 7
  else 0

/-- A completion record (R293). -/
def State.dmaRecord (s : State) (c : Fin 32) (status count : Nat) : State :=
  let ch := s.dmaCh c
  let o := toBE 1 c.val ++ toBE 1 status ++ toBE 2 ch.desc ++ toBE 4 count ++ toBE 4 (dTag ch.image) ++ toBE 4 (s.timeNs / 1000)
  if s.dma.recs.length < 1024 then { s with dma := { s.dma with recs := s.dma.recs ++ [o] } }
  else
    let s1 := s.bump 0x5211 3 1
    match s.dma.ev1803 with
    | some t => if s.now < t + secP then s1 else note s1
    | none => note s1
where
  note (s : State) : State := { s with dma := { s.dma with ev1803 := some s.now } }.evt 0x1803 (min 65535 (s.objN 0x5211 3))

/-- The `go` bit of a channel reads 0 once it no longer runs (R295). -/
def State.clearGo (s : State) (c : Fin 32) : State := s.setObj 0x5200 (c.val + 1) (clrBit (s.objN 0x5200 (c.val + 1)) 30 : Nat)

/-- The bulk packet of a descriptor that does not end done is rewound (R280). -/
def State.dmaRewind (s : State) (c : Fin 32) : State :=
  let ch := s.dmaCh c
  if ch.reserved = 0 then s
  else
    let n : Fin 4 := match dstRegion (dDst ch.image) (dLen ch.image) with | .bulk 2 => 2 | _ => 3
    (s.rewindOpen n ch.reserved).setDmaCh c { ch with reserved := 0, packet := [] }

/-- A descriptor ends with a status other than done, and the channel halts (R288 ... R292). -/
def State.dmaHalt (s : State) (c : Fin 32) (status count : Nat) : State :=
  let s1 := (s.dmaRewind c).dmaRecord c status count
  let s2 := (s1.setDmaCh c { s1.dmaCh c with st := 3, last := status }).clearGo c
  if status = 1 ∨ status = 2 then s2.evt 0x1801 (c.val + 256 * status) else s2

/-- Check 5: a reservation for a bulk packet (R288). -/
def State.dmaReserve (s : State) (c : Fin 32) : State :=
  let ch := s.dmaCh c
  match dstRegion (dDst ch.image) (dLen ch.image) with
  | .bulk n =>
    let l := (dLen ch.image + 31) / 32
    let r := s.reserve (Fin.ofNat 4 n) l
    if r.2 then r.1.setDmaCh c { ch with st := 1, reserved := l, packet := [] } else r.1.setDmaCh c { ch with st := 2 }
  | _ => s.setDmaCh c { ch with st := 1 }

/-- A channel starts a descriptor (R287, R288). -/
def State.descStart (s : State) (c : Fin 32) (i : Nat) : State :=
  let o := memGet s.dma.desc (32 * i) 32
  let s1 := s.setDmaCh c { s.dmaCh c with
    desc := i, image := o, moved := 0, retries := 0, waitSince := s.now, reserved := 0, packet := [], seg := s.segLocked.getD 0 }
  let st := s1.descCheck o
  if st = 0 then s1.dmaReserve c else s1.dmaHalt c st 0

/-- A descriptor is done: its record, and the next of the chain (R289, R293). -/
def State.descDone (s : State) (c : Fin 32) : State :=
  let ch := s.dmaCh c
  let s1 := match dstRegion (dDst ch.image) (dLen ch.image) with
    | .bulk n => s.commit (Fin.ofNat 4 n) ch.reserved ch.packet 0
    | _ => s
  let s2 := if bit (dCtl ch.image) 0 then s1.dmaRecord c 0 ch.moved else s1
  let s3 := s2.setDmaCh c { s2.dmaCh c with st := 0, last := 0, reserved := 0, packet := [] }
  if dNext ch.image = 0xFFFF then s3.clearGo c else s3.descStart c (dNext ch.image)

/-- Space was released: channels that wait try again (R288). -/
def State.dmaRetry (s : State) : State :=
  chans32.foldl (fun s c => if (s.dmaCh c).st = 2 then s.dmaReserve c else s) s

/-! ### Power-down of a domain (R292, R387) -/

/-- A running or waiting channel whose descriptor touches the domain. -/
def State.domTouched (s : State) (d : Nat) : Bool :=
  chans32.any fun c => ((s.dmaCh c).st == 1 || (s.dmaCh c).st == 2) && touches (s.dmaCh c).image d

/-- The capture engine without power: every segment is lost (R271). -/
def State.capPowerOff (s : State) : State :=
  s.modCap fun c => { c with st := 5, segs := [], lock := none, held := none, wait := [], last := none }

/-- A Quadrant without power: it returns only through re-admission, and its streams have stopped (R260, R387). -/
def State.quadPowerOff (s : State) (q : Fin 4) : State :=
  (s.modQuad q fun qd => { qd with st := if qd.st = 7 then 7 else 5, step := 0 }).quadLost q

/-- A link's bulk queue is emptied: the open bulk packet of a channel is rewound with it (R276), and its descriptor waits for a reservation
anew (log entry 105). -/
def State.bulkRewind (s : State) (l : Fin 2) : State :=
  chans32.foldl (fun s c =>
    let ch := s.dmaCh c
    if ch.st = 1 ∧ ch.reserved ≠ 0 ∧ dstRegion (dDst ch.image) (dLen ch.image) = .bulk (2 + l.val) then
      let s1 := s.dmaRewind c
      s1.setDmaCh c { s1.dmaCh c with st := 2, moved := 0, retries := 0, waitSince := s.now }
    else s) s

/-- A link without power (R276): its queues are emptied and its lanes off. -/
def State.linkPowerOff (s : State) (l : Fin 2) : State :=
  let s1 := ((s.bulkRewind l).modLink l fun k => { k with st := 5, clk := false }).emptyLink l
  let s2 := s1.modLink l fun k => { k with
    pll := false, sent := [], replay := [], bkLocked := false, bkBits := [], sideRx := []
    width := 0, mask := 0
    lanes := k.lanes.map fun (x : LinkLane) => { x with st := if x.st == 3 then 3 else 4, good := false, locked := false, readmit := false } }
  s2.setObj (if l = 0 then 0x5301 else 0x5311) 0 0

/-- Step 4 of R292: the domain switches off and the request is answered. -/
def State.domOff (s : State) (d : Nat) : State :=
  let s1 := { s with dma := { s.dma with holds := s.dma.holds.filter fun h => h.1 != d } }.setObj 0x8101 (domEl d) 0
  let s2 := match d with
    | 0 => s1.quadPowerOff 0
    | 1 => s1.quadPowerOff 1
    | 2 => s1.quadPowerOff 2
    | 3 => s1.quadPowerOff 3
    | 4 => s1.capPowerOff
    | 5 => s1.linkPowerOff 0
    | 6 => s1.linkPowerOff 1
    | _ => s1
  s2.requestDone 0x8100 d

/-- Held domains that no channel touches any more switch off (R292 step 2). -/
def State.domSettle (s : State) : State :=
  s.dma.holds.foldl (fun s h => if s.domTouched h.1 then s else s.domOff h.1) s

/-- The limit of a held power-down passes. -/
def State.domLimit (s : State) (d : Nat) : State :=
  if s.dma.holds.any fun h => h.1 == d && h.2 + 100 * usP ≤ s.now then
    (chans32.foldl (fun s c =>
      let ch := s.dmaCh c
      if (ch.st == 1 || ch.st == 2) && touches ch.image d then (s.dmaHalt c 4 ch.moved).evt 0x1802 (c.val + 256 * (d - 3)) else s) s).domOff d |>.domSettle.dmaRetry
  else s

/-! ### A capture source that is lost (R268, R289) -/

/-- Descriptors whose latched segment is no longer the selected one end at once with 07h, and their channels halt. -/
def State.captureLost (s : State) : State :=
  (chans32.foldl (fun s c =>
    let ch := s.dmaCh c
    if (ch.st == 1 || ch.st == 2) && srcRegion (dSrc ch.image) (dLen ch.image) == .capture && s.segLocked != some ch.seg then
      s.dmaHalt c 7 ch.moved else s) s).domSettle.dmaRetry

/-- A closed segment is selected and locked. -/
def State.segChosen (s : State) (i : Nat) : State := (s.modCap fun c => { c with lock := some i, readAt := s.now }).captureLost

/-- The lock ends; a segment is released; all are cleared. -/
def State.segUnlock (s : State) : State := (s.modCap fun c => { c with lock := none }).captureLost
def State.segGone (s : State) (i : Nat) : State := (s.segFree i).captureLost
def State.segsClear (s : State) : State := (s.modCap fun c => { c with segs := [], lock := none }).captureLost

/-! ### Bursts (R285, R289, R290) -/

/-- Refill of the bucket: a token every 8 ns, in sixteenths. -/
def State.dmaRefill (s : State) : State :=
  { s with dma := { s.dma with tok := min 1024 (s.dma.tok + 5 * (s.now - s.dma.tokAt)), tokAt := s.now } }

/-- The Pilot holds the xSPI bus (R290, R395). -/
def State.xspiHeld (s : State) : Bool := s.pilot.restart.isSome || s.pilot.busy.isSome

/-- A read of the NOR meets sectors that are being erased or programmed: the Slip's in an erase, those of the slot that an install fills
(R290, R395). -/
def State.norBusy (s : State) (a n : Nat) : Bool :=
  let meets (i : Nat) : Bool := decide (a < norBase i + 0x1000000) && decide (norBase i < a + n)
  match s.pilot.busy with
  | some (1, _) => meets 2
  | some (3, _) => meets (1 - s.pilot.slot)
  | _ => false

/-- Octets of the next burst of a channel, and where its source lies within its region. -/
def DmaCh.burstLen (ch : DmaCh) : Nat := min 32 (dLen ch.image - ch.moved)
def DmaCh.burstAt (ch : DmaCh) (base : Nat) : Nat := dSrc ch.image + ch.moved - base

/-- The next burst of a channel answers with an error by itself: damaged capture records, or NOR sectors being written (R290). -/
def State.burstFails (s : State) (ch : DmaCh) : Bool :=
  match srcRegion (dSrc ch.image) (dLen ch.image) with
  | .nor => s.norBusy (ch.burstAt 0x40000000) ch.burstLen
  | .capture => ((s.seg ch.seg).all.zipIdx.any fun r =>
      r.1.bad && decide (ch.burstAt 0x10000000 < 48 + 16 * r.2) && decide (32 + 16 * r.2 < ch.burstAt 0x10000000 + ch.burstLen))
  | _ => false

/-- The channel can take a burst now: while the Pilot holds the xSPI bus others wait than those that fail (R290). -/
def State.dmaActive (s : State) (c : Fin 32) : Bool :=
  let ch := s.dmaCh c
  ch.st == 1 && !(srcRegion (dSrc ch.image) (dLen ch.image) == .nor && s.xspiHeld && !s.burstFails ch)

/-- The next active channel, round robin. -/
def State.dmaNext (s : State) : Option (Fin 32) :=
  (chans32.map fun k => Fin.ofNat 32 (s.dma.next + k.val)).find? fun c => s.dmaActive c

/-- `n` octets of a source. -/
def State.srcOctets (s : State) (ch : DmaCh) (n : Nat) : Octets :=
  let a := dSrc ch.image + ch.moved
  match srcRegion (dSrc ch.image) (dLen ch.image) with
  | .buffer => memGet s.dma.buf (a - 0x20000000) n
  | .nor => memGet s.nv.nor (a - 0x40000000) n
  | .capture => fitTo n (((s.segImage ch.seg).drop (a - 0x10000000)).take n)
  | _ => zeros n

/-- One burst of a channel; `err`: an error answer. The failing burst is the engine's next one again (R290). -/
def State.burst (s : State) (c : Fin 32) (err : Bool) : State :=
  let ch := s.dmaCh c
  let cap := srcRegion (dSrc ch.image) (dLen ch.image) == .capture
  if cap ∧ ¬(s.segLocked = some ch.seg) then s.dmaHalt c 7 ch.moved
  else if err ∨ s.burstFails ch then
    let n := bits (s.objN 0x5200 (c.val + 1)) 16 3
    let s0 := if cap then s.segRead ch.seg 0 0 else s
    if n ≤ ch.retries then (s0.dmaHalt c 3 ch.moved).evt 0x2801 (c.val + 256 * ch.retries)
    else { s0 with dma := { s0.dma with next := c.val } }.setDmaCh c { ch with retries := ch.retries + 1 }
  else
    let n := ch.burstLen
    let o := s.srcOctets ch n
    let s1 := if cap then s.segRead ch.seg (ch.burstAt 0x10000000) n else s
    let s2 := if ch.retries = 0 then s1 else s1.bump 0x5211 4 1
    let s3 := match dstRegion (dDst ch.image) (dLen ch.image) with
      | .buffer => { s2 with dma := { s2.dma with buf := memPut s2.dma.buf (dDst ch.image - 0x20000000 + ch.moved) o } }
      | _ => s2
    let pk := if ch.reserved = 0 then ch.packet else ch.packet ++ o
    let s4 := s3.setDmaCh c { ch with moved := ch.moved + n, retries := 0, packet := pk }
    if dLen ch.image ≤ ch.moved + n then s4.descDone c else s4

/-- A burst of a channel spends a token and passes the turn on; space that it leaves or returns lets others reserve (R285, R288). -/
def State.burstOf (s : State) (c : Fin 32) (err : Bool) : State :=
  if s.dma.tok < 16 then s
  else
    (({ s with dma := { s.dma with tok := s.dma.tok - 16, next := (c.val + 1) % 32 } } : State).burst c err).domSettle.dmaRetry

/-- The engine's next burst, when a token and an active channel are there. -/
def State.dmaBurst (s : State) (err : Bool) : State :=
  match s.dmaRefill.dmaNext with
  | none => s.dmaRefill
  | some c => s.dmaRefill.burstOf c err

/-- An xSPI read has not completed within 10 µs: a bus error of the channel's burst (R290). -/
def State.xspiTimeout (s : State) (c : Fin 32) : State :=
  let ch := s.dmaCh c
  if s.dmaActive c ∧ srcRegion (dSrc ch.image) (dLen ch.image) = .nor then s.dmaRefill.burstOf c true else s

/-! ### Disable (R291) -/

/-- Octets of an address range that no rule fixes any more. -/
def freeFill (m : AMap Byte) (k a : Nat) : Nat → AMap Byte
  | 0 => m
  | n + 1 => freeFill (AMap.put 0 m a (Config.freeByte k a)) k (a + 1) n

def State.dmaDisable (s : State) (c : Fin 32) : State :=
  let ch := s.dmaCh c
  if ch.st = 1 ∨ ch.st = 2 then
    let s1 := match dstRegion (dDst ch.image) (dLen ch.image) with
      | .buffer => { s with dma := { s.dma with buf := freeFill s.dma.buf s.free (dDst ch.image - 0x20000000) (dLen ch.image) }, free := s.free + 1 }
      | _ => s
    let s2 := { (s1.dmaRewind c).dmaRecord c 5 (Config.freeCount s1.free % 2 ^ 32) with free := s1.free + 1 }
    ((s2.setDmaCh c { s2.dmaCh c with st := 0, last := 5 }).clearGo c).domSettle.dmaRetry
  else (s.setDmaCh c { ch with st := 0 }).clearGo c

/-! ### Writes of `5.200` (R285, R295) -/

/-- Checks of a word written to member c + 1. -/
def State.dmaWordCodes (s : State) (c : Fin 32) (w : Nat) : List Nat :=
  let run := (s.dmaCh c).st == 1 || (s.dmaCh c).st == 2
  let same := clrBit (clrBit w 31) 30 == clrBit (clrBit (s.objN 0x5200 (c.val + 1)) 31) 30
  when (28 ≤ c.val) 0x0601
  ++ when (bits w 19 11 != 0 || 1023 < bits w 0 16) 0x0301
  ++ when (run && bit w 31 && (!same || !bit w 30)) 0x0401

/-- Effect of such a word. -/
def State.dmaWordEff (s : State) (c : Fin 32) (w : Nat) : State :=
  let run := (s.dmaCh c).st == 1 || (s.dmaCh c).st == 2
  if !bit w 31 then s.dmaDisable c
  else if bit w 30 ∧ !run then s.descStart c (bits w 0 16)
  else s

/-! ### Commands -/

/-- The word of a start: `en`, `go`, retries and first descriptor. -/
def goWord (retry first : Nat) : Nat := 2 ^ 31 + 2 ^ 30 + retry * 2 ^ 16 + first

def execDmaChannelStart (r : Req) (c : Fin 32) (retry first : Nat) (s : State) : Host.Outcome State Fault Refusal :=
  let w := goWord retry first
  .next (s.hostWrite r { ent 0x5200 (c.val + 1) .u32 w with val := (if w < 2 ^ 32 then toBE 4 w else toBE 5 w) }
    (fun s => s.dmaWordCodes c w) (fun s => s.dmaWordEff c w) false)

def execDmaChannelDisable (r : Req) (c : Fin 32) (s : State) : Host.Outcome State Fault Refusal :=
  let w := clrBit (clrBit (s.objN 0x5200 (c.val + 1)) 31) 30
  .next (s.hostWrite r (ent 0x5200 (c.val + 1) .u32 w) (fun s => s.dmaWordCodes c w) (fun s => s.dmaWordEff c w) false)

def execDmaBurst (err : Bool) (s : State) : Host.Outcome State Fault Refusal := .next (s.dmaBurst err)

def execXspiReadTimeout (c : Fin 32) (s : State) : Host.Outcome State Fault Refusal := .next (s.xspiTimeout c)

def execDmaReservationTimeout (c : Fin 32) (s : State) : Host.Outcome State Fault Refusal :=
  .next (if (s.dmaCh c).st = 2 ∧ (s.dmaCh c).waitSince + 100 * msP ≤ s.now then (s.dmaHalt c 6 0).domSettle.dmaRetry else s)

def execDmaHoldLimit (d : Fin 7) (s : State) : Host.Outcome State Fault Refusal := .next (s.domLimit d.val)

/-- Descriptors stored at the pointer (R287): none in execution is covered, and none lies past the end. -/
def State.descCodes (s : State) (o : Octets) : List Nat :=
  let p := s.objN 0x5201 0
  let n := o.length / 32
  when (1024 < p + n) 0x0301
  ++ when (chans32.any fun c => ((s.dmaCh c).st == 1 || (s.dmaCh c).st == 2) && p ≤ (s.dmaCh c).desc && (s.dmaCh c).desc < p + n) 0x0401

def State.descEff (s : State) (o : Octets) : State :=
  let p := s.objN 0x5201 0
  { s with dma := { s.dma with desc := memPut s.dma.desc (32 * p) o } }.setObj 0x5201 0 (((p + o.length / 32) % 1024 : Nat) : Int)

def execDescriptorWrite (r : Req) (o : Octets) (s : State) : Host.Outcome State Fault Refusal :=
  .next (s.hostWrite r (entBlob 0x5202 o) (fun s => s.descCodes o) (fun s => s.descEff o) false)

/-- Octets written to the DMA buffer at the pointer (R295). -/
def State.bufCodes (s : State) (o : Octets) : List Nat := when (524288 < s.objN 0x5220 0 + o.length) 0x0301

def State.bufEff (s : State) (o : Octets) : State :=
  let p := s.objN 0x5220 0
  { s with dma := { s.dma with buf := memPut s.dma.buf p o } }.setObj 0x5220 0 (((p + o.length) % 524288 : Nat) : Int)

def execDmaBufferWrite (r : Req) (o : Octets) (s : State) : Host.Outcome State Fault Refusal :=
  .next (s.hostWrite r (entBlob 0x5221 o) (fun s => s.bufCodes o) (fun s => s.bufEff o) false)

/-- A read of `5.210`: the oldest records leave the queue (R294). -/
def State.recsRead (s : State) (r : Req) : State :=
  s.through r kRead 0x5210 fun s =>
    let out := s.dma.recs.take 90
    ({ s with dma := { s.dma with recs := s.dma.recs.drop 90 } }.bump 0x5211 2 out.length).answerRead r 0x5210 0 0x0C out.flatten

def execSegmentSelect (r : Req) (i : Nat) (s : State) : Host.Outcome State Fault Refusal :=
  .next (s.hostWrite r (entArg 0xA300 .u16 i) (fun s => when s.capOff 0x0601 ++ when ((s.seg i).st != 3) 0x0401)
    (fun s => s.segChosen i) false)

def execSegmentLockExpiry (s : State) : Host.Outcome State Fault Refusal :=
  .next (if s.cap.lock.isSome ∧ s.cap.readAt + 60 * secP ≤ s.now then s.segUnlock else s)

def execSegmentRelease (r : Req) (i : Nat) (s : State) : Host.Outcome State Fault Refusal :=
  .next (s.hostWrite r (entArg 0xA304 .u16 i) (fun s => when s.capOff 0x0601 ++ when ((s.seg i).st != 3) 0x0401)
    (fun s => s.segGone i) false)

def execCaptureClear (r : Req) (arg : Nat) (s : State) : Host.Outcome State Fault Refusal :=
  .next (s.hostWrite r (entArg 0xA305 .u8 arg) (fun s => when s.capOff 0x0601 ++ when s.capRuns 0x0401)
    State.segsClear false)

def execCompletionQueueRead (r : Req) (s : State) : Host.Outcome State Fault Refusal := .next (s.recsRead r)

end Sys2Proof.Machine
end

