-- ==== Sys2Proof/Machine/Frames.lean ====
section
/-! DEFINITION. Frame starts, the frame-trigger policy and the abort of a frame (R28, R30, R34, R98, R99). -/

namespace Sys2Proof.Machine

def State.modFrm (s : State) (f : Frames → Frames) : State := { s with frm := f s.frm }

/-- Quadrants live now, as a mask. -/
def State.liveMask (s : State) : Nat := quads4.foldl (fun m q => if (s.quad q).st = 0 then setBit m q.val else m) 0

/-- The sequencer of a Quadrant at a frame start; a bank without a last entry issues no slots. -/
def Quad.atStart (qd : Quad) (t : Nat) : Quad :=
  { qd with
    visit := none
    seq := { qd.seq with entry := 0, rep := 0, slotNo := 0, prevNom := t, done := qd.act.lastIndex.isNone, lastClose := 5 * t, cut := false, fire := none } }

/-- A member of the Wofen bus adopts a delay result at its next frame start (R243). -/
def State.adoptDelay (s : State) : State :=
  match s.wof.delayNew with
  | none => s
  | some d => { s with wof := { s.wof with delay := d, delayNew := none, calOk := true, calAt := s.now } }

/-- A frame starts at an instant that is now or just ahead (R30, R34, R307). -/
def State.startFrame (s : State) (t : Nat) : State :=
  -- a frame event's start time is that of its bus instant, before the grid (R240)
  let less : Nat := if s.frm.want = some t then s.frm.wantLess else 0
  let ns := ((s.scale : Int) + (t - s.now : Nat) * 5 * ((2 ^ 32 : Nat) + s.time.y) - (less * 5 * 2 ^ 24 : Nat)).toNat / 2 ^ 33 % 2 ^ 64
  let held := s.frm.wantHeld
  let s1 := s.modFrm fun f => { f with
    running := true, aborted := false, lastStart := f.start, start := t, startNs := ns, want := none, wantHeld := false }
  let s2 := s1.setObj 0x3012 0 ns
  let s3 := if held then s2.bump 0x3021 4 1 else s2
  let s4 := { s3 with cap := { s3.cap with sliceFrame := none }, steer := { s3.steer with phase0 := t } }
  let s5 := forQuads s4 fun s q => s.modQuad q fun qd => qd.atStart t
  let s6 := s5.emReport.occNote (((s.scale : Int) + (t - s.now : Nat) * 5 * ((2 ^ 32 : Nat) + s.time.y)).toNat / 2 ^ 17) .frameStart
  (s6.adoptDelay.openInHand 0 s.liveMask).openInHand 1 s.liveMask

/-- No frame starts before this instant: 10 ms after the last start, 0 before the first one (R98). -/
def State.spacedFrom (s : State) : Nat := if s.frm.start = 0 then 0 else s.frm.start + 10 * msP

/-- Earliest start that a waiting frame start allows: its own instant, the end of the Landing, and 10 ms after the last start. -/
def State.startAt (s : State) (t : Nat) : Nat := max (max t s.now) (max s.frm.landUntil s.spacedFrom)

/-- Start the frame that waits, unless it must wait for longer than the Landing in progress and the 1 µs of R98. -/
def State.tryStart (s : State) : State :=
  match s.frm.want with
  | none => s
  | some t =>
    let a := s.startAt t
    if s.frm.active ∧ !s.frm.running ∧ a ≤ max (s.now + usP) s.frm.landUntil then s.startFrame a else s

/-- A frame start is wanted from an instant on; one that a Landing in progress delays is counted (R30). -/
def State.wantStart (s : State) (t : Nat) (held : Bool) (less : Nat := 0) : State :=
  let s1 := if !s.frm.running ∧ t < s.frm.landUntil then s.bump 0x3013 4 1 else s
  (s1.modFrm fun f => { f with want := some t, wantHeld := held, wantLess := less }).tryStart

/-- A running frame stops: no further slots, every gate closes, and its contexts are discarded; the slots that have fired still get their
stamps and markers (R99, R322, R383). -/
def State.dropFrame (s : State) : State :=
  let no := s.frm.no
  let one (s : State) (q : Fin 4) : State := s.modQuad q fun qd => { qd with
    seq := { qd.seq with done := true, lastClose := s.now2 }
    shots := qd.shots.map fun x => { x with closedM := x.opened, gmask := x.opened }
    visit := none
    cru := qd.cru.discardFrame fun f => f == no }
  ((forQuads s one).abortInHand 0 no).abortInHand 1 no

/-- Policy 2: the running frame is aborted (R99). -/
def State.abortFrame (s : State) : State :=
  let s1 := (s.dropFrame.evt 0x0104 (s.frm.no % 65536)).bump 0x3021 3 1
  s1.modFrm fun f => { f with aborted := true, want := some s.now, wantHeld := false, wantLess := 0 }

/-- A trigger whose frame would start at an instant, under the policy (R30, R99); `less` as in `Frames.wantLess`. -/
def State.frameTrigger (s : State) (t : Nat) (less : Nat := 0) : State :=
  let pol := s.objN 0x3020 2
  if !s.frm.active then s
  else if s.now < s.frm.landUntil ∧ !s.frm.running ∧ s.frm.want.isNone then s.wantStart t false less
  else if s.frm.running ∨ s.now < s.spacedFrom ∨ s.frm.want.isSome then
    -- a start that is settled and lies ahead counts as held
    if pol = 0 then s.bump 0x3021 1 1
    else if s.frm.want.isSome ∨ (s.frm.running ∧ s.now < s.frm.start) then s.bump 0x3021 2 1
    else if pol = 2 ∧ s.frm.running then s.abortFrame
    else s.wantStart t true less
  else s.wantStart t false less

/-- The internal timer starts frames: source 0, or source 2 without frame events (R241). -/
def State.timerRuns (s : State) : Bool := s.obj 0x3020 1 == 0 || (s.obj 0x3020 1 == 2 && s.wof.onTimer)

/-- The frame timer reaches the period (R34). -/
def State.timerExpiry (s : State) : State :=
  if s.frm.active ∧ s.timerRuns ∧ s.frm.nextTimer ≤ s.now then
    (s.modFrm fun f => { f with nextTimer := f.nextTimer + s.objN 0x3010 0 * usP }).frameTrigger s.now
  else s

/-- An edge on FRAME_TRIG_IN: stamped, and its frame starts 1 µs later (R98). -/
def State.trigEdge (s : State) (rising : Bool) : State :=
  if s.obj 0x3020 1 = 1 ∧ rising = (s.obj 0x3020 3 == 0) then s.frameTrigger (s.now + usP) else s

/-- A held trigger starts its frame (R99). -/
def State.heldRelease (s : State) : State := s.tryStart

/-- The frame has ended in a live Quadrant: its last slot position is done and the latest gate has closed. The end of a frame waits for no
other Quadrant: a shadow frame that is longer than the frame is cut with it (R24, R28). -/
def State.quadEnded (s : State) (q : Fin 4) : Bool :=
  (s.quad q).st != 0 || ((s.quad q).seq.done && (s.quad q).seq.lastClose ≤ s.now2)

/-- A live Quadrant has slots in the running frame. -/
def State.quadSlots (s : State) (q : Fin 4) : Bool := (s.quad q).st == 0 && (s.quad q).act.lastIndex.isSome

/-- The running frame has ended; without a live Quadrant that issues slots it lasts the frame period (R28, R414). -/
def State.frameOver (s : State) : Bool :=
  s.frm.running && s.frm.start ≤ s.now &&
    (s.frm.aborted || (quads4.all s.quadEnded && (quads4.any s.quadSlots || s.frm.start + s.objN 0x3010 0 * usP ≤ s.now)))

def execFrameTimerExpiry (s : State) : Host.Outcome State Fault Refusal := .next s.timerExpiry
def execFrameTrigInEdge (rising : Bool) (s : State) : Host.Outcome State Fault Refusal := .next (s.trigEdge rising)
def execHeldTriggerRelease (s : State) : Host.Outcome State Fault Refusal := .next s.heldRelease

end Sys2Proof.Machine
end

