-- ==== Sys2Proof/Machine/Line.lean ====
section
/-! DEFINITION. The line coding of the links: what stands on a lane for the blocks and packets that the part sends, and what a descrambler
makes of it (R298, R299). Scramblers start from any state, so their state is an argument and no field of the machine. -/

namespace Sys2Proof.Machine

/-- Bits of an octet, bit 0 first. -/
def octetBits (b : Byte) : List Bool := (List.range 8).map fun i => bit b.toNat i

/-- Payload bits of a block, bit 0 of its first octet first. -/
def payloadBits (o : Octets) : List Bool := o.flatMap octetBits

/-- Sync header: 01b before a data block, 10b before a control block, sent as written (DEDUCED, log entry 60). -/
def syncHeader (control : Bool) : List Bool := if control then [true, false] else [false, true]

/-- One bit through the scrambler; `st` holds its outputs, the last one first. -/
def scrambleBit (st : List Bool) (b : Bool) : Bool := b ^^ st.getD 38 false ^^ st.getD 57 false

/-- Bits through the scrambler: what is sent, and the state after them. -/
def scramble : List Bool → List Bool → List Bool × List Bool
  | st, [] => ([], st)
  | st, b :: bs =>
    let x := scrambleBit st b
    let r := scramble ((x :: st).take 58) bs
    (x :: r.1, r.2)

/-- The descrambler: `st` holds the bits received, the last one first. -/
def descramble : List Bool → List Bool → List Bool
  | _, [] => []
  | st, x :: xs => scrambleBit st x :: descramble ((x :: st).take 58) xs

/-- The 66 bits of a block on its lane. -/
def blockOnLane (st : List Bool) (control : Bool) (o : Octets) : List Bool × List Bool :=
  let r := scramble st (payloadBits o)
  (syncHeader control ++ r.1, r.2)

/-- Data blocks of a packet, 8 octets each. -/
def dataBlocks : Nat → Octets → List Octets
  | 0, _ => []
  | n + 1, o => if o.isEmpty then [] else fitTo 8 (o.take 8) :: dataBlocks n (o.drop 8)

/-- The blocks, control or data, of what the part sends on a link. -/
def outBlocks (l : Nat) : Out → List (Bool × Octets)
  | .block k o => if k = l then [(true, o)] else []
  | .packet k o => if k = l then (dataBlocks (o.length / 8 + 1) o).map fun b => (false, b) else []
  | _ => []

/-- The lane of block number `i` of a stream of packet blocks: dealt round-robin over the active lanes in ascending order (R299). -/
def laneOf (active : Nat) (i : Nat) : Option Nat :=
  let lanes := (List.range 4).filter fun n => bit active n
  lanes[i % lanes.length]?

end Sys2Proof.Machine
end

