-- ==== Sys2Proof/Machine/Links.lean ====
section
/-! DEFINITION. The serial links: bring-up and training, packets, acknowledgement and replay, lane retraining, going down and
restarting (R297 ... R319). A packet is sent whole by one command, so every command finds the link at a packet boundary. -/

namespace Sys2Proof.Machine

/-- Configuration, run, counters of a link (R318). -/
def lkCfg (l : Fin 2) : Nat := if l = 0 then 0x5300 else 0x5310
def lkRun (l : Fin 2) : Nat := if l = 0 then 0x5301 else 0x5311
def lkCnt (l : Fin 2) : Nat := if l = 0 then 0x5304 else 0x5314

def Link.lane (k : Link) (i : Fin 4) : LinkLane := k.lanes.get i
def State.modLane (s : State) (l : Fin 2) (i : Fin 4) (f : LinkLane → LinkLane) : State :=
  s.modLink l fun k => { k with lanes := k.lanes.set i (f (k.lane i)) }

/-- Lane rate of a code in units of 10 Mb/s (R297). -/
def laneRate (code : Nat) : Nat :=
  match code with | 0 => 125 | 1 => 250 | 2 => 500 | 3 => 1000 | 4 => 1250 | _ => 1600

/-- Width for a number of good lanes (R299). -/
def linkWidth (n : Nat) : Nat := if 4 ≤ n then 4 else if 2 ≤ n then 2 else n

/-- Taps of a word of the presets or of `5.303`: pre-cursor, main, post-cursor (R318). -/
def tapsOk (pre main post : Nat) : Bool := pre + main + post ≤ 63 && pre + post + 21 ≤ main

/-- A lane lies within the mask of `5.300.02`. -/
def State.inMask (s : State) (l : Fin 2) (i : Fin 4) : Bool := bit (s.objN (lkCfg l) 2) i.val

/-- The TRAIN block of a lane (R300). -/
def State.sendTrain (s : State) (l : Fin 2) (i : Fin 4) : State :=
  let x := (s.link l).lane i
  s.emit (.block l.val (oct [0x66, i.val, s.objN (lkCfg l) 1, x.tstate, x.pre, x.main, x.post, 0]))

/-- A lane begins step 2 of R302: preset taps, training state 1. -/
def State.laneTrain (s : State) (l : Fin 2) (i : Fin 4) : State :=
  let w := s.objN (lkCfg l) (8 + i.val)
  (s.modLane l i fun x => { x with
    st := 2, good := false, locked := false, tstate := 1, pre := bits w 12 6, main := bits w 6 6, post := bits w 0 6, since := s.now }).sendTrain l i

/-- A DESKEW round on the lanes of a mask, with the width and mask that follow (R300). -/
def State.deskewRound (s : State) (l : Fin 2) (on : Nat) : State :=
  let k := s.link l
  let s1 := quads4.foldl (fun s i =>
    if bit on i.val then s.emit (.block l.val (oct [0x4B, i.val, k.width, k.mask] ++ toBE 2 k.epoch ++ toBE 2 k.deskew)) else s) s
  s1.modLink l fun k => { k with deskew := (k.deskew + 1) % 65536, rounds := s.now }

/-- The IDLE block of a slot with nothing else to send (R300). -/
def State.sendIdle (s : State) (l : Fin 2) : State := s.emit (.block l.val (oct [0x1E, 0, 0, 0, 0, 0, 0, 0]))

/-- The clock lane starts, a square wave at a quarter of the lane rate, or stops (R297, R303). -/
def State.clockLane (s : State) (l : Fin 2) (on : Bool) : State :=
  if (s.link l).clk = on then s
  else (s.modLink l fun k => { k with clk := on }).emit (.linkClock l.val (b2n on) (laneRate (s.objN (lkCfg l) 1)))

/-- Width, active set and spares from the good lanes within the mask (R299). -/
def State.linkSet (s : State) (l : Fin 2) : State :=
  let k := s.link l
  let good := quads4.filter fun i => (k.lane i).good && s.inMask l i
  let w := linkWidth good.length
  let act := good.take w
  let mask := act.foldl (fun m i => setBit m i.val) 0
  let one (s : State) (i : Fin 4) : State :=
    if ((s.link l).lane i).good then s.modLane l i fun x => { x with st := if bit mask i.val then 0 else 1 } else s
  (quads4.foldl one s).modLink l fun k => { k with width := w, mask := mask }

/-- A spare lane sends TRAIN blocks, so that the host keeps its lock on it (R299). -/
def State.spareTrain (s : State) (l : Fin 2) : State :=
  quads4.foldl (fun s i => if ((s.link l).lane i).st = 1 then s.sendTrain l i else s) s

/-- Lanes of the mask are all good: the cause of R423 clears. -/
def State.linkHealed (s : State) (l : Fin 2) : State :=
  if quads4.all fun i => !s.inMask l i || ((s.link l).lane i).good then s.setCause (12 + l.val) false else s

/-! ### Down and restart (R315, R316) -/

/-- The transmit PLL is to lock anew: the clock lane stops, and every lane leaves service. -/
def State.linkCold (s : State) (l : Fin 2) (st : Nat) : State :=
  (s.clockLane l false).modLink l fun k => { k with
    st := st, pll := false, width := 0, mask := 0
    lanes := k.lanes.map fun (x : LinkLane) => { x with st := if x.st == 3 && !x.readmit then 3 else 4, good := false, locked := false, tstate := 0 } }

/-- Rewind of a queue to the oldest of some packets (R281, R312). -/
def State.rewindTo (s : State) (l : Fin 2) (ps : List Sent) (bulk : Bool) : State :=
  match ps.find? fun p => p.bulk == bulk with
  | none => s
  | some p => (s.mark (linkQ l bulk) p.pos).rewind (linkQ l bulk)

/-- The link sends no more: packets not acknowledged are sent first in the next epoch, with new sequences (R316). -/
def State.linkHalt (s : State) (l : Fin 2) : State :=
  let k := s.link l
  let again := k.replay.filter fun p => !(k.sent.contains p)
  let ps := k.sent ++ again
  ((s.rewindTo l ps false).rewindTo l ps true).modLink l fun k => { k with sent := [], replay := ps, timeouts := 0 }

/-- The link goes down and restarts (R315, R316). -/
def State.linkDown (s : State) (l : Fin 2) (cause : Nat) : State :=
  (((s.linkHalt l).linkCold l 3).bump (lkCnt l) 10 1).evt 0x2902 (l.val + 16 * cause)

/-- No good lane remains: the link fails (R314). A lane that trains, or that a re-admission trains, brings it up again with its DONE. -/
def State.linkLost (s : State) (l : Fin 2) : State :=
  (((s.linkHalt l).modLink l fun k => { k with st := 4, width := 0, mask := 0 }).evt 0x3902 l.val).raiseCause (12 + l.val)

/-- The link comes up on its good lanes with a new epoch (R302 step 6). -/
def State.linkUp (s : State) (l : Fin 2) : State :=
  let s1 := s.linkSet l
  let s2 := s1.modLink l fun k => { k with
    st := 2, epoch := (k.epoch + 1) % 65536, nextSeq := 0, unitsSent := 0, grant := 0, sent := [], timeouts := 0, streamRun := 0
    progAt := s.now, bkLast := s.now }
  let k := s2.link l
  (((s2.deskewRound l k.mask).spareTrain l).evt 0x0901 (l.val + 256 * k.width)).linkHealed l

/-- Every lane of the mask that is not retired has its DONE: the link comes up; with every lane of the mask retired it fails (R302, R314). -/
def State.upIfReady (s : State) (l : Fin 2) : State :=
  let lane (i : Fin 4) : LinkLane := (s.link l).lane i
  if quads4.all fun i => !s.inMask l i || (lane i).st == 3 then s.linkLost l
  else if quads4.all fun i => !s.inMask l i || (lane i).good || (lane i).st == 3 then s.linkUp l
  else s

/-! ### Retraining (R314) -/

/-- A change of the active set, announced on the old lanes. -/
def State.linkResize (s : State) (l : Fin 2) (old : Nat) : State := ((s.linkSet l).deskewRound l old).spareTrain l

/-- A lane retrains, or is retired where this would be the fifth retrain within 60 s: a DESKEW round on the old set takes it out of
service before it trains. -/
def State.laneRetrain (s : State) (l : Fin 2) (i : Fin 4) : State :=
  let k := s.link l
  let x := k.lane i
  let rs := x.retrains.filter fun t => s.now ≤ t + 60 * secP
  let old := k.mask
  let s1 :=
    if 4 ≤ rs.length then
      let s0 := s.readmitFailed (0x3000 + 16 * l.val + i.val) 5
      ((s0.modLane l i fun x => { x with st := 3, good := false, locked := false, readmit := false, retrains := rs }).evt 0x3901 (l.val + 16 * i.val)).raiseCause (12 + l.val)
    else (s.modLane l i fun x => { x with st := 2, good := false, locked := false, retrains := s.now :: rs }).evt 0x2901 (l.val + 16 * i.val)
  let s2 := if k.st = 2 ∧ bit old i.val then s1.linkResize l old else s1
  let s3 := if 4 ≤ rs.length then s2 else s2.laneTrain l i
  if k.st = 2 then (if (s3.link l).mask = 0 then s3.linkLost l else s3)
  else if (k.st = 1 ∨ k.st = 3) ∧ 4 ≤ rs.length then s3.upIfReady l else s3

/-- A lane has its DONE (R302, R314): the link comes up once every lane of the mask that is not retired has it; on a link that is up the
lane rejoins, and a failed link comes up on it. -/
def State.laneDone1 (s : State) (l : Fin 2) (i : Fin 4) : State :=
  let k := s.link l
  if !k.pll ∨ (k.lane i).st ≠ 2 then s
  else
    let s1 := s.modLane l i fun x => { x with good := true, readmit := false }
    let s2 := s1.readmitPassed (0x3000 + 16 * l.val + i.val)
    if k.st = 2 then
      let s3 := s2.linkSet l
      let n := (s3.link l).mask
      ((if n ≠ k.mask then s3.deskewRound l n else s3).spareTrain l).linkHealed l
    else if k.st = 4 then s2.linkUp l
    else s2.upIfReady l

/-- 20 ms after training began (R302). -/
def State.trainTimeout (s : State) (l : Fin 2) : State :=
  let k := s.link l
  if (k.st = 1 ∨ k.st = 3) ∧ k.pll ∧ k.trainAt + 20 * msP ≤ s.now then
    if quads4.any fun i => s.inMask l i && (k.lane i).good then
      quads4.foldl (fun s i => if s.inMask l i && ((s.link l).lane i).st == 2 && !((s.link l).lane i).good then s.laneRetrain l i else s) (s.linkUp l)
    else
      quads4.foldl (fun s i => if s.inMask l i && ((s.link l).lane i).st == 2 then s.laneTrain l i else s)
        (s.modLink l fun k => { k with trainAt := s.now })
  else s

/-- The transmit PLL has locked: the clock lane runs in forwarded mode, and TRAIN goes out on every lane of the mask that is not retired
(R302 steps 1, 2). -/
def State.pllLocked (s : State) (l : Fin 2) : State :=
  let k := s.link l
  if (k.st = 1 ∨ k.st = 3) ∧ !k.pll then
    quads4.foldl (fun s i => if s.inMask l i && ((s.link l).lane i).st != 3 then s.laneTrain l i else s)
      ((s.clockLane l (!k.common)).modLink l fun k => { k with pll := true, trainAt := s.now })
  else s

/-! ### Clocks (R303) -/

/-- Fallback to common reference in mode 0: the clock lane stops, the link restarts on REFLK_IN, and the event follows; `ref`: REFLK_IN is
present, and without it the link goes down only. -/
def State.fallback (s : State) (l : Fin 2) (ref : Bool) : State :=
  let k := s.link l
  if s.objN (lkCfg l) 3 = 0 ∧ !k.common ∧ (k.st = 1 ∨ k.st = 2 ∨ k.st = 3) then
    if ref then ((s.modLink l fun k => { k with common := true }).linkDown l 3).evt 0x1902 l.val
    else (s.linkDown l 3).evt 0x2903 l.val
  else s

/-! ### Start and stop (R302, R316) -/

/-- The output path starts with the sizes of `5.100` once both links have been stopped and channels 0 ... 27 are idle (R295). -/
def State.queueSizes (s : State) : State :=
  let stopped (l : Fin 2) : Bool := (s.link l).st == 0 || (s.link l).st == 5
  if stopped 0 && stopped 1 && (s.dma.chans.toList.take 28).all fun c => c.st == 0 then
    quads4.foldl (fun s n =>
      let w := 2048 * s.objN 0x5100 (n.val + 1)
      s.setQueue n { s.queue n with size := w, free := w }) s
  else s

def State.linkStart (s : State) (l : Fin 2) : State :=
  if (s.link l).st ≠ 0 then s
  else
    (s.queueSizes.linkCold l 1).modLink l fun k => { k with
      common := s.objN (lkCfg l) 3 == 2, sent := [], replay := [], timeouts := 0 }

/-- Stop: both queues are emptied (R276, R316). -/
def State.linkStop (s : State) (l : Fin 2) : State :=
  if (s.link l).st = 0 ∨ (s.link l).st = 5 then s
  else (((s.bulkRewind l).linkCold l 0).emptyLink l).modLink l fun k => { k with
    sent := [], replay := [], bkLocked := false, bkBits := [], sideRx := []
    lanes := k.lanes.map fun (x : LinkLane) => { x with readmit := false } }

/-- Checks of a start (R303, R318). -/
def State.linkStartCodes (s : State) (l : Fin 2) : List Nat :=
  when (s.obj 0x8101 (7 + l.val) != 1) 0x0601
  ++ when (s.objN (lkCfg l) 4 == 1 && s.objN (lkCfg l) 3 < 2) 0x0301

/-- Checks of a configuration write: flush time and equaliser presets (R301, R318). -/
def linkCfgCodes (w : List (Nat × Int)) : List Nat :=
  when (w.any fun x => (x.1 == 5 && 0 < x.2 && x.2 < 10)
    || (8 ≤ x.1 && !tapsOk (bits x.2.toNat 12 6) (bits x.2.toNat 6 6) (bits x.2.toNat 0 6))) 0x0301

/-! ### The back lane (R304) -/

/-- The back lane is heard: the link has power and is not stopped. -/
def State.backOn (s : State) (l : Fin 2) : Bool := !((s.link l).st == 0 || (s.link l).st == 5)

/-- A block with its sync header: lock after 64 valid ones in a row, loss after 16 invalid ones within 64. -/
def State.backSync (s : State) (l : Fin 2) (ok : Bool) : State :=
  if !s.backOn l then s
  else s.modLink l fun k =>
    let b := (ok :: k.bkBits).take 64
    let bad := (b.filter fun x => !x).length
    if k.bkLocked then (if 16 ≤ bad then { k with bkLocked := false, bkBits := [] } else { k with bkBits := b })
    else if b.length = 64 ∧ bad = 0 then { k with bkLocked := true, bkBits := b } else { k with bkBits := b }

/-- A valid control block: with the back lane locked it counts against the silence timer and has its effect. -/
def State.backBlock (s : State) (l : Fin 2) (act : State → State) : State :=
  let s1 := s.backSync l true
  if s.backOn l && (s1.link l).bkLocked then act (s1.modLink l fun k => { k with bkLast := s.now }) else s1

/-- A data block or an unknown type: an error (R304). -/
def State.backInvalid (s : State) (l : Fin 2) : State :=
  let s1 := s.backSync l true
  if s.backOn l && (s1.link l).bkLocked then s1.bump (lkCnt l) 8 1 else s1

/-- A LANE ADJUST: one tap by one step within the bounds of R301. -/
def State.laneAdjust (s : State) (l : Fin 2) (i : Fin 4) (tap : Fin 3) (up : Bool) : State :=
  let x := (s.link l).lane i
  if !(s.link l).pll ∨ x.st ≠ 2 then s
  else
    let mv (v : Nat) : Option Nat := if up then (if v < 63 then some (v + 1) else none) else (if v = 0 then none else some (v - 1))
    let y : Option LinkLane := match tap.val with
      | 0 => (mv x.pre).map fun v => { x with pre := v }
      | 1 => (mv x.main).map fun v => { x with main := v }
      | _ => (mv x.post).map fun v => { x with post := v }
    match y with
    | some y => if tapsOk y.pre y.main y.post then (s.modLane l i fun _ => { y with tstate := 2 }).sendTrain l i else limit s
    | none => limit s
where
  limit (s : State) : State := (s.modLane l i fun x => { x with tstate := 3 }).sendTrain l i

/-- STATUS reports a lost lock on every active lane: errors at the top of their range on each (R315, log entry 104). -/
def State.lockLost (s : State) (l : Fin 2) (errs : List Nat) : Bool :=
  (s.link l).st == 2 && (quads4.any fun i => bit (s.link l).mask i.val) && quads4.all fun i => !bit (s.link l).mask i.val || errs.getD i.val 0 % 4096 == 0xFFF

/-- A STATUS block: errors per lane, each a retrain, or a lost lock on every active lane, and the forwarded clock lost (R303, R304, R314,
R315). -/
def State.backStatus (s : State) (l : Fin 2) (lost ref : Bool) (errs : List Nat) : State :=
  let s1 := quads4.foldl (fun s i =>
    let n := errs.getD i.val 0 % 4096
    s.modLane l i fun x => { x with errs := ((s.now, n) :: x.errs).filter fun e => s.now < e.1 + secP && e.2 != 0 }) s
  let s2 := if s.lockLost l errs then s1.linkDown l 4 else quads4.foldl (fun s i =>
    let x := (s.link l).lane i
    if (s.link l).st = 2 ∧ (x.st = 0 ∨ x.st = 1) ∧ errs.getD i.val 0 % 4096 ≠ 0 then s.laneRetrain l i else s) s1
  if lost then s2.fallback l ref else s2

/-! ### Packets (R310 ... R312) -/

/-- Credit units of a packet. -/
def units (o : Octets) : Nat := (o.length + 4095) / 4096

/-- Units outstanding, and units that credit still allows. -/
def Link.outstanding (k : Link) : Nat := (k.sent.map (·.units)).sum
def Link.credit (k : Link) : Nat := (k.grant + 65536 - k.unitsSent % 65536) % 65536

/-- A first transmission of u units is allowed. -/
def Link.allows (k : Link) (u : Nat) : Bool := u ≤ k.credit && k.outstanding + u ≤ 256

/-- The packet on the wire: SOP, data blocks and EOP, or a VOID in its place when it is damaged (R300, R312, R284). -/
def State.sendPacket (s : State) (l : Fin 2) (bulk : Bool) (seq : Nat) (p : Packet) (damaged : Bool) : State :=
  let head := oct [b2n bulk] ++ toBE 2 seq ++ toBE 3 (p.octets.length - 1)
  if damaged then ((s.emit (.block l.val (oct [0x99] ++ head ++ oct [1]))).bump (lkCnt l) 4 1)
  else
    let o := if bulk then p.octets else p.octets.take 4 ++ toBE 2 seq ++ p.octets.drop 6
    let o8 := fitTo ((o.length + 7) / 8 * 8) o
    ((s.emit (.block l.val (oct [0x78] ++ head ++ oct [0]))).emit (.packet l.val o8)).emit
      (.block l.val (oct [0x87, 0] ++ toBE 4 (crc32c o) ++ oct [0, 0]))

/-- An uncorrectable error found as a packet is read: the mark stays with it, and event 2802h is logged once (R284). -/
def State.damage (s : State) (n : Fin 4) (p : Packet) : State :=
  let q := s.queue n
  let s1 := s.setQueue n { q with pkts := q.pkts.map fun (k : Packet) => if k.pos == p.pos then { k with damaged := true, evt := true } else k }
  if p.evt then s1 else s1.evt 0x2802 n.val

/-- Read the next packet of a queue and send it under a sequence. -/
def State.readSend (s : State) (l : Fin 2) (bulk : Bool) (seq : Nat) (bad : Nat) : State :=
  let n := linkQ l bulk
  let r := s.readPacket n
  match r.2 with
  | none => r.1
  | some p =>
    let s1 := if bad = 2 then r.1.damage n p else if bad = 1 then r.1.bump 0x5110 (8 * n.val + 8) 1 else r.1
    s1.sendPacket l bulk seq p (p.damaged || bad == 2)

/-- A first transmission in the epoch: the next sequence, its units, counted (R310). -/
def State.firstSend (s : State) (l : Fin 2) (p : Sent) (bad : Nat) : State :=
  let k := s.link l
  let x := { p with seq := k.nextSeq }
  let s1 := (s.readSend l p.bulk k.nextSeq bad).modLink l fun k => { k with
    sent := k.sent ++ [x], nextSeq := (k.nextSeq + 1) % 65536, unitsSent := k.unitsSent + p.units
    progAt := if k.sent.isEmpty then s.now else k.progAt }
  s1.bump (lkCnt l) 1 1

/-- The next unread packet of a queue. -/
def State.front (s : State) (l : Fin 2) (bulk : Bool) : Option Sent :=
  let q := s.queue (linkQ l bulk)
  match q.pkts.find? fun p => p.pos == q.r with
  | some p => if q.r ≠ q.c then some { seq := 0, bulk := bulk, pos := p.pos, units := units p.octets } else none
  | none => none

/-- A SIDE block with up to six octets, at most one every 48 µs (R305). -/
def State.sideSend (s : State) (l : Fin 2) : State :=
  let o := s.sideTx.get l
  if o.isEmpty ∨ ¬((s.link l).st = 2) ∨ s.now < (s.link l).sideAt + 48 * usP then s
  else
    let t := o.take 6
    ({ s with sideTx := s.sideTx.set l (o.drop 6) }.emit (.block l.val (oct [0x2D, t.length] ++ fitTo 6 t))).modLink l fun k => { k with sideAt := s.now }

/-- The link picks its next packet (R311): replay, stream, bulk, or an IDLE block when none may go; `bad`: 1 a corrected, 2 an uncorrectable error as it is read. -/
def State.linkSend (s : State) (l : Fin 2) (bad : Nat) : State :=
  let s := s.sideSend l
  let k := s.link l
  if k.st ≠ 2 then s
  else match k.replay with
  | p :: rest =>
    match k.sent.find? fun x => x.bulk == p.bulk && x.pos == p.pos with
    | some x => (s.readSend l p.bulk x.seq bad).modLink l fun k => { k with replay := rest }
    | none => if k.allows p.units then (s.firstSend l p bad).modLink l fun k => { k with replay := rest } else s.sendIdle l
  | [] =>
    let ok (o : Option Sent) : Bool := match o with | some p => k.allows p.units | none => false
    match s.front l false, s.front l true with
    | some a, b =>
      if !k.allows a.units then (match b with | some b => if k.allows b.units then s.firstSend l b bad else s.sendIdle l | none => s.sendIdle l)
      else match b with
        | some b =>
          if k.allows b.units ∧ s.objN (lkCfg l) 7 ≤ k.streamRun then (s.firstSend l b bad).modLink l fun k => { k with streamRun := 0 }
          else if k.allows b.units then (s.firstSend l a bad).modLink l fun k => { k with streamRun := k.streamRun + 1 }
          else s.firstSend l a bad
        | none => s.firstSend l a bad
    | none, some b => if ok (some b) then (s.firstSend l b bad).modLink l fun k => { k with streamRun := 0 } else s.sendIdle l
    | none, none => s.sendIdle l

/-- Acknowledge the first n outstanding packets and release them (R281, R312). -/
def State.linkAck (s : State) (l : Fin 2) (n : Nat) : State :=
  if n = 0 then s
  else
    let k := s.link l
    let done := k.sent.take n
    let one (s : State) (p : Sent) : State :=
      let n := linkQ l p.bulk
      (s.readPast n p.pos).release n (qDist (s.queue n).o p.pos + 1)
    let s1 := (done.foldl one s).modLink l fun k => { k with
      sent := k.sent.drop n, replay := k.replay.filter (fun p => !(done.any fun x => x.bulk == p.bulk && x.pos == p.pos)), progAt := s.now, timeouts := 0 }
    (s1.retryInHand l).dmaRetry

/-- Replay of every outstanding packet from the oldest (R312). -/
def State.linkReplay (s : State) (l : Fin 2) : State :=
  let ps := (s.link l).sent
  let later := (s.link l).replay.filter fun p => !(ps.any fun x => x.bulk == p.bulk && x.pos == p.pos)
  ((s.rewindTo l ps false).rewindTo l ps true).modLink l fun k => { k with replay := ps ++ later }

/-- ACK and NAK (R304, R310, R312); while the link is not up no sequence is outstanding. -/
def State.backAck (s : State) (l : Fin 2) (nak : Bool) (seq grant : Nat) : State :=
  let s1 := s.modLink l fun k => { k with grant := grant % 65536 }
  match (s1.link l).sent.findIdx? fun p => p.seq == seq % 65536 with
  | none => s1.bump (lkCnt l) 9 1
  | some i => if nak then ((s1.linkAck l i).bump (lkCnt l) 2 1).linkReplay l else s1.linkAck l (i + 1)

/-- The replay timeout (R312). -/
def State.replayTimeout (s : State) (l : Fin 2) : State :=
  let k := s.link l
  if k.st = 2 ∧ !k.sent.isEmpty ∧ k.progAt + s.objN (lkCfg l) 6 * usP ≤ s.now then
    let s1 := (s.bump (lkCnt l) 3 1).modLink l fun k => { k with timeouts := k.timeouts + 1, progAt := s.now }
    if 4 ≤ k.timeouts + 1 then s1.linkDown l 2 else s1.linkReplay l
  else s

/-! ### Blocks of the back lane as octets (R304) -/

/-- Commands of a LANE block. -/
inductive LaneCmd where
  | lock | adjust (tap : Fin 3) (up : Bool) | done | retrain
  deriving DecidableEq, Repr

/-- What a control block of the back lane says. -/
inductive BackBlock where
  | idle
  | ack (nak : Bool) (seq grant : Nat)
  | lane (i : Fin 4) (c : LaneCmd)
  | status (lost : Bool) (errs : List Nat)
  | side (o : Octets)
  deriving DecidableEq, Repr

/-- The command of a LANE block's octets 2 ... 4; none where the table gives it no meaning. -/
def laneCmd (c tap step : Nat) : Option LaneCmd :=
  match c with
  | 1 => some .lock
  | 2 =>
    if tap = 0 then some (.adjust 0 (step == 1)) else if tap = 1 then some (.adjust 1 (step == 1)) else if tap = 2 then some (.adjust 2 (step == 1))
    else none
  | 3 => some .done
  | 4 => some .retrain
  | _ => none

/-- A control block by its type octet and payload; none for any other type. A LANE block without a meaning has no effect (log entry 106). -/
def backDecode (o : Octets) : Option BackBlock :=
  match octAt o 0 with
  | 0x1E => some .idle
  | 0xA1 => some (.ack (bit (octAt o 1) 0) (fieldAt o 2 2) (fieldAt o 4 2))
  | 0xA2 => some (match laneCmd (octAt o 2) (octAt o 3) (octAt o 4) with
      | some c => if octAt o 1 < 4 then .lane (Fin.ofNat 4 (octAt o 1)) c else .idle
      | none => .idle)
  | 0xA3 => some (.status (bit (octAt o 1) 0) ((List.range 4).map fun i => bits (fieldAt o 2 6) (36 - 12 * i) 12))
  | 0x2D => some (.side ((o.drop 2).take (min 6 (octAt o 1))))
  | _ => none

/-- The octets of the blocks that the host sends. -/
def ackBlock (nak : Bool) (seq grant : Nat) : Octets := oct [0xA1, b2n nak] ++ toBE 2 seq ++ toBE 2 grant ++ oct [0, 0]
def laneBlock (i : Fin 4) : LaneCmd → Octets
  | .lock => oct [0xA2, i.val, 1, 0, 0, 0, 0, 0]
  | .adjust tap up => oct [0xA2, i.val, 2, tap.val, if up then 1 else 0xFF, 0, 0, 0]
  | .done => oct [0xA2, i.val, 3, 0, 0, 0, 0, 0]
  | .retrain => oct [0xA2, i.val, 4, 0, 0, 0, 0, 0]
def statusBlock (lost : Bool) (errs : List Nat) : Octets :=
  oct [0xA3, b2n lost] ++ toBE 6 ((List.range 4).foldl (fun n i => n * 4096 + errs.getD i 0 % 4096) 0)
def sideBlock (o : Octets) : Octets := oct [0x2D, (o.take 6).length] ++ fitTo 6 (o.take 6)

/-- A LANE command has its effect (R302, R304, R314). -/
def State.laneAct (s : State) (l : Fin 2) (i : Fin 4) (c : LaneCmd) : State :=
  let k := s.link l
  match c with
  | .lock => if k.pll ∧ (k.lane i).st = 2 then s.modLane l i fun x => { x with locked := true } else s
  | .adjust tap up => s.laneAdjust l i tap up
  | .done => s.laneDone1 l i
  | .retrain => if k.pll ∧ (k.lane i).st ≤ 2 then s.laneRetrain l i else s

/-- Octets of the side channel as they arrive (R305). -/
def State.sideReceive (s : State) (l : Fin 2) (o : Octets) : State := s.modLink l fun k => { k with sideRx := k.sideRx ++ o }

/-- A block's effect; `ref`: REFLK_IN is present. -/
def State.backAct (s : State) (l : Fin 2) (ref : Bool) : BackBlock → State
  | .idle => s
  | .ack nak seq grant => s.backAck l nak seq grant
  | .lane i c => s.laneAct l i c
  | .status lost errs => s.backStatus l lost ref errs
  | .side o => s.sideReceive l o

/-- A control block arrives on the back lane in its octets (R304). -/
def State.backReceive (s : State) (l : Fin 2) (ref : Bool) (o : Octets) : State :=
  match backDecode o with
  | some b => s.backBlock l fun s => s.backAct l ref b
  | none => s.backInvalid l

/-! ### Commands -/

def execLinkStart (r : Req) (l : Fin 2) (s : State) : Host.Outcome State Fault Refusal :=
  .next (s.hostWrite r (ent (lkRun l) 0 .bool 1) (fun s => s.linkStartCodes l) (fun s => s.linkStart l) false)

def execLinkStop (r : Req) (l : Fin 2) (s : State) : Host.Outcome State Fault Refusal :=
  .next (s.hostWrite r (ent (lkRun l) 0 .bool 0) (fun s => when (s.obj 0x8101 (7 + l.val) != 1) 0x0601) (fun s => s.linkStop l) false)

def execLinkPllLocked (l : Fin 2) (s : State) : Host.Outcome State Fault Refusal := .next (s.pllLocked l)
def execTrainingTimeout (l : Fin 2) (s : State) : Host.Outcome State Fault Refusal := .next (s.trainTimeout l)

def execLaneLock (l : Fin 2) (i : Fin 4) (s : State) : Host.Outcome State Fault Refusal := .next (s.backReceive l false (laneBlock i .lock))

def execLaneAdjust (l : Fin 2) (i : Fin 4) (tap : Fin 3) (up : Bool) (s : State) : Host.Outcome State Fault Refusal :=
  .next (s.backReceive l false (laneBlock i (.adjust tap up)))

def execLaneDone (l : Fin 2) (i : Fin 4) (s : State) : Host.Outcome State Fault Refusal := .next (s.backReceive l false (laneBlock i .done))

def execLaneRetrain (l : Fin 2) (i : Fin 4) (s : State) : Host.Outcome State Fault Refusal := .next (s.backReceive l false (laneBlock i .retrain))

def execBackLaneAck (l : Fin 2) (seq grant : Nat) (s : State) : Host.Outcome State Fault Refusal :=
  .next (s.backReceive l false (ackBlock false seq grant))

def execBackLaneNak (l : Fin 2) (seq grant : Nat) (s : State) : Host.Outcome State Fault Refusal :=
  .next (s.backReceive l false (ackBlock true seq grant))

def execBackLaneStatus (l : Fin 2) (lost ref : Bool) (errs : List Nat) (s : State) : Host.Outcome State Fault Refusal :=
  .next (s.backReceive l ref (statusBlock lost errs))

def execBackLaneInvalidBlock (l : Fin 2) (s : State) : Host.Outcome State Fault Refusal := .next (s.backInvalid l)
def execBackLaneIdle (l : Fin 2) (s : State) : Host.Outcome State Fault Refusal := .next (s.backReceive l false (oct [0x1E, 0, 0, 0, 0, 0, 0, 0]))
def execBackLaneInvalidSyncHeader (l : Fin 2) (s : State) : Host.Outcome State Fault Refusal := .next (s.backSync l false)
def execLinkPacketSend (l : Fin 2) (bad : Fin 3) (s : State) : Host.Outcome State Fault Refusal := .next (s.linkSend l bad.val)
def execReplayTimeout (l : Fin 2) (s : State) : Host.Outcome State Fault Refusal := .next (s.replayTimeout l)

def execBackLaneSilent (l : Fin 2) (s : State) : Host.Outcome State Fault Refusal :=
  .next (if (s.link l).st = 2 ∧ (s.link l).bkLast + msP ≤ s.now then s.linkDown l 1 else s)

/-- 16,384 rounds after the last DESKEW round, each of one block time (R297, R300). -/
def execDeskewRound (l : Fin 2) (s : State) : Host.Outcome State Fault Refusal :=
  .next (if (s.link l).st = 2 ∧ 2 * 16384 * 6600 ≤ (s.now - (s.link l).rounds) * 5 * laneRate (s.objN (lkCfg l) 1) then s.deskewRound l (s.link l).mask else s)

def execIngotFlush (l : Fin 2) (s : State) : Host.Outcome State Fault Refusal := .next (s.flushIngots l)

def execClockLaneDriverFault (l : Fin 2) (ref : Bool) (s : State) : Host.Outcome State Fault Refusal := .next (s.fallback l ref)

/-- 20 ms without DONE: the attempt counts as a retrain (R314). -/
def execLaneRetrainTimeout (l : Fin 2) (i : Fin 4) (s : State) : Host.Outcome State Fault Refusal :=
  let x := (s.link l).lane i
  .next (if ((s.link l).st = 2 ∨ (s.link l).st = 4) ∧ x.st = 2 ∧ x.since + 20 * msP ≤ s.now then s.laneRetrain l i else s)

end Sys2Proof.Machine
end

