-- ==== Sys2Proof/Machine/Readmit.lean ====
section
/-! DEFINITION. Membership and re-admission: Quadrants that stand down, leave, run a shadow frame and join, and the return of retired
channels, emitters, lanes, Quadrants and Helms (R24, R25, R147, R420 ... R427). -/

namespace Sys2Proof.Machine

/-! ### Units named by the argument of `9.400` (R424) -/

/-- Unit of a lane argument. -/
def argLink (v : Nat) : Fin 2 := Fin.ofNat 2 (bits v 4 1)
def argLane (v : Nat) : Fin 4 := Fin.ofNat 4 (v % 4)
def argQuad (v : Nat) : Fin 4 := Fin.ofNat 4 (v % 4)

/-- Quadrant of an emitter. -/
def emQuad (m : Nat) : Fin 4 := if m < 192 then Fin.ofNat 4 (m / 48) else Fin.ofNat 4 ((m - 192) / 2)

/-- Kind and reserved bits of an argument stand. -/
def argOk (v : Nat) : Bool :=
  match v / 4096 with
  | 1 => v % 4096 < 1024
  | 2 => v % 4096 < 200
  | 3 => v % 4096 / 32 == 0 && bits v 2 2 == 0
  | 4 => v % 4096 < 4
  | 5 => v % 4096 < 2
  | _ => false

/-- A Quadrant is retired or stood down. -/
def State.quadAway (s : State) (q : Fin 4) : Bool := 5 ≤ (s.quad q).st

/-- The re-admission of a Quadrant is running. -/
def State.quadReadm (s : State) : Option (Fin 4) := quads4.find? fun q => s.life.readm.contains (0x4000 + q.val)

/-- Refusals with 0601h: the unit is not retired, lies in an absent Quadrant, cannot be re-admitted now, or is refused until the next
power cycle. -/
def State.readmitClosed (s : State) (v : Nat) : Bool :=
  let going := s.life.readm.contains v
  match v / 4096 with
  | 1 =>
    let q := Fin.ofNat 4 (v % 1024 / 256)
    let ch := s.chan q (v % 256)
    !(going || ch.st == 5 || ch.st == 6) || s.quadAway q || ch.barred
  | 2 => !(going || (s.emitter (v % 4096)).retired != 0) || s.quadAway (emQuad (v % 4096))
  | 3 =>
    let k := s.link (argLink v)
    !(going || (k.lane (argLane v)).st == 3) || k.st == 0 || k.st == 5
  | 4 => !(going || (s.quad (argQuad v)).st == 5) || (s.quad (argQuad v)).barred || !s.inRun
  | 5 => !(going || (s.helm (v % 2 == 1)).st == 4) || !s.steer.running
  | _ => false

/-- Re-admissions of channels of a Quadrant in progress. -/
def State.chanReadms (s : State) (q : Nat) : Nat := (s.life.readm.filter fun v => v / 4096 == 1 && v % 1024 / 256 == q).length

/-- Checks of a command on `9.400`. -/
def State.readmitCodes (s : State) (v : Nat) : List Nat :=
  when (!argOk v) 0x0301
  ++ (if argOk v then
      when (s.readmitClosed v) 0x0601
      ++ when (s.life.readm.contains v || (v / 4096 == 4 && s.quadReadm.isSome)) 0x0401
      ++ when (v / 4096 == 1 && !s.life.readm.contains v && 8 ≤ s.chanReadms (v % 1024 / 256)) 0x0701
    else [])

/-! ### Re-admission of a Quadrant (R425) -/

/-- Its logic is reset and its slice cleared; the channels that take part start anew. -/
def Quad.resetLogic (qd : Quad) : Quad :=
  { qd with
    shots := []
    visit := none
    shadowBad := false
    auto := false
    seq := { qd.seq with done := true }
    cru := { (qd.cru.discardFrame fun _ => true) with tok4 := qd.cru.tok4 } }

/-- Step 1: the Quadrant is powered if it was off, and step 2 begins. -/
def State.quadBegin (s : State) (q : Fin 4) : State :=
  let s1 := if s.obj 0x8101 (q.val + 1) = 1 then s else (s.setObj 0x8101 (q.val + 1) 1).setObj 0x8100 (q.val + 1) 1
  let s2 := s1.modQuad q fun qd => { qd.resetLogic with st := 4, step := 2 }
  { s2 with life := { s2.life with readm := s2.life.readm ++ [0x4000 + q.val] } }.setObj 0x9401 4 q.val

/-- A step fails: the Quadrant stays retired. -/
def State.quadFail (s : State) (q : Fin 4) (step : Nat) : State :=
  (s.modQuad q fun qd => { qd with st := if qd.barred then 7 else 5, step := 0 }).readmitFailed (0x4000 + q.val) step |>.quadLost q

/-- Channels that take part in steps 3 and 5: not disabled by the host, and not refused until the next power cycle. -/
def State.takesPart (s : State) (q : Fin 4) (c : Nat) : Bool := bit (s.chanWord q c) 31 && !(s.chan q c).barred

/-- Step 3: channels that fail are retired, the others are live again with the Quadrant. -/
def State.quadCalibrated (s : State) (q : Fin 4) (failed : List Nat) : State :=
  (List.range 256).foldl (fun s c =>
    if !s.takesPart q c then s
    else if failed.contains c then s.chanRetire q c 3
    else (s.setChan q c { s.chan q c with
      st := 0, sus := 0, readmit := 0, fails := [], calAt := s.now, due := false, recal := 0, check := 0 }).freshEstimates q c) s

/-- QUADRANT_READMISSION_STEP_DONE: step 2, 3 or 4 completes, or fails. -/
def State.quadStep (s : State) (pass : Bool) (failed : List Nat) : State :=
  match quads4.find? fun q => (s.quad q).st == 4 with
  | none => s
  | some q =>
    let failed := (failed.eraseDups.filter fun c => s.takesPart q c)
    match (s.quad q).step with
    | 2 => if pass then s.modQuad q fun qd => { qd with step := 3 } else s.quadFail q 2
    | 3 =>
      if !pass ∨ 8 < failed.length then s.quadFail q 3
      else (s.quadCalibrated q failed).modQuad q fun qd => { qd with step := 4 }
    | 4 =>
      if !pass then s.quadFail q 4
      else if (s.forge.bias.get q).settled then s.modQuad q fun qd => { qd with step := 5 } else s
    | _ => s

/-- Step 5: injection at a Landing; then the shadow frame. -/
def State.quadInject (s : State) (q : Fin 4) (li : LandingIn) : State :=
  let bad := (List.range 256).filter fun c => s.takesPart q c && (s.chan q c).st == 0 &&
    ((measured li (chanNo q c) 0 (s.delayOf q c 0)).isNone || (measured li (chanNo q c) 1 (s.delayOf q c 1)).isNone)
  -- the channels that failed step 3 count too
  let lost := (List.range 256).filter fun c => s.takesPart q c && decide (5 ≤ (s.chan q c).st)
  if 8 < bad.length + lost.length then s.quadFail q 5
  else (bad.foldl (fun s c => s.chanRetire q c 1) s).modQuad q fun qd => { qd with st := 3, step := 6, shadowBad := false }

/-! ### Leaving and joining at a Landing (R28, R420, R421, R427) -/

/-- Participation of a Quadrant after the Landing. -/
def State.participates (s : State) (q : Fin 4) : Bool := s.upcoming (0x3100 + q.val) 1 == 1

/-- A Quadrant that the host stands down leaves; one that faulted is re-initialised for its shadow frame, unless the Pilot restarts
(R426). -/
def State.quadLeave (s : State) (q : Fin 4) : State :=
  let qd := s.quad q
  if !s.participates q ∧ qd.st ≤ 4 then
    let s1 := s.readmitEnd (0x4000 + q.val) 5 qd.step
    (s1.modQuad q fun qd => { qd with st := 6, step := 0, auto := false, shots := [], visit := none }).tapQuadBlind q |>.quadLost q
  else if qd.st = 2 ∧ !s.restarting then s.modQuad q fun qd => { qd with st := 3, shadowBad := false, cru := qd.cru.discardFrame fun _ => true }
  else s

/-- A Quadrant joins live: its blind region is withdrawn, and its cause of R423 clears; the end of a re-admission or an automatic return
completes service 8 (R399). -/
def State.quadJoin (s : State) (q : Fin 4) : State :=
  let s1 := (s.modQuad q fun qd => { qd with st := 0, step := 0, auto := false, shots := [], cru := qd.cru.discardFrame fun _ => true }).tapQuadSees q
  let s2 := (List.range 256).foldl (fun s c => if (s.chan q c).st = 0 ∧ s.chanState q c ≠ 7 then s.tapChanSees (chanNo q c) (s.chanState q c) else s) s1
  let s3 := (s2.setCause q.val false).readmitPassed (0x4000 + q.val)
  if s.life.readm.contains (0x4000 + q.val) || (s.quad q).auto then s3.evt 0x0B03 8 else s3

/-- The shadow frame has passed (R421). -/
def State.shadowOk (s : State) (q : Fin 4) : Bool := !(s.quad q).shadowBad && (s.forge.bias.get q).settled

/-- Joins at step 5; a shadow frame of an aborted frame is run again (R426), and so is one that failed without a mismatch. -/
def State.quadJoins (s : State) (q : Fin 4) (li : LandingIn) (leftNow : Bool) : State :=
  let qd := s.quad q
  if qd.st = 3 ∧ !leftNow then
    if s.frm.aborted then s.modQuad q fun qd => { qd with shadowBad := false }
    else if s.shadowOk q then s.quadJoin q
    else if s.life.readm.contains (0x4000 + q.val) then s.quadFail q 6
    else s.modQuad q fun qd => { qd with shadowBad := false }
  else if qd.st = 1 then (if (s.forge.bias.get q).settled then s.quadJoin q else s)
  else if qd.st = 4 ∧ qd.step = 5 then s.quadInject q li
  else if qd.st = 6 ∧ s.obj (0x3100 + q.val) 1 = 1 ∧ s.quadReadm.isNone then s.quadBegin q
  else s

/-- Membership at the entry to RUN (R387, R414): a domain that is off retires the Quadrant, participation decides the rest, and every
Quadrant whose bias is settled joins. -/
def State.quadEnter (s : State) (q : Fin 4) : State :=
  let qd := s.quad q
  if s.obj 0x8101 (q.val + 1) ≠ 1 then
    (if 5 ≤ qd.st then s else s.modQuad q fun qd => { qd with st := 5 }).tapQuadBlind q
  else if qd.st = 5 ∨ qd.st = 7 then s.tapQuadBlind q
  else if s.obj (0x3100 + q.val) 1 ≠ 1 then (s.modQuad q fun qd => { qd with st := 6 }).tapQuadBlind q
  else if (s.forge.bias.get q).settled then s.quadJoin q
  else (s.modQuad q fun qd => { qd with st := 1, step := 0 }).tapQuadBlind q

/-- At the end of RUN a Quadrant that was live or returning waits for its bias at the next entry. -/
def Quad.atStop (qd : Quad) : Quad := if qd.st ≤ 3 then { qd with st := 1, step := 0, auto := false } else qd

/-! ### Beginning and abandoning -/

/-- What an accepted command on `9.400` begins. -/
def State.readmitBegin (s : State) (v : Nat) : State :=
  let note (s : State) : State := { s with life := { s.life with readm := s.life.readm ++ [v] } }
  match v / 4096 with
  | 1 =>
    let q := Fin.ofNat 4 (v % 1024 / 256)
    note (s.setChan q (v % 256) { s.chan q (v % 256) with
      st := 4, readmit := 1, readBad := false, sus := 0, recal := 0, check := 0, due := true, calStart := s.now, hist := [], calNext := none
      table := none, offset := none, d0 := none, d1 := none, delayNext := none })
  | 2 => note (s.retest (v % 4096))
  | 3 => note ((s.modLane (argLink v) (argLane v) fun x => { x with readmit := true }).laneTrain (argLink v) (argLane v))
  | 4 => s.quadBegin (argQuad v)
  | 5 => note (s.setHelm (v % 2 == 1) { s.helm (v % 2 == 1) with st := 3, fails := [], failedSync := 0 })
  | _ => s

/-- Status of the last request (R427). -/
def State.readmitNote (s : State) (v state : Nat) : State :=
  ((s.setObj 0x9401 1 v).setObj 0x9401 2 state).setObj 0x9401 3 0

/-- The whole of a write to `9.400`: as any write, and its outcome in `9.401`. -/
def State.readmitWrite (s : State) (q : Req) (e : Entry) : State :=
  let v := beNat e.val
  s.through q (if q.asCommand then kCommand else kWrite) e.obj fun s =>
    let ab := firstAbort (s.writeCodes q e ++ s.readmitCodes v)
    if ab = 0 then ((s.readmitNote v 1).accept q e true).readmitBegin v
    else (if s.fromConfig then s.readmitNote (v % 65536) 4 else s).refuse q e ab

/-- A re-admission is abandoned: the unit stays retired (R426). -/
def State.readmitDrop (s : State) (v : Nat) : State :=
  let s1 :=
    match v / 4096 with
    | 1 =>
      let q := Fin.ofNat 4 (v % 1024 / 256)
      s.setChan q (v % 256) { s.chan q (v % 256) with st := (s.chan q (v % 256)).was, readmit := 0 }
    | 2 => s.modEm (v % 4096) fun x => { x with retest := 0 }
    | 3 => s.modLane (argLink v) (argLane v) fun x => { x with st := 3, readmit := false }
    | 4 => s.modQuad (argQuad v) fun qd => { qd with st := 5, step := 0 }
    | 5 => s.setHelm (v % 2 == 1) { s.helm (v % 2 == 1) with st := 4 }
    | _ => s
  s1.readmitEnd v 5 (if v / 4096 = 4 then (s.quad (argQuad v)).step else 0)

/-- The Quench, a stop command or a prepare command abandons every re-admission. -/
def State.readmitDropAll (s : State) : State := s.life.readm.foldl State.readmitDrop s

/-- The calibration of a channel under re-admission ends on its relief converter, with the delays measured afresh, which wait for a slot
boundary as table and offset do; an outlier fails step 1 (R142, R147). -/
def State.chanReadmitCal (s : State) (q : Fin 4) (c : Nat) (hist refs : List Nat) (lost : Nat) (d0 d1 : Int) : State :=
  let ch := s.chan q c
  if ch.st = 4 ∧ ch.readmit = 1 ∧ s.canCalibrate q c then
    match calResult (s.prevOffset q c) (addBins ch.hist hist) refs lost with
    | some r => (s.setChan q c { ch with readmit := 2, delayNext := some (d0, d1) }).calAdopt q c r
    | none => (s.bump 0x3431 (4 * q.val + 3) 1).readmitFail q c 1
  else s

/-! ### The commands -/

def execReadmitChannel (r : Req) (arg : Nat) (s : State) : Host.Outcome State Fault Refusal :=
  .next (s.readmitWrite r (entArg 0x9400 .u16 (0x1000 + arg)))
def execReadmitEmitter (r : Req) (arg : Nat) (s : State) : Host.Outcome State Fault Refusal :=
  .next (s.readmitWrite r (entArg 0x9400 .u16 (0x2000 + arg)))
def execReadmitLane (r : Req) (arg : Nat) (s : State) : Host.Outcome State Fault Refusal :=
  .next (s.readmitWrite r (entArg 0x9400 .u16 (0x3000 + arg)))
def execReadmitQuadrant (r : Req) (arg : Nat) (s : State) : Host.Outcome State Fault Refusal :=
  .next (s.readmitWrite r (entArg 0x9400 .u16 (0x4000 + arg)))
def execReadmitHelm (r : Req) (arg : Nat) (s : State) : Host.Outcome State Fault Refusal :=
  .next (s.readmitWrite r (entArg 0x9400 .u16 (0x5000 + arg)))

/-- Participation 00h: the Quadrant stands down at the next Landing (R427). -/
def execQuadrantStandDown (r : Req) (q : Fin 4) (s : State) : Host.Outcome State Fault Refusal :=
  .next (s.hostWrite r (ent (0x3100 + q.val) 1 .u8 0) (fun _ => []) id false)
/-- Participation 01h: a stood-down Quadrant is re-admitted from the next Landing on (R425). -/
def execQuadrantRejoin (r : Req) (q : Fin 4) (s : State) : Host.Outcome State Fault Refusal :=
  .next (s.hostWrite r (ent (0x3100 + q.val) 1 .u8 1) (fun _ => []) id false)

def execQuadrantReadmissionStepDone (pass : Bool) (failed : List Nat) (s : State) : Host.Outcome State Fault Refusal :=
  .next (s.quadStep pass failed)
def execChannelReadmissionCalDone (ch : Fin 1024) (run : CalRun) (s : State) : Host.Outcome State Fault Refusal :=
  .next (s.chanReadmitCal (Fin.ofNat 4 (ch.val / 256)) (ch.val % 256) run.hist run.refs run.lost run.d0 run.d1)

end Sys2Proof.Machine
end

