-- ==== Sys2Proof/Machine/TimeKeeper.lean ====
section
/-! DEFINITION. The Time Keeper: sources, slew and step, holdover, outputs, PTP (R227 ... R236). -/

namespace Sys2Proof.Machine

def State.modTime (s : State) (f : Time → Time) : State := { s with time := f s.time }
def State.modPort (s : State) (p : Fin 2) (f : PtpPort → PtpPort) : State :=
  s.modTime fun t => { t with ports := t.ports.set p (f (t.ports.get p)) }

/-- Converter steps of 9.765625 ps since power-up (R134). -/
def State.steps (s : State) (fine : Nat) : Nat := s.now * 256 + fine

/-- Timescale in ns at a converter step of the current period. -/
def State.nsAt (s : State) (fine : Nat) : Nat := (s.scale + fine * 5 * 2 ^ 32 / 256) % 2 ^ 97 / 2 ^ 33

/-- The time service runs from CONFIG on (R236). -/
def State.timeRuns (s : State) : Bool := s.obj 0x2001 0 == 1 && s.fromConfig

/-- Largest rate correction, ±200 ppm in 2^-32 (R227). -/
def maxRate : Int := 858993

/-! ### Slew and step (R228) -/

/-- The step of the timescale by an offset in ns; counted, with event 1503h. -/
def State.stepNow (s : State) (off : Int) : State :=
  let sc := (((s.scale : Int) - off * (2 ^ 33 : Nat)) % (2 ^ 97 : Nat)).toNat
  let s1 := (s.setScale sc).modTime fun t => { t with nextSec := sc / (2 ^ 33 * 1000000000) + 1, stepDue := none }
  (s1.bump 0x2020 9 1).evt 0x1503 (min 65535 (off.natAbs / 1000))

/-- Rate of a source, less one, in 2^-32: its interval against the same interval of the reference, both in converter steps. -/
def measureRate (src ref : Int) : Int := if ref ≤ 0 then 0 else divRound ((src - ref) * 2 ^ 32) ref

/-- The frequency error of the reference against the source, positive for a fast reference, of the rate that makes up for it: the inverse
ratio less one, both in 2^-32 (R229). -/
def errorOf (rate : Int) : Int := if rate ≤ -(2 ^ 32 : Nat) then 0 else divRound (-rate * 2 ^ 32) (2 ^ 32 + rate)

/-- The slew limit in 2^-32 (`2.030.03`). -/
def State.slewLimit (s : State) : Int := (s.objN 0x2030 3 * 2 ^ 32 / 1000000000 : Nat)

/-- The rate correction of a slew: within the slew limit of the measured rate of the source and within ±200 ppm; no rule gives its law, so
it is a free value there (R227, R228). -/
def State.newRate (s : State) : State :=
  { s with
    time := { s.time with y := clampI (-maxRate) maxRate (s.time.rate + clampI (-s.slewLimit) s.slewLimit (Config.freeInt s.free)) }
    free := s.free + 1 }

/-- An offset, part less source, in ns, from a source of a measured rate: a slew up to the threshold, else a step, in RUN at the next
Landing. -/
def State.discipline (s : State) (off : Int) (rate : Int) : State :=
  let s0 := { s with time := { s.time with rate := rate } }
  let s1 := s0.setObj 0x2020 4 (clampI (-(2 ^ 31 : Nat)) ((2 ^ 31 : Nat) - 1) off)
  if off.natAbs ≤ s.objN 0x2030 2 then (s1.newRate).modTime fun t => { t with stepDue := none }
  else if s.inRun then s1.modTime fun t => { t with stepDue := some off }
  else s1.stepNow off

/-! ### Choice of the source (R230, R231) -/

/-- A source of `2.010` is locked. -/
def Time.lockedSrc (t : Time) (code : Nat) : Bool :=
  match code with
  | 1 => t.gnss | 2 => (t.ports.get 0).locked | 3 => (t.ports.get 1).locked | 4 => t.wofen | _ => false

/-- The locked source that stands highest in the list; 0 for none. -/
def State.topSource (s : State) : Nat :=
  (((List.range 4).map fun i => s.objN 0x2010 (i + 1)).find? fun c => s.time.lockedSrc c).getD 0

/-- REF10_IN is used and valid. -/
def State.ref10Valid (s : State) : Bool := s.obj 0x2011 6 == 1 && s.time.ref10

/-- Growth of the holdover bound in ns/s; none without holdover (R231). -/
def State.holdRate (s : State) : Option Nat :=
  if s.ref10Valid then some 1
  else match s.objN 0x2000 5 with | 1 => some 100 | 2 => some 5 | _ => none

/-- The bound e(t), ns; 0 outside holdover (R231). -/
def State.holdBound (s : State) : Nat :=
  if s.time.st = 3 then 1000 + s.holdRate.getD 0 * (s.now - s.time.holdAt) / secP else 0

/-- Average of the rate corrections of the last 100 s of lock. -/
def State.avgRate (s : State) : Int :=
  if s.time.ys.isEmpty then s.time.y else divRound s.time.ys.sum s.time.ys.length

/-- While no source is locked a signal on REF10_IN that is used sets the rate correction (R230). -/
def State.ref10Rates (s : State) : State :=
  if s.time.st ≠ 2 ∧ s.ref10Valid ∧ s.timeRuns then
    if s.time.refRate then s else s.modTime fun t => { t with y := clampI (-maxRate) maxRate t.ref10Rate, refRate := true }
  else s.modTime fun t => { t with refRate := false }

/-- The source in use follows what is locked; event 0501h, or holdover or free time when none is. Holdover ends when REF10_IN, which alone
held it for a plain oscillator, is used no more (R231). -/
def State.timeChoose (s : State) : State :=
  let c := s.topSource
  if c ≠ 0 then
    if s.time.st = 2 ∧ s.time.src = c then s
    else (s.modTime fun t => { t with st := 2, src := c }).evt 0x0501 c
  else if s.time.st = 3 ∧ s.holdRate.isNone then s.modTime fun t => { t with st := 0 }
  else if s.time.st ≠ 2 then s
  else
    let lost := s.time.src
    if s.holdRate.isSome then
      (s.modTime fun t => { t with st := 3, src := 0, holdAt := s.now, y := s.avgRate, stepDue := none }).evt 0x1501 lost
    else s.modTime fun t => { t with st := 0, src := 0, stepDue := none }

def State.timeSelect (s : State) : State := s.timeChoose.ref10Rates

/-! ### Roles and election (R234) -/

/-- clockIdentity: the EUI-64 of the address of MAC 0 (R234). -/
def clockIdent : Nat := fieldAt (Config.macAddr 0) 0 3 * 2 ^ 40 + 0xFFFE * 2 ^ 24 + fieldAt (Config.macAddr 0) 3 3

/-- The Caminaent rank announced; the reference of a fleet in the automatic role announces 0000h (R246). -/
def State.rank (s : State) : Nat :=
  if s.obj 0x2000 1 = 0 ∧ s.obj 0x2210 2 = 1 ∧ s.obj 0x2210 1 ≠ 0 then 0 else s.objN 0x2000 4

/-- clockClass of the part's own source state. -/
def State.ownClass (s : State) : Nat :=
  if s.obj 0x2000 1 = 2 then 255
  else if s.time.st = 2 ∧ s.time.src = 1 then 6
  else if s.time.st = 3 ∧ s.holdBound < s.objN 0x2030 1 then 7 else 248

/-- The dataset the part announces for itself. -/
def State.ownDs (s : State) : PtpDs :=
  let g : Bool := s.time.st == 2 && s.time.src == 1
  { p1 := s.objN 0x2000 2, cls := s.ownClass, acc := if g then 0x21 else 0xFE, var := if g then 0x4E5D else 0xFFFF, p2 := s.objN 0x2000 3, rank := s.rank, ident := clockIdent }

/-- Members in the order of comparison. -/
def dsKey (d : PtpDs) : List Nat := [d.p1, d.cls, d.acc, d.var, d.p2, d.rank, d.ident]

/-- Lexicographic order. -/
def lexLt : List Nat → List Nat → Bool
  | a :: l, b :: m => a < b || (a == b && lexLt l m)
  | _, _ => false

def dsBetter (a b : PtpDs) : Bool := lexLt (dsKey a) (dsKey b)

/-- A port takes part: service, role, profile and MAC (R234, R235). -/
def State.ptpOn (s : State) (p : Fin 2) : Bool :=
  s.timeRuns && s.obj 0x2000 1 != 3 && s.obj 0x2000 (6 + p.val) != 0 && s.obj 0x1022 (1 + p.val) == 1

/-- The best foreign master over both ports, with its port. -/
def State.bestForeign (s : State) : Option (Fin 2 × PtpDs) :=
  let f (p : Fin 2) : Option (Fin 2 × PtpDs) := if s.ptpOn p then (s.time.ports.get p).best.map fun d => (p, d) else none
  match f 0, f 1 with
  | none, x => x
  | x, none => x
  | some a, some b => if dsBetter b.2 a.2 then some b else some a

/-- The master followed, when one is: in the automatic role it must be better than the part itself. -/
def State.followed (s : State) : Option (Fin 2 × PtpDs) :=
  match s.objN 0x2000 1, s.bestForeign with
  | 0, some x => if dsBetter x.2 s.ownDs then some x else none
  | 2, some x => some x
  | _, _ => none

/-- State of a port after the comparison: 0 off, 1 listening, 2 master, 3 slave, 4 passive. -/
def State.portDecision (s : State) (p : Fin 2) : Nat :=
  if !s.ptpOn p then 0
  else match s.objN 0x2000 1, s.followed with
  | 1, _ => 2
  | 2, some x => if x.1 = p then 3 else 1
  | 2, none => 1
  | _, some x =>
    if x.1 = p then 3
    else if (s.time.ports.get p).best.any (fun d => d.ident == x.2.ident) then 4 else 2
  | _, none => 2

def PtpPort.become (p : PtpPort) (st now : Nat) : PtpPort :=
  if p.st = st then p
  else { p with st := st, good := 0, locked := false, sync2 := none, last21 := none, last1 := none, req3 := none, peer := none, lastPeer := none, nrr := 0, best := if st = 0 then none else p.best, nextSync := now, nextAnn := now, nextReq := now }

/-- The comparison is run; a change of grandmaster is event 0502h (R234). -/
def State.bmca (s : State) : State :=
  let s1 := s.modTime fun t => { t with ports := ((t.ports.set 0 ((t.ports.get 0).become (s.portDecision 0) s.now)).set 1
      ((t.ports.get 1).become (s.portDecision 1) s.now)) }
  let role : Nat := match s.objN 0x2000 1 with
    | 0 => if s.followed.isSome then (if s.portDecision 0 = 4 ∨ s.portDecision 1 = 4 then 3 else 1) else 0
    | 1 => 0 | 2 => 1 | _ => 2
  let gm := (s.followed.map fun x => x.2.ident).getD clockIdent
  let s2 := ((s1.setObj 0x2020 3 role).setObj 0x2020 8 s.ownClass).setObj 0x2021 0 gm
  if s.obj 0x2021 0 ≠ 0 ∧ s.obj 0x2021 0 ≠ gm then s2.evt 0x0502 role else s2

/-- Ports and source settle together. -/
def State.timeUpdate (s : State) : State := s.bmca.timeSelect.bmca.timeSelect

/-! ### GNSS (R230) -/

/-- ±1 µs in converter steps. -/
def us256 : Nat := 400 * 256

/-- Offset of a pulse or mark, ns, from the nearest whole second. -/
def nearSecond (ns : Int) : Int := (ns + 500000000) % 1000000000 - 500000000

/-- The time of day is known: from a sentence that agreed, or from the timescale already held when no sentence is used. -/
def State.todKnown (s : State) : Bool := s.time.tod || s.obj 0x2011 3 == 0

/-- A PPS_IN pulse on the chosen edge (R230). -/
def State.ppsEdge (s : State) (rising : Bool) (fine : Nat) : State :=
  if !s.timeRuns ∨ rising ≠ (s.obj 0x2011 1 == 0) then s
  else
    let t := s.steps fine
    let ns : Int := (s.nsAt fine : Int) - s.obj 0x2011 2
    match s.time.ppsAt with
    | none => s.modTime fun x => { x with ppsAt := some t, ppsNs := ns.toNat, ppsInt := 0, ppsGood := 0 }
    | some t0 =>
      let d := t - t0
      let i := s.time.ppsInt
      if i = 0 then s.modTime fun x => { x with ppsAt := some t, ppsNs := ns.toNat, ppsInt := d, ppsGood := 0 }
      else
        let k := (d + i / 2) / i
        let good := 1 ≤ k ∧ k ≤ 3 ∧ k * i ≤ d + us256 ∧ d ≤ k * i + us256
        if good then
          let n := if k = 1 then s.time.ppsGood + 1 else if s.time.gnss then s.time.ppsGood else 1
          let s1 := s.modTime fun x => { x with
            ppsAt := some t, ppsNs := ns.toNat, ppsInt := d / k, ppsGood := n, gnss := x.gnss || (decide (8 ≤ n) && s.todKnown) }
          let s2 := s1.timeUpdate
          if s2.time.src = 1 then s2.discipline (nearSecond ns) (measureRate (k * secP * 256 : Nat) d) else s2
        else if s.time.gnss then s
        else s.modTime fun x => { x with ppsAt := some t, ppsNs := ns.toNat, ppsInt := d, ppsGood := 0 }

/-- Three expected pulses are absent or outside ±1 µs: GNSS is lost (R230). -/
def State.ppsMissing (s : State) : State :=
  match s.time.ppsAt with
  | none => s
  | some t0 =>
    if s.time.gnss ∧ t0 + 3 * s.time.ppsInt + us256 < s.steps 0 then
      (s.modTime fun x => { x with gnss := false, ppsGood := 0, ppsAt := none, ppsInt := 0 }).timeUpdate
    else s

/-- The label of a pulse moves the timescale only while GNSS is the source in use (R230). -/
def State.gnssStep (s : State) (off : Int) : State := if s.time.src = 1 then s.discipline off s.time.rate else s

/-- A ZDA sentence labels the pulse 100 ... 900 ms before it (R230). -/
def State.zda (s : State) (good : Bool) (utc : Nat) : State :=
  match s.time.ppsAt with
  | none => s
  | some t0 =>
    let age := s.steps 0 - t0
    if !s.timeRuns ∨ !good ∨ s.obj 0x2011 3 ≠ 1 ∨ age < 100 * msP * 256 ∨ 900 * msP * 256 < age then s
    else
      let tai : Int := (utc : Int) + s.obj 0x2011 5
      let off : Int := (s.time.ppsNs : Int) - tai * 1000000000
      if off.natAbs ≤ 1000 then (s.modTime fun x => { x with tod := true, zda := none })
      else
        -- used if the next sentence agrees with it
        let agrees : Bool := match s.time.zda with | some p => decide ((off - p).natAbs ≤ 1000) | none => false
        if agrees then
          ((s.modTime fun x => { x with tod := true, zda := none, ppsNs := (tai * 1000000000).toNat }).gnssStep off)
        else
          let s1 := s.modTime fun x => { x with zda := some off }
          if s.time.zda.isNone then s1.evt 0x1504 0 else s1

/-! ### PTP (R234, R235) -/

/-- Period of an interval 2^k s in reference periods. -/
def log2Int (k : Int) : Nat := if k < 0 then secP / 2 ^ k.natAbs else secP * 2 ^ k.natAbs

/-- PHY latencies of a port, ns (R232): transmit, receive. -/
def State.txLat (s : State) (p : Fin 2) : Int := s.obj 0x2002 (4 + 2 * p.val)
def State.rxLat (s : State) (p : Fin 2) : Int := s.obj 0x2002 (5 + 2 * p.val)

/-- Time stamp on the SGMII boundary in 0.2 ns, in steps of 0.8 ns (R232). -/
def State.ptpStamp (s : State) : Nat := s.scale * 5 / 2 ^ 35 * 4

/-- Receive and transmit stamps at the cable side of the PHY, 0.2 ns. -/
def State.rxStamp (s : State) (p : Fin 2) : Nat := ((s.ptpStamp : Int) - 5 * s.rxLat p).toNat
def State.txStamp (s : State) (p : Fin 2) : Nat := ((s.ptpStamp : Int) + 5 * s.txLat p).toNat

/-- A timestamp of IEEE 1588, seconds in 6 octets and nanoseconds in 4, of a stamp in 0.2 ns, with its fraction in 2^-16 ns. -/
def ptpTime (t : Nat) : Octets :=
  toBE 6 (t / 5000000000) ++ toBE 4 (t / 5 % 1000000000) ++ toBE 2 (t % 5 * 65536 / 5)

/-- Profile of a port (`2.000.06`, `2.000.07`), and its domain: 0 under 802.1AS, else `2.000.08` (R235). -/
def State.ptpProf (s : State) (p : Fin 2) : Nat := s.objN 0x2000 (6 + p.val)
def State.ptpDom (s : State) (p : Fin 2) : Nat := if s.ptpProf p = 3 then 0 else s.objN 0x2000 8

/-- A PTP message leaves a port. -/
def State.ptpSend (s : State) (p : Fin 2) (kind : Nat) (o : Octets) : State := s.emit (.ptp p.val (s.ptpProf p) (s.ptpDom p) kind o)

/-- A Sync of the port's master, that arrived with a stamp at an instant in converter steps, with its origin in ns: offset and rate. -/
def State.netOffset (s : State) (p : Fin 2) (stamp arr t1 : Nat) : State :=
  let x := s.time.ports.get p
  let t21 : Int := (stamp : Int) - 5 * t1
  let off := divRound (t21 - x.mean) 5
  let n := if off.natAbs ≤ 1000 then x.good + 1 else 0
  let rate : Int := match x.last1 with
    | some (a, t) => if a < arr then measureRate (((t1 : Int) - t) * 512) (((arr : Int) - a) * 5) else s.time.rate
    | none => s.time.rate
  let s1 := (s.modPort p fun x => { x with
    good := n, last21 := some t21, last1 := some (arr, t1), sync2 := none, locked := x.locked || decide (8 ≤ n) }).timeUpdate
  if s1.time.src = 2 + p.val then s1.discipline off rate else s1

/-- The dataset and TLV of an Announce (R234). -/
def announceBody (seq : Nat) (d : PtpDs) : Octets :=
  toBE 2 seq ++ toBE 1 d.p1 ++ toBE 1 d.cls ++ toBE 1 d.acc ++ toBE 2 d.var ++ toBE 1 d.p2 ++ toBE 8 d.ident
    ++ toBE 2 3 ++ toBE 2 8 ++ toBE 3 0x0AC9E1 ++ toBE 3 1 ++ toBE 2 d.rank

/-- The path trace TLV of 802.1AS (R235, log entry 41). -/
def pathTlv (path : List Nat) : Octets := toBE 2 8 ++ toBE 2 (8 * path.length) ++ (path.map (toBE 8)).flatten

/-- The Follow_Up information TLV of 802.1AS with the cumulative rate offset (R235, log entry 41). -/
def rateTlv (nrr : Int) : Octets := toBE 2 3 ++ toBE 2 28 ++ toBE 3 0x0080C2 ++ toBE 3 1 ++ toBE 4 (ofInt 32 nrr) ++ toBE 18 0

/-- The dataset a master port announces: the master followed on the other port, or its own. -/
def State.announced (s : State) : PtpDs := (s.followed.map (·.2)).getD s.ownDs

/-- The neighbour's rate from two peer delay exchanges, less one, in 2^-41 (R235). -/
def neighbourRate (last : Option (Nat × Nat)) (t3 t4 : Nat) (was : Int) : Int :=
  match last with
  | some (a3, a4) => if a4 < t4 then divRound ((((t3 : Int) - a3) - ((t4 : Int) - a4)) * 2 ^ 41) ((t4 : Int) - a4) else was
  | none => was

/-- An Announce: a grandmaster counts it; else it may become the port's best. One without the Caminaent TLV has rank FFFFh, and under 802.1AS
one whose path trace names the part itself is dropped (R234, R235). -/
def State.announceRx (s : State) (p : Fin 2) (ds : PtpDs) (tlv : Bool) (path : List Nat) : State :=
  let d := if tlv then ds else { ds with rank := 0xFFFF }
  if s.obj 0x2000 1 = 1 then s.modTime fun y => { y with foreign := y.foreign + 1 }
  else if s.ptpProf p = 3 ∧ path.contains clockIdent then s
  else
    let take : Bool := match (s.time.ports.get p).best with | none => true | some b => b.ident == d.ident || dsBetter d b
    if take then (s.modPort p fun y => { y with best := some d, annAt := s.now, path := path }).timeUpdate else s

/-- A PTP message of a domain on a port (R235). -/
def State.ptpRx (s : State) (p : Fin 2) (dom : Nat) (m : PtpMsg) : State :=
  if !s.ptpOn p ∨ dom ≠ s.ptpDom p then s
  else
    let t := s.rxStamp p
    let x := s.time.ports.get p
    let as_ : Bool := s.ptpProf p == 3
    match m with
    | .announce ds tlv path => s.announceRx p ds tlv path
    | .sync _ (some t1) =>
      if x.st = 3 then (s.modPort p fun y => { y with syncAt := s.now }).netOffset p t (s.steps 0) t1 else s
    | .sync seq none => if x.st = 3 then s.modPort p fun y => { y with syncAt := s.now, sync2 := some (seq, t, s.steps 0) } else s
    | .followUp seq t1 =>
      match x.sync2 with
      | some (q, t2, arr) => if x.st = 3 ∧ q = seq then s.netOffset p t2 arr t1 else s
      | none => s
    | .delayReq seq => if x.st = 2 ∧ !as_ then s.ptpSend p 9 (toBE 2 seq ++ ptpTime t) else s
    | .delayResp seq t4 =>
      match x.req3, x.last21 with
      | some (q, t3), some d => if q = seq ∧ !as_ then
          s.modPort p fun y => { y with mean := (d + (5 * (t4 : Int) - t3)) / 2, req3 := none } else s
      | _, _ => s
    | .pdelayReq seq =>
      if as_ then (s.ptpSend p 3 (toBE 2 seq ++ ptpTime t)).ptpSend p 10 (toBE 2 seq ++ ptpTime (s.txStamp p)) else s
    | .pdelayResp seq t2 =>
      match x.req3 with
      | some (q, _) => if q = seq ∧ as_ then s.modPort p fun y => { y with peer := some (seq, 5 * t2, t) } else s
      | none => s
    | .pdelayFollowUp seq t3 =>
      match x.req3, x.peer with
      | some (q, t1), some (q2, t2, t4) => if q = seq ∧ q2 = seq ∧ as_ then
          let nrr := neighbourRate x.lastPeer (5 * t3) t4 x.nrr
          let turn : Int := (t4 : Int) - t1
          s.modPort p fun y => { y with
            mean := (turn + turn * nrr / 2 ^ 41 - (5 * (t3 : Int) - t2)) / 2, req3 := none, peer := none, lastPeer := some (5 * t3, t4), nrr := nrr } else s
      | _, _ => s
    | .management => s.modTime fun y => { y with mgmt := y.mgmt + 1 }

/-- The announce-receipt timeout, or four Sync intervals without Sync (R230). -/
def State.announceTimeout (s : State) (p : Fin 2) : State :=
  let x := s.time.ports.get p
  let noAnn : Bool := x.best.isSome && decide (x.annAt + s.objN 0x2002 8 * log2Int (s.obj 0x2002 2) ≤ s.now)
  let noSync : Bool := x.locked && decide (x.syncAt + 4 * log2Int (s.obj 0x2002 1) ≤ s.now)
  if noAnn then (s.modPort p fun y => { y with best := none, locked := false, good := 0 }).timeUpdate
  else if noSync then (s.modPort p fun y => { y with locked := false, good := 0 }).timeUpdate
  else s

/-- Sync of a master port, two-step. -/
def State.ptpSync (s : State) (p : Fin 2) : State :=
  let x := s.time.ports.get p
  if x.st = 2 ∧ x.nextSync ≤ s.now then
    let tlv := if s.ptpProf p = 3 then rateTlv ((s.followed.map fun f => (s.time.ports.get f.1).nrr).getD 0) else []
    let s1 := (s.ptpSend p 0 (toBE 2 x.seqSync)).ptpSend p 8 (toBE 2 x.seqSync ++ ptpTime (s.txStamp p) ++ tlv)
    s1.modPort p fun y => { y with seqSync := (y.seqSync + 1) % 65536, nextSync := s.now + log2Int (s.obj 0x2002 1) }
  else s

/-- Announce of a master port. -/
def State.ptpAnnounce (s : State) (p : Fin 2) : State :=
  let x := s.time.ports.get p
  if x.st = 2 ∧ x.nextAnn ≤ s.now then
    let path := (s.followed.map fun f => (s.time.ports.get f.1).path).getD [] ++ [clockIdent]
    (s.ptpSend p 11 (announceBody x.seqAnn s.announced ++ if s.ptpProf p = 3 then pathTlv path else [])).modPort p fun y => { y with
      seqAnn := (y.seqAnn + 1) % 65536, nextAnn := s.now + log2Int (s.obj 0x2002 2) }
  else s

/-- Delay_Req of a slave port, or Pdelay_Req under 802.1AS. -/
def State.ptpDelay (s : State) (p : Fin 2) : State :=
  let x := s.time.ports.get p
  let as_ : Bool := s.ptpProf p == 3
  if (as_ ∨ x.st = 3) ∧ x.nextReq ≤ s.now then
    (s.ptpSend p (if as_ then 2 else 1) (toBE 2 x.seqReq)).modPort p fun y => { y with
      seqReq := (y.seqReq + 1) % 65536, req3 := some (y.seqReq, s.txStamp p), peer := none, nextReq := s.now + log2Int (s.obj 0x2002 3) }
  else s

/-- An interval of a port elapses: it sends what is due (R235). -/
def State.ptpTx (s : State) (p : Fin 2) : State :=
  if s.ptpOn p then ((s.ptpSync p).ptpAnnounce p).ptpDelay p else s

/-! ### Holdover, outputs, service -/

/-- e(t) reaches the budget (R231). -/
def State.holdoverEnd (s : State) : State :=
  if s.time.st = 3 ∧ s.objN 0x2030 1 ≤ s.holdBound then
    ((s.modTime fun t => { t with st := 0 }).evt 0x1502 (s.objN 0x2000 5)).timeUpdate
  else s

/-- An output of R233 is on from the next whole second. -/
def State.outputOn (s : State) (mode : Nat) : Bool :=
  mode == 1 || (mode == 2 && (s.time.st == 2 || (s.time.st == 3 && decide (s.holdBound < s.objN 0x2030 1))))

/-- Converter step in which the timescale passed the last whole second (R232). -/
def State.secondEdge (s : State) : Nat := s.steps 0 - s.scale % (10 ^ 9 * 2 ^ 33) / (10 * 2 ^ 23)

/-- What PPS_OUT and REF10_OUT do at a whole second (R233), and the average of R231. -/
def State.secondOutputs (s : State) : State :=
  let p := s.outputOn (s.objN 0x2040 1)
  let f := s.outputOn (s.objN 0x2040 3)
  let s1 := s.modTime fun t => { t with
    ppsOn := p, ref10On := f, nextSec := s.timeNs / 1000000000 + 1, ys := if t.st = 2 then (t.y :: t.ys).take 100 else t.ys }
  let s2 := if p then s1.emit (.pps (s.objN 0x2040 2) s.secondEdge) else s1
  if f = s.time.ref10On then s2 else s2.emit (.ref10 (b2n f) s.secondEdge)

/-- REF10_IN comes, with a rate against the reference, or goes; it sets the rate while no source is locked (R230), and a plain oscillator
without it has no holdover. -/
def State.ref10Change (s : State) (good : Bool) (rate : Int) : State :=
  let s1 := (s.modTime fun t => { t with ref10 := good, ref10Rate := rate, refRate := false }).ref10Rates
  if s1.time.st = 3 ∧ s1.holdRate.isNone then (s1.modTime fun t => { t with st := 0 }).bmca else s1

/-- An interval outside the range that the profile of an enabled port permits (R235). -/
def State.timeStartCodes (s : State) : List Nat :=
  let bad (p : Fin 2) : Bool := s.ptpProf p != 0 && (List.range 3).any fun i =>
    let r := Config.ptpRange (s.ptpProf p) i
    decide (s.obj 0x2002 (i + 1) < r.1) || decide (r.2 < s.obj 0x2002 (i + 1))
  when (bad 0 || bad 1) 0x0301

/-- A MAC has been started or stopped: its port takes part in time, or does not (R235). -/
def State.macTime (s : State) : State := if s.timeRuns then s.timeUpdate else s

/-- The time service starts: ports and source from nothing. -/
def State.timeStart (s : State) : State :=
  (s.modTime fun t => { t with nextSec := s.timeNs / 1000000000 + 1 }).timeUpdate

/-- The time service stops: the timescale runs on the last rate (R236). -/
def State.timeStop (s : State) : State :=
  (s.modTime fun t => { t with
    st := 0, src := 0, gnss := false, wofen := false, ppsGood := 0, ppsAt := none, ppsInt := 0, markGood := 0, markAt := none, markHi := none, markLo := none, stepDue := none, zda := none }).bmca

/-- Further checks of a write to `2.000` ... `2.100` (R236, R245): members that a Range column alone does not bound. -/
def timeCodes (s : State) (obj : Nat) (w : List (Nat × Int)) : List Nat :=
  let bad : Bool := match obj with
    | 0x2010 =>
      let l := (List.range 4).map fun i => ((w.find? fun x => x.1 == i + 1).map (·.2)).getD (s.obj 0x2010 (i + 1))
      let nz := l.filter (· ≠ 0)
      nz.eraseDups.length != nz.length
    | 0x2011 => w.any fun x => x.1 == 4 && !(([4800, 9600, 38400, 115200] : List Int).contains x.2)
    | 0x2100 => w.any fun x => x.1 == 3 && x.2 != 0 && decide (x.2 < 10)
    | _ => false
  when bad 0x0301

def execPpsInEdge (rising : Bool) (fine : Fin 256) (s : State) : Host.Outcome State Fault Refusal := .next (s.ppsEdge rising fine.val)
def execPpsMissing (s : State) : Host.Outcome State Fault Refusal := .next s.ppsMissing
def execZdaSentence (good : Bool) (utc : Nat) (s : State) : Host.Outcome State Fault Refusal := .next (s.zda good utc)
def execPtpMessageReceived (p : Fin 2) (m : PtpIn) (s : State) : Host.Outcome State Fault Refusal := .next (s.ptpRx p m.dom m.msg)
def execAnnounceTimeout (p : Fin 2) (s : State) : Host.Outcome State Fault Refusal := .next (s.announceTimeout p)
def execPtpTransmitInterval (p : Fin 2) (s : State) : Host.Outcome State Fault Refusal := .next (s.ptpTx p)
def execHoldoverBudgetExceeded (s : State) : Host.Outcome State Fault Refusal := .next s.holdoverEnd
def execRef10InChange (rate : Option Int) (s : State) : Host.Outcome State Fault Refusal :=
  .next (s.ref10Change rate.isSome (rate.getD 0))

/-- The timescale is set to a time in ns (R236). -/
def State.setTime (s : State) (ns : Nat) : State :=
  (s.setScale (ns * 2 ^ 33)).modTime fun t => { t with tod := true, nextSec := ns / 1000000000 + 1 }

/-- Set time: refused in RUN and while a source is locked (R236). -/
def execSetTime (r : Req) (ns : Nat) (s : State) : Host.Outcome State Fault Refusal :=
  .next (s.hostWrite r (entArg 0x2005 .u64 ns) (fun s => when (s.inRun || s.time.st == 2) 0x0601) (fun s => s.setTime ns) false)

/-- Start and stop of the time service (R235, R236). -/
def execTimeServiceStart (r : Req) (s : State) : Host.Outcome State Fault Refusal :=
  .next (s.hostWrite r (ent 0x2001 0 .bool 1) State.timeStartCodes State.timeStart false)
def execTimeServiceStop (r : Req) (s : State) : Host.Outcome State Fault Refusal :=
  .next (s.hostWrite r (ent 0x2001 0 .bool 0) (fun s => when (s.life.st != .config && s.life.st != .service) 0x0601) State.timeStop false)

end Sys2Proof.Machine
end

