-- ==== Sys2Proof/Machine/Wofen.lean ====
section
/-! DEFINITION. The Wofen trigger bus (R237 ... R245). -/

namespace Sys2Proof.Machine

def State.modWof (s : State) (f : Wofen → Wofen) : State := { s with wof := f s.wof }

/-- Address of the part on the bus (R245). -/
def State.busAddr (s : State) : Nat := s.objN 0x2100 2

/-- A packet of R238 without its mark bit: type, flags, sender and payload. -/
def wofenPkt (type fl addr pay : Nat) : Octets :=
  let body := oct [type * 16 + fl, addr] ++ toBE 3 pay
  oct [0x55, 0xD5] ++ body ++ toBE 1 (crc8 body)

/-- A packet is well formed (R238). -/
def wofenGood (o : Octets) : Bool :=
  o.length == 8 && octAt o 0 == 0x55 && octAt o 1 == 0xD5 && octAt o 3 < 64 && octAt o 7 == crc8 ((o.drop 2).take 5)

/-- Levels of the line in half bits, most significant bit first and the mark bit, a 1, last: a 1 is low then high, a 0 high then low
(R238). -/
def wofenLine (o : Octets) : List Bool :=
  (o.flatMap fun b => (List.range 8).flatMap fun i => if b.getLsbD (7 - i) then [false, true] else [true, false]) ++ [false, true]

/-- Send on WTB (0) or WTB_AUX (1), with the mark some periods ahead; the capture engine may record the packet (R256). -/
def State.wtb (s : State) (pair type fl pay : Nat) (ahead : Nat := 1032) : State :=
  let p := wofenPkt type fl s.busAddr pay
  (s.capNote 8 (pair + 2) (s.capNow + ahead * 163840) (fieldAt p 2 5 * 2 ^ 24 + 1)).emit (.wofen pair p (wofenLine p))

/-- Master frame events are on (R240). -/
def State.sendsFrames (s : State) : Bool := s.wof.role == 1 && s.obj 0x2100 4 == 1

/-- Capture time of a converter step: 640 units of 2^-16 ns each (R257). -/
def State.capAt (s : State) (t : Int) : Nat := ((s.capNow : Int) - ((s.now * 256 : Nat) - t) * 640).toNat

/-! ### The master's queue (R239)

A packet lasts 2.60 µs, and its mark falls 2.58 µs after its begin: 1,040 and 1,032 periods. -/

/-- A packet of low priority ends at least 0.5 µs before the next frame event or second mark begins. -/
def State.wtbFree (s : State) : Bool :=
  let nextNs := s.time.nextSec * 1000000000 - s.timeNs
  (!s.sendsFrames || decide (s.now + 1240 + 1032 ≤ s.wof.nextFrame)) && decide (3100 + 2580 ≤ nextNs)

/-- Ranks below frame events and second marks: pings and delay results, cycles, trigger relays, roll calls. -/
def wtbRank (type : Nat) : Nat := match type with | 5 => 3 | 6 => 3 | 2 => 4 | 4 => 5 | _ => 6

/-- A packet joins the queue, to be sent from a period on. -/
def State.wtbQueue (s : State) (type fl pay due : Nat) : State :=
  s.modWof fun w => { w with queue := w.queue ++ [{ prio := wtbRank type, type := type, fl := fl, pay := pay, due := due }] }

/-- The packet whose turn it is: of those that may go, the first of the highest rank. -/
def State.wtbPick (s : State) : Option WtbPkt :=
  (s.wof.queue.filter fun p => decide (p.due ≤ s.now)).foldl (fun b p => match b with
    | none => some p
    | some x => if p.prio < x.prio then some p else b) none

/-- A packet of the queue goes out: a cycle opens its windows, or none, at its mark; a ping is noted with its mark; and every part, the
master included, takes the mark of a relay as an occurrence (R239, R243, R264). -/
def State.wtbSend (s : State) (p : WtbPkt) : State :=
  let s1 := (s.wtb 0 p.type p.fl p.pay).modWof fun w => { w with queue := w.queue.erase p, lineFree := s.now + 1040 }
  match p.type with
  | 2 => s1.modWof fun w => { w with winAt := if bit p.fl 0 then none else some (s.now + 1032), open_ := [] }
  | 4 => (s1.bump 0x2110 8 1).modWof fun w => { w with marks := w.marks ++ [(s.now + 1032, bits p.pay 0 16)] }
  | 5 => s1.modWof fun w => { w with open_ := w.open_ ++ [(p.pay, (s.now + 1032) * 256)] }
  | _ => s1

/-- The next packet of the queue goes out where the line is free and no fixed packet is near. -/
def State.wtbDrain (s : State) : State :=
  if s.wof.role ≠ 1 ∨ s.now < s.wof.lineFree ∨ !s.wtbFree then s
  else match s.wtbPick with
    | some p => s.wtbSend p
    | none => s

/-- Relays whose mark is now. -/
def State.relayMarks (s : State) : State :=
  (s.wof.marks.filter fun m => decide (m.1 ≤ s.now)).foldl (fun s m => s.occur s.capNow (.relay m.2))
    (s.modWof fun w => { w with marks := w.marks.filter fun m => decide (s.now < m.1) })

/-! ### The master's packets -/

/-- Pings of one calibration cycle: up to 24, 10 µs apart, to members that lack deltas of the 64, with their periods (R243). -/
def State.pingPlan (s : State) : List (Nat × Nat) :=
  let want := s.wof.answers.map fun a => List.replicate (64 - (assocD ([] : List Int) s.wof.pings a).length) a
  ((want.flatten.take 24).zipIdx 1).map fun x => (x.1, s.now + x.2 * 10 * usP)

/-- A cycle of 250 µs; while a calibration runs every other one is a calibration cycle with pings (R239, R243). -/
def State.wofenCycle (s : State) : State :=
  if s.wof.role ≠ 1 ∨ s.now < s.wof.nextCyc then s
  else
    let n := (s.wof.cyc + 1) % 2 ^ 24
    let cal : Bool := s.wof.calRun.isSome && !s.wof.answers.isEmpty && s.wof.winAt.isSome
    let s1 := (s.wtbQueue 2 (b2n cal) n s.now).modWof fun w => { w with cyc := n, nextCyc := w.nextCyc + 250 * usP }
    (if cal then s.pingPlan.foldl (fun s (x : Nat × Nat) => s.wtbQueue 5 0 x.1 x.2) s1 else s1).wtbDrain

/-- A frame event (R240); the master's own frame follows 1 µs after its mark. -/
def State.frameEventSend (s : State) : State :=
  if !s.sendsFrames ∨ s.now < s.wof.nextFrame then s
  else
    let n := (s.wof.fseq + 1) % 2 ^ 24
    let s1 := ((s.wtb 0 1 0 n 0).bump 0x2110 7 1).modWof fun w => { w with
      fseq := n, nextFrame := w.nextFrame + s.objN 0x3010 0 * usP, onTimer := if s.obj 0x3020 1 = 2 then false else w.onTimer, lineFree := s.now + 8 }
    if s.obj 0x3020 1 = 2 then s1.frameTrigger (s.now + usP) else s1

/-- A second mark; every 16th carries seconds [47:24]; none within 3.2 µs of a frame event (R238, R239). -/
def State.secondMark (s : State) : State :=
  let p := s.objN 0x3010 0 * usP
  let near : Bool := s.sendsFrames && (decide (s.wof.nextFrame ≤ s.now + 1280) || decide (s.now + p < s.wof.nextFrame + 1280))
  if s.wof.role ≠ 1 ∨ near then s
  else
    let sec := s.timeNs / 1000000000
    let hi : Bool := s.wof.secs % 16 == 15
    let s1 := if hi then s.wtb 0 3 2 (sec / 2 ^ 24 % 2 ^ 24) 0 else s.wtb 0 3 0 (sec % 2 ^ 24) 0
    s1.modWof fun w => { w with secs := w.secs + 1, lineFree := s.now + 8 }

/-- The timescale passes a whole second (R233, R238). -/
def State.wholeSecond (s : State) : State :=
  if s.timeNs < s.time.nextSec * 1000000000 ∧ s.time.nextSec ≤ s.timeNs / 1000000000 + 1 then s
  else s.secondOutputs.secondMark.occNote (s.timeNs / 1000000000 * 1000000000 * 65536) .second

/-! ### Delay calibration (R243) -/

/-- A calibration starts with a roll call. -/
def State.calBegin (s : State) : State :=
  ((s.wtbQueue 7 0 0 s.now).modWof fun w => { w with calRun := some s.now, answers := [], pings := [], open_ := [], recalAt := none, winAt := none }).wtbDrain

/-- Median of a list, the lower of the two middle values. -/
def medianI (l : List Int) : Int := (sortBy (fun a b => decide (a ≤ b)) l).getD ((l.length - 1) / 2) 0

/-- One-way delay from the deltas, in steps: values more than 500 ps from the median are discarded (R243). -/
def State.busDelay (s : State) (l : List Int) : Nat :=
  let m := medianI l
  let k := l.filter fun x => decide ((x - m).natAbs ≤ 51)
  let n : Int := (k.length : Nat)
  let d := divRound (k.sum * 625 - 128 * n * s.obj 0x2100 5) (2 * n * 625)
  (clampI 0 (2 ^ 18 - 1 : Nat) d).toNat

/-- The result for one address: its word in `2.111`, the packet to the member and event 1506h on a change (R243). -/
def State.calAddr (s : State) (a : Nat) : State :=
  let old := s.objN 0x2111 (a + 1)
  let l := assocD ([] : List Int) s.wof.pings a
  if s.wof.answers.contains a ∧ l ≠ [] then
    let d := s.busDelay l
    let s1 := (s.setObj 0x2111 (a + 1) (2 ^ 31 + 2 ^ 30 + d : Nat)).wtbQueue 6 0 (a * 2 ^ 18 + d) s.now
    if bit old 30 ∧ 20 < ((d : Int) - (bits old 0 18 : Nat)).natAbs then s1.evt 0x1506 a else s1
  else if s.wof.answers.contains a then s.setObj 0x2111 (a + 1) (2 ^ 31 : Nat)
  else if bit old 31 then (s.setObj 0x2111 (a + 1) 0).evt 0x1506 a
  else s

/-- Presence of the addresses, as `2.110.02` and `2.110.03`. -/
def presentMask (l : List Nat) (lo : Nat) : Nat := ((List.range 32).filter fun i => l.contains (lo + i)).foldl (fun m i => m + 2 ^ i) 0

/-- The calibration ends when every answering member has its 64 deltas, or after 200 ms (R243). -/
def State.calEnd (s : State) : State :=
  match s.wof.calRun with
  | none => s
  | some t =>
    let full : Bool := s.wof.answers.all fun a => decide (64 ≤ (assocD ([] : List Int) s.wof.pings a).length)
    if s.wof.role ≠ 1 ∨ (!(full && decide (t + 500 * usP ≤ s.now)) && decide (s.now < t + 200 * msP)) then s
    else
      let s1 := (List.range 64).foldl (fun s a => s.calAddr a) s
      let n := (s.wof.answers.filter fun a => assocD ([] : List Int) s.wof.pings a ≠ []).length
      let iv := s.objN 0x2100 3
      let s2 := (s1.setObj 0x2110 2 (presentMask s.wof.answers 0)).setObj 0x2110 3 (presentMask s.wof.answers 32)
      (((s2.modWof fun w => { w with calRun := none, open_ := [], calAt := s.now, calOk := true, recalAt := if iv = 0 then none else some (s.now + iv * secP) }).wtbDrain.evt 0x0503 n).evt 0x0B03 3).commandDone 0x2102

/-- The bus starts in its role (R245); a master calibrates within 1 s of CONFIG (R243). -/
def State.busStart (s : State) : State :=
  let r := s.objN 0x2100 1
  s.modWof fun w => { w with
    role := r, nextCyc := s.now, nextFrame := s.now, secs := 0, silentAt := s.now, recalAt := if r = 1 then some s.now else none, calRun := none, answers := []
    pings := [], open_ := [], winAt := none, reqs := [], queue := [], lineFree := s.now, marks := [], answerDue := false, calOk := decide (r = 1), delay := 0, delayNew := none }

/-- The bus stops, and with it the second marks as a source. -/
def State.busStop (s : State) : State :=
  ((s.modWof fun w => { w with role := 0, calRun := none, winAt := none, reqs := [], queue := [], marks := [], answerDue := false, calOk := false, delay := 0, delayNew := none }).modTime
    fun t => { t with wofen := false, markGood := 0, markAt := none, markHi := none, markLo := none }).timeUpdate.sourceLost (s.objN 0xA012 4 == 1)

/-! ### Packets received -/

/-- Seconds [23:0] of a mark: carried, or, with the high bits in their place, counted on from the mark `k` seconds before (R238). -/
def State.markLow (s : State) (hi : Bool) (pay k : Nat) (near : Int) : Nat :=
  if !hi then pay
  else match s.time.markLo with
    | some l => (l + k) % 2 ^ 24
    | none => (near % (2 ^ 24 : Nat)).toNat

/-- Seconds [47:24] at a mark that carries the low bits: as last received, one more where the low bits have wrapped since (R238). -/
def State.markHigh (s : State) (pay : Nat) : Option Nat :=
  match s.time.markHi, s.time.markLo with
  | some h, some l => some (if pay < l then h + 1 else h)
  | h, _ => h

/-- A mark on a whole second of the master's timescale (R230, R238). -/
def State.markRx (s : State) (fl pay : Nat) (t : Int) : State :=
  if !s.timeRuns then s
  else
    let ns : Int := (s.timeNs : Int) - divRound (((s.now * 256 : Nat) - t) * 625) 64000
    let near : Int := (ns + 500000000) / 1000000000
    let tn := t.toNat
    let k := match s.time.markAt with
      | none => 0
      | some t0 => (tn - t0 + secP * 128) / (secP * 256)
    let low : Nat := s.markLow (bit fl 1) pay k near
    let high : Option Nat := if bit fl 1 then some pay else s.markHigh pay
    let sec : Int := (high.map fun h => ((h : Int))).getD (near / (2 ^ 24 : Nat)) * (2 ^ 24 : Nat) + low
    let rate : Int := match s.time.markAt with
      | some t0 => if k = 0 then s.time.rate else measureRate (k * secP * 256 : Nat) ((tn : Int) - t0)
      | none => s.time.rate
    let n := if k = 1 then s.time.markGood + 1 else 1
    let s1 := if 2 ≤ k then s.bump 0x2110 9 (k - 1) else s
    let s2 := (s1.modTime fun x => { x with
      markGood := n, markAt := some tn, markHi := high, markLo := some low, wofen := (x.wofen && decide (k ≤ 3)) || decide (4 ≤ n) }).timeUpdate
    if s2.time.src = 4 then s2.discipline (ns - sec * 1000000000) rate else s2

/-- A packet from WTB at a member or standby master, at bus instant `t` in converter steps. -/
def State.memberRx (s : State) (type fl pay : Nat) (t : Int) : State :=
  match type with
  | 1 =>
    let s1 := s.bump 0x2110 7 1
    if s.obj 0x3020 1 = 2 then
      let g := (t + 255) / 256   -- the first period of the grid at or after the bus instant
      (s1.modWof fun w => { w with onTimer := false }).frameTrigger (g + usP).toNat (g * 256 - t).toNat
    else s1
  | 2 => s.modWof fun w => { w with winAt := if bit fl 0 then none else some s.now }
  | 3 => s.markRx fl pay t
  | 4 => s.occur (s.capAt t) (.relay (bits pay 0 16))
  | 5 => if bits pay 0 6 = s.busAddr then s.wtb 1 9 0 (6 * usP * 256) (6 * usP) else s
  | 6 => if bits pay 18 6 = s.busAddr then s.modWof fun w => { w with delayNew := some (bits pay 0 18) } else s
  | 7 => s.modWof fun w => { w with answerDue := true }
  | _ => s

/-- A packet from WTB_AUX at the master. -/
def State.masterRx (s : State) (type addr pay fine : Nat) : State :=
  match type with
  | 8 => (s.wtbQueue 4 0 (addr * 2 ^ 18 + bits pay 0 16) s.now).wtbDrain
  | 9 =>
    let now := s.steps fine
    match (s.wof.open_.reverse.find? fun x => x.1 == addr && decide (x.2 ≤ now)) with
    | some x =>
      let dl : Int := ((now : Int) - (x.2 : Nat)) - (pay : Nat)
      let l := assocD ([] : List Int) s.wof.pings addr
      s.modWof fun w => { w with
        pings := if l.length < 64 then assocPut w.pings addr (dl :: l) else w.pings, open_ := w.open_.filter fun y => !(y == x) }
    | none => s
  | 10 => if s.wof.calRun.isSome ∧ !s.wof.answers.contains addr then s.modWof fun w => { w with answers := w.answers ++ [addr] } else s
  | _ => s

/-- A packet whose CRC fails: counted; in a window of a roll call it is a collision of two answers (R238, R243). -/
def State.wofenBad (s : State) (aux : Bool) : State :=
  let s1 := s.bump 0x2110 6 1
  match s.wof.winAt with
  | some w =>
    if aux ∧ s.wof.role = 1 ∧ s.wof.calRun.isSome ∧ s.wof.answers.length < 64 ∧ w + 20 * usP ≤ s.now ∧ s.now < w + 244 * usP then
      s1.evt 0x2502 ((s.now - w - 20 * usP) / 1400)
    else s1
  | none => s1

/-- The master found another: it becomes a member (R244). -/
def State.wofenYield (s : State) (addr : Nat) : State :=
  let s1 := (s.modWof fun w => { w with role := 2, calOk := false, delay := 0, delayNew := none, calRun := none, queue := [], recalAt := none, open_ := [] }).evt 0x2501 addr
  if s.wof.calRun.isSome then s1.commandDone 0x2102 else s1

/-- A packet is received and its mark stamped (R237 ... R244). -/
def State.wofenRx (s : State) (aux : Bool) (o : Octets) (raw : Nat) : State :=
  if s.wof.role = 0 then s
  else if !wofenGood o then
    (s.capNote 8 (b2n aux) (s.capAt ((s.steps (s.pairSteps (if aux then 1 else 0) raw) : Int) - s.wof.delay)) (fieldAt o 2 5 * 2 ^ 24)).wofenBad aux
  else
    let type := octAt o 2 / 16
    let fl := octAt o 2 % 16
    let addr := octAt o 3
    let pay := fieldAt o 4 3
    let fine := s.pairSteps (if aux then 1 else 0) raw
    let s := s.capNote 8 (b2n aux) (s.capAt ((s.steps fine : Int) - s.wof.delay)) (fieldAt o 2 5 * 2 ^ 24 + 1)
    if aux then (if s.wof.role = 1 then s.masterRx type addr pay fine else s)
    else if s.wof.role = 1 ∧ (addr = s.busAddr ∨ s.busAddr < addr ∨ type = 0 ∨ 7 < type) then s
    else
      let s1 := if s.wof.role = 1 then s.wofenYield addr else s
      (s1.modWof fun w => { w with silentAt := s.now }).memberRx type fl pay ((s1.steps fine : Int) - (s1.wof.delay : Nat))

/-! ### Members -/

/-- The window of the part opens: it sends at most one packet (R239). -/
def State.wofenWindow (s : State) : State :=
  match s.wof.winAt with
  | none => s
  | some m =>
    let a := m + 20 * usP + s.busAddr * 1400
    if s.wof.role < 2 ∨ s.now < a then s
    else
      let s1 := s.modWof fun w => { w with winAt := none }
      if a + 1400 ≤ s.now then s1
      else match s.wof.reqs with
        | c :: rest => (s1.wtb 1 8 0 c).modWof fun w => { w with reqs := rest }
        | [] => if s.wof.answerDue then (s1.wtb 1 10 0 (Config.deviceId % 2 ^ 24)).modWof fun w => { w with answerDue := false } else s1

/-- No frame event has started a frame for two periods (R241). -/
def State.frameEventLoss (s : State) : State :=
  if s.frm.active ∧ s.obj 0x3020 1 = 2 ∧ !s.wof.onTimer ∧ s.frm.start + 2 * s.objN 0x3010 0 * usP ≤ s.now then
    ((s.modWof fun w => { w with onTimer := true }).modFrm fun f => { f with nextTimer := s.now }).evt 0x1505 0
  else s

/-- WTB has been silent for 2 ms: a standby master takes over, and delays no longer hold (R244). -/
def State.wtbSilence (s : State) : State :=
  if s.wof.role < 2 ∨ s.now < s.wof.silentAt + 2 * msP then s
  else
    let s1 := (s.modWof fun w => { w with calOk := false, delay := 0, delayNew := none, silentAt := s.now })
    if s.wof.role = 3 then
      (s1.modWof fun w => { w with
        role := 1, calOk := true, nextCyc := s.now, nextFrame := s.now, secs := 0, reqs := [], lineFree := s.now
        queue := w.reqs.map fun c => { prio := 5, type := 4, fl := 0, pay := s.busAddr * 2 ^ 18 + c, due := s.now } }).calBegin
    else s1

/-- Three expected second marks are absent (R230). -/
def State.markLoss (s : State) : State :=
  match s.time.markAt with
  | none => s
  | some t0 =>
    if t0 + 3 * secP * 256 + us256 < s.steps 0 then
      ((s.bump 0x2110 9 3).modTime fun t => { t with wofen := false, markGood := 0, markAt := none }).timeUpdate
    else s

def execWholeSecond (s : State) : Host.Outcome State Fault Refusal := .next s.wholeSecond
def execWofenSecondMarkLoss (s : State) : Host.Outcome State Fault Refusal := .next s.markLoss
def execWofenCycle (s : State) : Host.Outcome State Fault Refusal := .next s.wofenCycle
def execWofenFrameEventSend (s : State) : Host.Outcome State Fault Refusal := .next s.frameEventSend
def execWofenPacketReceived (aux : Bool) (pkt : Octets) (raw : Nat) (s : State) : Host.Outcome State Fault Refusal :=
  .next (s.wofenRx aux pkt raw)
def execWofenWindow (s : State) : Host.Outcome State Fault Refusal := .next s.wofenWindow
def execWofenFrameEventLoss (s : State) : Host.Outcome State Fault Refusal := .next s.frameEventLoss
def execWtbSilence (s : State) : Host.Outcome State Fault Refusal := .next s.wtbSilence

/-- The command to `2.102`: a master only; its end is event 0503h (R245). -/
def execBusCalibration (r : Req) (arg : Nat) (s : State) : Host.Outcome State Fault Refusal :=
  .next (s.hostWrite r (entArg 0x2102 .u8 arg) (fun s => when (s.wof.role != 1) 0x0601 ++ when s.wof.calRun.isSome 0x0701) State.calBegin true)

/-- The recalibration interval has elapsed, or the master has entered CONFIG (R243). -/
def execBusRecalibrationTimer (s : State) : Host.Outcome State Fault Refusal :=
  .next (match s.wof.recalAt with
    | some t => if s.wof.role = 1 ∧ t ≤ s.now then s.calBegin else s
    | none => s)

def execBusCalibrationDone (s : State) : Host.Outcome State Fault Refusal := .next s.calEnd

/-- Start and stop of the bus (R245). -/
def execTriggerBusStart (r : Req) (s : State) : Host.Outcome State Fault Refusal :=
  .next (s.hostWrite r (ent 0x2101 0 .bool 1) (fun _ => []) State.busStart false)
def execTriggerBusStop (r : Req) (s : State) : Host.Outcome State Fault Refusal :=
  .next (s.hostWrite r (ent 0x2101 0 .bool 0) (fun s => when (s.inRun && s.obj 0x3020 1 == 2) 0x0601) State.busStop false)

end Sys2Proof.Machine
end

