-- ==== Sys2Proof/Machine/DieLink.lean ====
section
/-! DEFINITION. The die-to-die interface, the Anchor die's enable-lane rule, HALTED, and the Quadrant watchdogs (R20 ... R23, R27). -/

namespace Sys2Proof.Machine

def State.modDie (s : State) (f : Die → Die) : State := { s with die := f s.die }

/-- Frames end without a Landing: the running frame is dropped, and every Quadrant waits for the next entry. -/
def State.framesDown (s : State) : State :=
  let s1 := if s.frm.running then s.dropFrame else s
  let s2 := s1.modFrm fun f => { f with active := false, running := false, aborted := false, want := none, wantHeld := false, landUntil := s.now }
  let s3 := forQuads s2 fun s q => s.modQuad q fun qd => { qd.atStop with cru := qd.cru.discardFrame fun _ => true, shots := [], visit := none }
  let s4 := if s3.life.stopReq then { s3 with life := { s3.life with stopReq := false } }.commandDone 0x3000 else s3
  s4.readmitDropAll

/-- Steering, bias, chargers and emission off, as HALTED and the Quench leave them (R22, R383). -/
def State.drivesDown (s : State) : State :=
  let s1 := if s.steer.running then (s.setObj 0x6001 0 0).steeringOff else s
  ({ s1 with forge := { s1.forge with heldOff := true } }).emissionOff

/-- A self-test that HALTED cuts short is over: the Pilot serves the ports, and the links named by their run objects start (R406, R412). -/
def State.testCut (s : State) : State :=
  if s.life.phase = .selfTest then
    ([0, 1] : List (Fin 2)).foldl (fun s l => if s.obj (lkRun l) 0 = 1 then s.linkStart l else s) { s with life := { s.life with phase := .done } }
  else s

/-- HALTED: Pilot, ports and links only (R406). Only a power cycle leaves it (R22). -/
def State.halt (s : State) : State :=
  if s.life.st = .halted then s
  else
    let s1 := (s.framesDown.drivesDown).capStop
    ((if s1.wof.role = 0 then s1 else (s1.setObj 0x2101 0 0).busStop).goto .halted).testCut

/-- The packet link is in use: from SELFTEST on. -/
def State.dieUp (s : State) : Bool :=
  (s.life.st == .selftest || s.fromConfig) && s.life.phase != .loading && !s.die.failed

/-- Die-to-die link fault (R22). -/
def State.dieFault (s : State) : State :=
  if s.die.failed then s
  else
    let s1 := ((s.modDie fun d => { d with failed := true, sinksOn := false, flits := [] }).setObj 0xF010 3 2).evtFree 0x3020
    s1.halt.lockout 6

/-- A flit is to be sent again, or is lost after its third retry (R20, R22, R23). -/
def State.flitRetry (s : State) (flit : Nat) : State :=
  let n := assocD 0 s.die.flits flit
  if 3 ≤ n then s.dieFault
  else
    let s1 := s.modDie fun d => { d with flits := assocPut d.flits flit (n + 1), retriedSec := if n = 0 then d.retriedSec + 1 else d.retriedSec }
    if n = 0 then s1.bump 0xF010 1 1 else s1

/-- A flit arrives (R20). -/
def State.flitReceived (s : State) (flit : Nat) (good : Bool) : State :=
  if !s.dieUp then s
  else if good then s.modDie fun d => { d with validAt := s.now, flits := AMap.del d.flits flit }
  else (s.bump 0xF010 2 1).flitRetry flit

/-- A second of the retry count ends (R23). -/
def State.flitSecond (s : State) : State :=
  if !s.dieUp ∨ s.now / secP ≤ s.die.secNo then s
  else
    let beyond : Bool := 1000 < s.die.retriedSec
    let s1 := (s.modDie fun d => { d with retriedSec := 0, secNo := s.now / secP }).setObj 0xF010 3 (b2n beyond)
    if beyond then s1.evtFree 0x2020 else s1

/-- A lane toggles: the emission lane by the governor, the others by the evaluators (R20). -/
def State.laneToggles (s : State) (lane : Fin 3) : Bool := if lane = 0 then s.gov.enable else bit s.isl.lanes lane.val

/-- The Anchor die sees a lane stopped for 8 µs: it opens the sinks or the switches of that side (R21); a lane that its owner keeps
toggling is at fault, which is counted, and the island locks out (R350). -/
def State.laneStopped (s : State) (lane : Fin 3) : State :=
  let fault := s.laneToggles lane
  let s1 := s.modDie fun d => { d with stopped := setBit d.stopped lane.val, sinksOn := d.sinksOn && lane != 0 }
  let s2 := if lane = 0 then s1 else s1.sideOff lane.val
  if fault ∧ s.dieUp then (s2.bump 0xF010 4 1).lockout 15 else s2

/-- An on-command on its way reaches the Anchor die: it restores the sinks, or the switches of a side, only while that lane toggles
(R21). Both outputs carry current once the switches of both sides are restored (R348); a low VDD_HV keeps them open (R437). -/
def State.anchorOn (s : State) (lane : Fin 3) : State :=
  if !s.dieUp ∨ !bit s.die.onCmd lane.val then s
  else
    let s1 := s.modDie fun d => { d with onCmd := clrBit d.onCmd lane.val }
    if !s.laneToggles lane then s1
    else
      let s2 := s1.modDie fun d => { d with stopped := clrBit d.stopped lane.val, sinksOn := d.sinksOn || lane == 0 }
      if lane ≠ 0 ∧ !bit s2.die.stopped 1 ∧ !bit s2.die.stopped 2 ∧ s2.isl.lanes = 6 ∧ !s2.die.hvLow then
        s2.modIsl fun i => { i with outA := true, outB := true }
      else s2

/-- A Quadrant watchdog expires (R27). -/
def State.quadWatchdog (s : State) (q : Fin 4) : State := ((s.satBump 0xF020 (1 + q.val) 65535 1).evtFree 0x2031).quadMismatch q 2

/-- Lanes of a Quadrant that have held their channel-cell for 50 µs (R27, R177). -/
def State.lanesDue (s : State) (q : Fin 4) : List (Nat × Lane) := (s.cru q).lanes.filter fun l => decide (l.2.since + 50 * usP ≤ s.now)

/-- The context watchdog of the Crucible and the echo engine: whatever has become of the Quadrant meanwhile, it faults, and the frames of
the contexts that are not done are discarded, so that nothing waits for them any further. -/
def State.ctxWatchdog (s : State) (q : Fin 4) : State :=
  let frames := (s.lanesDue q).map fun l => l.2.frame
  if frames.isEmpty then s
  else
    let s1 := (s.quadWatchdog q).modCru q fun k => k.discardFrame fun f => frames.contains f
    (s1.notLive q fun f => frames.contains f).closeAllFrames

def execFlitAckTimeout (flit : Nat) (s : State) : Host.Outcome State Fault Refusal := .next (if s.dieUp then s.flitRetry flit else s)
def execFlitReceived (flit : Nat) (good : Bool) (s : State) : Host.Outcome State Fault Refusal := .next (s.flitReceived flit good)

/-- No valid flit for 100 µs (R22). -/
def execDieLinkSilence (s : State) : Host.Outcome State Fault Refusal :=
  .next (if s.dieUp ∧ s.die.validAt + 100 * usP ≤ s.now then s.dieFault else s)
def execFlitRetryRateSecond (s : State) : Host.Outcome State Fault Refusal := .next s.flitSecond
def execEnableLaneStopped (lane : Fin 3) (s : State) : Host.Outcome State Fault Refusal := .next (s.laneStopped lane)
def execAnchorOnCommand (lane : Fin 3) (s : State) : Host.Outcome State Fault Refusal := .next (s.anchorOn lane)
def execQuadrantPipelineWatchdog (q : Fin 4) (s : State) : Host.Outcome State Fault Refusal :=
  .next (if s.inRun ∧ (s.quad q).fires then s.quadWatchdog q else s)

end Sys2Proof.Machine
end

