-- ==== Sys2Proof/Machine/Fleet.lean ====
section
/-! DEFINITION. Fleet code domains: the reference's table, joins, grants and renewals (R246 ... R251). -/

namespace Sys2Proof.Machine

def State.modFleet (s : State) (f : Fleet → Fleet) : State := { s with fleet := f s.fleet }

/-- The part is the reference of a domain (R246). -/
def State.isReference (s : State) : Bool := s.obj 0x2210 1 != 0 && s.obj 0x2210 2 == 1

/-- The seed of an index: S_D × (2 × index + 1) mod 2^48 (R248). -/
def State.fleetSeed (s : State) (i : Nat) : Nat := (s.objN 0x2210 7 + s.objN 0x2210 8 * 2 ^ 32) * (2 * i + 1) % 2 ^ 48

/-- The grant of R247. -/
def grantOctets (dom ident index seed mins status : Nat) : Octets :=
  toBE 4 dom ++ toBE 8 ident ++ toBE 2 index ++ toBE 6 seed ++ toBE 2 mins ++ toBE 1 status ++ [0]

/-- The join request of R247. -/
def joinOctets (dom ident prev flags : Nat) : Octets := toBE 4 dom ++ toBE 8 ident ++ toBE 2 prev ++ toBE 2 flags

/-- The row that an identity holds. -/
def State.heldBy (s : State) (ident : Nat) : Option FleetRow := s.nv.fleetRows.find? fun x => x.held && x.ident == ident

/-- An index that nobody holds. -/
def State.indexFree (s : State) (i : Nat) : Bool := i < 1024 && !(s.nv.fleetRows.any fun x => x.held && x.index == i)

/-- The index the rule of R248 assigns, and its status; none when the domain is full. -/
def State.assign (s : State) (ident prev : Nat) (renew : Bool) : Option (Nat × Nat) :=
  match s.heldBy ident with
  | some x => some (x.index, b2n renew)
  | none =>
    if s.indexFree prev then some (prev, 0)
    else ((List.range 1024).find? fun i => s.indexFree i).map fun i => (i, 0)

/-- Put a row into the table, in the order of the indices. -/
def putRow (l : List FleetRow) (x : FleetRow) : List FleetRow :=
  insBy (fun a b => decide (a.index ≤ b.index)) x (l.filter fun y => y.index ≠ x.index)

def State.setRows (s : State) (l : List FleetRow) : State := { s with nv := { s.nv with fleetRows := l } }

/-- The reference serves a request: the table after it, and the grant it answers with (R248). -/
def State.fleetServe (s : State) (dom ident prev flags : Nat) : State × Octets :=
  if dom ≠ s.objN 0x2210 1 then (s.bump 0x2230 2 1, grantOctets dom ident 0xFFFF 0 0 3)
  else if bit flags 1 then
    match s.heldBy ident with
    | some x => (s.setRows (putRow s.nv.fleetRows { x with held := false, released := true }), grantOctets dom ident x.index 0 0 4)
    | none => (s, grantOctets dom ident 0xFFFF 0 0 4)
  else match s.assign ident prev (bit flags 0) with
    | none => (s.bump 0x2230 2 1, grantOctets dom ident 0xFFFF 0 0 2)
    | some (i, st) =>
      let h := s.objN 0x2210 6
      let row : FleetRow := { index := i, ident := ident, lease := s.now + h * 3600 * secP, held := true, released := false }
      (s.setRows (putRow s.nv.fleetRows row), grantOctets dom ident i (s.fleetSeed i) (h * 60) st)

/-! ### Members -/

/-- The index and seed now in use, or to be used at the next entry to RUN. -/
def State.fleetNow (s : State) : Nat × Nat := (s.objN 0x2200 1, s.objN 0x3250 1 + s.objN 0x3250 2 * 2 ^ 32)

/-- The pair held for the next entry to RUN, or none, with the pending index of `2.200.02` (R249, R251). -/
def State.holdPair (s : State) (p : Option (Nat × Nat)) : State :=
  (s.modFleet fun f => { f with pend := p }).setObj 0x2200 2 (((p.map (·.1)).getD 0xFFFF : Nat))

/-- Load an index and seed; nothing is pending any more (R249). -/
def State.fleetLoad (s : State) (i seed : Nat) : State :=
  (((s.setObj 0x2200 1 i).setObj 0x3250 1 (seed % 2 ^ 32 : Nat)).setObj 0x3250 2 (seed / 2 ^ 32 : Nat)).holdPair none

def State.fleetState (s : State) (st : Nat) : State := (s.modFleet fun f => { f with st := st }).setObj 0x2200 3 st

/-- A grant that the member accepts (R249). -/
def State.grantAccept (s : State) (o : Octets) : State :=
  let i := fieldAt o 12 2
  let seed := fieldAt o 14 6
  let mins := fieldAt o 20 2
  let status := octAt o 22
  if status ≤ 1 then
    let s1 := s.modFleet fun f => { f with
      asked := false, lease := some (s.now + mins * 60 * secP), leaseLen := mins, renewAt := s.now + mins * 30 * secP }
    let s2 := { s1 with nv := { s1.nv with fleet := some (i, seed) } }
    let s3 := if status = 0 then (s2.evt 0x0504 i).evt 0x0B03 2 else s2
    if !s.inRun then (s3.fleetLoad i seed).fleetState 2
    else if s.fleetNow = (i, seed) then (s3.holdPair none).fleetState 2
    else if s.fleet.pend = some (i, seed) then s3
    else ((s3.holdPair (some (i, seed))).fleetState 5).evt 0x6501 i
  else if status = 4 then
    ((s.modFleet fun f => { f with asked := false, lease := none }).holdPair none).fleetState 0
  else
    let s1 := (s.modFleet fun f => { f with lease := none }).holdPair (if s.inRun then some (0, s.fleetNow.2) else none)
    let s2 := if s.inRun then s1 else s1.setObj 0x2200 1 0
    (s2.fleetState 4).evt 0x1508 status

/-- The MAC whose subnet in `1.021` holds an IPv4 address, or MAC 0 (R246). -/
def State.macFor (s : State) (addr : Nat) : Nat :=
  let in_ (m : Nat) : Bool := addr &&& s.objN 0x1021 (2 * m + 2) == s.objN 0x1021 (2 * m + 1) &&& s.objN 0x1021 (2 * m + 2)
  if in_ 0 then 0 else if in_ 1 then 1 else 0

/-- A Torvip command (7) or write (2) of a BLOB to another part's object, with master identity `2.210.05`, to its Torvip port (R64, R67, R70,
R247); its transaction identity is the part's own counter (log entry 74). -/
def State.fleetMsg (s : State) (kind addr obj : Nat) (o : Octets) : Out :=
  let body := toBE 1 (obj / 4096 * 16 + obj / 256 % 16) ++ toBE 1 (obj % 256) ++ [0, 0x0C] ++ o
  .udp (s.macFor addr) (s.objN 0x1020 1) (addr * 65536 + s.objN 0x1020 1) (torvipMsg kind (s.objN 0x2210 5) s.fleet.txn 0 body)

/-- Such a message leaves, unless its MAC is stopped (R81). -/
def State.fleetSend (s : State) (kind addr obj : Nat) (o : Octets) : State :=
  if !s.portSends (2 + s.macFor addr) then s
  else (s.modFleet fun f => { f with txn := (f.txn + 1) % 2 ^ 32 }).emit (s.fleetMsg kind addr obj o)

/-- Send a request to the reference; the reference serves itself (R246, R247, R249). -/
def State.fleetAsk (s : State) (flags : Nat) : State :=
  let dom := s.objN 0x2210 1
  let prev := match s.nv.fleet with | some x => x.1 | none => 0xFFFF
  let s1 := s.modFleet fun f => { f with asked := flags != 2, askAt := s.now }
  if s.isReference then
    let r := s1.fleetServe dom Config.deviceId prev flags
    r.1.grantAccept r.2
  else s1.fleetSend 7 (s.objN 0x2210 3) 0x2220 (joinOctets dom Config.deviceId prev flags)

/-- CONFIG is entered, or a write puts the part in a domain: it joins (R249). -/
def State.fleetStart (s : State) : State :=
  if s.obj 0x2210 1 = 0 then s else ((s.modFleet fun f => { f with lease := none }).fleetState 1).fleetAsk 0

/-- CONFIG is entered again: a member in a domain sends a join, and keeps the lease it holds (R249). -/
def State.fleetConfig (s : State) : State :=
  if s.obj 0x2210 1 = 0 then s else (if s.fleet.lease.isNone then s.fleetState 1 else s).fleetAsk 0

/-- A join once a second until there is a grant (R249). -/
def State.fleetRetry (s : State) : State :=
  if s.obj 0x2210 1 ≠ 0 ∧ s.fromConfig ∧ s.fleet.lease.isNone ∧ (s.fleet.st = 1 ∨ s.fleet.st = 3 ∨ s.fleet.st = 4) ∧ s.fleet.askAt + secP ≤ s.now then
    s.fleetAsk 0
  else s

/-- A renewal at half the lease, then every 60 s (R248, R250). -/
def State.fleetRenew (s : State) : State :=
  if s.obj 0x2210 1 ≠ 0 ∧ s.fromConfig ∧ s.fleet.lease.isSome ∧ s.fleet.renewAt ≤ s.now then
    (s.modFleet fun f => { f with renewAt := s.now + 60 * secP }).fleetAsk 1
  else s

/-- Wait refuses the entry to RUN until a grant arrives (R249). -/
def State.fleetRunCodes (s : State) : List Nat :=
  when (s.obj 0x2210 1 != 0 && s.obj 0x2210 4 == 0 && (s.fleet.st == 0 || s.fleet.st == 1 || s.fleet.st == 4)) 0x0601

/-- Entry to RUN: a pending change takes effect; without a grant the start policy decides (R249). -/
def State.fleetRunEnter (s : State) : State :=
  if s.obj 0x2210 1 = 0 then s.setObj 0x2200 1 0
  else match s.fleet.pend with
    | some (i, seed) =>
      let s1 := s.fleetLoad i seed
      if s.fleet.st = 5 then s1.fleetState 2 else s1
    | none =>
      if s.fleet.st = 2 then s
      else if s.fleet.st = 4 then s.setObj 0x2200 1 0
      else if s.obj 0x2210 4 = 1 then
        let s1 := match s.nv.fleet with
          | some (i, seed) => s.fleetLoad i seed
          | none => s.setObj 0x2200 1 0
        (s1.fleetState 3).evt 0x1507 (s1.objN 0x2200 1)
      else s.setObj 0x2200 1 0

/-- The release sent on leaving a domain goes to the reference of before, under the master identity of before. -/
def State.fleetRelease (s old : State) : State :=
  let t := (old.fleetSend 7 (old.objN 0x2210 3) 0x2220 (joinOctets (old.objN 0x2210 1) Config.deviceId (old.objN 0x2200 1) 2))
  { s with out := s.out ++ t.out.drop old.out.length, fleet := { s.fleet with txn := t.fleet.txn } }

/-- A write to `2.210` takes effect at once (R251): a part that leaves a domain releases its index, one put in a domain joins. -/
def State.domainEff (old : State) (s : State) : State :=
  let was := old.objN 0x2210 1
  let now := s.objN 0x2210 1
  let left : Bool := was != 0 && (now != was || s.obj 0x2210 3 != old.obj 0x2210 3) && old.fleet.lease.isSome && !old.isReference
  let s1 := if left then s.fleetRelease old else s
  if now = 0 then
    if was = 0 then s1
    else (((s1.modFleet fun f => { f with asked := false, lease := none }).holdPair none).fleetState 0).setObj 0x2200 1 0
  else if now ≠ was ∨ s.obj 0x2210 3 ≠ old.obj 0x2210 3 ∨ s.isReference ≠ old.isReference then (s1.holdPair none).fleetStart
  else s1

/-- Checks of a write to `2.210` of its own (R251): the seed is odd, and acquisition is stopped. -/
def State.domainCodes (s : State) (w : List (Nat × Int)) : List Nat :=
  when (w.any fun x => x.1 == 7 && x.2 % 2 == 0) 0x0301 ++ when s.inRun 0x0401

/-- Checks of a grant (R247). The source of a datagram is its IPv4 address × 65,536 plus its port. -/
def State.grantCodes (s : State) (r : Req) (o : Octets) : List Nat :=
  let ok := (r.port == 2 || r.port == 3) && r.src / 65536 == s.objN 0x2210 3 && r.master == s.objN 0x2210 5
    && fieldAt o 0 4 == s.objN 0x2210 1 && s.obj 0x2210 1 != 0 && fieldAt o 4 8 == Config.deviceId
    && (s.fleet.asked || s.fleet.lease.isSome)
  when (!ok) 0x0601

/-- A request at the reference's `2.220`: the answer is a grant written to the sender (R247, R248). -/
def State.fleetRequest (s : State) (r : Req) (o : Octets) : State :=
  let x := s.fleetServe (fieldAt o 0 4) (fieldAt o 4 8) (fieldAt o 12 2) (fieldAt o 14 2)
  x.1.fleetSend 2 (r.src / 65536) 0x2201 x.2

/-- A write to `2.220` (R251). -/
def State.fleetWrite (s : State) (r : Req) (o : Octets) : State :=
  s.hostWrite r (entBlob 0x2220 o) (fun s => when (!s.isReference) 0x0601) (fun s => s.fleetRequest r o) false

def execFleetJoin (r : Req) (dom ident prev : Nat) (s : State) : Host.Outcome State Fault Refusal := .next (s.fleetWrite r (joinOctets dom ident prev 0))
def execFleetRenew (r : Req) (dom ident prev : Nat) (s : State) : Host.Outcome State Fault Refusal := .next (s.fleetWrite r (joinOctets dom ident prev 1))
def execFleetRelease (r : Req) (dom ident prev : Nat) (s : State) : Host.Outcome State Fault Refusal :=
  .next (s.fleetWrite r (joinOctets dom ident prev 2))
def execFleetGrant (r : Req) (grant : Octets) (s : State) : Host.Outcome State Fault Refusal :=
  .next (s.hostWrite r (entBlob 0x2201 grant) (fun s => s.grantCodes r grant) (fun s => s.grantAccept grant) false)
def execFleetJoinRetry (s : State) : Host.Outcome State Fault Refusal := .next s.fleetRetry
def execFleetRenewTimer (s : State) : Host.Outcome State Fault Refusal := .next s.fleetRenew

/-- An index not renewed is free 1 h after its lease ends (R248). -/
def execFleetIndexExpiry (i : Fin 1024) (s : State) : Host.Outcome State Fault Refusal :=
  .next (match s.nv.fleetRows.find? fun x => x.held && x.index == i.val with
    | some x => if s.isReference ∧ x.lease + 3600 * secP ≤ s.now then
        (s.setRows (putRow s.nv.fleetRows { x with held := false })).bump 0x2230 3 1 else s
    | none => s)

/-- A write to `2.210` (R251). -/
def execFleetDomainWrite (r : Req) (el ty : Nat) (val : Octets) (s : State) : Host.Outcome State Fault Refusal :=
  let e : Entry := { obj := 0x2210, el := el, ty := ty, val := val }
  .next (s.hostWrite r e (fun s => match Catalogue.find 0x2210 with | some row => s.domainCodes (written row el val) | none => [])
    (fun t => State.domainEff s t) false)

end Sys2Proof.Machine
end

