-- ==== Sys2Proof/Machine/Plovivo.lean ====
section
/-! DEFINITION. The Plovivo safety layer: connections, acceptance, status and command PDUs, and the download and activation of the safety
parameter set (R358 ... R377). -/

namespace Sys2Proof.Machine

def State.plvSlot (s : State) (k : Fin 4) : PlvSlot := s.plv.slots.get k
def State.modPlv (s : State) (f : Plovivo → Plovivo) : State := { s with plv := f s.plv }
def State.modSlot (s : State) (k : Fin 4) (f : PlvSlot → PlvSlot) : State :=
  s.modPlv fun p => { p with slots := p.slots.set k (f (p.slots.get k)) }

/-! ### Connections (R363, R364, R376) -/

def State.cfg400 (s : State) (k : Fin 4) (i : Nat) : Nat := s.objN 0xC400 (4 * k.val + i)

/-- Type of a slot (R363). -/
def slotType (k : Fin 4) : Nat := match k with | 0 => 1 | 1 => 2 | 2 => 3 | 3 => 1

/-- A slot is enabled; with the safety address FFFFh only slot 2 is (R364). -/
def State.slotOn (s : State) (k : Fin 4) : Bool :=
  if s.objN 0xC401 0 = 0xFFFF then k == 2 else bit (s.cfg400 k 1) 27

/-- The part expects this identity on a slot (R363, R364, R376). -/
def State.connOk (s : State) (k : Fin 4) (conn : Nat) : Bool :=
  let a := s.objN 0xC401 0
  let p := bits (s.cfg400 k 1) 0 12
  conn / 4096 == a * 16 + slotType k && (a == 0xFFFF || (k == 2 && p == 0xFFF) || conn % 4096 == p)

/-- What the part takes as a Plovivo PDU: at a port that runs, a CAN FD frame with `dir` = 0, the part's own node and priority 000b or
001b (R359), or an IPv4 datagram to the Plovivo port `1.020.02` (R360). -/
def State.plvHears (s : State) (src : PlvFrom) : Bool :=
  s.portUp src.port && (match src with
    | .can p id => !bit id 21 && bits id 10 10 == s.canNode p.val && bits id 26 3 ≤ 1
    | .udp _ v6 dport => !v6 && dport == s.objN 0x1020 2)

/-- The slot listens on a port: 0, 1 CAN FD, 2, 3 the MACs. -/
def State.connPort (s : State) (k : Fin 4) (port : Nat) : Bool :=
  let p := bits (s.cfg400 k 1) 28 4
  s.objN 0xC401 0 == 0xFFFF || p == port || (k == 2 && p == 15)

/-- Consumer slot that a PDU's identity names on its port. -/
def State.slotFor (s : State) (src : PlvFrom) (conn : Nat) : Option (Fin 4) :=
  if !s.plvHears src then none else
  ([1, 2] : List (Fin 4)).find? fun k => s.slotOn k && s.connOk k conn && s.connPort k src.port

/-- A PDU without an enabled slot is discarded and counted: in the slot of the type it names. -/
def State.plvUnmatched (s : State) (conn : Nat) : State :=
  let k := match conn / 4096 % 16 with | 1 => 0 | 3 => 2 | _ => 1
  s.bump 0xC410 (4 * k + 3) 1

/-! ### Acceptance (R361, R362, R365) -/

/-- CRC of a PDU against the virtual seed (R362). -/
def pduCrc (conn e : Nat) (o : Octets) (l : Nat) : Nat := crcPlovivo (toBE 4 conn ++ toBE 4 e ++ (o.drop 6).take (6 + l))

/-- Length and CRC of a PDU are right for a counter (R361, R362). -/
def pduOk (conn e : Nat) (o : Octets) : Bool :=
  let l := octAt o 7
  l ≤ 44 && 16 + l ≤ o.length && fieldAt o (12 + l) 4 == pduCrc conn e o l

/-- What leaving the running condition undoes (R368, R370, R373). -/
def State.plvLost (s : State) (k : Fin 4) : State :=
  if k = 1 then
    let s1 := (s.modPlv fun p => { p with rcnt := none, speedOk := false, stopReq := false }).modIsl fun i => { i with selCase := none }
    (if s1.cmdEnabled then s1.selDrop else s1).speedJudge.condWatch
  else if k = 2 then s.modPlv fun p => { p with psess := 0, image := [], crc := 0 }
  else s

/-- Fail-safe (R365, R368). -/
def State.plvFail (s : State) (k : Fin 4) (cause : Nat) : State :=
  if (s.plvSlot k).cond = 1 then s
  else (((s.modSlot k fun x => { x with cond := 1, cause := cause }).bump 0xC410 (4 * k.val + 4) 1).evt 0x4051 (k.val + 16 * cause)).plvLost k

/-- The rule of R365 for a matching PDU; answers whether its payload takes effect. -/
def State.plvAccept (s : State) (k : Fin 4) (conn : Nat) (o : Octets) : State × Bool :=
  let x := s.plvSlot k
  let seq := fieldAt o 4 2
  let ptime := fieldAt o 8 4
  let d := (seq + 65536 - x.e % 65536) % 65536
  let gapT := (ptime + 2 ^ 32 - x.tau % 2 ^ 32) % 2 ^ 32
  let discard (s : State) : State := s.bump 0xC410 (4 * k.val + 3) 1
  if bit (octAt o 6) 0 then
    if seq ≠ 0 ∨ !pduOk conn 0 o then (s.plvFail k 2, false)
    else
      let s1 := if x.cond = 0 then s.plvFail k 5 else s
      (s1.modSlot k fun x => { x with cond := 2, e := 1, tau := ptime, good := 1, wdAt := s.now }, false)
  else if x.cond = 1 then (discard s, false)
  else if 0x8000 ≤ d then (discard s, false)
  else if d ≠ 0 then (s.plvFail k 1, false)
  else if !pduOk conn x.e o then (s.plvFail k 2, false)
  else if gapT = 0 ∨ 1000 * bits (s.cfg400 k 2) 0 16 < gapT then (s.plvFail k 3, false)
  else
    let s0 := (s.modSlot k fun x => { x with e := (x.e + 1) % 2 ^ 32, tau := ptime, wdAt := s.now }).bump 0xC410 (4 * k.val + 2) 1
    let s1 := if k = 1 then s0.modPlv fun v => { v with cseq := x.e } else s0
    if x.cond = 2 then
      if x.good + 1 = 4 then ((s1.modSlot k fun x => { x with cond := 0, good := 4 }).evt 0x4052 k.val, false)
      else (s1.modSlot k fun x => { x with good := x.good + 1 }, false)
    else (s1, true)

/-- A PDU arrives on a port: `act` is what its payload does on the slot of its row. -/
def State.plvReceive (s : State) (src : PlvFrom) (want : Fin 4) (o : Octets) (act : Octets → State → State) : State :=
  let conn := fieldAt o 0 4
  match s.slotFor src conn with
  | none => if s.plvHears src then s.plvUnmatched conn else s
  | some k =>
    let r := s.plvAccept k conn o
    if r.2 ∧ k = want then act ((o.drop 12).take (octAt o 7)) r.1 else r.1

/-! ### Sessions of the status connections (R366) -/

/-- The part begins a new session on each status slot. -/
def State.newSessions (s : State) : State :=
  let f (x : PlvSlot) : PlvSlot := { x with e := 0, fresh := true }
  (s.modSlot 0 f).modSlot 3 f

/-! ### Command PDU (R370) -/

/-- The payload of a command PDU. -/
def State.command (p : Octets) (s : State) : State :=
  if p.length ≠ 10 then s
  else
    let c := octAt p 0
    let f := octAt p 3
    let r := octAt p 2
    let good := c < 16 && octAt p 1 == 255 - c
    let s1 := if good then s.modIsl fun i => { i with selCase := some c } else (s.modIsl fun i => { i with selCase := none }).selDrop
    let s2 := s1.modPlv fun v => { v with
      stopReq := bit f 0
      hostfs := bit f 2
      hostfsAt := if bit f 2 && !v.hostfs then s.now + 10 * msP else v.hostfsAt
      speedOk := bit f 3
      speed := fieldAt p 4 4
      rcntLast := r
      rcnt := some r }
    let s3 := s2.speedJudge
    let s4 := if bit f 0 ∧ !s.plv.stopReq then s3.stopIsl 5 (b2n (bit f 1)) else s3
    let s5 := match s.plv.rcnt with
      | none => s4
      | some v => if r = v then s4 else if r = (v + 1) % 256 then s4.reset_ else s4.bump 0xC410 17 1
    s5.condWatch

/-! ### Status PDU (R369) -/

/-- CRC of the staged image, 0 for none. -/
def State.stagedCrc (s : State) : Nat := if s.plv.psess = 0 ∨ s.plv.image.isEmpty then 0 else crc32c s.plv.image

/-- Octets 0 ... 5 of the status payload. -/
def State.statusHead (s : State) : Octets :=
  let i := s.isl
  let flags := b2n i.viol + 2 * b2n i.warn1 + 4 * b2n i.warn2 + 8 * b2n i.blindP + 16 * b2n i.stopReq + 32 * b2n (i.st == .stopping)
    + 64 * b2n s.selInvalid + 128 * b2n ((s.plvSlot 1).cond != 0)
  oct [i.st.code, if i.st = .lockout then i.cause else 0, i.setNow.getD 255, flags, min 255 i.counter
      , b2n i.outA + 2 * b2n i.outB + 4 * b2n s.gov.enable]

/-- What a change of has an extra PDU: `state`, `cause`, `set`, `flags`, `outs` (R369). -/
def State.statusKey (s : State) : Octets := s.statusHead.take 4 ++ s.statusHead.drop 5

/-- The whole status payload. -/
def State.statusPayload (s : State) : Octets :=
  let i := s.isl
  let v (o : Option Nat) : Octets := toBE 4 (o.getD 0xFFFFFFFF)
  let pairs := quads4.foldl (fun m n => if (s.pair n).closed then setBit m n.val else m) 0
  s.statusHead ++ oct [pairs, s.plv.psess] ++ toBE 4 i.lastVerdict ++ v i.vm ++ v i.ve ++ toBE 4 s.setCrc ++ toBE 4 s.stagedCrc
    ++ toBE 2 s.plv.cseq ++ oct [s.plv.rcntLast, (s.caseNow).getD 255]

/-- One status PDU on a slot, with SYNC at the start of a session (R361, R362, R366). -/
def State.sendStatus (s : State) (k : Fin 4) : State :=
  let x := s.plvSlot k
  let w := s.cfg400 k 1
  let conn := s.objN 0xC401 0 * 65536 + slotType k * 4096 + bits w 0 12
  let p := s.statusPayload
  let head := toBE 4 conn ++ toBE 2 x.e ++ oct [b2n x.fresh, p.length] ++ toBE 4 (s.timeNs / 1000)
  let o := head ++ p
  let pdu := o ++ toBE 4 (pduCrc conn x.e o p.length)
  let port := bits w 28 4
  let dest := s.cfg400 k 3
  let s1 := s.modSlot k fun x => { x with e := (x.e + 1) % 2 ^ 32, fresh := false, sentAt := s.now, lastOut := s.statusKey }
  if !s.portUp port then s1
  else if port < 2 then s1.emit (.can port (2 ^ 21 + s.canNode port * 1024 + dest % 1024) (fitTo (canLen pdu.length) pdu))
  else s1.emit (.plovivo port (s.objN 0x1020 2) dest (s.cfg400 k 4) pdu)

/-- Each cycle, and within 2 ms of a change, at most one extra PDU in a millisecond (R369). -/
def State.statusCycle (s : State) (k : Fin 4) (differ : Bool) : State :=
  let x := s.plvSlot k
  if !s.slotOn k then s
  else if x.sentAt + bits (s.cfg400 k 2) 16 16 * msP ≤ s.now ∨ (x.sentAt + msP ≤ s.now ∧ x.lastOut ≠ s.statusKey) ∨ x.fresh then
    if differ then s.lockout 1 else s.sendStatus k
  else s

/-! ### The parameter image (R372) -/

/-- RWS objects of area C as they are at their defaults. -/
def clearSafety (d : AMap Int) : AMap Int :=
  d.filter fun kv =>
    match Catalogue.find (kv.1 / 65536) with
    | some r => !(r.acc == .rws)
    | none => true

/-- Length of a field set as its own counts give it (R329). -/
def fieldSetLen (o : Octets) : Bool :=
  o.isEmpty || (3 ≤ octAt o 8 && o.length == 24 + 6 * (octAt o 8 + octAt o 9 + octAt o 10)
    && ([8, 9, 10] : List Nat).all fun i => octAt o i ≤ 64 && (octAt o i == 0 || 3 ≤ octAt o i))

/-- A member of `C.020` is in its range (R356): an unused pair needs no discrepancy time. -/
def pairWordOk (w : Nat) : Bool :=
  w < 65536 && bits w 9 1 == 0 && bits w 12 4 ≤ 4 && (bits w 12 4 == 0 || (10 ≤ bits w 0 9 && bits w 0 9 ≤ 500))

/-- The four members of `C.400` of a slot follow the layout of R376; of a slot that is not enabled the zero bits alone are held to it. -/
def connWordsOk (k : Fin 4) (w1 w2 w3 w4 : Nat) : Bool :=
  let port := bits w1 28 4
  let producer := slotType k == 1
  bits w1 12 15 == 0 && (!bit w1 27 ||
    ((port ≤ 3 || (k == 2 && port == 15)) && (k == 2 || bits w1 0 12 != 0xFFF)
      && 5 ≤ bits w2 0 16 && bits w2 0 16 ≤ 1000
      && (if producer then 5 ≤ bits w2 16 16 && bits w2 16 16 ≤ 500 else bits w2 16 16 == 0)
      && (2 ≤ port || w3 < 1024) && (if producer then w4 < 65536 else w4 == 0)))

/-- Ranges that the catalogue does not carry member by member (R356, R376). -/
def setRange (obj : Nat) (vals : List (Nat × Int)) : Bool :=
  let w (i : Nat) : Nat := (vals.find? fun v => v.1 == i).elim 0 (·.2.toNat)
  let within (i lo hi : Nat) : Bool := lo ≤ w i && w i ≤ hi
  match obj with
  | 0xC020 => vals.all fun v => pairWordOk v.2.toNat
  | 0xC140 => vals.all fun v => v.2 < 32 || v.2 == 255
  | 0xC300 => within 1 1 64 && within 2 1 1000 && within 3 1 1000 && within 133 0 8192
  | 0xC400 => quads4.all fun k => connWordsOk k (w (4 * k.val + 1)) (w (4 * k.val + 2)) (w (4 * k.val + 3)) (w (4 * k.val + 4))
  | _ => true

/-- An entry passes: an RWS object of area C whole, type, length and range agree (R373). -/
def setEntryOk (e : Entry) : Bool :=
  match Catalogue.find e.obj with
  | none => false
  | some r => e.obj / 0x1000 == 0xC && r.acc == .rws && e.el == 0 && typeOk r e.el e.ty e.val && rangeOk r (written r e.el e.val)
      && setRange e.obj (written r e.el e.val) && (!(0xC100 ≤ e.obj && e.obj ≤ 0xC11F) || fieldSetLen e.val)

/-- The state with the safety objects as an image sets them. -/
def State.withSet (s : State) (image : Octets) : State :=
  let s0 := { s with dict := clearSafety s.dict, blobs := s.blobs.filter fun b => !(0xC100 ≤ b.1 && b.1 ≤ 0xC11F) }
  (imageEntries image.length 0 image).foldl (fun s p =>
    match p.2 with
    | none => s
    | some e =>
      match Catalogue.find e.obj with
      | none => s
      | some r =>
        match r.shape with
        | .octets .. => { s with blobs := assocPut s.blobs e.obj e.val }
        | _ => s.setMembers e.obj (written r e.el e.val)) s0

/-- A field set stands by R329 and R331. -/
def State.fieldSetOk (s : State) (i : Nat) : Bool :=
  let o := assocD [] s.blobs (0xC100 + i)
  match parseSet o with
  | none => true
  | some f =>
    octAt o 0 == i && f.dcap ≤ 5
      && f.fields.all (fun x => x.verts.isEmpty ||
        (let a := gridStep (dcapMm f.dcap) x (s.objN 0xC010 11)
         let e := gridStep (dcapMm f.dcap) x (s.objN 0xC010 12)
         (x.near : Int) < maxL 0 (x.verts.map fun p => p.2.2) && a != 0 && e != 0 && (gridBins x a e).length ≤ 4096))
      && (match f.fields with
        | x :: _ => inPolygon 1 x.verts f.taz f.tel && x.near ≤ f.trng && (f.trng : Int) ≤ contour x.verts f.taz
        | [] => false)

/-- The rules of R321, R331, R339, R343, R352 and R364 hold of the set in a state. -/
def State.setRules (s : State) : Bool :=
  let z := s.objN 0xC040 1
  let n := s.objN 0xC300 1
  (List.range 32).all s.fieldSetOk
    && (s.objN 0xC030 1 == 1 || (s.objN 0xC030 2 != 0 && s.objN 0xC030 3 != 0))
    && (List.range z).all (fun i => s.objN 0xC040 (i + 8) != 0)
    && s.objN 0xC301 1 == 0 && (List.range (n - 1)).all (fun i => s.objN 0xC301 (i + 1) < s.objN 0xC301 (i + 2))
    && (s.slotOn 0 && s.slotOn 1
        || !((List.range 32).any (fun i => (s.fieldSet i).isSome && s.objN 0xC010 13 == 1)
          || quads4.any fun p => (s.pairType p == 1 || s.pairType p == 2) && s.pairCat p == 1))
    && !(s.slotOn 0 && s.slotOn 3 && bits (s.cfg400 0 1) 0 12 == bits (s.cfg400 3 1) 0 12)

/-! ### The download (R373, R374) -/

def State.paramRefuse (s : State) (reason : Nat) : State := (s.modPlv fun p => { p with psess := 4, reason := reason }).evt 0x6C02 reason

def State.paramBegin (p : Octets) (s : State) : State :=
  let len := fieldAt p 12 4
  let s1 := s.modPlv fun v => { v with psess := 0, image := [], reason := 0, crc := 0, failOff := 0 }
  if fieldAt p 2 2 ≠ 0 then s1.paramRefuse 3
  else if fieldAt p 4 8 ≠ Config.deviceId % 2 ^ 64 then s1.paramRefuse 1
  else if len = 0 ∨ 65536 < len then s1.paramRefuse 2
  else s1.modPlv fun v => { v with psess := 1, len := len, crc := fieldAt p 16 4, seg := 0 }

def State.paramData (p : Octets) (s : State) : State :=
  let v := s.plv
  let d := p.drop 8
  if v.psess ≠ 1 then s.paramRefuse 8
  else if fieldAt p 2 2 ≠ (v.seg + 1) % 65536 ∨ fieldAt p 4 4 ≠ v.image.length then s.paramRefuse 3
  else if v.len < v.image.length + d.length then s.paramRefuse 2
  else
    let s1 := s.modPlv fun v => { v with image := v.image ++ d, seg := v.seg + 1 }
    if v.image.length + d.length < v.len then s1
    else if crc32c s1.plv.image = v.crc then s1.modPlv fun v => { v with psess := 2 }
    else s1.paramRefuse 4

def State.paramVerify (s : State) : State :=
  let v := s.plv
  if v.psess ≠ 2 then s.paramRefuse 8
  else
    let es := imageEntries v.image.length 0 v.image
    match es.find? fun p => match p.2 with | none => true | some e => !setEntryOk e with
    | some p => (s.modPlv fun v => { v with failOff := p.1 }).paramRefuse 5
    | none => if (s.withSet v.image).setRules then s.modPlv fun v => { v with psess := 3 } else s.paramRefuse 6

/-- The set of the current slot is loaded: every object of area C takes its value from it, enabled consumer slots enter their fail-safe
reaction, a status slot, which has no consumer state, runs while it is enabled, and slot 1 disabled leaves nothing of its commands
(R364, R368, R376). -/
def State.loadSet (s : State) : State :=
  let s1 := match s.setImage with
    | some o => s.withSet o
    | none => { s with dict := clearSafety s.dict, blobs := s.blobs.filter fun b => !(0xC100 ≤ b.1 && b.1 ≤ 0xC11F) }
  let consumer (s : State) (k : Fin 4) : State :=
    if s.slotOn k then (if (s.plvSlot k).cond = 1 then s else s.plvFail k 0)
    else (s.modSlot k fun x => { x with cond := 3 }).plvLost k
  let producer (s : State) (k : Fin 4) : State := s.modSlot k fun x => { x with cond := if s.slotOn k then 0 else 3 }
  let s2 := producer (producer (consumer (consumer s1 1) 2) 0) 3
  if s2.slotOn 1 then s2 else s2.modPlv fun v => { v with hostfs := false }

def State.paramActivate (p : Octets) (s : State) : State :=
  let v := s.plv
  if v.psess ≠ 3 then s.paramRefuse 8
  else if fieldAt p 4 4 ≠ v.crc then s.paramRefuse 4
  else if fieldAt p 8 8 ≠ Config.deviceId % 2 ^ 64 then s.paramRefuse 1
  else if !(s.isl.st = .init ∨ s.isl.st = .off ∨ s.isl.st = .lockout) then s.paramRefuse 7
  else
    let nv := if s.nv.setCur = 0 then { s.nv with setB := some v.image, setCur := 1 } else { s.nv with setA := some v.image, setCur := 0 }
    let s1 := ({ s with nv := nv }.loadSet.modPlv fun v' => { v' with psess := 5, image := v.image, crc := v.crc }).evt 0x6C01 (v.crc % 65536)
    let s2 := (s1.modIsl fun i => { i with
      setOk := true, setNow := none, setBefore := none, band := none, bandB := none, counter := 0, clean := 0 }).selDrop
    s2.startTest.newSessions

/-! ### Commands -/

def execCommandPdu (port : PlvFrom) (o : Octets) (s : State) : Host.Outcome State Fault Refusal := .next (s.plvReceive port 1 o State.command)

/-- A parameter payload is laid out as R372 gives its operation. -/
def paramForm (p : Octets) : Bool :=
  octAt p 1 == 0 && (match octAt p 0 with
    | 1 => p.length == 20
    | 2 => decide (8 < p.length ∧ p.length ≤ 44)
    | 4 => p.length == 16
    | _ => p.length == 4)

/-- A PDU of the parameter connection whose operation is the row's; one laid out otherwise is no operation that R372 allows. -/
def State.paramPdu (s : State) (port : PlvFrom) (op : Nat) (o : Octets) (act : Octets → State → State) : State :=
  s.plvReceive port 2 o fun p s => if octAt p 0 = op ∧ paramForm p then act p s else s.paramRefuse 8

def execParamBegin (port : PlvFrom) (o : Octets) (s : State) : Host.Outcome State Fault Refusal := .next (s.paramPdu port 1 o State.paramBegin)
def execParamData (port : PlvFrom) (o : Octets) (s : State) : Host.Outcome State Fault Refusal := .next (s.paramPdu port 2 o State.paramData)
def execParamVerify (port : PlvFrom) (o : Octets) (s : State) : Host.Outcome State Fault Refusal :=
  .next (s.paramPdu port 3 o fun _ s => s.paramVerify)
def execParamActivate (port : PlvFrom) (o : Octets) (s : State) : Host.Outcome State Fault Refusal := .next (s.paramPdu port 4 o State.paramActivate)
def execParamAbandon (port : PlvFrom) (o : Octets) (s : State) : Host.Outcome State Fault Refusal :=
  .next (s.paramPdu port 5 o fun _ s => s.modPlv fun v => { v with psess := 0, image := [], crc := 0 })

def execPlovivoPduUnmatched (port : PlvFrom) (conn : Nat) (s : State) : Host.Outcome State Fault Refusal :=
  .next (if s.plvHears port ∧ (s.slotFor port conn).isNone then s.plvUnmatched conn else s)

/-- No accepted PDU within Te (R365). -/
def execPlovivoWatchdog (k : Fin 4) (s : State) : Host.Outcome State Fault Refusal :=
  .next (let x := s.plvSlot k
    if (k = 1 ∨ k = 2) ∧ s.slotOn k ∧ (x.cond = 0 ∨ x.cond = 2) ∧ x.wdAt + bits (s.cfg400 k 2) 0 16 * msP ≤ s.now then s.plvFail k 4 else s)

def execStatusPduCycle (second differ : Bool) (s : State) : Host.Outcome State Fault Refusal :=
  .next (s.statusCycle (if second then 3 else 0) differ)

/-- 10 ms after `hostfs` rises, and every second while it is set (R366). -/
def execHostfsSessionTimer (s : State) : Host.Outcome State Fault Refusal :=
  .next (if s.plv.hostfs ∧ s.plv.hostfsAt ≤ s.now then (s.modPlv fun v => { v with hostfsAt := s.now + secP }).newSessions else s)

/-- Both evaluators have booted and checked the stored set, which is loaded; INIT begins status sessions (R321, R328, R366). -/
def execEvaluatorsBooted (ok : Bool) (s : State) : Host.Outcome State Fault Refusal :=
  .next (if s.isl.st = .init then (s.loadSet.newSessions.evalBooted ok) else s)

end Sys2Proof.Machine
end

