-- ==== Sys2Proof/Machine/Views.lean ====
section
/-! DEFINITION. What a read returns: the members that the part computes at the read from its state; every other member is the value
in effect of the dictionary map (R12, R48, and the object tables of the chapters). -/

namespace Sys2Proof.Machine

/-! ### Areas 1 and 2 -/

/-- Member of the lease table (R81). -/
def State.leaseWord (s : State) (area : Nat) : Nat :=
  match s.leaseOf area with
  | none => 0
  | some l => l.master * 2 ^ 16 + l.port * 2 ^ 13 + 2 ^ 12 + min 0xFFF ((l.expiry - s.now) / (16 * msP))

/-- Member of the subscription list (R81). -/
def subWord (x : Sub) : Nat :=
  x.handle * 2 ^ 48 + x.master * 2 ^ 32 + x.port * 2 ^ 29 + x.trig * 2 ^ 26 + beNat (addr3 x.obj x.el)

/-- Time status (R236). -/
def State.timeView (s : State) (el : Nat) : Option Int :=
  match el with
  | 1 =>
    let got : Bool := 0 < s.time.ppsGood || (s.time.ports.get 0).good != 0 || (s.time.ports.get 1).good != 0 || 0 < s.time.markGood
    some (if s.time.st = 0 ∧ got then 1 else if s.time.st = 3 ∧ s.objN 0x2030 1 ≤ s.holdBound then 4 else (s.time.st : Int))
  | 2 => some (if s.time.src = 0 ∧ s.ref10Valid then 5 else (s.time.src : Int))
  | 5 => some (if s.time.st = 2 then errorOf s.time.rate else s.time.y)   -- the measured error while locked (R229, log entry 73)
  | 6 => some (min (s.holdBound : Int) (2 ^ 31 - 1))
  | 7 => some (if s.time.st = 3 then ((s.now - s.time.holdAt) / secP : Nat) else 0)
  | 10 => some (b2n s.ref10Valid : Nat)
  | _ => none

/-- State of the trigger bus (R245). -/
def State.busState (s : State) : Nat :=
  if s.wof.onTimer && s.frm.active && s.obj 0x3020 1 == 2 then 5
  else if s.wof.role = 0 then 0
  else if s.wof.role = 1 then 1
  else if s.wof.role = 3 then 4
  else if s.wof.calOk then 2 else 3

def State.view12 (s : State) (obj el : Nat) : Option Int :=
  match obj with
  | 0x1100 => some (s.leaseWord (el - 1))
  | 0x1200 => some (if el = 0 then (s.tv.subs.length : Int) else ((s.tv.subs[el - 1]?.map fun x => (subWord x : Int)).getD 0))
  | 0x2020 => s.timeView el
  | 0x2110 =>
    match el with
    | 1 => some s.busState
    | 4 => some s.wof.delay
    | 5 => some ((s.now - s.wof.calAt) / secP : Nat)
    | _ => none
  | 0x2200 => if el = 4 then some (match s.fleet.lease with | some t => ((t - s.now) / (60 * secP) : Nat) | none => 0) else none
  | 0x2230 => if el = 1 then some ((s.nv.fleetRows.filter fun x => x.held).length : Nat) else none
  | _ => none

/-! ### Areas 3, 4 and 5 -/

/-- Oldest calibration age of a Quadrant in ms, over the converters in use of its live and recalibrating channels (DESIGN CHOICE, log entry
100), and its relief converters at work (R148). -/
def State.calAge (s : State) (q : Fin 4) : Nat :=
  let act := (List.range 256).filter fun c => s.chanState q c ≤ 2
  (act.map fun c =>
    let ch := s.chan q c
    let conv := match ch.relief with | some r => s.chan q r | none => ch
    (s.now - conv.calAt) / msP).foldl max 0

def State.reliefServing (s : State) (q : Fin 4) : Nat := ((List.range 256).filter fun c => (s.chan q c).relief.isSome).length

def State.view3 (s : State) (obj el : Nat) : Option Int :=
  let q (k : Nat) : Fin 4 := Fin.ofNat 4 k
  match obj with
  | 0x3012 => if el = 1 then some (s.objN 0x3012 0 % 2 ^ 32 : Nat) else if el = 2 then some (s.objN 0x3012 0 / 2 ^ 32 : Nat) else none
  | 0x3110 => if 1 ≤ el ∧ el ≤ 4 then some ((s.quad (q (el - 1))).st : Nat) else none
  | 0x3200 =>
    if 1 ≤ el ∧ el ≤ 4 then some ((s.quad (q (el - 1))).bank : Nat)
    else if 5 ≤ el ∧ el ≤ 8 then some ((s.quad (q (el - 5))).act.size : Nat)
    else if 9 ≤ el ∧ el ≤ 12 then some ((s.quad (q (el - 9))).shd.size : Nat) else none
  | 0x3203 =>
    -- part of the shadow, with a write that waits for its refresh (R85, R87)
    if el = 0 then none
    else
      let qd := s.quad (q (el - 1))
      some ((match (qd.wq.filter fun x => x.1 == 2).getLast? with | some x => beNat x.2.2 | none => qd.shd.dur : Nat) : Int)
  | 0x3220 => if 1 ≤ el then some (b2n (s.quad (q (el - 1))).ready : Nat) else none
  | 0x3341 => if 1 ≤ el then some (s.kappa (el - 1) : Nat) else none
  | 0x3350 => if 1 ≤ el then some (s.emHealth (el - 1) : Nat) else none
  | 0x3431 =>
    if el = 0 then none
    else match (el - 1) % 4 with
    | 0 => some (s.calAge (q ((el - 1) / 4)) : Nat)
    | 3 => some (s.reliefServing (q ((el - 1) / 4)) : Nat)
    | _ => none
  | _ =>
    if 0x3410 ≤ obj ∧ obj ≤ 0x3417 ∧ 1 ≤ el then
      some (s.healthWord (q ((obj - 0x3410) / 2)) (128 * ((obj - 0x3410) % 2) + (el - 1)) : Nat)
    else none

/-- Contexts of a Quadrant: coarse and zoom ones of cells not yet finished, and those that wait for decomposition (R153, R175). -/
def State.ctxNow (s : State) (q : Fin 4) (k : Nat) : Nat :=
  ((s.cru q).ctxs.filter fun x =>
    let fin := (s.cellRec q x.frame x.cell).finished
    match k with | 0 => !fin && !x.zoom | 1 => !fin && x.zoom | _ => fin).length

def State.view4 (s : State) (obj el : Nat) : Option Int :=
  let q (k : Nat) : Fin 4 := Fin.ofNat 4 k
  if el = 0 then none
  else match obj with
  | 0x4022 =>
    let b := (s.quad (q ((el - 1) / 3))).act
    some (match (el - 1) % 3 with | 0 => (b.coarseCells.length : Int) | 1 => (b.zoomCells.length : Int) | _ => (b.surplus : Int))
  | 0x4200 =>
    let k := s.cru (q ((el - 1) / 4))
    some (match (el - 1) % 4 with
      | 0 => (k.mcAct : Int) | 1 => (k.mcId0 : Int) | 2 => (k.mcId1 : Int)
      | _ => ((b2n (s.approved k.mcId0) + 2 * b2n (s.approved k.mcId1) : Nat) : Int))
  | 0x4300 => if (el - 1) % 6 ≤ 2 then some (s.ctxNow (q ((el - 1) / 6)) ((el - 1) % 6) : Nat) else none
  | _ => none

/-- Link status (R318). -/
def State.linkView (s : State) (l : Fin 2) (el : Nat) : Nat :=
  let k := s.link l
  match el with
  | 1 => k.st | 2 => k.width | 3 => k.mask | 4 => b2n k.common | 5 => k.epoch | 6 => k.nextSeq
  | 7 => match k.sent with | x :: _ => x.seq | [] => k.nextSeq
  | 8 => k.credit | _ => k.outstanding

/-- Link lanes (R318). -/
def State.laneView (s : State) (l : Fin 2) (el : Nat) : Nat :=
  let x := (s.link l).lane (Fin.ofNat 4 (el - 1))
  if el ≤ 4 then
    x.st * 2 ^ 29 + min 15 (x.retrains.filter fun t => s.now < t + 60 * secP).length * 2 ^ 24 + x.pre * 2 ^ 12 + x.main * 2 ^ 6 + x.post
  else ((x.errs.filter fun p => s.now < p.1 + secP).map (·.2)).sum

/-- The Pilot reads firmware slots or the Slip over DMA channels 28 ... 31: as it selects a slot, verifies, or installs (R378). -/
def State.pilotReads (s : State) : Bool :=
  s.life.phase == .loading || s.pilot.restart.isSome || (match s.pilot.busy with | some (c, _) => c == 2 || c == 3 | none => false)

/-- Status of a DMA channel; of the firmware's own channels a free value while the firmware may use them. -/
def State.dmaView (s : State) (c : Fin 32) : Nat :=
  if 28 ≤ c.val ∧ s.pilotReads then Config.pilotDma s.now c.val % 2 ^ 32
  else let k := s.dmaCh c; k.st * 2 ^ 29 + k.last * 2 ^ 16 + k.desc

def State.view5 (s : State) (obj el : Nat) : Option Int :=
  if el = 0 then none
  else match obj with
  | 0x5110 =>
    let k := s.queue (Fin.ofNat 4 ((el - 1) / 8))
    match (el - 1) % 8 with
    | 0 => some (k.size : Int) | 1 => some (k.free : Int) | 2 => some ((k.c - k.r : Nat) : Int) | 3 => some ((k.r - k.o : Nat) : Int)
    | _ => none
  | 0x5204 => some (s.dmaView (Fin.ofNat 32 (el - 1)) : Int)
  | 0x5211 => if el = 1 then some (s.dma.recs.length : Int) else none
  | 0x5302 => some (s.linkView 0 el) | 0x5312 => some (s.linkView 1 el)
  | 0x5303 => some (s.laneView 0 el) | 0x5313 => some (s.laneView 1 el)
  | _ => none

/-! ### Areas 6 and 7 -/

/-- Loop status of slot k, instance i (R120). -/
def State.loopView (s : State) (k i : Nat) : Nat :=
  let x := s.loopInst k i
  b2n (x.running && !x.faulted) * 2 ^ 31 + b2n x.faulted * 2 ^ 30 + b2n (s.loopRuns k && i < lwCount (s.loopWord k) && s.winner k i) * 2 ^ 29 + min 255 x.missedAll * 2 ^ 20 + x.u % 2 ^ 17

/-- Status of a bias loop (R124). -/
def State.biasView (s : State) (q : Nat) : Nat :=
  let b := s.forge.bias.get (Fin.ofNat 4 q)
  b2n b.settled * 2 ^ 31 + (s.compete (s.groups.getD 0 []) q).2 % 8 * 2 ^ 28 + (s.loopInput 0x20 q).1.toNat % 2 ^ 16

def State.view6 (s : State) (obj el : Nat) : Option Int :=
  if el = 0 then none
  else match obj with
  | 0x6030 =>
    match el with
    | 1 => some ((b2n s.steer.fast.valid + 2 * b2n s.steer.slow.valid : Nat) : Int)
    | 2 => some ((s.steer.period * 5 / 2 : Nat) : Int)
    | 3 => some s.steer.halfAmp
    | _ => none
  | 0x6100 =>
    match el with
    | 1 => some s.steer.helmA.claim | 2 => some s.steer.helmB.claim | 3 => some s.steer.helmA.st | 4 => some s.steer.helmB.st
    | 5 => some s.steer.lastClaim | _ => none
  | 0x6201 => if lwRef (s.loopWord ((el - 1) / 4)) = 4 then some (s.baseRef ((el - 1) / 4) ((el - 1) % 4)) else none
  | 0x6202 => if lwRef (s.loopWord (el - 1)) = 4 then some (s.band (el - 1)) else none
  | 0x6220 => some (s.loopView ((el - 1) / 4) ((el - 1) % 4))
  | 0x6501 => some (s.biasView (el - 1))
  | _ => none

/-- Trim in effect of the calibration target: offset, gain and its source (R208, R214). -/
def State.view7 (s : State) (obj el : Nat) : Option Int :=
  if el = 0 then none
  else match obj with
  | 0x7302 =>
    let t := s.trimOf s.calKey
    match el with
    | 4 => some t.off16 | 5 => some t.gain | 6 => some (b2n t.sys : Nat) | _ => none
  | 0x7401 =>
    if el % 2 = 1 then some ((s.objN 0x7401 el % 2 ^ 31 + b2n (s.objN 0x7400 (3 * ((el - 1) / 2) + 1) != 0) * 2 ^ 31 : Nat) : Int) else none
  | 0x7640 =>
    if el ≤ 16 then
      let f := match (s.filtCh (el - 1)).outs with | x :: _ => x.flag | [] => 0
      some ((b2n (s.filtRuns (el - 1)) * 2 ^ 31 + b2n (f == 1) * 2 ^ 30 + b2n (f == 2) * 2 ^ 29 : Nat) : Int)
    else none
  | 0x7650 =>
    if el ≤ 2 then some ((s.latency2 (s.filtWord (s.objN 0x7602 el)) / 2 : Nat) : Int) else none
  | _ => none

/-! ### Areas 8, 9 and A -/

/-- A supply is sampled by a running sequencer (R386). -/
def State.supplySampled (s : State) (n : Nat) : Bool :=
  let c := n / 2
  s.adcRuns (Fin.ofNat 4 c) && (s.passSels c).contains (0x20 + n % 2)

def copyView (c0 c1 : Copy) (ok0 ok1 : Bool) (el : Nat) : Nat :=
  match el with
  | 2 => c0.seq | 3 => c1.seq | 4 => c0.len | 5 => c1.len | 6 => b2n ok0 + 2 * b2n ok1 | 7 => c0.gen | _ => c1.gen

/-- Update slots (R404). -/
def State.slotView (s : State) (el : Nat) : Nat :=
  match el with
  | 1 => s.pilot.slot
  | 2 => s.nv.preferred
  | 3 => if s.slotBoots 0 then hId (s.imgHeader 0) else 0
  | 4 => if s.slotBoots 1 then hId (s.imgHeader 1) else 0
  | 5 => hRbi (s.imgHeader 0)
  | 6 => hRbi (s.imgHeader 1)
  | 7 => s.nv.fuse
  | 8 => b2n s.pilot.trial.isSome
  | 9 => match s.pilot.trial with | some t => (t + s.objN 0x9201 0 * secP - s.now) / secP | none => 0
  | 10 => s.pilot.slip
  | 11 => if s.pilot.slip = 0 then 0 else hKind (s.imgHeader 2)
  | 12 => if s.pilot.slip = 0 then 0 else hId (s.imgHeader 2)
  | 13 => s.pilot.restarts
  | _ => s.pilot.cause

def State.view89A (s : State) (obj el : Nat) : Option Int :=
  if el = 0 then none
  else match obj with
  | 0x8012 => match el with | 1 => some (if bit s.sens.levels 2 then 3 else if bit s.sens.levels 1 then 2 else b2n (bit s.sens.levels 0) : Nat) | 4 => some s.nv.qseq | _ => none
  | 0x8101 => if s.dma.holds.any (fun h => domEl h.1 == el) then some 3 else none
  | 0x8201 =>
    if el ≤ 8 then
      some ((b2n (assocD supply0 s.ana.supplies (el - 1)).flag * 2 ^ 31 + b2n (!s.supplySampled (el - 1)) * 2 ^ 30 + s.objN 0x8201 el % 2 ^ 24 : Nat) : Int)
    else none
  | 0x9000 =>
    match el with
    | 1 => some (s.nv.logNext % 2 ^ 32 : Nat)
    | 2 => some ((s.nv.logNext - s.nv.log.length) % 2 ^ 32 : Nat)
    | 4 => some s.ev.queue.length
    | _ => none
  | 0x9100 =>
    match el with
    | 1 => some (if s.pilot.copy ≤ 1 then (s.pilot.copy : Int) else 0xFFFFFFFF)
    | 9 => some s.runGen
    | 10 => some s.pilot.lastSave
    | 11 => some s.pilot.defaulted
    | _ => some (copyView s.nv.copy0 s.nv.copy1 (s.copyOk s.nv.copy0) (s.copyOk s.nv.copy1) el)
  | 0x9200 => some (s.slotView el)
  | 0x9500 =>
    match el with
    | 1 => some s.life.st.code | 2 => some s.life.causes | 3 => some ((s.now - s.life.since) / secP : Nat) | _ => none
  | 0xA020 =>
    match el with
    | 1 => some (if s.capOff then 5 else s.cap.st) | 2 => some s.cap.use | 4 => some s.cap.state | _ => none
  | _ => none

/-! ### Area C -/

/-- Safety state (R356). -/
def State.safeView (s : State) (el : Nat) : Nat :=
  match el with
  | 1 => s.isl.st.code
  | 2 => s.isl.cause
  | 3 => s.isl.setNow.getD 0xFF
  | 4 => b2n s.isl.viol + 2 * b2n s.isl.warn1 + 4 * b2n s.isl.warn2 + 8 * b2n s.isl.blindP + 16 * b2n s.isl.stopReq
  | 5 => s.isl.counter
  | 6 => s.isl.vm.getD 0xFFFFFFFF
  | 7 => s.isl.ve.getD 0xFFFFFFFF
  | 8 => ((quads4.map fun n => b2n (s.pair n).closed * 2 ^ n.val)).sum
  | 9 => b2n s.isl.outA + 2 * b2n s.isl.outB
  | 10 => s.setCrc
  | _ => s.isl.lastVerdict

/-- A sum in 1/65,536 of its budget. No rule states the quotient by a budget of 0: a free value. -/
def State.budgetView (s : State) (sum budget : Nat) : Nat :=
  if budget = 0 then Config.freeU32 s.free % 2 ^ 32 else sum * 65536 / budget

/-- Emission status (R356); sectors not in use read 0. -/
def State.emissionView (s : State) (el : Nat) : Option Int :=
  if el ≤ 64 then some (if el ≤ s.objN 0xC300 1 then s.budgetView (govSum s.gov.short (el - 1)) (s.objN 0xC300 (el + 4)) else 0 : Nat)
  else if el ≤ 128 then some (if el - 64 ≤ s.objN 0xC300 1 then s.budgetView (govSum s.gov.long (el - 65)) (s.objN 0xC300 (el + 4)) else 0 : Nat)
  else if el = 131 then some (b2n s.gov.enable : Nat) else none

/-- Parameter session (R376). -/
def State.sessionView (s : State) (el : Nat) : Nat :=
  match el with
  | 1 => s.plv.psess | 2 => s.plv.reason | 3 => s.plv.image.length | 4 => s.stagedCrc | _ => s.plv.failOff

def State.viewC (s : State) (obj el : Nat) : Option Int :=
  if el = 0 then none
  else match obj with
  | 0xC000 => some (s.safeView el)
  | 0xC310 => s.emissionView el
  | 0xC410 =>
    if el % 4 = 1 ∧ el ≤ 16 then
      let x := s.plvSlot (Fin.ofNat 4 ((el - 1) / 4))
      some ((x.cond * 2 ^ 30 + x.cause % 16 * 2 ^ 20 + x.e % 65536 : Nat) : Int)
    else none
  | 0xC420 => some (s.sessionView el)
  | _ => none

/-! ### Reads -/

/-- A member computed at the read, if it is one. -/
def State.computed (s : State) (obj el : Nat) : Option Int :=
  match obj / 0x1000 with
  | 1 => s.view12 obj el | 2 => s.view12 obj el | 3 => s.view3 obj el | 4 => s.view4 obj el | 5 => s.view5 obj el
  | 6 => s.view6 obj el | 7 => s.view7 obj el | 8 => s.view89A obj el | 9 => s.view89A obj el | 10 => s.view89A obj el
  | 12 => s.viewC obj el | _ => none

/-- What a member reads as. -/
def State.view (s : State) (obj el : Nat) : Int := (s.computed obj el).getD (s.obj obj el)

/-- Members that a read of an array returns now (R12, R43). -/
def State.readCount (s : State) (r : Row) (obj : Nat) : Nat :=
  match r.shape with
  | .var _ _ => (s.view obj 0).toNat
  | _ => s.count r obj

/-- Identity record (R432). -/
def State.identity (s : State) : Octets :=
  toBE 8 Config.deviceId ++ fitTo 12 Config.orderingCode ++ toBE 2 Config.siliconRev ++ toBE 4 (hId (s.imgHeader s.pilot.slot))
    ++ toBE 2 Config.safetyRev ++ zeros 4

/-- Table of a channel's own converter (R148). Before its first recorded calibration it is the factory's, shown with M = 256 codes (DESIGN
CHOICE, log entry 101). -/
def State.converterTable (s : State) : Octets :=
  let ch := s.objN 0x3432 0
  let q : Fin 4 := Fin.ofNat 4 (ch / 256)
  let x := s.chan q (ch % 256)
  let m := (List.range 256).map fun i => s.convFine q (ch % 256) i
  let t := x.table.getD m
  toBE 2 t.length ++ toBE 2 x.inl ++ toBE 4 (ofInt 32 (s.delayOf q (ch % 256) 0)) ++ toBE 4 (ofInt 32 (s.delayOf q (ch % 256) 1))
    ++ t.flatMap (toBE 2)

/-- Background of the channel that `4.041` names (R197). -/
def State.backgroundOf (s : State) : Octets :=
  let ch := s.objN 0x4041 0
  let k := s.cru (Fin.ofNat 4 (ch / 256))
  (List.range 16).flatMap fun i =>
    let key := 16 * (ch % 256) + i
    toBE 4 (AMap.get 0 k.bg key) ++ toBE 1 (AMap.get 0 k.dlt key) ++ [0]

/-- Shadow units from the pointer (R87). -/
def State.patRead (s : State) : Octets :=
  let p := s.patPtr
  let b := (s.quad p.1).shd
  (List.range 90).flatMap fun i => toBE 16 (if p.2.1 = 0 then AMap.get 0 b.entries (p.2.2 + i) else AMap.get 0 b.gates (p.2.2 + i))

/-- Entry of the fleet table (R251). -/
def State.fleetEntry (s : State) : Octets :=
  match s.nv.fleetRows.find? fun x => x.index == s.objN 0x2231 0 with
  | none => zeros 8 ++ toBE 2 (s.objN 0x2231 0) ++ zeros 6
  | some x => toBE 8 x.ident ++ toBE 2 x.index ++ toBE 4 ((x.lease - s.now) / secP) ++ toBE 2 (b2n x.held + 2 * b2n x.released)

/-- Log read window (R389): the records from the entry asked for, or from the oldest still held where it has been overwritten; an entry
that has never been written gives its number alone. -/
def State.logWindow (s : State) : Octets :=
  let n := s.nv.log.length
  let want := s.objN 0x9001 0
  -- distance of the wanted entry below the next one
  let back := (s.nv.logNext % 2 ^ 32 + 2 ^ 32 - want) % 2 ^ 32
  if back = 0 ∨ s.nv.logNext < back then toBE 4 want
  else
    let b := min back n
    let recs := (s.nv.log.take b).reverse.take 89
    toBE 4 ((s.nv.logNext - b) % 2 ^ 32) ++ recs.flatMap EvRec.octets

/-- One field set in the verification report: set, test point result, grid bins and Rmax in mm of its protective field, steps. -/
def State.reportEntry (s : State) (i : Nat) : Octets :=
  match s.fieldSet i with
  | none => []
  | some fs =>
    match fs.fields with
    | [] => []
    | f :: _ =>
      let mm := dcapMm fs.dcap
      let daz := gridStep mm f (s.objN 0xC010 11)
      let del := gridStep mm f (s.objN 0xC010 12)
      oct [i, b2n (s.fieldSetOk i)] ++ toBE 4 (gridBins f daz del).length ++ toBE 4 (10 * maxL 0 (f.verts.map fun p => p.2.2)).toNat
        ++ toBE 2 daz ++ toBE 2 del ++ zeros 2

/-- Verification report (R356). The spec gives its content and its length and no offsets: DESIGN CHOICE. -/
def State.verifyReport (s : State) : Octets := fitTo 1024 (toBE 4 s.setCrc ++ (List.range 32).flatMap s.reportEntry)

/-- Octets of a BLOB object at a read. -/
def State.viewBlob (s : State) (obj : Nat) : Octets :=
  match obj with
  | 0x0001 => s.identity
  | 0x1023 => fitTo 32 (assocD [] s.blobs obj)
  | 0x1031 => s.tv.conflicts.flatten
  | 0x2232 => s.fleetEntry
  | 0x3204 => s.patRead
  | 0x3433 => s.converterTable
  | 0x4042 => s.backgroundOf
  | 0x5203 => memGet s.dma.desc (32 * s.objN 0x5201 0) 1440
  | 0x5221 => memGet s.dma.buf (s.objN 0x5220 0) (min 1440 (524288 - s.objN 0x5220 0))
  | 0x6402 => let k := s.objN 0x6401 0; (List.range 1024).flatMap fun i => toBE 2 (ofInt 16 (AMap.get 0 (s.comp (k / 4) (k % 4)).tab i))
  | 0x8021 => s.nv.quench.getD (s.objN 0x8020 0) (zeros 32)
  | 0x9002 => s.logWindow
  | 0x9321 => assocD (zeros 1044) s.blobs obj
  | 0xA301 => s.segHeader (s.objN 0xA300 0)
  | 0xA303 => ((s.segImage (s.objN 0xA300 0)).drop (s.objN 0xA302 0)).take 1440
  | 0xC200 => s.verifyReport
  | 0xC421 => (s.plv.image.drop (s.objN 0xC422 0)).take 1440
  | _ => assocD [] s.blobs obj

/-- Type code and value of an element, or of the whole object (R12, R48, R69). -/
def State.readValue (s : State) (r : Row) (obj el : Nat) (whole : Bool) : Nat × Octets :=
  match r.shape with
  | .octets .. => (r.ty.code, s.viewBlob obj)
  | .scalar => if el = 0 then (r.ty.code, r.ty.enc (s.view obj 0)) else (Ty.u32.code, Ty.u32.enc (s.view obj el))
  | _ =>
    let n := s.readCount r obj
    if el = 0 then
      if whole then (0x80 + r.ty.code, toBE 2 n ++ (List.range n).flatMap fun i => r.ty.enc (s.view obj (i + 1)))
      else (Ty.u16.code, toBE 2 n)
    else (r.ty.code, r.ty.enc (s.view obj el))

/-! ### Snapshots of a high half (R49) -/

/-- Objects of which a read of element 01 latches element 02 (R49, R213). -/
def latches (obj : Nat) : Bool := obj == 0x3012 || obj == 0x3250 || (decide (0x7140 ≤ obj) && decide (obj ≤ 0x717F))

/-- Latch the high half for the reader; at most 16 snapshots a master. -/
def State.snapTake (s : State) (r : Req) (obj : Nat) : State :=
  let x : Snap := { port := r.port, master := r.master, obj := obj, hi := (s.view obj 2).toNat, at_ := s.now }
  let mine := s.tv.snaps.filter fun y => r.sameMaster y.port y.master && y.obj != obj
  let others := s.tv.snaps.filter fun y => !(r.sameMaster y.port y.master)
  { s with tv := { s.tv with snaps := others ++ mine.drop (mine.length - 15) ++ [x] } }

/-- The snapshot that a read of element 02 returns, while it is at most 100 ms old. -/
def State.snapOf (s : State) (r : Req) (obj : Nat) : Option Nat :=
  (s.tv.snaps.find? fun y => r.sameMaster y.port y.master && y.obj == obj && decide (s.now ≤ y.at_ + 100 * msP)).map (·.hi)

/-- A snapshot serves the next read of element 02 only. -/
def State.snapDrop (s : State) (r : Req) (obj : Nat) : State :=
  { s with tv := { s.tv with snaps := s.tv.snaps.filter fun y => !(r.sameMaster y.port y.master && y.obj == obj) } }

/-- What a read does beside its answer: a read of the selected segment's header or data renews its lock while it has one (R268), and damaged
records in the data are counted (R269). -/
def State.readEffect (s : State) (obj : Nat) : State :=
  let i := s.objN 0xA300 0
  if obj = 0xA301 then s.segRead i 0 0 else if obj = 0xA303 then s.segRead i (s.objN 0xA302 0) 1440 else s

/-- Checks of a read (R14, R42, R271). -/
def State.readCodes (s : State) (obj el : Nat) : List Nat :=
  match Catalogue.find obj with
  | none => [0x0101]
  | some r =>
    let n := if halves obj then 2 else s.readCount r obj
    when (n < el) 0x0102 ++ when (r.acc == .wo) 0x0202
      ++ when ((decide (0xA300 ≤ obj) && decide (obj ≤ 0xA305) || obj == 0xA001) && s.capOff) 0x0601

/-- The whole of a read (R46 ... R49, R70); a value that does not fit one message is refused as too large. -/
def State.readObj (s : State) (r : Req) (obj el : Nat) (whole : Bool) : State :=
  if obj = 0x5210 ∧ el = 0 then s.recsRead r
  else s.through r kRead obj fun s =>
    let ab := firstAbort (s.readCodes obj el)
    if ab ≠ 0 then s.respond r kRead ab []
    else match Catalogue.find obj with
    | none => s
    | some row =>
      if latches obj ∧ el = 2 then
        let v := (s.snapOf r obj).getD (s.view obj 2).toNat
        (s.snapDrop r obj).answerRead r obj el Ty.u32.code (toBE 4 v)
      else
        let v := s.readValue row obj el whole
        let s1 := (if latches obj ∧ el = 1 then s.snapTake r obj else s).readEffect obj
        if 1452 < v.2.length then s1.respond r kRead 0x0501 [] else s1.answerRead r obj el v.1 v.2

def execRead (r : Req) (obj el : Nat) (whole : Bool) (s : State) : Host.Outcome State Fault Refusal := .next (s.readObj r obj el whole)

end Sys2Proof.Machine
end

