-- ==== Sys2Proof/Machine/Publish.lean ====
section
/-! DEFINITION. Subscriptions and publications (R61, R62, R70). -/

namespace Sys2Proof.Machine

def State.modTv (s : State) (f : Torvip → Torvip) : State := { s with tv := f s.tv }

/-- Type code and value that a publication carries: the whole object for element 00 (R70). -/
def State.pubValue (s : State) (x : Sub) : Nat × Octets :=
  match Catalogue.find x.obj with
  | none => (0, [])
  | some r => s.readValue r x.obj x.el (x.el == 0)

def State.setSub (s : State) (x : Sub) : State :=
  s.modTv fun t => { t with subs := t.subs.map fun y => if y.handle = x.handle then x else y }

/-- One publication: never acknowledged and never resent; the subscription's sequence counts it. -/
def State.publish (s : State) (x : Sub) : State :=
  let v := s.pubValue x
  let n := s.tv.txnNo
  let body := toBE 2 x.handle ++ toBE 2 x.seq ++ toBE 4 s.frm.no ++ addr3 x.obj x.el ++ toBE 1 v.1 ++ v.2
  if 1456 < body.length ∨ !s.portSends x.port then s
  else
    ((s.sendMsg x.port x.src 5 kPublish 0 x.master n 0 body).modTv fun t => { t with txnNo := (n + 1) % 2 ^ 32 }).setSub
      { x with seq := (x.seq + 1) % 65536, last := s.now, lastVal := some v.2 }

/-- The interval of a subscription has passed: a periodic one publishes, one on change when the value differs from the last published
one; a value published never yet differs (DESIGN CHOICE, log entry 21). Publishing pauses during a Pilot restart (R47). -/
def State.pubInterval (s : State) (handle : Nat) : State :=
  match s.tv.subs.find? fun x => x.handle == handle with
  | none => s
  | some x =>
    if s.restarting ∨ !s.fromConfig ∨ s.now < x.last + x.interval * msP then s
    else if x.trig = 2 then s.publish x
    else if x.trig = 1 ∧ x.lastVal ≠ some (s.pubValue x).2 then s.publish x
    else s

/-- Publications per frame, at the end of each Landing. -/
def State.pubFrame (s : State) : State :=
  if s.restarting then s
  else (s.tv.subs.filter fun x => x.trig == 3).foldl (fun s x => s.publish x) s

/-- A subscription's lifetime has passed without renewal. -/
def State.subLapse (s : State) (handle : Nat) : State :=
  s.modTv fun t => { t with subs := t.subs.filter fun x => !(x.handle == handle && decide (x.expiry ≤ s.now)) }

/-- The subscription that a request names: the same master, trigger and object. -/
def State.subOf (s : State) (r : Req) (obj el trig : Nat) : Option Sub :=
  s.tv.subs.find? fun x => r.sameMaster x.port x.master && x.trig == trig && (trig == 4 || (x.obj == obj && x.el == el))

/-- Handles in use are not given again. -/
def freshHandle (used : List Nat) : Nat → Nat → Nat
  | 0, h => h
  | k + 1, h => if used.contains h ∨ h = 0 then freshHandle used k ((h + 1) % 65536) else h

/-- Checks of a subscribe request (R42, R61). The address is checked whatever the trigger, but for trigger 04h, which ignores it, and for
the cancellation of a subscription that is held. The range of the interval stands in the row of the periodic trigger; it is checked for one on
change as well (DESIGN CHOICE, log entry 21). -/
def State.subCodes (s : State) (r : Req) (obj el trig interval life : Nat) : List Nat :=
  (if trig = 4 ∨ (life = 0 ∧ (s.subOf r obj el trig).isSome) then [] else s.readCodes obj el)
    ++ when (trig == 0 || decide (4 < trig) || decide (3600 < life)
        || ((trig == 1 || trig == 2) && decide (0 < life) && (decide (interval < 10) || decide (60000 < interval)))) 0x0301
    ++ when (decide (0 < life) && decide (64 ≤ s.tv.subs.length) && (s.subOf r obj el trig).isNone) 0x0501

/-- Subscribe, renew or cancel. R70 says that the body is empty on an abort for a read only; a refused subscribe is answered with an empty
body too (DESIGN CHOICE, log entry 89). -/
def State.subscribe (s : State) (r : Req) (obj el trig interval life mask : Nat) : State :=
  s.through r kSubscribe obj fun s =>
    let o := if trig = 4 then 0 else obj
    let e := if trig = 4 then 0 else el
    let ab := firstAbort (s.subCodes r o e trig interval life)
    if ab ≠ 0 then s.respond r kSubscribe ab []
    else match s.subOf r o e trig with
    | some x =>
      let s1 :=
        if life = 0 then s.modTv fun t => { t with subs := t.subs.filter fun y => y.handle != x.handle }
        else s.setSub { x with src := r.src, interval := interval, mask := mask, expiry := s.now + life * secP }
      s1.respond r kSubscribe 0 (toBE 2 x.handle)
    | none =>
      if life = 0 then s.respond r kSubscribe 0 (toBE 2 0)
      else
        let h := freshHandle (s.tv.subs.map (·.handle)) 65 (s.tv.nextHandle % 65536)
        let x : Sub :=
          { handle := h, port := r.port, master := r.master, src := r.src, obj := o, el := e, trig := trig, interval := interval, mask := mask
            expiry := s.now + life * secP, seq := 0, last := s.now, lastVal := none }
        (s.modTv fun t => { t with subs := t.subs ++ [x], nextHandle := h + 1 }).respond r kSubscribe 0 (toBE 2 h)

def execSubscribe (r : Req) (obj el trig interval life mask : Nat) (s : State) : Host.Outcome State Fault Refusal :=
  .next (s.subscribe r obj el trig interval life mask)
def execPublicationInterval (handle : Nat) (s : State) : Host.Outcome State Fault Refusal := .next (s.pubInterval handle)
def execSubscriptionLapse (handle : Nat) (s : State) : Host.Outcome State Fault Refusal := .next (s.subLapse handle)

end Sys2Proof.Machine
end

