-- ==== Sys2Proof/Machine/Landing.lean ====
section
/-! DEFINITION. The Landing: the end of a frame, the drain of its cells, the agreement sets, the commit of step 5, step 6, abandoned and
idle Landings (R28 ... R34, R58, R430). -/

namespace Sys2Proof.Machine

/-! ### Agreement sets (R34, R58, R155, R430) -/

/-- The set a member belongs to. -/
def agreeSet (obj el : Nat) : Option Nat :=
  if obj = 0x3010 ∨ obj = 0x3210 then some 0
  else if (obj = 0x4000 ∨ obj = 0x4010) ∧ (el = 1 ∨ el = 2) then some 1
  else none

/-- Values pending in a set. -/
def State.setPend (s : State) (n : Nat) : List Pend := s.tv.pend.filter fun p => agreeSet p.obj p.el == some n

/-- A Quadrant that will be live in the next frame: it stays, joins at this Landing, or would join in the entry commit, in which those
with a settled bias do (R414). -/
def State.willLive (s : State) (q : Fin 4) : Bool :=
  let qd := s.quad q
  s.participates q && (if s.frm.active then
      qd.st == 0 || (qd.st == 1 && (s.forge.bias.get q).settled) || (qd.st == 3 && !s.frm.aborted && s.shadowOk q)
    else qd.st != 5 && qd.st != 7 && (s.forge.bias.get q).settled)

/-- Frame timing: under the internal timer, every such Quadrant's pattern plus 20 µs fits the frame period. -/
def State.timingOk (s : State) (src period mask : Int) : Bool :=
  src != 0 || quads4.all fun q =>
    let b := if bit mask.toNat q.val && (s.setPend 0).any (·.obj == 0x3210) then (s.quad q).shd else (s.quad q).act
    !s.willLive q || decide (b.duration + 8000 ≤ period.toNat * usP)

/-- A set is consistent with its upcoming values. -/
def State.setConsistent (s : State) (n : Nat) : Bool :=
  if n = 0 then s.timingOk (s.upcoming 0x3020 1) (s.upcoming 0x3010 0) (s.upcoming 0x3210 0)
  else layoutOk (s.upcoming 0x4000 1).toNat (s.upcoming 0x4000 2).toNat (s.upcoming 0x4010 1).toNat (s.upcoming 0x4010 2).toNat

/-- Step 3: the AGREEMENT_PENDING bit of a set, and event 6102h as it rises. -/
def State.checkSet (s : State) (n : Nat) : State :=
  let was := s.objN 0x1300 0
  if (s.setPend n).isEmpty ∨ s.setConsistent n then s.setObj 0x1300 0 (clrBit was n)
  else if bit was n then s
  else (s.setObj 0x1300 0 (setBit was n)).evt 0x6102 n

def State.checkSets (s : State) : State := (s.checkSet 0).checkSet 1

/-- A pending value is held with its set. -/
def State.pendHeld (s : State) (p : Pend) : Bool :=
  match agreeSet p.obj p.el with
  | some n => bit (s.objN 0x1300 0) n
  | none => false

/-! ### Step 5 -/

/-- What an applied LND value does beside taking effect: `old` is the state before. -/
def State.lndEffect (old s : State) (p : Pend) : State :=
  if 0x3400 ≤ p.obj ∧ p.obj ≤ 0x3407 then
    s.chanEnable (128 * (p.obj - 0x3400) + p.el - 1) (bit (old.objN p.obj p.el) 31) (bit (s.objN p.obj p.el) 31)
  else if p.obj = 0x4040 ∧ p.el = 5 ∧ p.val = 0 then s.noOffsets
  else if p.obj = 0x6400 then s.compEnable (p.el - 1) (old.objN p.obj p.el)
  else s

/-- The shadowed LND objects take effect: every pending value whose set is not held. -/
def State.applyLnd (s : State) : State :=
  let go := s.tv.pend.filter fun p => !s.pendHeld p
  let s1 := go.foldl (fun s p => s.setObj p.obj p.el p.val) s
  let s2 := { s1 with tv := { s1.tv with pend := s.tv.pend.filter fun p => s.pendHeld p } }
  go.foldl (fun t p => State.lndEffect s t p) s2

/-- The mask of the commit that is applied at this Landing. -/
def State.swapMask (s : State) : Nat :=
  match s.pendOf 0x3210 0 with
  | some p => if s.pendHeld p then 0 else p.val.toNat
  | none => 0

/-- Banks swap, and the refresh of the new shadow begins (R87). -/
def State.swapBank (s : State) (q : Fin 4) : State :=
  s.modQuad q fun qd => { qd with bank := 1 - qd.bank, act := qd.shd, shd := qd.act, ready := false, wq := [] }

/-- The microcode bank selected by `4.201` becomes active; the outgoing one serves the frame that has ended (R29, R195). -/
def State.mcSwitch (s : State) (q : Fin 4) : State :=
  let want := s.objN 0x4201 (q.val + 1)
  s.modCru q fun k =>
    if want = k.mcAct then { k with mcOut := none } else { k with mcAct := want, mcOut := some k.mcAct }

/-- A Landing that switches no bank of a Quadrant: the frame that has ended ran with the bank that stays active (R29, R31). -/
def State.mcStay (s : State) (q : Fin 4) : State := s.modCru q fun k => { k with mcOut := none }

/-- Evaluator A takes an active bank without approval as blind from the next Landing on (R195). -/
def State.mcApproval (s : State) (q : Fin 4) : State :=
  let bad := !s.approved ((s.cru q).mcId (s.cru q).mcAct)
  let s1 := s.modIsl fun i => { i with mcBlind := putBit i.mcBlind q.val bad }
  if bad && !bit s.isl.mcBlind q.val then s1.evt 0x4401 q.val else s1

/-- A Quadrant that has not acknowledged its part of step 5 (R31): it faults, and leaves with the banks it held. -/
def State.unackedQuad (s : State) (q : Fin 4) : State :=
  let s1 := (s.quadMismatch q 2).evtFree 0x2012
  if (s1.quad q).st = 2 then s1.quadLeave q else s1

/-- Settings, strike, banks and microcode: what every Landing commits between leaving and joining. `skip` names the Quadrants that do
not acknowledge, `lnd` whether the shared settings have switched. -/
def State.commitMiddle (s : State) (skip : Nat) (lnd : Bool) : State :=
  let swap := s.swapMask
  let s1 := if lnd then s.applyLnd else s
  let s2 := if s1.obj 0x3300 3 = 1 then s1.strike else s1
  let s3 := forQuads s2 fun s q => if bit swap q.val && lnd && !bit skip q.val then s.swapBank q else s
  forQuads s3 fun s q => if bit skip q.val then s.mcStay q else s.mcSwitch q

/-- Windows measured in Landings end at step 5 (R211, R213). -/
def State.windowsLanding (s : State) : State := (s.windowsEnd false 1).windowsEnd true 1

/-- What follows in every Landing once step 5 is made, the accounts of the next frame among it (R169). -/
def State.commitAfter (s : State) : State :=
  let s1 := forQuads s fun s q => (s.mcApproval q).accountLanding q
  (((s1.helmLanding).loopsLanding).govLanding).windowsLanding

/-- Step 5 of a Landing that ends a frame. -/
def State.commit5 (s : State) (li : LandingIn) (skip : Nat) (lnd : Bool) : State :=
  let leftNow (q : Fin 4) : Bool := (!s.participates q && (s.quad q).st ≤ 4) || ((s.quad q).st == 2 && !s.restarting)
  let s1 := forQuads s fun s q => s.quadLeave q
  let s2 := s1.commitMiddle skip lnd
  let party (q : Fin 4) : Bool := decide ((s.quad q).st ≤ 4)
  let s3 := forQuads s2 fun t q => if bit skip q.val && party q then t.unackedQuad q else t.quadJoins q li (leftNow q)
  s3.commitAfter.emRejoin

/-! ### The end of a frame -/

/-- Channels, 0 ... 255. -/
def chans256 : List Nat := List.range 256

/-- A train that still waits for its last pulse is decided now, and every hit left is unmatched (R158, R161). -/
def State.drainChan (s : State) (q : Fin 4) (c : Nat) : State :=
  let ch := s.chan q c
  let due (l : LatePulse) : LatePulse := { l with due := min l.due s.now }
  let s1 := if ch.late.isEmpty then s else s.setChan q c { ch with late := ch.late.map due }
  let s2 := ch.late.foldl (fun s _ => s.lateMatch q c) s1
  ((s2.chan q c).buf.filter fun h => !h.done).foldl (fun s _ => s.hitUnmatched q c true) s2

/-- Step 2 in one Quadrant: the gates left close, pours drain, visits close, peak searches end and the cells are finished (R28, R153). -/
def State.drainQuad (s : State) (q : Fin 4) : State :=
  if !(s.quad q).fires then s
  else
    let no := s.frm.no
    let mine := (s.quad q).shots.filter fun x => x.frame == no
    let s1 := mine.foldl (fun s x => (chans256.filter fun c => x.openOn c).foldl (fun s c => s.gateCloses q x.slot c) s) s
    let s2 := ((s1.quad q).chans.map (·.1)).foldl (fun s c => s.drainChan q c) s1
    let cells := (s2.cru q).cells.filter fun r => r.frame == no
    let s3 := cells.foldl (fun s r => if r.visits = 0 then s else (s.slice q r.cell 0).visitClose q no r.cell 0) s2
    let s4 := ((s3.cru q).ctxs.filter fun k => k.frame == no && !k.zoom && !k.searched).foldl (fun s k => s.peakSearch q no k.cell k.chan) s3
    let s5 := cells.foldl (fun s r => if r.visits < 2 then s else (s.slice q r.cell 1).visitClose q no r.cell 1) s4
    let s6 := cells.foldl (fun s r => s.cellFinish q no r.cell) s5
    s6.shipCells q (s6.cru q).fin.length

/-- Counters of the frame become the last frame's. -/
def State.frameCounts (s : State) : State :=
  let one (s : State) (q : Fin 4) : State :=
    let s1 := s.interference q
    (s1.cntAdd q s1.frm.no 0x4021 5 5 (s1.acctSpent q)).publishCnt q
  let s1 := forQuads s one
  let s2 := (s1.setObj 0x7650 3 (s1.u32Of s1.ana.stamped)).setObj 0x7650 4 (s1.u32Of s1.ana.badStamps)
  let s3 := (s2.setObj 0xC310 0x81 (s2.u32Of s2.gov.vetoes)).setObj 0x6030 4 (s2.u32Of s2.steer.trackErr)
  { s3 with
    ana := { s3.ana with stamped := 0, badStamps := 0 }
    gov := { s3.gov with vetoes := 0 }
    steer := { s3.steer with trackErr := 0 } }

/-- Steps 1 and 2: the island takes its frame boundary, and the frame's cells drain. -/
def State.endFrame (s : State) : State :=
  let s1 := s.frameEnded s.frm.no s.frm.startNs s.frm.aborted
  let s2 := if s.frm.aborted then s1 else forQuads s1 fun s q => s.drainQuad q
  let s3 := s2.frameCounts
  ((s3.modFrm fun f => { f with running := false, endAt := s.now }).endInHand s.frm.no).closeAllFrames

/-- The injection and then the emitter diagnosis, alongside steps 2 ... 4 (R95, R140); an emitter campaign counts its Landings (R402). -/
def State.measure (s : State) (li : LandingIn) : State :=
  let s1 := forQuads s fun s q => if (s.quad q).st ≤ 3 then s.channelsLanding q li else s
  let s2 := s1.emPassed.diagLanding li
  let n := s2.pilot.emit
  let s3 := { s2 with pilot := { s2.pilot with emit := n - 1 } }
  if n = 1 then (s3.evt 0x0B03 7).commandDone 0x9331 else s3

/-- Duration of a Landing (`3.013`). -/
def State.landStats (s : State) (dur : Nat) : State :=
  let s1 := s.setObj 0x3013 1 (s.u32Of dur)
  (if s.objN 0x3013 2 < dur then s1.setObj 0x3013 2 (s.u32Of dur) else s1).modFrm fun f => { f with landUntil := s.now + dur * 2 / 5 }

/-- Step 6: the frame number and a time step that waits; locks of withdrawn values end. -/
def State.step6 (s : State) (counted : Bool) : State :=
  let s0 := s.modFrm fun f => { f with no := if counted then (f.no + 1) % 2 ^ 32 else f.no }
  let s1 := s0.setObj 0x3011 0 s0.frm.no
  let s2 := match s1.time.stepDue with
    | some off => s1.stepNow off
    | none => s1
  { s2 with tv := { s2.tv with withdrawn := [] } }.pubFrame

/-- Abandoned Landings in a row are cause 10; sixteen complete ones clear it (R423). -/
def State.landRow (s : State) (complete : Bool) : State :=
  let s1 := s.modFrm fun f =>
    if complete then { f with abandonedRow := 0, completeRow := f.completeRow + 1 } else { f with abandonedRow := f.abandonedRow + 1, completeRow := 0 }
  if s1.frm.abandonedRow = 2 then s1.raiseCause 10
  else if 16 ≤ s1.frm.completeRow then s1.setCause 10 false else s1

/-- DEGRADED returns to RUN at a Landing at which no cause remains (R423). -/
def State.degradedEnd (s : State) : State := if s.life.st = .degraded ∧ s.life.causes = 0 then s.goto .run else s

/-! ### After the last Landing of a stop (R415) -/

/-- Every cell of every frame has been decomposed, and the closing Ingots are committed. -/
def State.allShipped (s : State) : Bool :=
  (quads4.all fun q => (s.cru q).cells.all fun r => r.shipped) && (s.link 0).inHand.isEmpty && (s.link 1).inHand.isEmpty

/-- CONFIG, SERVICE or QUENCHED is entered: idle Landings count from here (R33). -/
def State.enterIdle (s : State) (st : DevState) : State :=
  let s1 := (s.goto st).modFrm fun f => { f with nextIdle := s.now + s.objN 0x3010 0 * usP }
  -- a master of the Wofen bus calibrates on entering CONFIG (R243)
  let s2 := if st = .config ∧ s.wof.role = 1 then { s1 with wof := { s1.wof with recalAt := some s.now } } else s1
  if st = .config then s2.fleetConfig else s2

/-- A prepare command goes on once no frames run: the slow axis is driven to 8000h, from where its trajectory stands (R416). -/
def State.prepareDrive (s : State) : State :=
  let (aN, _, d) := s.trajNow
  { s with life := { s.life with prepEl := some (clampI 0 65535 (divRound aN d)).toNat } }

/-- A stop takes effect once the last frame has been decomposed. -/
def State.stopSettle (s : State) : State :=
  if s.life.stopReq ∧ !s.frm.active ∧ s.allShipped then
    let s1 := (forQuads s fun s q => s.modQuad q Quad.atStop).readmitDropAll
    -- the streams of acquisition have stopped (R260)
    let s2 := ({ s1 with life := { s1.life with stopReq := false } }.enterIdle .config).sourceLost ((List.range 6).any fun i => s.capWants (i + 1))
    if s.life.prepReq then s2.prepareDrive else s2.commandDone 0x3000
  else s

/-- Frames go on, or stop (R30, R34, R415). -/
def State.afterLanding (s : State) : State :=
  if s.life.stopReq then (s.modFrm fun f => { f with active := false, want := none, wantHeld := false }).stopSettle
  else s.tryStart

/-- The internal timer follows a new period or source. -/
def State.retime (s old : State) : State :=
  if s.obj 0x3010 0 = old.obj 0x3010 0 ∧ s.obj 0x3020 1 = s.frm.lastSrc then s
  else s.modFrm fun f => { f with nextTimer := f.start + s.objN 0x3010 0 * usP, lastSrc := s.objN 0x3020 1 }

/-- The end of a Landing is an occurrence for the capture engine (R263). -/
def State.landingEnd (s : State) : State := s.occNote (s.capNow + (s.frm.landUntil - s.now) * 163840) .landingEnd

/-- A Landing that ends a frame: `before5` abandons it, else `skip` names the Quadrants that do not acknowledge. -/
def State.landing (s : State) (li : LandingIn) (abandon : Bool) (skip : Nat) : State :=
  let s1 := s.endFrame.measure li
  let s2 := if abandon then ((forQuads s1 State.mcStay).evtFree 0x2011).bump 0x3013 3 1 else (s1.checkSets.commit5 li skip true).degradedEnd
  let s3 := ((s2.landStats li.dur).landRow (!abandon)).step6 true
  (State.retime s3 s).landingEnd.afterLanding

/-- FRAME_END. -/
def State.frameEnd (s : State) (li : LandingIn) : State := if s.frameOver then s.landing li false 0 else s

/-- LANDING_WATCHDOG: the Landing of a frame that is over takes longer than 20 µs. -/
def State.landWatchdog (s : State) (before5 : Bool) (unacked : Nat) (li : LandingIn) : State :=
  if s.frameOver then (s.satBump 0xF020 7 65535 1).landing li before5 (if before5 then 0 else unacked) else s

/-- SHARED_COMMIT_TIMEOUT: the settings in effect and the frame number can no longer be stated, so either half of the handshake may have
been made: free values. No further frame starts. -/
def State.sharedTimeout (s : State) (li : LandingIn) : State :=
  if s.frameOver then
    let a : Bool := s.freeNat 2 = 0
    let b : Bool := Config.freeU32 (s.free + 1) % 2 = 0
    let s0 := { s.satBump 0xF020 7 65535 1 with free := s.free + 2 }
    let s1 := (s0.endFrame.measure li).checkSets.commit5 li 0 a
    (((s1.landStats li.dur).step6 b).evtFree 0x3021).halt
  else s

/-- An idle Landing (R33): steps 3 and 5 without membership, injection and diagnosis; the slow axis restarts its phase. -/
def State.idle (s : State) : State :=
  let s1 := s.checkSets.commitMiddle 0 true
  let s2 := s1.commitAfter
  let s3 := { s2 with tv := { s2.tv with withdrawn := [] }, steer := { s2.steer with phase0 := s.now } }
  (s3.occNote s3.capNow .landingEnd).pubFrame

/-- IDLE_LANDING: due every frame period while no frames run. -/
def State.idleLanding (s : State) : State :=
  let here : Bool := s.life.st == .config || s.life.st == .service || s.life.st == .quenched
  if here ∧ !s.frm.active ∧ s.frm.nextIdle ≤ s.now then
    let s1 := s.idle
    s1.modFrm fun f => { f with nextIdle := f.nextIdle + s1.objN 0x3010 0 * usP }
  else s

/-! ### The commands; the echo engine's end the decomposition that a stop waits for -/

def execLaneTakeUp (q : Fin 4) (s : State) : Host.Outcome State Fault Refusal := .next (s.laneTakeUp q).stopSettle
def execDecompositionDone (q : Fin 4) (lane : Fin 16) (beyond : Bool) (ecc : Fin 4) (blk : Nat) (s : State) : Host.Outcome State Fault Refusal :=
  .next (s.laneDone q lane.val beyond ecc.val blk).stopSettle
def execQuadrantContextWatchdog (q : Fin 4) (s : State) : Host.Outcome State Fault Refusal := .next (s.ctxWatchdog q).stopSettle
def execFrameEnd (li : LandingIn) (s : State) : Host.Outcome State Fault Refusal := .next (s.frameEnd li)
def execLandingWatchdog (before5 : Bool) (unacked : Nat) (li : LandingIn) (s : State) : Host.Outcome State Fault Refusal :=
  .next (s.landWatchdog before5 unacked li)
def execSharedCommitTimeout (li : LandingIn) (s : State) : Host.Outcome State Fault Refusal := .next (s.sharedTimeout li)
def execIdleLanding (s : State) : Host.Outcome State Fault Refusal := .next s.idleLanding

end Sys2Proof.Machine
end

