-- ==== Sys2Proof/Machine/Thermal.lean ====
section
/-! DEFINITION. The sensor block: housekeeping rounds, thermal levels, the Quench and its record, supply means (R380 ... R386). -/

namespace Sys2Proof.Machine

/-- Temperature of a count in 1/16 °C (R380). -/
def siteTemp (i n : Nat) : Int := 400 + (((n : Int) - Config.siteN25 i) * Config.siteSlope i + 2 ^ 15) / 2 ^ 16

/-- The temperature of a site this round, when its count is plausible. -/
def siteReading (counts : List (Option Nat)) (i : Nat) : Option Int :=
  match counts.getD i none with
  | none => none
  | some n => if Config.siteLow i ≤ n ∧ n ≤ Config.siteHigh i then some (siteTemp i n) else none

/-- The site is left out of Tj. -/
def State.siteBad (s : State) (i : Nat) : Bool := s.sens.bad.any fun b => b.1 == i

/-- One site in a round: it becomes invalid with event 1B03h, or counts its valid rounds and rejoins at the sixteenth (R381). -/
def State.siteRound (s : State) (counts : List (Option Nat)) (i : Nat) : State :=
  let bad (l : List (Nat × Nat)) : State := { s with sens := { s.sens with bad := l } }
  let rest := s.sens.bad.filter fun b => b.1 != i
  match siteReading counts i, s.sens.bad.find? fun b => b.1 == i with
  | none, none => (bad (rest ++ [(i, 0)])).evt 0x1B03 i
  | none, some _ => bad (rest ++ [(i, 0)])
  | some _, none => s
  | some _, some b => if 16 ≤ b.2 + 1 then bad rest else bad (rest ++ [(i, b.2 + 1)])

/-- Sites in Tj with their temperatures. -/
def State.validSites (s : State) (counts : List (Option Nat)) : List (Nat × Int) :=
  (List.range 20).filterMap fun i =>
    if s.siteBad i then none else match siteReading counts i with | some t => some (i, t) | none => none

/-- The hottest of a list of sites, the lowest number among equals. -/
def hottest : List (Nat × Int) → Option (Nat × Int)
  | [] => none
  | x :: xs => match hottest xs with
    | none => some x
    | some y => if x.2 < y.2 then some y else some x

/-- A level in the next round: entered at its threshold, left below its threshold less its hysteresis (R382). -/
def State.levelOn (s : State) (tj : Int) (l : Nat) : Bool :=
  let th := s.obj 0x8010 (2 * l + 1)
  if bit s.sens.levels l then decide (th - s.obj 0x8010 (2 * l + 2) ≤ tj) else decide (th ≤ tj)

/-- The sensor block runs in every state except OFF with the power-on reset held (R383). -/
def State.sensorsRun (s : State) : Bool := s.life.st != .off || s.life.prepared

/-! ### The Quench (R383, R385) -/

/-- The record. -/
def State.quenchRecord (s : State) (valid : List (Nat × Int)) (site qseq : Nat) (tj : Int) : Octets :=
  let core := valid.filter fun x => x.1 < 16
  let anchor := valid.filter fun x => 16 ≤ x.1
  let other := match hottest (if site < 16 then anchor else core) with
    | some x => ofInt 16 x.2
    | none => 0x8000
  toBE 8 s.timeNs ++ toBE 4 s.frm.no ++ oct [site, s.life.st.code] ++ toBE 2 (ofInt 16 tj) ++ toBE 2 other
    ++ oct [s.isl.st.code, min 15 core.length * 16 + anchor.length] ++ toBE 4 qseq ++ zeros 8

/-- Steps 2 ... 6: sequencers, loops and emission stop, the record is written, and the state is QUENCHED unless the part is HALTED or
prepared for power removal. -/
def State.quench (s : State) (valid : List (Nat × Int)) (site : Nat) (tj : Int) : State :=
  let n := (s.nv.qseq + 1) % 2 ^ 32
  let rec_ := s.quenchRecord valid site n tj
  let s1 := s.framesDown.drivesDown
  let s2 := (s1.posInvalid true 6).posInvalid false 6
  let s3 := { s2 with nv := { s2.nv with quench := (rec_ :: s2.nv.quench).take 16, qseq := n } }
  let s4 := if s.life.st = .halted ∨ s.life.st = .off then s3 else s3.enterIdle .quenched
  s4.evt 0x5103 site

/-! ### The housekeeping round -/

/-- Mean of each supply over the round, and the two supply currents, whose measurement no rule states: free values (R386, R403). -/
def State.supplyMeans (s : State) : State :=
  let one (s : State) (n : Nat) : State :=
    let v := assocD supply0 s.ana.supplies n
    if v.n = 0 then s
    else { s.setObj 0x8201 (n + 1) ((v.sum / v.n : Nat) : Int) with
      ana := { s.ana with supplies := assocPut s.ana.supplies n { v with sum := 0, n := 0 } } }
  let s1 := (List.range 8).foldl one s
  let s2 := (s1.setObj 0x8201 9 ((s1.freeNat (2 ^ 32) : Nat) : Int)).setObj 0x8201 10 ((Config.freeU32 (s1.free + 1) % 2 ^ 32 : Nat) : Int)
  { s2 with free := s2.free + 2 }

/-- Tj of a round and the site that holds it: with too few sites the throttle threshold (R381), whose site no rule states. -/
def State.tjOf (s : State) (valid : List (Nat × Int)) (few : Bool) : Nat × Int :=
  match few, hottest valid with
  | false, some x => x
  | _, _ => (s.freeNat 20, s.obj 0x8010 3)

/-- Results of a round in `8.011` and `8.012`. -/
def State.publishRound (s : State) (valid : List (Nat × Int)) (site : Nat) (tj : Int) : State :=
  let s1 := (List.range 20).foldl (fun s i =>
    match valid.find? fun x => x.1 == i with
    | some x => { s.setObj 0x8011 (i + 1) (clampI (-32768) 32767 x.2) with ana := { s.ana with siteT := assocPut s.ana.siteT i x.2 } }
    | none => s.setObj 0x8011 (i + 1) (-32768)) s
  let s2 := (s1.setObj 0x8011 0x15 (clampI (-32768) 32767 tj)).setObj 0x8011 0x16 site
  let s3 := (s2.setObj 0x8012 2 ((valid.filter fun x => x.1 < 16).length : Nat)).setObj 0x8012 3 ((valid.filter fun x => 16 ≤ x.1).length : Nat)
  s3.bump 0x8012 5 1

/-- Too few sites is cause 11 (R381, R423). -/
def State.fewSites (s : State) (few : Bool) : State :=
  let s1 := { s with sens := { s.sens with few := few } }
  if few ∧ !s.sens.few then (s1.evt 0x3B02 (s1.objN 0x8012 2 + 256 * s1.objN 0x8012 3)).raiseCause 11
  else if !few ∧ s.sens.few then s1.setCause 11 false
  else s1

/-- Levels after a round: events 5101h and 5102h on entry, the Quench at 145 °C (R382). -/
def State.levelRound (s : State) (valid : List (Nat × Int)) (site : Nat) (tj : Int) : State :=
  let on (l : Nat) : Bool := s.levelOn tj l
  let up (l : Nat) : Bool := on l && !bit s.sens.levels l
  let s1 := { s with sens := { s.sens with levels := b2n (on 0) + 2 * b2n (on 1) + 4 * b2n (on 2), tj := tj, site := site } }
  let s2 := if up 0 then s1.evt 0x5101 (ofInt 16 tj) else s1
  let s3 := if up 1 then s2.evt 0x5102 (ofInt 16 tj) else s2
  if up 2 then s3.quench valid site tj else s3

/-- HOUSEKEEPING_ROUND (R380): one every 1.024 ms. -/
def State.housekeeping (s : State) (counts : List (Option Nat)) : State :=
  if !s.sensorsRun ∨ s.now < s.sens.next then s
  else
    let s1 := { s with sens := { s.sens with next := s.sens.next + 409600 } }
    let s2 := (List.range 20).foldl (fun s i => s.siteRound counts i) s1
    let valid := s2.validSites counts
    let core := (valid.filter fun (x : Nat × Int) => x.1 < 16).length
    let few : Bool := core < 8 || core = valid.length
    let p := s2.tjOf valid few
    let s3 := ({ s2 with free := s2.free + 1 }.publishRound valid p.1 p.2).fewSites few
    let s4 := (s3.levelRound valid p.1 p.2).supplyMeans
    (s4.windowsEnd false 2).windowsEnd true 2

def execHousekeepingRound (counts : List (Option Nat)) (s : State) : Host.Outcome State Fault Refusal := .next (s.housekeeping counts)

end Sys2Proof.Machine
end

