-- ==== Sys2Proof/Machine/Update.lean ====
section
/-! DEFINITION. Pilot restarts, the Slip, trials and the loading of echo microcode (R47, R194, R379, R394 ... R398). -/

namespace Sys2Proof.Machine

def State.modPilot (s : State) (f : Pilot → Pilot) : State := { s with pilot := f s.pilot }
def State.modNv (s : State) (f : Nv → Nv) : State := { s with nv := f s.nv }

/-! ### Restarts (R379, R426) -/

/-- A service in progress at step 1 is abandoned with event 1B05h and its number (R399). A command message that is still owed its answer
gets it then, with status 00h: R71 has no status for a command that ends without being done (DESIGN CHOICE, log entry 90). -/
def State.dropService (s : State) (going : Bool) (n obj : Nat) : State :=
  if going then (s.evt 0x1B05 n).commandDone obj else s

/-- Services 4 ... 7 and 9 end; what a Slip command leaves behind is read from its code. A save, which is none of them, ends with its target
invalid, as its header is written last (DESIGN CHOICE, log entry 109). -/
def State.dropServices (s : State) : State :=
  let p := s.pilot
  let slip := match p.busy with
    | some (2, _) => 1
    | some (3, _) => 2
    | _ => p.slip
  let s1 := s.modPilot fun p => { p with base := none, report := none, conv := none, emit := 0, busy := none, slip := slip, save := none }
  let s2 := ((s1.dropService p.base.isSome 4 0x9300).dropService p.report.isSome 5 0x9320).dropService p.conv.isSome 6 0x9330
  let s3 := (s2.dropService (decide (0 < p.emit)) 7 0x9331).dropService p.busy.isSome 9 0x9212
  if p.save.isSome then s3.commandDone 0x9110 else s3

/-- The re-admission of a Quadrant requested by the host is abandoned (R426). -/
def State.dropQuadReadmit (s : State) : State :=
  (s.life.readm.filter fun v => v / 4096 == 4).foldl (fun s v => (s.readmitDrop v).evt 0x1B05 8) s

/-- An automatic return begins anew after the restart, at R420 step 4. -/
def State.holdReturns (s : State) : State :=
  forQuads s fun s q => if (s.quad q).st = 3 ∧ (s.quad q).auto then
      s.modQuad q fun qd => { qd with st := 2, seq := { qd.seq with done := true }, cru := qd.cru.discardFrame fun _ => true, shots := [], visit := none }
    else s

/-- Leases are extended by the length of a restart that ends, or that another one overtakes (R47). -/
def State.extendLeases (s : State) : State :=
  match s.pilot.restart with
  | none => s
  | some r => { s with tv := { s.tv with leases := s.tv.leases.map fun (l : Lease) => { l with expiry := l.expiry + (s.now - r.2.1) } } }

/-- A restart is decided: step 1, with step 2 after a delay. What R47 does not name is kept (DESIGN CHOICE, log entry 64). -/
def State.pilotRestart (s : State) (cause wait : Nat) : State :=
  let s1 := (s.extendLeases.dropServices.dropQuadReadmit).holdReturns
  let s2 := s1.modPilot fun p => { p with restart := some (cause, s.now, s.now + wait) }
  { s2 with
    restarting := true
    sideTx := Vector.replicate 2 []   -- the side channels carry only the fixed responder's answers from here on (R313)
    life := { s2.life with phase := if s2.life.phase = .recovery then (if s2.life.st = .boot then .loading else .done) else s2.life.phase } }

/-- A trial ends without confirmation: the former slot is preferred again. -/
def State.trialEnd (s : State) (why : Nat) : State :=
  ((s.modNv fun n => { n with preferred := s.pilot.former }).modPilot fun p => { p with trial := none }).evt 0x6B09 why

/-- The Pilot is out of its power-on reset (R379, R409). -/
def State.pilotOn (s : State) : Bool := s.life.phase != .held && s.life.phase != .waitXo

/-- The watchdog expires: after three such restarts within 600 s each further one waits 10 s and logs event 3B01h. A trial reverts. -/
def State.watchdog (s : State) : State :=
  if !s.pilotOn then s
  else
    let l := s.now :: s.pilot.wdogs.filter fun t => decide (s.now < t + 600 * secP)
    let s1 := s.modPilot fun p => { p with wdogs := l }
    let s2 := if s.pilot.trial.isSome then s1.trialEnd 3 else s1
    let s3 := if 3 < l.length then s2.evt 0x3B01 l.length else s2
    s3.pilotRestart 4 (if 3 < l.length then 10 * secP else 0)

/-- The firmware of a slot has started: the fixed responder is withdrawn (R379 step 4). A trial whose slot did not boot reverts. -/
def State.restartDone (s : State) : State :=
  match s.pilot.restart with
  | none => s
  | some r =>
    if s.now < r.2.2 then s
    else match s.bootSlot with
    | none => { (s.extendLeases.modPilot fun p => { p with restart := none }) with restarting := false, life := { s.life with phase := .recovery } }
    | some i =>
      let other : Bool := i != s.nv.preferred
      let s1 := s.extendLeases.modPilot fun p => { p with restart := none, slot := i, restarts := (p.restarts + 1) % 2 ^ 32, cause := r.1 }
      let s2 := { s1 with
        restarting := false
        tv := { s1.tv with subs := s1.tv.subs.map fun (x : Sub) => if x.trig = 2 then { x with last := max x.last (min s.now (x.last + (s.now - r.2.1))) } else x } }
      let s3 := if other then s2.evt 0x6B07 i else s2
      let s4 := if other ∧ s.pilot.trial.isSome then s3.trialEnd 3 else s3
      s4.evt 0x0B01 r.1

/-! ### The Slip (R395) -/

/-- Octets of the Slip. -/
def slipSize : Nat := 0x1000000

/-- Checks of a write to `9.211`: it follows an erase, ascends, and ends inside the Slip. -/
def State.slipDataCodes (s : State) (o : Octets) : List Nat :=
  let p := s.objN 0x9210 0
  when s.pilot.busy.isSome 0x0401 ++ when (s.pilot.slip == 2) 0x0401 ++ when (!s.pilot.slipErased) 0x0601
    ++ when (decide (p < s.pilot.slipEnd) || decide (slipSize < p + o.length)) 0x0301

/-- Data enters the Slip at the pointer, which advances; past the last octet it stands at 0. -/
def State.slipData (s : State) (o : Octets) : State :=
  let p := s.objN 0x9210 0
  let s1 := (s.modNv fun n => { n with nor := memPut n.nor (norBase 2 + p) o }).modPilot fun x => { x with slip := 1, slipEnd := p + o.length }
  s1.setObj 0x9210 0 (((p + o.length) % slipSize : Nat) : Int)

/-- Checks of a command on `9.212`. -/
def State.slipCodes (s : State) (c : Nat) : List Nat :=
  let busy := when (s.pilot.busy.isSome && c != 7) 0x0701
  let trial := s.pilot.trial.isSome
  match c with
  | 3 => busy ++ when (s.pilot.slip != 2 || hKind (s.imgHeader 2) != 1) 0x0601 ++ when trial 0x0401
  | 4 => busy ++ when (!s.slotBoots (1 - s.pilot.slot)) 0x0601 ++ when trial 0x0401
  | 5 => busy ++ when (!trial) 0x0601
  | 6 => busy ++ when (!trial) 0x0601
  | _ => busy

/-- A region of the NOR without its content from an offset on. -/
def State.norClear (s : State) (a n : Nat) : State :=
  s.modNv fun v => { v with nor := v.nor.filter fun x => !(decide (a ≤ x.1) && decide (x.1 < a + n)) }

/-- A copy of the Slip in another slot. -/
def State.norCopy (s : State) (i : Nat) : State :=
  let src := s.nv.nor.filter fun x => decide (norBase 2 ≤ x.1) && decide (x.1 < norBase 2 + slipSize)
  (s.norClear (norBase i) slipSize).modNv fun v =>
    { v with nor := src.foldl (fun m x => AMap.put 0 m (x.1 - norBase 2 + norBase i) x.2) v.nor }

/-- What an accepted command does at once: erase clears the Slip, install the header of the slot it will fill; the long ones run on. -/
def State.slipBegin (s : State) (c : Nat) : State :=
  let long (s : State) : State := s.modPilot fun p => { p with busy := some (c, s.now) }
  match c with
  | 1 => long ((s.norClear (norBase 2) slipSize).modPilot fun p => { p with slip := 0, slipErased := false, slipEnd := 0 })
  | 2 => long s
  | 3 => long ((s.norClear (norBase (1 - s.pilot.slot)) 256).modPilot fun p => { p with slip := 4 })
  | 4 =>
    let s1 := s.modNv fun n => { n with preferred := 1 - s.pilot.slot }
    (s1.modPilot fun p => { p with trial := some s.now, former := p.slot }).pilotRestart 1 0
  | 5 =>
    let r := max s.nv.fuse (hRbi (s.imgHeader s.pilot.slot))
    let s1 := (s.modNv fun n => { n with fuse := r, preferred := s.pilot.slot }).modPilot fun p => { p with trial := none, blow := some (s.nv.fuse, s.now) }
    (s1.evt 0x6B08 r).evt 0x0B03 9
  | 6 => (s.trialEnd 1).pilotRestart 2 0
  | _ => s.pilotRestart 3 0

/-- The long command in progress ends: its effect, event 0B02h when it took longer than 1 s, and the answer (R71). An install verifies the
slot it has filled; one that fails a check, as after the fuse counter has risen, is refused as a verify is (DEDUCED, log entry 53). -/
def State.slipDone (s : State) : State :=
  match s.pilot.busy with
  | none => s
  | some (c, t) =>
    let s1 := s.modPilot fun p => { p with busy := none }
    let n := s.verifyImg 2
    let s2 := match c with
      | 1 => s1.modPilot fun p => { p with slipErased := true }
      | 2 =>
        if n = 0 then (s1.modPilot fun p => { p with slip := 2 }).evt 0x6B05 (hKind (s.imgHeader 2))
        else (s1.modPilot fun p => { p with slip := 3 }).evt 0x6B06 n
      | _ =>
        let s3 := s1.norCopy (1 - s.pilot.slot)
        let m := s3.verifyImg (1 - s.pilot.slot)
        if m = 0 then s3.modPilot fun p => { p with slip := 2 } else (s3.modPilot fun p => { p with slip := 3 }).evt 0x6B06 m
    let s3 := if t + secP < s.now then s2.evt 0x0B02 c else s2
    (s3.evt 0x0B03 9).commandDone 0x9212

/-- A write or command to `9.212`. -/
def State.slipCmd (s : State) (r : Req) (c : Nat) : State :=
  s.hostWrite r (entArg 0x9212 .u8 c) (fun s => s.slipCodes c) (fun s => s.slipBegin c) (1 ≤ c && c ≤ 3)

/-- No confirm within the trial window (R396). -/
def State.trialExpiry (s : State) : State :=
  match s.pilot.trial with
  | some t => if t + s.objN 0x9201 0 * secP ≤ s.now then (s.trialEnd 2).pilotRestart 2 0 else s
  | none => s

/-- The trial firmware has not withdrawn the fixed responder 2 s after step 2 (R396). -/
def State.trialTimeout (s : State) : State :=
  match s.pilot.trial, s.pilot.restart with
  | some _, some r => if r.2.2 + 2 * secP ≤ s.now then (s.trialEnd 3).pilotRestart 2 0 else s
  | _, _ => s

/-! ### Echo microcode (R29, R194) -/

/-- What is wrong with the Slip image as microcode: 1 signature, 2 step bound, 3 format; 0 nothing. -/
def State.mcCheck (s : State) : Nat :=
  let h := s.imgHeader 2
  if !magicOk h || hKind h != 2 then 3
  else if !s.sigOk h then 1
  else if 4096 < hSteps h then 2
  else if !s.digestOk 2 h || !sizesOk h then 3 else 0

/-- The bank that would be loaded. -/
def Crucible.idleBank (k : Crucible) : Nat := 1 - k.mcAct

/-- The inactive bank is the outgoing one of a frame still being decomposed, or the target of a pending switch. -/
def State.mcBusy (s : State) (q : Fin 4) : Bool :=
  let k := s.cru q
  let out : Bool := k.mcOut == some k.idleBank && k.cells.any fun r => (r.frame != s.frm.no || !s.frm.running) && !r.shipped
  out || s.upcoming 0x4201 (q.val + 1) == k.idleBank

/-- Checks of a load. -/
def State.mcLoadCodes (s : State) (mask : Nat) : List Nat :=
  when (s.pilot.slip != 2 || s.mcCheck != 0) 0x0601 ++ when ((quadsOf mask).any s.mcBusy) 0x0401

/-- A load of the Slip image into the inactive bank of each Quadrant named. -/
def State.mcLoad (s : State) (mask : Nat) : State :=
  let i := hId (s.imgHeader 2)
  let o := s.norAt (norBase 2 + 256) (hBlen (s.imgHeader 2))
  let put (k : Crucible) : Crucible :=
    if k.idleBank = 0 then { k with mcId0 := i, mcImg0 := o } else { k with mcId1 := i, mcImg1 := o }
  let s1 := (quadsOf mask).foldl (fun s q => s.modCru q put) s
  let bank := match quadsOf mask with
    | q :: _ => (s.cru q).idleBank
    | [] => 0
  s1.evt 0x0401 (mask + 256 * bank)

/-- A load refused with 0601h for its image is also logged as event 6401h. -/
def State.mcRefused (s : State) (q : Req) (e : Entry) (ab : Nat) : State :=
  if e.obj = 0x4202 ∧ ab = 0x0601 ∧ firstAbort (s.writeCodes q e) ≠ 0x0601 ∧ s.mcCheck ≠ 0 then s.evt 0x6401 s.mcCheck else s

/-- The whole of a write to `4.202`. -/
def State.mcLoadWrite (s : State) (q : Req) (e : Entry) : State :=
  let mask := beNat e.val
  s.through q (if q.asCommand then kCommand else kWrite) e.obj fun s =>
    let ab := firstAbort (s.writeCodes q e ++ s.mcLoadCodes mask)
    if ab = 0 then (s.mcLoad mask).accept q e false else (s.mcRefused q e ab).refuse q e ab

/-! ### The commands -/

def execPilotWatchdog (s : State) : Host.Outcome State Fault Refusal := .next s.watchdog

/-- An uncorrectable error in Pilot SRAM (R379 cause 5). -/
def execPilotSramError (s : State) : Host.Outcome State Fault Refusal :=
  .next (if s.pilotOn then s.pilotRestart 5 0 else s)
def execPilotRestartComplete (s : State) : Host.Outcome State Fault Refusal := .next s.restartDone
def execSlipDataWrite (r : Req) (data : Octets) (s : State) : Host.Outcome State Fault Refusal :=
  .next (s.hostWrite r (entBlob 0x9211 data) (fun s => s.slipDataCodes data) (fun s => s.slipData data) false)
def execSlipErase (r : Req) (s : State) : Host.Outcome State Fault Refusal := .next (s.slipCmd r 1)
def execSlipVerify (r : Req) (s : State) : Host.Outcome State Fault Refusal := .next (s.slipCmd r 2)
def execSlipInstall (r : Req) (s : State) : Host.Outcome State Fault Refusal := .next (s.slipCmd r 3)
def execSlipActivate (r : Req) (s : State) : Host.Outcome State Fault Refusal := .next (s.slipCmd r 4)
def execSlipConfirm (r : Req) (s : State) : Host.Outcome State Fault Refusal := .next (s.slipCmd r 5)
def execSlipRevert (r : Req) (s : State) : Host.Outcome State Fault Refusal := .next (s.slipCmd r 6)
def execSlipRestart (r : Req) (s : State) : Host.Outcome State Fault Refusal := .next (s.slipCmd r 7)
def execSlipCommandComplete (s : State) : Host.Outcome State Fault Refusal := .next s.slipDone
def execTrialWindowExpiry (s : State) : Host.Outcome State Fault Refusal := .next s.trialExpiry
def execTrialStartTimeout (s : State) : Host.Outcome State Fault Refusal := .next s.trialTimeout

/-- The integrator key is written once, in SERVICE (R394, R407). -/
def execIntegratorKeyWrite (r : Req) (key : Octets) (s : State) : Host.Outcome State Fault Refusal :=
  .next (s.hostWrite r (entBlob 0x9240 key) (fun s => when (s.life.st != .service || s.nv.key.isSome) 0x0601)
    (fun s => s.modNv fun n => { n with key := some key }) false)

def execMicrocodeLoad (r : Req) (mask : Nat) (s : State) : Host.Outcome State Fault Refusal :=
  .next (s.mcLoadWrite r (entArg 0x4202 .u8 mask))

end Sys2Proof.Machine
end

