-- ==== Sys2Proof/Machine/Services.lean ====
section
/-! DEFINITION. Services of the Pilot, power domains and the event log (R39, R384, R387, R388, R399 ... R402). -/

namespace Sys2Proof.Machine

/-! ### Event log (R388) -/

/-- Event messages to the masters that subscribed to the class of an event (R61, R70). -/
def State.tellEvent (s : State) (e : EvRec) : State :=
  (s.tv.subs.filter fun x => x.trig == 4 && bit x.mask (e.code / 0x1000) && s.portSends x.port).foldl (fun s x =>
    (s.sendEvents x.port x.master x.src [e]).setSub { x with seq := (x.seq + 1) % 65536 }) s

/-- The firmware runs: loaded and started, and not restarting. -/
def State.firmwareRuns (s : State) : Bool := (s.life.phase == .selfTest || s.life.phase == .done) && !s.restarting

/-- The firmware moves the oldest event into the log, where a condition of the capture sequencer sees it at its own time (R263); drops
are reported as soon as there is space. -/
def State.logCommit (s : State) : State :=
  if !s.firmwareRuns then s
  else match s.ev.queue with
    | [] => s
    | e :: rest =>
      let s1 := { s with
        ev := { s.ev with queue := rest }
        nv := { s.nv with log := (e :: s.nv.log).take 65536, logNext := s.nv.logNext + 1 } }
      let s2 := if s.ev.dropped = 0 then s1 else { s1 with ev := { s1.ev with dropped := 0 } }.evt 0x1B01 (min 65535 s.ev.dropped)
      (s2.tellEvent e).occur (e.time * 65536) (.event e.code)

/-- Every event that waits is written out (R416 step 4). -/
def State.logFlush (s : State) : State := (List.range 257).foldl (fun s _ => s.logCommit) s

/-! ### Power domains (R39, R387) -/

/-- Conditions of R39 for switching a domain, off or on; a request that meets one in progress is refused as busy. -/
def State.domOffCodes (s : State) (d : Nat) : List Nat :=
  let ok : Bool :=
    if d < 4 then (s.quad (Fin.ofNat 4 d)).st == 5 || (s.quad (Fin.ofNat 4 d)).st == 7 || s.life.st == .config
    else if d = 4 then !s.capRuns
    else true
  when (!ok) 0x0601 ++ when (s.dma.holds.any fun h => h.1 == d) 0x0701

def State.domOnCodes (s : State) (d : Nat) : List Nat := s.domOffCodes d

/-- The domain switches off at once, or is held while a DMA channel touches it (R292). -/
def State.domOffBegin (s : State) (d : Nat) : State :=
  if s.obj 0x8101 (domEl d) = 0 then s.requestDone 0x8100 d
  else if s.domTouched d then { s with dma := { s.dma with holds := s.dma.holds ++ [(d, s.now)] } }
  else s.domOff d

/-- The domain is powered and initialised: a link stays stopped, capture memory is empty. -/
def State.domOn (s : State) (d : Nat) : State :=
  if s.obj 0x8101 (domEl d) = 1 then s.requestDone 0x8100 d
  else
    let s1 := s.setObj 0x8101 (domEl d) 1
    let s2 := match d with
      | 4 => s1.modCap fun c => { c with st := 0 }
      | 5 => s1.linkCold 0 0
      | 6 => s1.linkCold 1 0
      | _ => s1
    s2.requestDone 0x8100 d

/-! ### Window baseline and commissioning report (R400, R401) -/

/-- Checks of a service that frames carry: RUN, and not running already. -/
def State.serviceCodes (s : State) (running : Bool) : List Nat := when (!s.inRun) 0x0601 ++ when running 0x0701

def State.baselineBegin (s : State) : State := s.modPilot fun p => { p with base := some 1000, baseCnt := [] }

/-- After 1,000 frames: b_z of every zone. -/
def State.baselineDone (s : State) : State :=
  match s.pilot.base with
  | some 0 =>
    let s1 := (s.modPilot fun p => { p with base := none })
    let s2 := (List.range (s.objN 0xC040 1)).foldl (fun s z =>
      let c := (s1.pilot.baseCnt[z]?.map (·.2)).getD (0, 0)
      s.setObj 0x9301 (z + 1) (if c.2 = 0 then 0 else (min (256 * c.1 / c.2) 65535 : Nat))) s1
    (s2.evt 0x0B03 4).commandDone 0x9300
  | _ => s

def State.reportBegin (s : State) : State :=
  s.modPilot fun p => { p with
    report := some 100, repCrc := s.setCrc, repBlind := 0, repNone := 0, repDiv := s.objN 0xC210 2, repSyn := s.objN 0xC210 3 }

/-- After 100 frames: the report `9.321`. -/
def State.reportDone (s : State) : State :=
  match s.pilot.report with
  | some 0 =>
    let p := s.pilot
    let o := toBE 4 p.repCrc ++ toBE 4 s.setCrc ++ toBE 2 p.repBlind ++ toBE 2 p.repNone
      ++ toBE 4 ((s.objN 0xC210 2 + 2 ^ 32 - p.repDiv) % 2 ^ 32) ++ toBE 4 ((s.objN 0xC210 3 + 2 ^ 32 - p.repSyn) % 2 ^ 32) ++ s.verifyReport
    (({ (s.modPilot fun p => { p with report := none }) with blobs := assocPut s.blobs 0x9321 o }).evt 0x0B03 5).commandDone 0x9320
  | _ => s

/-! ### Campaigns (R402) -/

/-- Converters of a Quadrant that are served: relief converters, and those of channels not retired. -/
def State.servedConvs (s : State) (q : Fin 4) : List Nat :=
  (List.range 264).filter fun c => 256 ≤ c || ((s.chan q c).st != 5 && (s.chan q c).st != 6)

/-- Every converter of the Quadrants named becomes due at once. -/
def State.campaignBegin (s : State) (mask : Nat) : State :=
  let s1 := s.modPilot fun p => { p with conv := some (mask, s.now) }
  (quadsOf mask).foldl (fun s q => (s.servedConvs q).foldl (fun s c =>
    if (s.chan q c).due then s else s.setChan q c { s.chan q c with due := true, calStart := s.now }) s) s1

/-- The campaign ends once every converter has a newer calibration. -/
def State.campaignEnd (s : State) : State :=
  match s.pilot.conv with
  | none => s
  | some (mask, t) =>
    if (quadsOf mask).all fun q => (s.servedConvs q).all fun c => decide (t < (s.chan q c).calAt) then
      ((s.modPilot fun p => { p with conv := none }).evt 0x0B03 6).commandDone 0x9330
    else s

/-! ### Leaving QUENCHED (R384) -/

/-- Targets held off are released, and the loops of bias and chargers start as at any entry to CONFIG (R120). -/
def State.loopsBack (s : State) : State :=
  let s1 := { s with forge := { s.forge with heldOff := false } }
  ((List.range 6).filter fun k => (lwOut (s1.loopWord k) == 1 || lwOut (s1.loopWord k) == 2) && s1.loopRuns k).foldl State.loopOn s1

def State.quenchLeave (s : State) : State := ((s.loopsBack).enterIdle .config).evt 0x5104 (ofInt 16 s.sens.tj)

/-! ### The commands -/

def execEventLogCommit (s : State) : Host.Outcome State Fault Refusal := .next s.logCommit

def execPowerDomainOff (r : Req) (dom : Fin 7) (s : State) : Host.Outcome State Fault Refusal :=
  .next (s.hostWriteHeld r (ent 0x8100 (dom.val + 1) .u8 0) dom.val (fun s => s.domOffCodes dom.val) (fun s => s.domOffBegin dom.val))
def execPowerDomainOn (r : Req) (dom : Fin 7) (s : State) : Host.Outcome State Fault Refusal :=
  .next (s.hostWriteHeld r (ent 0x8100 (dom.val + 1) .u8 1) dom.val (fun s => s.domOnCodes dom.val) (fun s => s.domOn dom.val))

def execQuenchRestart (r : Req) (arg : Nat) (s : State) : Host.Outcome State Fault Refusal :=
  .next (s.hostWrite r (entArg 0x8015 .u8 arg) (fun s => when (s.life.st != .quenched || decide (2080 ≤ s.sens.tj)) 0x0601)
    State.quenchLeave false)

def execWindowBaseline (r : Req) (arg : Nat) (s : State) : Host.Outcome State Fault Refusal :=
  .next (s.hostWrite r (entArg 0x9300 .u8 arg) (fun s => s.serviceCodes s.pilot.base.isSome) State.baselineBegin true)
def execWindowBaselineDone (s : State) : Host.Outcome State Fault Refusal := .next s.baselineDone
def execCommissioningReport (r : Req) (arg : Nat) (s : State) : Host.Outcome State Fault Refusal :=
  .next (s.hostWrite r (entArg 0x9320 .u8 arg) (fun s => s.serviceCodes s.pilot.report.isSome) State.reportBegin true)
def execCommissioningReportDone (s : State) : Host.Outcome State Fault Refusal := .next s.reportDone

def execConverterCampaign (r : Req) (mask : Nat) (s : State) : Host.Outcome State Fault Refusal :=
  .next (s.hostWrite r (entArg 0x9330 .u8 mask) (fun s => when s.pilot.conv.isSome 0x0701) (fun s => s.campaignBegin mask) true)
def execEmitterCampaign (r : Req) (arg : Nat) (s : State) : Host.Outcome State Fault Refusal :=
  .next (s.hostWrite r (entArg 0x9331 .u8 arg) (fun s => when (decide (0 < s.pilot.emit)) 0x0701)
    (fun s => s.modPilot fun p => { p with emit := 2 }) true)

def execConverterCalibrationDone (q : Fin 4) (conv : Fin 266) (hist refs : List Nat) (lost : Nat) (s : State) :
    Host.Outcome State Fault Refusal :=
  .next (if conv.val < 264 then (s.calDone q conv.val hist refs lost).campaignEnd else s.pairDone (Fin.ofNat 2 (conv.val - 264)) hist refs lost)

end Sys2Proof.Machine
end

