-- ==== Sys2Proof/Machine/Writes.lean ====
section
/-! DEFINITION. The checks and effects of a write by object, for a write or a transaction that may name any object: the owners of the
settings (0401h), the ranges that the catalogue gives by a rule (0301h), and the rows of the opcode table that are writes to one
object, which share their meaning with the rows' own commands (R50, R59, and the object tables of the chapters). -/

namespace Sys2Proof.Machine

/-! ### Owners (R14, R15) -/

/-- The Quadrants, slots, channels or ports that own a setting run, for an element that is written. -/
def State.ownedBy (s : State) (obj el : Nat) : Bool :=
  let macs : Bool := s.obj 0x1022 1 == 1 || s.obj 0x1022 2 == 1
  match obj with
  | 0x1010 => s.obj 0x1011 ((el - 1) / 3 + 1) == 1
  | 0x1020 => macs
  | 0x1021 => macs
  | 0x1023 => macs
  | 0x2000 => s.obj 0x2001 0 == 1
  | 0x2002 => s.obj 0x2001 0 == 1
  | 0x2100 => s.obj 0x2101 0 == 1
  | 0x3250 => s.inRun
  | 0x5100 => !((s.link 0).st == 0 || (s.link 0).st == 5) || !((s.link 1).st == 0 || (s.link 1).st == 5)
      || chans32.any fun c => decide (c.val < 28) && (s.dmaCh c).st != 0
  | 0x5300 => !((s.link 0).st == 0 || (s.link 0).st == 5)
  | 0x5310 => !((s.link 1).st == 0 || (s.link 1).st == 5)
  | 0x6000 => s.steer.running
  | 0x6111 => s.steer.running
  | 0x6200 => s.loopRuns (el - 1)
  | 0xA000 => s.capRuns
  | 0xA010 => s.capRuns
  | 0xA011 => s.capRuns
  | 0xA012 => s.capRuns
  | 0xA013 => s.capRuns
  | 0xA100 => s.capRuns
  | 0xA101 => s.capRuns
  | _ => false

/-- Every owner of the elements written; a competition group is owned by every slot it names before or after the write. -/
def State.ownerCodes (s : State) (obj : Nat) (w : List (Nat × Int)) : List Nat :=
  let els : List Nat := match w with | [] => [0] | _ => w.map (·.1)
  let slots : List Nat := if obj = 0x6300 then w.flatMap (fun (x : Nat × Int) => groupSlots (s.objN 0x6300 x.1) ++ groupSlots x.2.toNat) else []
  when (els.any (fun el => s.ownedBy obj el) || slots.any fun k => s.loopRuns k) 0x0401

/-! ### Ranges by rule -/

/-- Structure word of a loop slot: zero bits, and fields that the tables of R116 list. -/
def slotWordOk (w : Nat) : Bool :=
  bits w 31 1 == 0 && bits w 0 12 == 0 && lwKind w ≤ 1 && lwRef w ≤ 4 && lwIn w ≤ 0x27 && lwOut w ≤ 5

/-- Competition group word: at most four members, slots that exist, other bits zero. -/
def groupWordOk (w : Nat) : Bool := w / 2 ^ 20 == 0 && bits w 16 4 ≤ 4 && (groupSlots w).all (· ≤ 11)

/-- Range of the input of a slot, in the units of R116. -/
def inputRange (inp : Nat) : Int × Int :=
  match inp with
  | 0x23 => (-32768, 32767)
  | 0x24 => (0, 32767)
  | 0x26 => (-32768, 32767)
  | 0x27 => (0, 32768)
  | _ => (0, 65535)

/-- Compensator word: leakage 1 ... 3 and bits that are zero, clamp at most 32,767 (R122). -/
def compWordOk (w : Nat) : Bool :=
  let l := bits w 58 4
  (l == 0 || 4 ≤ l) && bits w 48 4 == 0 && bits w 0 16 == 0 && bits w 16 16 ≤ 32767

/-- Value of a member of an array at once in effect, once the write is taken. -/
def State.after (s : State) (w : List (Nat × Int)) (obj el : Nat) : Int :=
  match w.find? fun x => x.1 == el with
  | some x => x.2
  | none => s.obj obj el

/-- Ranges of areas 1 ... 5 that a rule gives. -/
def State.ruleRange15 (s : State) (obj : Nat) (w : List (Nat × Int)) : Bool :=
  match obj with
  | 0x1010 => w.all fun x => match x.1 % 3 with
      | 2 => [125, 250, 500, 1000].contains x.2
      | 0 => [1000, 2000, 4000, 5000, 8000].contains x.2
      | _ => true
  | 0x3240 => w.all fun x => codeOk x.2.toNat
  | 0x3250 => !(s.after w 0x3250 1 == 0 && s.after w 0x3250 2 == 0)
  | 0x3310 => w.all fun x => sinkWordOk x.2.toNat
  | 0x3330 => w.all fun x => hpcWordOk x.2.toNat
  | 0x4030 => (List.range 7).any fun i => s.withWrite w 0x4030 (i + 1) != 0
  | 0x5100 => (s.after w 0x5100 1 + s.after w 0x5100 2 + s.after w 0x5100 3 + s.after w 0x5100 4) ≤ 64
  | _ => true

/-- Ranges of areas 6 ... A that a rule gives. -/
def State.ruleRange6A (s : State) (obj : Nat) (w : List (Nat × Int)) : Bool :=
  match obj with
  | 0x6000 => s.after w 0x6000 5 < s.after w 0x6000 6
  | 0x6200 => w.all fun x => slotWordOk x.2.toNat
  | 0x6201 => w.all fun x =>
      let r := inputRange (lwIn (s.loopWord ((x.1 - 1) / 4)))
      r.1 ≤ x.2 && x.2 ≤ r.2
  | 0x6300 => w.all fun x => groupWordOk x.2.toNat
  | 0x6400 => w.all fun x => compWordOk x.2.toNat
  | 0x6500 => w.all fun x => x.1 % 4 != 3 || (0 ≤ x.2 && x.2 ≤ 65535)
  | 0x7300 => reaches (s.after w 0x7300 1).toNat (s.after w 0x7300 2).toNat
  | 0x8010 => s.after w 0x8010 1 ≤ s.after w 0x8010 3 && s.after w 0x8010 3 < s.after w 0x8010 5
  | 0xA012 => w.all fun x => x.1 != 1 || x.2 % 2 == 0
  | 0xA302 => w.all fun x => x.2 % 16 == 0
  | _ => true

def State.ruleRange (s : State) (obj : Nat) (w : List (Nat × Int)) : List Nat :=
  when (!(s.ruleRange15 obj w && s.ruleRange6A obj w)) 0x0301

/-! ### Settings -/

/-- Link of an object of the links. -/
def linkOf (obj : Nat) : Fin 2 := if obj < 0x5310 then 0 else 1

/-- Starts of several loop slots at once, as by element 00 of `6.210`: those that are not steering slots are checked together. -/
def State.loopRunCodes (s : State) (w : List (Nat × Int)) : List Nat :=
  let on := w.filter fun x => x.2 == 1
  let off := w.filter fun x => x.2 == 0
  let new := (on.map fun x => x.1 - 1).filter fun k => !s.steerSlot k && !s.loopRuns k
  (on.filter fun x => s.steerSlot (x.1 - 1)).flatMap (fun x => s.loopStartCodes (x.1 - 1))
  ++ when (!new.isEmpty && !s.startOk new) 0x0301
  ++ off.flatMap fun x => s.loopStopCodes (x.1 - 1)

/-- Checks of its own for a write to a setting of areas 1 ... 5. -/
def State.setCodes15 (s : State) (e : Entry) (w : List (Nat × Int)) : List Nat :=
  let v : Int := (w.head?.map (·.2)).getD 0
  match e.obj with
  | 0x2001 => if v = 0 then when (s.life.st != .config && s.life.st != .service) 0x0601 else s.timeStartCodes
  | 0x2010 => timeCodes s 0x2010 w
  | 0x2011 => timeCodes s 0x2011 w
  | 0x2100 => timeCodes s 0x2100 w
  | 0x2101 => when (v == 0 && s.inRun && s.obj 0x3020 1 == 2) 0x0601
  | 0x2210 => s.domainCodes w
  | 0x3203 => s.durCodes w
  | 0x3210 => s.commitCodes v.toNat
  | 0x4201 => s.mcSelCodes w
  | 0x5200 => w.flatMap fun x => s.dmaWordCodes (Fin.ofNat 32 (x.1 - 1)) x.2.toNat
  | 0x5221 => s.bufCodes e.val
  | 0x5300 => linkCfgCodes w
  | 0x5310 => linkCfgCodes w
  | 0x5301 => if v = 1 then s.linkStartCodes 0 else when (s.obj 0x8101 7 != 1) 0x0601
  | 0x5311 => if v = 1 then s.linkStartCodes 1 else when (s.obj 0x8101 8 != 1) 0x0601
  | o => if 0x3400 ≤ o ∧ o ≤ 0x3407 then chanCfgCodes w else []

/-- Checks of its own for a write to a setting of areas 6 ... A. -/
def State.setCodes6A (s : State) (e : Entry) (w : List (Nat × Int)) : List Nat :=
  let v : Int := (w.head?.map (·.2)).getD 0
  match e.obj with
  | 0x6001 => if v = 1 then s.steerStartCodes else s.steerStopCodes
  | 0x6020 => s.trajCodes e
  | 0x6210 => s.loopRunCodes w
  | 0x7000 => s.stepCodes w
  | 0x7001 => s.stepCountCodes w
  | 0x7003 => w.flatMap fun x => s.seqCodes (x.1 - 1) (x.2 == 1)
  | 0x7100 => winCodes w
  | 0x7200 => winCodes w
  | 0x7400 => s.exciteCodes w
  | 0x7500 => s.linSetCodes w
  | 0x7501 => s.assignCodes w
  | 0x7600 => s.filtWordCodes w
  | 0x7601 => w.flatMap fun x =>
      if x.2 = 1 then (if s.filtRuns (x.1 - 1) then [] else s.filtStartCodes (x.1 - 1)) else s.filtStopCodes (x.1 - 1)
  | 0x7602 => s.stampChCodes w
  | 0x7620 => s.interpCodes w
  | 0x8100 => w.flatMap fun x => if x.2 = 1 then s.domOnCodes (x.1 - 1) else s.domOffCodes (x.1 - 1)
  | 0x8200 => s.supplyCodes w
  | 0xA001 => if v = 1 then s.capStartCodes else when s.capOff 0x0601
  | 0xA010 => capChanCodes w
  | 0xA011 => capChanCodes w
  | 0xA100 => capSeqCodes w
  | 0xA302 => when s.capOff 0x0601
  | 0xA300 => when s.capOff 0x0601 ++ when ((s.seg v.toNat).st != 3) 0x0401
  | o => if 0x7610 ≤ o ∧ o ≤ 0x761F then s.firCodes (o - 0x7610) w else []

/-- All checks of a write to a setting beside those of R50 that hold for every object alike. -/
def State.settingCodes (s : State) (e : Entry) (w : List (Nat × Int)) : List Nat :=
  s.ownerCodes e.obj w ++ s.ruleRange e.obj w ++ s.setCodes15 e w ++ s.setCodes6A e w

/-- What a write to a setting does beside storing its value: areas 1 ... 5; `old` is the state before the write. -/
def State.setEff15 (old s : State) (e : Entry) (w : List (Nat × Int)) : State :=
  let v : Int := (w.head?.map (·.2)).getD 0
  match e.obj with
  | 0x1023 => { s with blobs := assocPut s.blobs 0x1023 e.val }
  | 0x1022 => s.macTime
  | 0x2001 => if v = 1 then s.timeStart else s.timeStop
  | 0x2010 => if s.timeRuns then s.timeUpdate else s
  | 0x2011 => if s.timeRuns then s.timeUpdate else s
  | 0x2101 => if v = 1 then s.busStart else s.busStop
  | 0x2210 => State.domainEff old s
  | 0x3203 => s.durWrite w
  | 0x3210 => s.commitEvents v.toNat
  | 0x5200 => w.foldl (fun s x => s.dmaWordEff (Fin.ofNat 32 (x.1 - 1)) x.2.toNat) s
  | 0x5221 => s.bufEff e.val
  | 0x5301 => if v = 1 then s.linkStart 0 else s.linkStop 0
  | 0x5311 => if v = 1 then s.linkStart 1 else s.linkStop 1
  | _ => s

/-- The same for areas 6 ... A. -/
def State.setEff6A (old s : State) (e : Entry) (w : List (Nat × Int)) : State :=
  let v : Int := (w.head?.map (·.2)).getD 0
  match e.obj with
  | 0x6001 => if v = 1 then (if s.steer.running then s else s.steeringOn) else if s.steer.running then s.steeringOff else s
  | 0x6210 => w.foldl (fun t x => t.loopRunWrite (x.1 - 1) (x.2 == 1) (old.loopRuns (x.1 - 1))) s
  | 0x7003 => w.foldl (fun t x => t.seqEff (Fin.ofNat 4 (x.1 - 1)) (x.2 == 1) (old.seqRuns (x.1 - 1))) s
  | 0x7100 => s.winWriteEff false w
  | 0x7200 => s.winWriteEff true w
  | 0x7601 => w.foldl (fun t x => if x.2 == 1 && !old.filtRuns (x.1 - 1) then t.filtOn (x.1 - 1)
      else if x.2 == 0 && old.filtRuns (x.1 - 1) then t.filtOff (x.1 - 1) else t) s
  | 0x8100 => w.foldl (fun t x => if x.2 = 1 then t.domOn (x.1 - 1) else t.domOffBegin (x.1 - 1)) s
  | 0xA001 => if v = 1 then s.capStart else s.capStop
  | 0xA300 => s.segChosen v.toNat
  | _ => s

/-- What a write to a setting does beside storing its value. -/
def State.settingEff (old s : State) (e : Entry) (w : List (Nat × Int)) : State :=
  State.setEff6A old (State.setEff15 old s e w) e w

/-! ### Commands by their objects -/

/-- Checks of a command of areas 1 ... 5. -/
def State.cmdCodes15 (s : State) (q : Req) (e : Entry) : List Nat :=
  let v := beNat e.val
  match e.obj with
  | 0x2005 => when (s.inRun || s.time.st == 2) 0x0601
  | 0x2102 => when (s.wof.role != 1) 0x0601 ++ when s.wof.calRun.isSome 0x0701
  | 0x2201 => s.grantCodes q e.val
  | 0x2220 => when (!s.isReference) 0x0601
  | 0x3202 => s.patCodes e.val
  | 0x4202 => s.mcLoadCodes v
  | 0x5202 => s.descCodes e.val
  | _ => []

/-- Checks of a command of areas 6 ... A. -/
def State.cmdCodes6A (s : State) (e : Entry) : List Nat :=
  let v := beNat e.val
  match e.obj with
  | 0x6110 => when (!s.standbyReady) 0x0601
  | 0x7301 => if v = 0 then s.calSupply else if v ≤ 2 then s.captCodes else s.calStoreCodes
  | 0x8015 => when (s.life.st != .quenched || decide (2080 ≤ s.sens.tj)) 0x0601
  | 0x9211 => s.slipDataCodes e.val
  | 0x9212 => s.slipCodes v
  | 0x9240 => when (s.life.st != .service || s.nv.key.isSome) 0x0601
  | 0x9300 => s.serviceCodes s.pilot.base.isSome
  | 0x9320 => s.serviceCodes s.pilot.report.isSome
  | 0x9330 => when s.pilot.conv.isSome 0x0701
  | 0x9331 => when (decide (0 < s.pilot.emit)) 0x0701
  | 0x9400 => s.readmitCodes v
  | 0xA304 => when s.capOff 0x0601 ++ when ((s.seg v).st != 3) 0x0401
  | 0xA305 => when s.capOff 0x0601 ++ when s.capRuns 0x0401
  | _ => []

/-- Effect of a command of areas 1 ... 5. -/
def State.cmdEff15 (s : State) (q : Req) (e : Entry) : State :=
  let v := beNat e.val
  match e.obj with
  | 0x2005 => s.setTime v
  | 0x2102 => s.calBegin
  | 0x2201 => s.grantAccept e.val
  | 0x2220 => s.fleetRequest q e.val
  | 0x3202 => s.patWrite e.val
  | 0x3320 => s.strike
  | 0x3352 => s.retest v
  | 0x4202 => s.mcLoad v
  | 0x5202 => s.descEff e.val
  | _ => s

/-- Effect of a command of areas 6 ... A. -/
def State.cmdEff6A (s : State) (e : Entry) : State :=
  let v := beNat e.val
  match e.obj with
  | 0x6110 => s.ferryOrder
  | 0x6403 => s.compClear v
  | 0x7101 => s.windowsEnd false 3
  | 0x7201 => s.windowsEnd true 3
  | 0x7301 => match v with
      | 0 => s.calAbandon
      | 1 => s.captBegin false
      | 2 => s.captBegin true
      | 3 => s.calCompute
      | _ => s.calRestore
  | 0x8015 => s.quenchLeave
  | 0x9211 => s.slipData e.val
  | 0x9212 => s.slipBegin v
  | 0x9240 => s.modNv fun n => { n with key := some e.val }
  | 0x9300 => s.baselineBegin
  | 0x9320 => s.reportBegin
  | 0x9330 => s.campaignBegin v
  | 0x9331 => s.modPilot fun p => { p with emit := 2 }
  | 0x9400 => (s.readmitNote v 1).readmitBegin v
  | 0xA102 => s.occur s.capNow .host
  | 0xA304 => s.segGone v
  | 0xA305 => s.segsClear
  | _ => s

/-- A command that runs on after its acceptance: its command message is answered when it is done (R71). -/
def cmdLong (e : Entry) : Bool :=
  let v := beNat e.val
  match e.obj with
  | 0x2102 => true
  | 0x6110 => true
  | 0x7301 => v == 1 || v == 2
  | 0x9212 => 1 ≤ v && v ≤ 3
  | 0x9300 => true
  | 0x9320 => true
  | 0x9330 => true
  | 0x9331 => true
  | 0x9400 => true
  | _ => false

end Sys2Proof.Machine
end

