-- ==== Sys2Proof/Machine/Store.lean ====
section
/-! DEFINITION. The configuration store: what a save writes, the erase, and the application of the selected copy at boot (R390 ...
R393). -/

namespace Sys2Proof.Machine

/-! ### The body (R390) -/

/-- Objects whose values the store holds: RW and RWF of areas 1 ... A. -/
def stored (obj : Nat) : Bool :=
  0x1000 ≤ obj && obj < 0xB000 && (match Catalogue.find obj with
    | some r => r.acc == .rw || r.acc == .rwf
    | none => false)

/-- The rows of the areas that the store covers. -/
def storedRows : List Row :=
  ((List.range 10).flatMap fun a => if a = 8 then [] else Catalogue.area (a + 1)).filter fun r =>
    (r.acc == .rw || r.acc == .rwf) && 0x1000 ≤ r.first

/-- Octets of an entry of R372 with a value of `n` octets. -/
def entryLen (n : Nat) : Nat := 6 + n

/-- Octets of the value of an object as a whole (R69). -/
def State.valueLen (s : State) (r : Row) (obj : Nat) : Nat :=
  match r.shape with
  | .scalar => r.ty.width
  | .fixed n => 2 + n * r.ty.width
  | .var _ _ => 2 + s.objN obj 0 * r.ty.width
  | .octets lo hi _ => if obj = 0x5221 then min hi (524288 - s.objN 0x5220 0) else lo

/-- Gate sets that the entries of a pattern name, as unit indices. -/
def Bank.namedUnits (b : Bank) : List Nat := ((b.list.map entGset).eraseDups).flatMap fun g => [2 * g, 2 * g + 1]

/-- The pattern as it is stored: the entries up to `last` and the gate sets they name. -/
def Bank.storedForm (b : Bank) : Bank :=
  { entries := b.entries.filter fun kv => decide (kv.1 < b.size)
    gates := b.gates.filter fun kv => b.namedUnits.contains kv.1
    dur := b.dur
    pulses := b.pulses
    weight := b.weight }

/-- An entry in its octets (R70, R372). -/
def Entry.octets (e : Entry) : Octets := toBE 2 e.obj ++ oct [e.el, e.ty] ++ toBE 2 e.val.length ++ e.val

/-- Octets of a stored pattern: a pointer of 20 octets before each run of units, at most 90 of a pattern, the 2 of a gate set. -/
def Bank.storedLen (b : Bank) : Nat :=
  26 * ((b.size + 89) / 90) + 16 * b.size + 58 * (b.namedUnits.length / 2) + (if b.dur = 0 then 0 else 10)

/-- Pointer and units, as writes of `3.201` and `3.202` would place them (DESIGN CHOICE, log entry 108). -/
def patRun (q region idx : Nat) (l : List Nat) : List Entry :=
  [{ obj := 0x3201, el := 0, ty := 0x80 + Ty.u32.code, val := toBE 2 3 ++ toBE 4 q ++ toBE 4 region ++ toBE 4 idx },
   { obj := 0x3202, el := 0, ty := Ty.blob.code, val := l.flatMap fun u => toBE 16 u }]

/-- The entries of a stored pattern. -/
def Bank.storedEntries (b : Bank) (q : Nat) : List Entry :=
  ((List.range ((b.size + 89) / 90)).flatMap fun i => patRun q 0 (90 * i) ((b.list.drop (90 * i)).take 90))
  ++ (((b.list.map entGset).eraseDups).flatMap fun g => patRun q 1 (2 * g) [AMap.get 0 b.gates (2 * g), AMap.get 0 b.gates (2 * g + 1)])
  ++ (if b.dur = 0 then [] else [{ obj := 0x3203, el := q + 1, ty := Ty.u32.code, val := toBE 4 b.dur }])

/-- System calibration values in effect (R210). -/
def State.sysTrims (s : State) : List (Nat × Trim) := s.ana.trims.filter fun t => t.2.sys

/-- The input as `7.300` names it, and the value. -/
def trimEntries (t : Nat × Trim) : List Entry :=
  [{ obj := 0x7300, el := 0, ty := 0x80 + Ty.u8.code, val := toBE 2 3 ++ oct [t.1 / 128, t.1 / 2 % 64, t.1 % 2] },
   { obj := 0x7302, el := 0, ty := Ty.blob.code, val := toBE 4 (ofInt 32 t.2.off16) ++ toBE 4 t.2.gain }]

/-- Value in effect of an object as a whole, as it is stored. -/
def State.storedValue (s : State) (r : Row) (obj : Nat) : Octets :=
  let members (n : Nat) : Octets := toBE 2 n ++ (List.range n).flatMap fun i => r.ty.enc (s.obj obj (i + 1))
  match r.shape with
  | .scalar => r.ty.enc (s.obj obj 0)
  | .fixed n => members n
  | .var _ _ => members (s.objN obj 0)
  | .octets lo hi _ =>
    if obj = 0x5221 then memGet s.dma.buf (s.objN 0x5220 0) (min hi (524288 - s.objN 0x5220 0)) else fitTo lo (assocD [] s.blobs obj)

/-- Type code of an object as a whole (R69). -/
def Row.wholeCode (r : Row) : Nat := match r.shape with | .fixed _ => 0x80 + r.ty.code | .var _ _ => 0x80 + r.ty.code | _ => r.ty.code

/-- The entries of the body of a save made now: patterns and calibration values, then every object (R390). -/
def State.bodyEntries (s : State) : List Entry :=
  (quads4.flatMap fun q => (s.quad q).act.storedEntries q.val) ++ s.sysTrims.flatMap trimEntries
  ++ storedRows.flatMap fun r => (List.range (r.last + 1 - r.first)).map fun i =>
      { obj := r.first + i, el := 0, ty := r.wholeCode, val := s.storedValue r (r.first + i) }

/-- Length of the body of a save made now. -/
def State.bodyLen (s : State) : Nat :=
  (storedRows.map fun r => ((List.range (r.last + 1 - r.first)).map fun i => entryLen (s.valueLen r (r.first + i))).sum).sum
  + (quads4.map fun q => (s.quad q).act.storedLen).sum + 25 * s.sysTrims.length

/-- What is read so far of a body: the pointers that its entries have set. -/
structure BodyScan where
  ptr : Nat × Nat × Nat
  cal : Nat
  set : Settings

/-- One entry of a body. -/
def BodyScan.entry (b : BodyScan) (e : Entry) : BodyScan :=
  let bad : BodyScan := { b with set := { b.set with bad := b.set.bad + 1 } }
  let patch (q : Nat) (f : Bank → Bank) : BodyScan :=
    { b with set := { b.set with pats := b.set.pats.zipIdx.map fun p => if p.2 = q then f p.1 else p.1 } }
  if e.obj = 0x3202 then patch b.ptr.1 fun k => k.put b.ptr.2.1 b.ptr.2.2 (units16 e.val)
  else if e.obj = 0x3203 ∧ e.el ≠ 0 then patch (e.el - 1) fun k => { k with dur := beNat e.val }
  else if e.obj = 0x7302 then
    { b with set := { b.set with
        trims := assocPut b.set.trims b.cal { off16 := toSigned 32 (fieldAt e.val 0 4), gain := fieldAt e.val 4 4, sys := true } } }
  else match Catalogue.find e.obj with
  | none => bad
  | some r =>
    if !stored e.obj || e.el != 0 || !typeOk r e.el e.ty e.val then bad
    else match r.shape with
    | .octets .. => { b with set := { b.set with blobs := assocPut b.set.blobs e.obj e.val } }
    | _ =>
      let w := written r e.el e.val
      let at_ (i : Nat) : Nat := (w.find? fun x => x.1 == i).elim 0 (·.2.toNat)
      { ptr := if e.obj = 0x3201 then (at_ 1, at_ 2, at_ 3) else b.ptr
        cal := if e.obj = 0x7300 then trimKey (at_ 1) (at_ 2) (at_ 3) else b.cal
        set := { b.set with dict := w.foldl (fun d x => dictPut d e.obj x.1 x.2) b.set.dict } }

/-- What a body sets (R392). -/
def bodySettings (o : Octets) : Settings :=
  ((imageEntries o.length 0 o).foldl (fun b p => match p.2 with
    | some e => BodyScan.entry b e
    | none => { b with set := { b.set with bad := b.set.bad + 1 } })
    ({ ptr := (0, 0, 0), cal := 0, set := { dict := [], blobs := [], pats := List.replicate 4 Reset.bank, trims := [], bad := 0 } } : BodyScan)).set

/-! ### Save and erase (R393) -/

/-- Target of a save, and its sequence number. -/
def State.saveTarget (s : State) : Nat × Nat :=
  let ok0 := s.copyOk s.nv.copy0
  let ok1 := s.copyOk s.nv.copy1
  if !ok0 then (0, if ok1 then (s.nv.copy1.seq + 1) % 2 ^ 32 else 1)
  else if !ok1 then (1, (s.nv.copy0.seq + 1) % 2 ^ 32)
  else if serialHigher s.nv.copy1.seq s.nv.copy0.seq then (0, (s.nv.copy1.seq + 1) % 2 ^ 32)
  else (1, (s.nv.copy0.seq + 1) % 2 ^ 32)

/-- The values in effect as a copy. -/
def State.copyNow (s : State) (seq : Nat) : Copy :=
  let body := s.bodyEntries.flatMap Entry.octets
  { seq := seq, len := s.bodyLen, crc := crc32c body, gen := s.runGen, body := body }

def State.setCopy (s : State) (n : Nat) (c : Copy) : State :=
  s.modNv fun v => if n = 0 then { v with copy0 := c } else { v with copy1 := c }

/-- A copy with a zeroed header: not valid, whatever its body holds. -/
def copyErased : Copy := { seq := 0, len := 0, crc := 0, gen := 0, body := [] }

/-- The save in progress ends: the header is written last, and the copy read back; a read-back failure leaves it invalid. -/
def State.saveEnd (s : State) : State :=
  match s.pilot.save with
  | none => s
  | some r =>
    let s1 := s.modPilot fun p => { p with save := none, lastSave := if r.ok then 1 else 3 }
    (if r.ok then (s1.setCopy r.target r.copy).evt 0x6B01 (r.target + 2 * (r.copy.seq % 32768)) else s1.evt 0x6B04 r.target).commandDone 0x9110

/-- A save has run for the 250 ms within which it completes, if it is not cut off. -/
def State.saveDue (s : State) : State :=
  match s.pilot.save with
  | some r => if r.at_ + 250 * msP ≤ s.now then s.saveEnd else s
  | none => s

/-- A save begins: the values of this instant, and the target without its header (R393). -/
def State.saveBegin (s : State) (readBack : Bool) : State :=
  let s1 := s.saveDue
  let t := s1.saveTarget
  (s1.setCopy t.1 copyErased).modPilot fun p => { p with save := some { target := t.1, copy := s1.copyNow t.2, ok := readBack, at_ := s.now } }

/-- States in which a save is accepted, and no other one running. -/
def State.saveCodes (s : State) : List Nat :=
  when (!(s.inRun || s.life.st == .config || s.life.st == .service)) 0x0601 ++ when s.saveDue.pilot.save.isSome 0x0701

/-- The whole of a write to `9.110`: a body past its limit refuses it with 0501h, and nothing is written. -/
def State.saveWrite (s : State) (q : Req) (e : Entry) (readBack : Bool) : State :=
  s.through q (if q.asCommand then kCommand else kWrite) e.obj fun s =>
    let ab := firstAbort (s.writeCodes q e ++ s.saveCodes)
    if ab ≠ 0 then s.refuse q e ab
    else if 262128 < s.bodyLen then (s.modPilot fun p => { p with lastSave := 2 }).refuse q e 0x0501
    else (s.saveBegin readBack).accept q e true

def State.storeErase (s : State) : State := (s.setCopy 0 copyErased).setCopy 1 copyErased

/-- `readBack`: the read-back agrees with what was written. -/
def execSave (r : Req) (arg : Nat) (readBack : Bool) (s : State) : Host.Outcome State Fault Refusal :=
  .next (s.saveWrite r (entArg 0x9110 .u8 arg) readBack)
def execStoreErase (r : Req) (arg : Nat) (s : State) : Host.Outcome State Fault Refusal :=
  .next (s.hostWrite r (entArg 0x9112 .u8 arg) (fun s => when (s.life.st != .service) 0x0601) State.storeErase false)

/-! ### Application at boot (R391, R392) -/

/-- Objects that start and stop a function, with those that a start has to follow. -/
def runFlags : List Nat := [0x1011, 0x1022, 0x2001, 0x2101, 0x5200, 0x5301, 0x5311, 0x6001, 0x6210, 0x7003, 0x7601, 0x8100, 0xA001]

/-- Values that are restored without the checks of a command: the mask of the last commit and the microcode banks. -/
def plainValues : List Nat := [0x3210, 0x4201]

/-- Members of an object in the map of a copy. -/
def copyMembers (d : AMap Int) (obj : Nat) : List (Nat × Int) :=
  (d.filter fun kv => kv.1 / 65536 == obj).map fun kv => (kv.1 % 65536, kv.2)

/-- An object's stored value passes the checks of R50: range, and its own rules. -/
def State.restoreOk (s : State) (obj : Nat) (w : List (Nat × Int)) : Bool :=
  match Catalogue.find obj with
  | none => false
  | some r =>
    let e : Entry := { obj := obj, el := 0, ty := 0, val := [] }
    let lim := match r.shape with
      | .scalar => 0 | .fixed n => n | .var m _ => m | .octets .. => 0
    let own := if plainValues.contains obj || obj = 0x6020 then [] else s.settingCodes e w
    let traj := if obj = 0x6020 then
        let n := match w.find? fun x => x.1 == 0 with | some x => x.2.toNat | none => s.objN obj 0
        let tr := breakpoints ((List.range n).map fun i => (s.after w obj (i + 1)).toNat)
        trajOk tr (s.objN 0x6000 7) (s.objN obj 1 % 65536)
      else true
    (r.acc == .rw || r.acc == .rwf) && w.all (fun x => x.1 ≤ lim) && rangeOk r w && traj && firstAbort own == 0

/-- Entries that fail leave their objects at the default and are counted (R392). -/
def State.defaulted (s : State) (n : Nat) : State := s.modPilot fun p => { p with defaulted := p.defaulted + n }

/-- One object of the copy is applied, with functions stopped. -/
def State.restoreObj (s : State) (d : AMap Int) (obj : Nat) : State :=
  let w := copyMembers d obj
  if w.isEmpty then s
  else if s.restoreOk obj w then
    let s1 := w.foldl (fun s x => s.setObj obj x.1 x.2) s
    if 0x3400 ≤ obj ∧ obj ≤ 0x3407 then
      w.foldl (fun t x => t.chanEnable (128 * (obj - 0x3400) + x.1 - 1) (bit (s.objN obj x.1) 31) (bit x.2.toNat 31)) s1
    else if obj = 0x6400 then w.foldl (fun t x => t.compEnable (x.1 - 1) (s.objN obj x.1)) s1
    else if obj = 0x3203 then s1.durWrite w
    else s1
  else s.defaulted 1

/-- Objects of a copy in rising order. -/
def copyObjs (d : AMap Int) : List Nat := (d.map fun kv => kv.1 / 65536).eraseDups

/-- Members of an agreement set go back to their defaults, and the entries of the copy that set them are counted (R392, R59). -/
def State.setDefaults (s : State) (l : List (Nat × Nat)) : State :=
  l.foldl (fun s x =>
    let d := Catalogue.dflt x.1 x.2
    if s.obj x.1 x.2 = d then s else (s.setObj x.1 x.2 d).defaulted 1) s

/-- The settings, patterns and calibration values of a copy. -/
def State.restoreSettings (s : State) (c : Settings) : State :=
  let s0 := quads4.foldl (fun s q => match c.pats[q.val]? with
    | some b => s.modQuad q fun qd => { qd with act := b, shd := b }
    | none => s) s
  let s1 := { s0 with ana := { s0.ana with trims := c.trims } }
  let s2 := c.blobs.foldl (fun s b => if b.1 = 0x1023 then { s with blobs := assocPut s.blobs 0x1023 b.2 } else s) s1
  let s3 := ((copyObjs c.dict).filter fun o => !runFlags.contains o).foldl (fun s o => s.restoreObj c.dict o) s2
  let s4 := match c.blobs.find? fun b => b.1 == 0x5221 with
    | some b => { s3 with dma := { s3.dma with buf := memPut s3.dma.buf (s3.objN 0x5220 0) b.2 } }
    | none => s3
  let s5 := if s4.setConsistent 0 then s4 else s4.setDefaults [(0x3010, 0), (0x3210, 0)]
  let s6 := if s5.setConsistent 1 then s5 else s5.setDefaults [(0x4000, 1), (0x4000, 2), (0x4010, 1), (0x4010, 2)]
  forQuads s6 fun s q => s.modQuad q fun qd => { qd with act := s.cellTable q qd.act, shd := s.cellTable q qd.shd }

/-- A run flag of the copy: taken when its function could start, else left at its default. -/
def State.restoreFlag (s : State) (obj : Nat) (x : Nat × Int) : State :=
  let on := x.2 == 1
  let codes := match obj with
    | 0x2001 => if on then s.timeStartCodes else []
    | 0x6001 => if on then s.steerStartCodes else []
    | 0x6210 => if on then (if s.steerSlot (x.1 - 1) then [] else when (!s.startOk [x.1 - 1]) 0x0301) else []
    | 0x7601 => if on then s.filtStartCodes (x.1 - 1) else []
    | 0x5301 => if on then s.linkStartCodes 0 else []
    | 0x5311 => if on then s.linkStartCodes 1 else []
    | 0x5200 => s.dmaWordCodes (Fin.ofNat 32 (x.1 - 1)) x.2.toNat
    | 0xA001 => if on then s.capStartCodes else []
    | _ => []
  if firstAbort codes = 0 then s.setObj obj x.1 x.2 else s.defaulted 1

/-- The run flags of a copy, functions in the order in which they depend on one another. -/
def State.restoreFlags (s : State) (c : Settings) : State :=
  ([0x8100, 0x1011, 0x1022, 0x2001, 0x2101, 0x5301, 0x5311, 0x7003, 0x7601, 0x6210, 0x6001, 0xA001, 0x5200] : List Nat).foldl
    (fun s o => (copyMembers c.dict o).foldl (fun s x => s.restoreFlag o x) s) s

/-- Functions are stopped while the copy is applied: none of them owns a setting then. -/
def State.flagsDown (s : State) : State :=
  ([(0x1011, 1), (0x1011, 2), (0x1022, 1), (0x1022, 2), (0x2001, 0), (0x7003, 1), (0x7003, 2), (0x7003, 3), (0x7003, 4),
    (0x7601, 1), (0x7601, 2), (0x5301, 0), (0x5311, 0)] : List (Nat × Nat)).foldl (fun s p => s.setObj p.1 p.2 0) s

def State.flagsDefault (s : State) : State :=
  ([(0x1011, 1), (0x1011, 2), (0x1022, 1), (0x1022, 2), (0x2001, 0), (0x7003, 1), (0x7003, 2), (0x7003, 3), (0x7003, 4),
    (0x7601, 1), (0x7601, 2), (0x5301, 0), (0x5311, 0)] : List (Nat × Nat)).foldl (fun s p => s.setObj p.1 p.2 1) s

/-- The selected copy, or the defaults with event 6B02h, is applied; entries that failed are reported once (R391, R392). -/
def State.applyStore (s : State) : State :=
  let n := s.copyChoice
  let s1 := s.modPilot fun p => { p with copy := n, defaulted := 0 }
  if n = 2 then s1.evt 0x6B02 0
  else
    let k := if n = 0 then s.nv.copy0 else s.nv.copy1
    let c := bodySettings (k.body.take k.len)
    let s2 := (((((s1.defaulted c.bad).flagsDown).restoreSettings c).flagsDefault).restoreFlags c)
    if s2.pilot.defaulted = 0 then s2 else s2.evt 0x6B03 (min 65535 s2.pilot.defaulted)

end Sys2Proof.Machine
end

