-- ==== Sys2Proof/Machine/Lifecycle.lean ====
section
/-! DEFINITION. Power-up, boot and self-test, the run-state command, the prepare command, and the loss of power (R406 ... R417). -/

namespace Sys2Proof.Machine

/-! ### The power-on reset (R409, R411, R417) -/

/-- Everything volatile is as after reset; what stands in MRAM, OTP and NOR stays, and so do the levels at the balls. The reference
periods are counted on. -/
def State.powerUp (s : State) : State :=
  let r := State.reset
  let ch (b : Bool) : SafeCh := { ball := b, closed := false, changed := some s.now, pend := none, sawOpen := false }
  { r with
    now := s.now
    free := s.free
    pending := s.pending
    out := s.out
    nv := s.nv
    life := { r.life with since := s.now }
    die := { r.die with hvLow := s.die.hvLow, validAt := s.now, secNo := s.now / secP }
    time := { r.time with ref10 := s.time.ref10 }
    isl := { r.isl with pairs := s.isl.pairs.map fun (p : SafePair) => { Reset.pair with a := ch p.a.ball, b := ch p.b.ball } }
    gov := { r.gov with shortNo := s.now / max 1 (r.govLen false), longNo := s.now / max 1 (r.govLen true) }
    sens := { r.sens with next := s.now }
    pilot := { r.pilot with trial := s.pilot.trial, former := s.pilot.former, slot := s.nv.preferred } }

/-- Fuses that are being blown: a loss of power within the 10 ms leaves the counter anywhere between its old value and the new one, a free
value (R397; DESIGN CHOICE, log entry 121). -/
def State.fuseCut (s : State) : State :=
  match s.pilot.blow with
  | some (c, t) =>
    if s.now < t + 10 * msP ∧ c < s.nv.fuse then
      { s.modNv fun n => { n with fuse := c + s.freeNat (s.nv.fuse + 1 - c) } with free := s.free + 1 }
    else s
  | none => s

/-- The logic supplies are lost, or RST_N is low: OFF with the reset held. -/
def State.powerLost (s : State) : State := s.saveDue.fuseCut.powerUp

/-- XO_IN is checked: BOOT, or another check 10 ms later. -/
def State.xoCheck (s : State) (good : Bool) : State :=
  if good then { s with life := { s.life with phase := .loading } }.goto .boot
  else { s with life := { s.life with phase := .waitXo, nextAuto := s.now + 10 * msP } }

/-- The reset is released. -/
def State.porRelease (s : State) (good : Bool) : State :=
  if s.life.phase = .held ∧ s.life.st = .off then s.powerUp.xoCheck good else s

/-- The check is repeated. -/
def State.xoRetry (s : State) (good : Bool) : State :=
  if s.life.phase = .waitXo ∧ s.life.nextAuto ≤ s.now then s.xoCheck good else s

/-! ### BOOT (R398, R410) -/

/-- The boot ROM has selected, checked and loaded a slot, or finds none and waits in recovery. A Quench in BOOT leaves the state
QUENCHED while the boot goes on. -/
def State.bootDone (s : State) : State :=
  if s.life.phase ≠ .loading ∨ s.restarting then s
  else match s.bootSlot with
  | none => { s with life := { s.life with phase := .recovery } }
  | some i =>
    let other : Bool := i != s.nv.preferred
    let s1 := s.modPilot fun p => { p with slot := i }
    let s2 := if other then s1.evt 0x6B07 i else s1
    let s3 := if other ∧ s.pilot.trial.isSome then s2.trialEnd 3 else s2
    let s4 := { s3 with life := { s3.life with phase := .selfTest }, die := { s3.die with validAt := s3.now } }
    if s.life.st = .boot then s4.goto .selftest else s4

/-! ### The run command (R413, R414) -/

/-- Conditions of a run command. -/
def State.runCodes (s : State) : List Nat :=
  when (s.life.st != .config || !s.steer.running || s.life.prepReq) 0x0601 ++ s.fleetRunCodes

/-- Seed of the jitter generators (`3.250`). -/
def State.seed48 (s : State) : Nat := s.objN 0x3250 2 * 2 ^ 32 + s.objN 0x3250 1

/-- Selectors, generators and background estimates of a Quadrant at the entry to RUN (R90, R94, R168, R179). -/
def State.quadSelectors (s : State) (q : Fin 4) : State :=
  s.modQuad q fun qd => { qd with
    seq := { qd.seq with jit := jitSeed s.seed48 q.val, acc := 32768 }
    cru := { qd.cru with accZ := 32768, bg := [], seen := [], dlt := [] } }

/-- An accepted run command: frame number and selectors, the entry commit, and the first frame. -/
def State.runEnter (s : State) : State :=
  let s1 := (s.modFrm fun f => { f with no := 0, want := none, wantHeld := false, landUntil := s.now, abandonedRow := 0, completeRow := 0 }).setObj 0x3011 0 0
  let s2 := forQuads s1.fleetRunEnter State.quadSelectors
  let s3 := forQuads s2.idle State.quadEnter
  let s4 := { s3 with life := { s3.life with autoRun := false } }.goto (if s3.life.causes = 0 then .run else .degraded)
  let s4 := { s4 with tap := s4.tap.rebase }
  let s5 := s4.modFrm fun f => { f with active := true, nextTimer := s.now + s4.objN 0x3010 0 * usP, lastSrc := s4.objN 0x3020 1 }
  s5.wantStart s.now false

/-- The part issues the run command by itself (R414). -/
def State.autoTry (s : State) : State :=
  if !s.life.autoRun ∨ s.restarting ∨ s.now < s.life.nextAuto then s
  else if s.runCodes.isEmpty then s.runEnter
  else { s with life := { s.life with nextAuto := s.now + 100 * msP } }

/-! ### SELFTEST and the entry to CONFIG (R120, R410, R412) -/

/-- Findings, bit i - 1 of item i (`9.500.04`). -/
def testResult (r : SelfTestIn) : Nat :=
  b2n (!r.dieLinkOk) + 2 * b2n (!r.memoryOk) + 4 * b2n (!r.badBlocks.isEmpty) + 8 * b2n (!r.captureOk) + 16 * b2n (!r.calFailed.isEmpty)
    + 32 * b2n (!r.injFailed.isEmpty) + 64 * b2n (!r.badSites.isEmpty)

/-- A non-fatal finding. -/
def State.finding (s : State) (item unit : Nat) : State := s.evt 0x1D01 (item + 16 * (unit % 256))

/-- Item 3: a failing block is replaced from the spares, which take over its number; with none left the Quadrant is retired. -/
def State.testBlock (s : State) (q : Fin 4) : State :=
  let k := s.cru q
  let s1 := s.bump 0x4320 (4 * q.val + 3) 1
  if (s.quad q).st = 7 then s1
  else if k.spares = 0 then (s1.evt 0x3401 q.val).quadRetire q 3
  else (s1.modCru q fun k => { k with spares := k.spares - 1 }).setObj 0x4320 (4 * q.val + 4) ((k.spares - 1 : Nat) : Int)

/-- A finding of item 5 (cause 3: the converter was an outlier twice) or 6 (cause 1: the injection leaves the channel suspect) retires its
channel; one retired already has nothing left to lose. -/
def State.testChan (s : State) (item cause ch : Nat) : State :=
  let q : Fin 4 := Fin.ofNat 4 (ch / 256)
  let s1 := s.finding item ch
  if (s.chan q (ch % 256)).st = 5 ∨ (s.chan q (ch % 256)).st = 6 then s1 else s1.chanRetire q (ch % 256) cause

/-- Items 5 and 6: the channels that fail are retired, of item 6 the enabled ones; more than 8 of a Quadrant, by either item, retire it
(R145). -/
def State.testChans (s : State) (cal inj : List Nat) : State :=
  let on := inj.filter fun ch => bit (s.chanWord (Fin.ofNat 4 (ch / 256)) (ch % 256)) 31
  let s1 := cal.foldl (fun s ch => s.testChan 5 3 ch) s
  let s2 := on.foldl (fun s ch => s.testChan 6 1 ch) s1
  forQuads s2 fun s q =>
    if 8 < ((cal ++ on).eraseDups.filter fun ch => ch / 256 == q.val).length ∧ (s.quad q).st < 5 then s.quadRetire q 2 else s

/-- Item 7: sites that the round finds invalid; event 1B03h once for a site, whichever round found it first (R381). -/
def State.testSites (s : State) (l : List Nat) : State :=
  l.foldl (fun s i =>
    let s1 := { s with sens := { s.sens with bad := (s.sens.bad.filter fun (b : Nat × Nat) => b.1 != i) ++ [(i, 0)] } }
    (if s.siteBad i then s1 else s1.evt 0x1B03 i).finding 7 i) s

/-- Every converter, the Wofen converters too, has been calibrated (item 5): its age counts from now. -/
def State.converters (s : State) : State :=
  forQuads { s with wof := { s.wof with convs := s.wof.convs.map fun v => { v with calAt := s.now } } } fun s q => (List.range 264).foldl (fun s c => s.setChan q c { s.chan q c with calAt := s.now }) s

/-- Effects of the non-fatal items 3 ... 7. -/
def State.selfFindings (s : State) (r : SelfTestIn) : State :=
  let quads := (r.badBlocks.map fun b => b.1 % 4).eraseDups
  let s1 := quads.foldl (fun s q => s.finding 3 q) s
  let s2 := r.badBlocks.foldl (fun s b => s.testBlock (Fin.ofNat 4 b.1)) s1
  let s3 := if r.captureOk then s2
    else { (s2.finding 4 0) with life := { s2.life with capBad := true } }.domOff 4
  (s3.testChans r.calFailed r.injFailed).testSites r.badSites

/-- Functions start at the entry to CONFIG: converters, loop slots 0 ... 5 and those the copy names, time, bus, links, steering, capture
and DMA channels. -/
def State.functionsStart (s : State) : State :=
  let want := (List.range 12).filter fun k => !s.steerSlot k && (k < 6 || s.loopRuns k)
  let words := (List.range 28).filter fun c => bits (s.objN 0x5200 (c + 1)) 30 2 == 3
  let s0 := quads4.foldl (fun s c => if s.seqRuns c.val then s.seqOn c else s) s
  let s1 := (List.range 7).foldl (fun s d => if s.obj 0x8100 (d + 1) = 0 then s.domOff d else s) s0
  let s2 := (List.range 12).foldl (fun s k => s.setObj 0x6210 (k + 1) 0) s1
  let s3 := want.foldl (fun s k => if s.startOk [k] then s.loopOn k else s) s2
  let s4 := if s.obj 0x2001 0 ≠ 1 then s3 else if s3.timeStartCodes.isEmpty then s3.timeStart else s3.setObj 0x2001 0 0
  let s5 := if s.obj 0x2101 0 = 1 then s4.busStart else s4
  let s6 := ([0, 1] : List (Fin 2)).foldl (fun s l =>
    if s.obj (lkRun l) 0 = 1 ∧ firstAbort (s.linkStartCodes l) = 0 then s.linkStart l else s) s5
  let steer : Bool := s.obj 0x6001 0 == 1
  let s7 := if steer ∧ s.life.st = .config ∧ s6.steerStartCodes.isEmpty then s6.steeringOn
    else s6.setObj 0x6001 0 0
  let s8 := if s.obj 0xA001 0 = 1 then (if s7.capOff then s7.setObj 0xA001 0 0 else s7.capStart) else s7
  let s9 := words.foldl (fun s c => s.dmaWordEff (Fin.ofNat 32 c) (s.objN 0x5200 (c + 1))) s8
  s9.fleetStart.newSessions

/-- The self-tests have ended: HALTED on a fatal finding, else the copy is applied and CONFIG entered; a Quench before it leaves the part
QUENCHED. -/
def State.selfTestDone (s : State) (r : SelfTestIn) : State :=
  if s.life.phase ≠ .selfTest ∨ s.restarting then s
  else
    let s1 := (s.setObj 0x9500 4 (testResult r : Nat)).converters
    if !r.dieLinkOk || !r.memoryOk then
      let s2 := s1.halt
      let s3 := if r.dieLinkOk then s2 else s2.evt 0x3D02 1
      if r.memoryOk then s3 else s3.evt 0x3D02 2
    else
      let s2 := ({ s1 with life := { s1.life with phase := .done } }.selfFindings r).applyStore
      let s3 := if s.life.st = .quenched then s2 else s2.enterIdle .config
      let s4 := s3.functionsStart
      let auto : Bool := s4.obj 0x3001 0 == 1 && s4.pilot.copy != 2
      { s4 with life := { s4.life with autoRun := auto, nextAuto := s4.now } }.autoTry

/-! ### Stop, service and prepare (R413, R415, R416) -/

/-- A stop of frames: at the end of the running frame, or at once while none runs. -/
def State.stopFrames (s : State) : State :=
  let s1 := { s with life := { s.life with stopReq := true } }
  if s.frm.running then s1 else s1.afterLanding

def State.stopCodes (s : State) : List Nat := when (!(s.inRun || s.life.st == .service)) 0x0601

def State.prepareCodes (s : State) : List Nat :=
  when (!(s.inRun || s.life.st == .config || s.life.st == .service || s.life.st == .quenched)) 0x0601

/-- Checks of the run-state command by its argument. -/
def State.runStateCodes (s : State) (a : Nat) : List Nat :=
  match a with
  | 1 => s.stopCodes
  | 2 => s.runCodes
  | 3 => when (s.life.st != .config) 0x0601
  | 4 => s.prepareCodes
  | _ => []

/-- A command that runs on: a stop of frames, and a prepare command. -/
def State.runStateLong (s : State) (a : Nat) : Bool := a == 4 || (a == 1 && s.inRun)

/-- A prepare command begins: frames stop first, re-admissions are abandoned, then the slow axis is driven to 8000h. -/
def State.prepareBegin (s : State) : State :=
  if s.life.prepReq then s
  else
    let s1 := { s with life := { s.life with prepReq := true } }
    if s.inRun then s1.stopFrames else s1.readmitDropAll.prepareDrive

/-- Effect of the run-state command; a master has written `3.000`, so the part no longer issues it by itself. -/
def State.runStateEff (s : State) (a : Nat) : State :=
  let s1 := { s with life := { s.life with autoRun := false } }
  match a with
  | 1 => if s1.inRun then s1.stopFrames else s1.enterIdle .config
  | 2 => s1.runEnter
  | 3 => s1.enterIdle .service
  | _ => s1.prepareBegin

/-- The whole of a write to `3.000`: the answer is owed before the effect may end it. -/
def State.runState (s : State) (q : Req) (e : Entry) : State :=
  s.through q (if q.asCommand then kCommand else kWrite) e.obj fun s =>
    let a := beNat e.val
    let ab := firstAbort (s.writeCodes q e ++ s.runStateCodes a)
    if ab = 0 then ((s.storeWrite q e 0).accept q e (s.runStateLong a)).runStateEff a else s.refuse q e ab

/-- Steps 2 ... 4 of R416 are done: steering, bias, chargers and capture stop, the part is OFF, and event 0D02h is written last. -/
def State.prepareFinish (s : State) : State :=
  let s1 := s.drivesDown.capStop
  let s2 := { s1 with life := { s1.life with prepReq := false, prepEl := none } }.goto .off
  let s3 := ((s2.evt 0x0D02 0).logFlush).commandDone 0x3000
  { s3 with life := { s3.life with prepared := true } }

/-- A control period of a prepare command: the elevation moves by one tracking limit; HALTED ends the command. -/
def State.prepareStep (s : State) : State :=
  if !s.life.prepReq ∨ s.restarting then s
  else if s.life.st = .halted then { s with life := { s.life with prepReq := false, prepEl := none } }.commandDone 0x3000
  else match s.life.prepEl with
  | none => if s.life.stopReq ∨ s.frm.active then s else s.prepareDrive
  | some e =>
    if !s.steer.running ∨ e = 0x8000 then s.prepareFinish
    else
      let lim : Int := s.obj 0x6000 7
      { s with life := { s.life with prepEl := some ((e : Int) + clampI (-lim) lim (0x8000 - e)).toNat } }

/-! ### The commands -/

/-- Control period of the Helms (R108), which also carries a prepare command's drive of the slow axis. -/
def execControlPeriod (a b : HelmOut) (same : Bool) (s : State) : Host.Outcome State Fault Refusal :=
  .next (s.controlPeriod a.agrees b.agrees same a.codeOk b.codeOk).prepareStep

def execPowerOnResetRelease (xoGood : Bool) (s : State) : Host.Outcome State Fault Refusal := .next (s.porRelease xoGood)
def execXoCheckRetry (xoGood : Bool) (s : State) : Host.Outcome State Fault Refusal := .next (s.xoRetry xoGood)
def execBootComplete (s : State) : Host.Outcome State Fault Refusal := .next s.bootDone
def execSelftestComplete (res : SelfTestIn) (s : State) : Host.Outcome State Fault Refusal := .next (s.selfTestDone res)
def execPowerOnResetAssert (s : State) : Host.Outcome State Fault Refusal := .next s.powerLost
def execRunCommand (r : Req) (s : State) : Host.Outcome State Fault Refusal := .next (s.runState r (ent 0x3000 0 .u8 2))
def execStopCommand (r : Req) (s : State) : Host.Outcome State Fault Refusal := .next (s.runState r (ent 0x3000 0 .u8 1))
def execServiceCommand (r : Req) (s : State) : Host.Outcome State Fault Refusal := .next (s.runState r (ent 0x3000 0 .u8 3))
def execPreparePowerRemoval (r : Req) (s : State) : Host.Outcome State Fault Refusal := .next (s.runState r (ent 0x3000 0 .u8 4))
def execAutoRunRetry (s : State) : Host.Outcome State Fault Refusal := .next s.autoTry

end Sys2Proof.Machine
end

