-- ==== Sys2Proof/Machine/Objects.lean ====
section
/-! DEFINITION. Writes and transactions over every object, leases, agreement sets discarded, and the messages of CAN FD, UART_MNT and
the Ethernet ports (R50 ... R60, R66, R71 ... R76, R81). -/

namespace Sys2Proof.Machine

/-! ### Leases (R54 ... R57) -/

/-- Areas that can be leased. -/
def leasable (area : Nat) : Bool := (2 ≤ area && area ≤ 0xA) || area == 0xD || area == 0xE || area == 0xF

/-- LND writes of other masters that are pending in an area; a write of several members counts once. -/
def State.othersPending (s : State) (r : Req) (area : Nat) : Nat :=
  ((s.tv.pend.filter fun p => p.obj / 0x1000 == area && !(r.sameMaster p.port p.master)).map (·.wno)).eraseDups.length

/-- Body of a lease response: the holder now, if any, and the count of R56. -/
def State.leaseBody (s : State) (r : Req) (area : Nat) : Octets :=
  match s.leaseOf area with
  | some l => toBE 2 l.master ++ oct [l.port, 0] ++ toBE 2 (s.othersPending r area)
  | none => zeros 4 ++ toBE 2 (s.othersPending r area)

/-- Checks of a lease request: operation 1 acquire, 2 renew, 3 release. -/
def State.leaseCodes (s : State) (r : Req) (area op timeout : Nat) : List Nat :=
  if !leasable area then [0x0301]
  else
    when (op == 0 || decide (3 < op) || (op != 3 && (decide (timeout < 100) || decide (60000 < timeout)))) 0x0301
    ++ when (s.leasedByOther r area || ((op == 2 || op == 3) && !s.leasedByMe r area)) 0x0402

/-- A lease that has run out: event 1101h, and the area is free (R56). -/
def State.leaseLapse (s : State) (area : Nat) : State :=
  match s.tv.leases.find? fun l => l.area == area && decide (l.expiry ≤ s.now) with
  | some l => (s.modTv fun t => { t with leases := t.leases.filter fun x => x.area != area }).evt 0x1101 (area + 16 * l.port)
  | none => s

/-- Acquire and renew set the expiry at the timeout after the response; release ends the lease. -/
def State.leaseApply (s : State) (r : Req) (area op timeout : Nat) : State :=
  let s1 := s.leaseLapse area
  let rest := s1.tv.leases.filter fun l => l.area != area
  let mine : Lease := { area := area, port := r.port, master := r.master, expiry := s.now + timeout * msP }
  s1.modTv fun t => { t with leases := if op = 3 then rest else rest ++ [mine] }

/-- A lease message. -/
def State.lease (s : State) (r : Req) (area op timeout : Nat) : State :=
  s.through r kLease 0x1110 fun s =>
    let ab := firstAbort (s.leaseCodes r area op timeout)
    let s1 := if ab = 0 then s.leaseApply r area op timeout else s
    s1.respond r kLease ab (s1.leaseBody r area)

/-- Operands of the lease command `1.110` at element 00. -/
def leaseArgs (e : Entry) : Nat × Nat × Nat := (fieldAt e.val 2 2, fieldAt e.val 4 2, fieldAt e.val 6 2)

/-! ### Every object (R50) -/

/-- A save by a write or a transaction that names `9.110` among others: whether its read-back succeeds is not stated. -/
def State.saveAny (s : State) : State :=
  let ok : Bool := s.freeNat 2 = 1
  { s with free := s.free + 1 }.saveBegin ok

/-- Withdraw every pending value of an agreement set, and clear its bit in `1.300` (R58). -/
def State.discardSet (s : State) (n : Nat) : State :=
  (s.modTv fun t => { t with pend := t.pend.filter fun p => agreeSet p.obj p.el != some n }).setObj 0x1300 0 (clrBit (s.objN 0x1300 0) n : Nat)

/-- Checks of its own for a write of any object. -/
def State.ownCodes (s : State) (q : Req) (e : Entry) : List Nat :=
  match Catalogue.find e.obj with
  | none => []
  | some r =>
    if r.acc = .wo then
      match e.obj with
      | 0x1110 =>
        if e.el = 0 then (let a := leaseArgs e; s.leaseCodes q a.1 a.2.1 a.2.2)
        else when ((e.el == 1 && decide (15 < beNat e.val)) || (e.el == 2 && (beNat e.val == 0 || decide (3 < beNat e.val)))) 0x0301
      | 0x3000 => s.runStateCodes (beNat e.val)
      | 0x9110 => if s.saveCodes.isEmpty ∧ 262128 < s.bodyLen then [0x0501] else s.saveCodes
      | 0x9112 => when (s.life.st != .service) 0x0601
      | _ => s.cmdCodes15 q e ++ s.cmdCodes6A e
    else s.settingCodes e (written r e.el e.val)

/-- What an accepted write of any object does beside storing its value; `old` is the state before it. -/
def State.ownEff (old s : State) (q : Req) (e : Entry) : State :=
  match Catalogue.find e.obj with
  | none => s
  | some r =>
    if r.acc = .wo then
      match e.obj with
      | 0x1040 => s.modTv fun t => { t with uartFast := true }
      | 0x1110 => if e.el = 0 then (let a := leaseArgs e; s.leaseApply q a.1 a.2.1 a.2.2) else s
      | 0x1310 => s.discardSet (beNat e.val)
      | 0x3000 => s.runStateEff (beNat e.val)
      | 0x9110 => s.saveAny
      | 0x9112 => s.storeErase
      | _ => (s.cmdEff15 q e).cmdEff6A e
    else State.settingEff old s e (written r e.el e.val)

/-- Members that an entry writes. -/
def entryWrites (e : Entry) : List (Nat × Nat × Int) :=
  match Catalogue.find e.obj with
  | none => []
  | some r => (written r e.el e.val).map fun x => (e.obj, x.1, x.2)

/-- Domains that entries have asked to switch off and that are still held (R292): the answer waits for them (R387). -/
def State.domWaits (s : State) (es : List Entry) : List Nat :=
  (((es.flatMap entryWrites).filter fun w => w.1 == 0x8100 && w.2.1 != 0).map fun w => w.2.1 - 1).filter fun d => s.dma.holds.any fun h => h.1 == d

/-- A write of `8.100` as a whole: its answer waits for every domain it switches off. -/
def State.domWrite (s : State) (q : Req) (e : Entry) : State :=
  let kind := if q.asCommand then kCommand else kWrite
  s.through q kind e.obj fun s =>
    let ab := firstAbort (s.writeCodes q e ++ s.ownCodes q e)
    if ab ≠ 0 then s.refuse q e ab
    else
      let t := State.ownEff s (s.storeWrite q e 0) q e
      t.owe q kind e.obj (t.domWaits [e])

/-- One write of any object. The objects whose refusals or answers have effects of their own take their own way. -/
def State.writeAny (s : State) (q : Req) (e : Entry) : State :=
  match e.obj with
  | 0x3000 => s.runState q e
  | 0x4202 => s.mcLoadWrite q e
  | 0x9110 => { s with free := s.free + 1 }.saveWrite q e (s.freeNat 2 = 1)
  | 0x9400 => s.readmitWrite q e
  | 0x8100 =>
    if e.el = 0 then s.domWrite q e
    else s.hostWriteHeld q e (e.el - 1) (fun s => s.ownCodes q e) (fun t => State.ownEff s t q e)
  | _ => s.hostWrite q e (fun s => s.ownCodes q e) (fun t => State.ownEff s t q e) (cmdLong e)

/-! ### Transactions (R59, R60) -/

/-- Octets of a transaction's body (R70). -/
def bodyOf (es : List Entry) : Nat := 2 + (es.map fun e => 6 + e.val.length).sum

/-- First entry that fails, with its code. -/
def State.firstBad (s : State) (q : Req) : Nat → List Entry → Option (Nat × Nat × Entry)
  | _, [] => none
  | i, e :: es =>
    let ab := firstAbort (s.writeCodes { q with asCommand := false } e ++ s.ownCodes q e)
    if ab = 0 then State.firstBad s q (i + 1) es else some (i, ab, e)

/-- Members of an agreement set (R430). -/
def setMembersOf (n : Nat) : List (Nat × Nat) :=
  if n = 0 then [(0x3010, 0), (0x3210, 0)] else [(0x4000, 1), (0x4000, 2), (0x4010, 1), (0x4010, 2)]

/-- A set that the transaction writes as a whole and leaves inconsistent: the index of its first entry (R59). -/
def State.setBad (s : State) (q : Req) (es : List Entry) (n : Nat) : Option Nat :=
  let ws := es.flatMap entryWrites
  if (setMembersOf n).all fun m => ws.any fun w => w.1 == m.1 && w.2.1 == m.2 then
    let s1 := ws.foldl (fun s w => s.addPend q w.1 0 [(w.2.1, w.2.2)]) { s with tv := { s.tv with pend := [] } }
    if s1.setConsistent n then none
    else (es.zipIdx.find? fun p => (entryWrites p.1).any fun w => agreeSet w.1 w.2.1 == some n).map (·.2)
  else none

/-- A multi-object transaction: every entry is accepted, or none. Of several entries that conflict under R51, the first failing one
alone has the effects of a conflict (DESIGN CHOICE, log entry 16). -/
def State.transaction (s : State) (q : Req) (es : List Entry) : State :=
  let inRecovery : Bool := es.all fun e => 0x9200 ≤ e.obj && e.obj ≤ 0x9212
  s.through q kMulti (if inRecovery then 0x9200 else 0xFFFF) fun s =>
    if es.isEmpty then s.respond q kMulti 0x0302 [0]
    else if 32 < es.length ∨ 1456 < bodyOf es then s.respond q kMulti 0x0501 [0]
    else match s.firstBad q 0 es with
    | some (i, ab, e) =>
      let s1 := if ab = 0x0403 then
          match Catalogue.find e.obj with
          | some r => if r.app == .lnd then s.lndConflict q e else s.bump 0x1030 4 1
          | none => s
        else s.mcRefused { q with asCommand := false } e ab
      s1.respond q kMulti ab (oct [i])
    | none =>
      match (s.setBad q es 0).or (s.setBad q es 1) with
      | some i => s.respond q kMulti 0x0404 (oct [i])
      | none =>
        let g := s.tv.groupNo
        let s1 := s.modTv fun t => { t with groupNo := g + 1 }
        let s2 := es.foldl (fun t e => State.ownEff t (t.storeWrite q e g) q e) s1
        s2.owe q kMulti 0x8100 (s2.domWaits es)

/-! ### An idle period -/

/-- A period in which no command waits: time passes, the capture engine arms its next segment when the gap has passed (R267), a save in
progress completes (R393), and the bus goes on with its queue. -/
def State.idleTick (s : State) : State :=
  let s1 := s.tick.capRearm.saveEnd
  if s1.wof.queue.isEmpty && s1.wof.marks.isEmpty then s1 else s1.relayMarks.wtbDrain

/-! ### Messages (R66, R70) -/

/-- The answer to a transaction whose body is too large for a message (R60). -/
def State.tooLong (s : State) (q : Req) : State := s.through q kMulti 0 fun s => s.respond q kMulti 0x0501 [0]

/-- The answer to a malformed request. -/
def State.malformed (s : State) (q : Req) (kind : Nat) : State := s.through q kind 0 fun s => s.respond q kind 0x0302 []

/-- Entries of a transaction's body; none when they do not fill it exactly. -/
def entriesOf : Nat → Octets → Option (List Entry)
  | 0, o => if o.isEmpty then some [] else none
  | n + 1, o =>
    let l := fieldAt o 4 2
    if o.length < 6 + l then none
    else
      let e : Entry := { obj := fieldAt o 0 2, el := octAt o 2, ty := octAt o 3, val := (o.drop 6).take l }
      (entriesOf n (o.drop (6 + l))).map fun r => e :: r

/-- A request by its type and body. -/
def State.request (s : State) (q : Req) (kind : Nat) (o : Octets) : State :=
  match kind with
  | 1 => if o.length = 4 ∧ octAt o 3 ≤ 1 then s.readObj q (fieldAt o 0 2) (octAt o 2) (octAt o 3 == 1) else s.malformed q kind
  | 2 => if 4 ≤ o.length then s.writeAny { q with asCommand := false } { obj := fieldAt o 0 2, el := octAt o 2, ty := octAt o 3, val := o.drop 4 }
      else s.malformed q kind
  | 3 => match entriesOf (octAt o 0) (o.drop 2) with
    | some es => if 2 ≤ o.length ∧ octAt o 1 = 0 then s.transaction q es else s.malformed q kind
    | none => s.malformed q kind
  | 4 => if o.length = 10 then s.subscribe q (fieldAt o 0 2) (octAt o 2) (octAt o 3) (fieldAt o 4 2) (fieldAt o 6 2) (fieldAt o 8 2)
      else s.malformed q kind
  | 6 => if o.length = 4 then s.lease q (octAt o 0) (octAt o 1) (fieldAt o 2 2) else s.malformed q kind
  | 7 => if 4 ≤ o.length then s.writeAny { q with asCommand := true } { obj := fieldAt o 0 2, el := octAt o 2, ty := octAt o 3, val := o.drop 4 }
      else s.malformed q kind
  | _ => s.malformed q kind

/-- A message with the header of R65 on UDP, UART_MNT or a side channel (R66, R67). -/
def State.headerMessage (s : State) (q : Req) (o : Octets) : State :=
  let kind := octAt o 3
  if o.length < 16 ∨ fieldAt o 0 2 ≠ 0x5456 ∨ octAt o 2 ≠ 1 then s.bump 0x1030 1 1
  else if 1 < fieldAt o 10 2 ∨ fieldAt o 14 2 ≠ o.length - 16 ∨ 128 ≤ kind then s.malformed q (kind % 128)
  else if 1456 < o.length - 16 then (if kind = kMulti then s.tooLong q else s.malformed q kind)
  else s.request q kind (o.drop 16)

/-- An unsegmented frame on CAN FD (R73, R74): `o` is its identifier, 4 octets, and its data. The part takes only frames with its own node
number, of a priority that is not Plovivo's, that are no response. -/
def State.canMessage (s : State) (port : Nat) (o : Octets) : State :=
  let id := fieldAt o 0 4
  let n := octAt o 5
  let q : Req := { port := port, master := bits id 0 10, txn := octAt o 4, asCommand := false, src := 0 }
  if o.length < 6 ∨ bits id 26 3 ≤ 1 ∨ bits id 20 2 ≠ 0 ∨ bits id 10 10 ≠ s.canNode port then s
  else if n < 2 ∨ o.length < 6 + n ∨ 62 < n then s.malformed q (bits id 22 4)
  else s.request q (bits id 22 4) ((o.drop 8).take (n - 2))

/-- A message arrives in octets: discarded, answered with 0302h, or, when it is well formed, served as the row of its type. -/
def State.badMessage (s : State) (port src : Nat) (o : Octets) : State :=
  let quiet : Bool := !s.portUp port || s.life.phase == .waitXo || (s.life.phase == .held && !s.life.prepared)
  if quiet then s
  else if port ≤ 1 then s.canMessage port o
  else s.headerMessage { port := port, master := fieldAt o 4 2, txn := fieldAt o 6 4, asCommand := false, src := src } o

/-! ### The side channels (R77, R305) -/

/-- What octets escaped under R76 stand for. -/
def unescape : Octets → Octets
  | 0x7D :: b :: rest => (b ^^^ 0x20) :: unescape rest
  | b :: rest => b :: unescape rest
  | [] => []

/-- A whole frame of the side channel, without its flags: a bad CRC-16 is counted, a good one closes a message of port 5 or 6. -/
def State.sideFrame (s : State) (l : Fin 2) (f : Octets) : State :=
  let o := unescape f
  let n := o.length - 2
  if f.isEmpty then s
  else if o.length < 2 ∨ crc16 (o.take n) ≠ fieldAt o n 2 then s.bump 0x1030 2 1
  else s.badMessage (5 + l.val) 0 (o.take n)

/-- The frames that the octets received close, in turn; what follows the last flag is the frame in progress. -/
def State.sideFrames (l : Fin 2) : Nat → State → State
  | 0, s => s
  | n + 1, s =>
    let o := (s.link l).sideRx
    if o.contains 0x7E then
      let f := o.takeWhile fun b => b != 0x7E
      State.sideFrames l n ((s.modLink l fun k => { k with sideRx := o.drop (f.length + 1) }).sideFrame l f)
    else s

def execBackLaneSide (l : Fin 2) (o : Octets) (s : State) : Host.Outcome State Fault Refusal :=
  .next (State.sideFrames l 6 (s.backReceive l false (sideBlock o)))

/-! ### CAN FD segments (R74, R75) -/

/-- A response that is not stored: the request it answers was not completed. A port that has stopped meanwhile sends nothing (R81). -/
def State.answerOnce (s : State) (q : Req) (kind abort : Nat) : State :=
  if !s.portSends q.port then s else s.sendMsg q.port q.src 3 kind 1 q.master q.txn abort []

def segReq (x : CanXfer) : Req := { port := x.port, master := x.master, txn := x.tag, asCommand := x.kind == 7, src := 0 }

/-- A fault in a transfer: discarded, and answered with 0303h. -/
def State.canFault (s : State) (x : CanXfer) : State := (s.canDrop x.port x.master).answerOnce (segReq x) x.kind 0x0303

/-- A segment joins its transfer; the last one completes the request. -/
def State.canTake (s : State) (x : CanXfer) (data : Octets) : State :=
  let y : CanXfer := { x with next := x.next + 1, got := x.got ++ fitTo 60 data, last := s.now }
  let s1 := s.canDrop x.port x.master
  if y.total ≤ y.got.length then s1.request (segReq y) y.kind ((y.got.take y.total).drop 2)
  else s1.modTv fun t => { t with canRx := t.canRx ++ [y] }

/-- A segment of a segmented request arrives. -/
def State.canSegment (s : State) (port master kind tag idx total : Nat) (data : Octets) : State :=
  let q : Req := { port := port, master := master, txn := tag, asCommand := kind == 7, src := 0 }
  let new : CanXfer := { port := port, master := master, tag := tag, kind := kind, total := total, next := 0, got := [], last := s.now }
  if 1 < port ∨ !s.portUp port ∨ s.life.phase = .waitXo ∨ (s.life.phase = .held ∧ !s.life.prepared) then s
  else match s.canXferOf port master with
  | none =>
    if idx ≠ 0 then s
    else if 1458 < total ∧ kind = kMulti then s.tooLong q
    else if total < 63 ∨ 1458 < total then s.malformed q kind
    else s.canTake new data
  | some x =>
    if tag ≠ x.tag then (s.canDrop port master).respond q kind 0x0701 []
    else if idx ≠ x.next ∨ total ≠ x.total ∨ kind ≠ x.kind ∨ x.last + 50 * msP < s.now then s.canFault x
    else s.canTake x data

/-- More than 50 ms have passed since the last segment. -/
def State.canTimeout (s : State) (port master : Nat) : State :=
  match s.canXferOf port master with
  | some x => if x.last + 50 * msP < s.now then s.canFault x else s
  | none => s

/-! ### ARP and NDP (R81) -/

/-- Link-local address that EUI-64 forms from a MAC address. -/
def linkLocal (mac : Octets) : Octets :=
  oct [0xFE, 0x80, 0, 0, 0, 0, 0, 0] ++ [(mac.getD 0 0) ^^^ 2] ++ (mac.drop 1).take 2 ++ oct [0xFF, 0xFE] ++ (mac.drop 3).take 3

/-- The target is an address of the MAC. -/
def State.ownAddress (s : State) (mac : Fin 2) (v6 : Bool) (target : Octets) : Bool :=
  if v6 then
    let fixed := (((s.blobs.find? fun b => b.1 == 0x1023).map (·.2)).getD (zeros 32)).drop (16 * mac.val) |>.take 16
    target == linkLocal (Config.macAddr mac.val) || (target == fixed && fixed != zeros 16)
  else target.length == 4 && beNat target == s.objN 0x1021 (2 * mac.val + 1)

def State.neighbour (s : State) (mac : Fin 2) (v6 : Bool) (target : Octets) : State :=
  let up : Bool := s.portUp (2 + mac.val) && s.life.phase != .waitXo && (s.life.phase != .held || s.life.prepared)
  if up && s.ownAddress mac v6 target then s.emit (.neighbour mac.val v6 target (Config.macAddr mac.val)) else s

/-! ### Commands that run for long (R71) -/

/-- A second after its acceptance a command message that still runs is answered with status 01h. -/
def State.runningAnswer (s : State) (port master txn : Nat) : State :=
  match s.tv.running.find? fun x => x.req.port == port && x.req.master == master && x.req.txn == txn && !x.answered with
  | none => s
  | some x =>
    if !x.req.asCommand ∨ s.restarting ∨ s.now < x.started + secP then s
    else
      (s.modTv fun t => { t with running := t.running.map fun (y : Running) => if y == x then { y with answered := true } else y }).respondLate
        x kCommand 0 [1]

/-! ### The commands -/

def execWrite (r : Req) (e : Entry) (s : State) : Host.Outcome State Fault Refusal := .next (s.writeAny r e)
def execMultiObjectTransaction (r : Req) (es : List Entry) (s : State) : Host.Outcome State Fault Refusal := .next (s.transaction r es)
def execLeaseAcquire (r : Req) (area timeout : Nat) (s : State) : Host.Outcome State Fault Refusal := .next (s.lease r area 1 timeout)
def execLeaseRenew (r : Req) (area timeout : Nat) (s : State) : Host.Outcome State Fault Refusal := .next (s.lease r area 2 timeout)
def execLeaseRelease (r : Req) (area timeout : Nat) (s : State) : Host.Outcome State Fault Refusal := .next (s.lease r area 3 timeout)

/-- While the Pilot restarts no lease expires (R47). -/
def execLeaseExpiry (area : Nat) (s : State) : Host.Outcome State Fault Refusal := .next (if s.restarting then s else s.leaseLapse area)
def execTorvipMalformedMessage (port src : Nat) (msg : Octets) (s : State) : Host.Outcome State Fault Refusal :=
  .next (s.badMessage port src msg)
def execCanSegment (port master kind tag idx total : Nat) (data : Octets) (s : State) : Host.Outcome State Fault Refusal :=
  .next (s.canSegment port master kind tag idx total data)
def execCanSegmentTimeout (port master : Nat) (s : State) : Host.Outcome State Fault Refusal := .next (s.canTimeout port master)

/-- The rate changes after the response has been sent. -/
def execUartMntFastRate (r : Req) (arg : Nat) (s : State) : Host.Outcome State Fault Refusal :=
  .next (s.hostWrite r (entArg 0x1040 .u8 arg) (fun _ => []) (fun s => s.modTv fun t => { t with uartFast := true }) false)
def execDiscardPendingSet (r : Req) (set : Nat) (s : State) : Host.Outcome State Fault Refusal :=
  .next (s.hostWrite r (entArg 0x1310 .u8 set) (fun _ => []) (fun s => s.discardSet set) false)
def execCanPortStart (r : Req) (p : Fin 2) (s : State) : Host.Outcome State Fault Refusal :=
  .next (s.hostWrite r (ent 0x1011 (p.val + 1) .bool 1) (fun _ => []) id false)
def execCanPortStop (r : Req) (p : Fin 2) (s : State) : Host.Outcome State Fault Refusal :=
  .next (s.hostWrite r (ent 0x1011 (p.val + 1) .bool 0) (fun _ => []) id false)
def execEthernetPortStart (r : Req) (p : Fin 2) (s : State) : Host.Outcome State Fault Refusal :=
  .next (s.hostWrite r (ent 0x1022 (p.val + 1) .bool 1) (fun _ => []) State.macTime false)
def execEthernetPortStop (r : Req) (p : Fin 2) (s : State) : Host.Outcome State Fault Refusal :=
  .next (s.hostWrite r (ent 0x1022 (p.val + 1) .bool 0) (fun _ => []) State.macTime false)

/-- UART_MNT is served from BOOT on. -/
def execUartMntCrcError (s : State) : Host.Outcome State Fault Refusal :=
  .next (if s.life.st = .off then s else s.bump 0x1030 2 1)
def execCanFrameIgnored (port : Fin 2) (s : State) : Host.Outcome State Fault Refusal :=
  .next (if s.life.st = .off ∨ !s.portUp port.val then s else s.bump 0x1030 3 1)
def execArpNdpRequest (mac : Fin 2) (v6 : Bool) (target : Octets) (s : State) : Host.Outcome State Fault Refusal :=
  .next (s.neighbour mac v6 target)
def execCommandRunningResponse (port master txn : Nat) (s : State) : Host.Outcome State Fault Refusal :=
  .next (s.runningAnswer port master txn)

end Sys2Proof.Machine
end

