-- ==== Sys2Proof/Machine/Dispatch.lean ====
section
/-! DEFINITION. What each command does to everything but the queue: one arm per row of the opcode table. -/

namespace Sys2Proof.Machine

/-- The effect of a command (R1, 95). -/
def exec (i : Instr) (s : State) : Host.Outcome State Fault Refusal :=
  match i with
  | .flitAckTimeout flit => Sys2Proof.Machine.execFlitAckTimeout flit s
  | .flitReceived flit good => Sys2Proof.Machine.execFlitReceived flit good s
  | .dieLinkSilence => Sys2Proof.Machine.execDieLinkSilence s
  | .flitRetryRateSecond => Sys2Proof.Machine.execFlitRetryRateSecond s
  | .enableLaneStopped lane => Sys2Proof.Machine.execEnableLaneStopped lane s
  | .anchorOnCommand lane => Sys2Proof.Machine.execAnchorOnCommand lane s
  | .quadrantPipelineWatchdog q => Sys2Proof.Machine.execQuadrantPipelineWatchdog q s
  | .quadrantContextWatchdog q => Sys2Proof.Machine.execQuadrantContextWatchdog q s
  | .safetyTapWatchdog e => Sys2Proof.Machine.execSafetyTapWatchdog e s
  | .verdictWatchdog e => Sys2Proof.Machine.execVerdictWatchdog e s
  | .landingWatchdog before5 unacked li => Sys2Proof.Machine.execLandingWatchdog before5 unacked li s
  | .sharedCommitTimeout li => Sys2Proof.Machine.execSharedCommitTimeout li s
  | .frameTimerExpiry => Sys2Proof.Machine.execFrameTimerExpiry s
  | .frameEnd li => Sys2Proof.Machine.execFrameEnd li s
  | .idleLanding => Sys2Proof.Machine.execIdleLanding s
  | .read r obj el whole => Sys2Proof.Machine.execRead r obj el whole s
  | .write r e => Sys2Proof.Machine.execWrite r e s
  | .multiObjectTransaction r es => Sys2Proof.Machine.execMultiObjectTransaction r es s
  | .subscribe r obj el trig interval life mask => Sys2Proof.Machine.execSubscribe r obj el trig interval life mask s
  | .publicationInterval handle => Sys2Proof.Machine.execPublicationInterval handle s
  | .subscriptionLapse handle => Sys2Proof.Machine.execSubscriptionLapse handle s
  | .leaseAcquire r area timeout => Sys2Proof.Machine.execLeaseAcquire r area timeout s
  | .leaseRenew r area timeout => Sys2Proof.Machine.execLeaseRenew r area timeout s
  | .leaseRelease r area timeout => Sys2Proof.Machine.execLeaseRelease r area timeout s
  | .leaseExpiry area => Sys2Proof.Machine.execLeaseExpiry area s
  | .torvipMalformedMessage port src msg => Sys2Proof.Machine.execTorvipMalformedMessage port src msg s
  | .canSegment port master kind tag idx total data => Sys2Proof.Machine.execCanSegment port master kind tag idx total data s
  | .canSegmentTimeout port master => Sys2Proof.Machine.execCanSegmentTimeout port master s
  | .uartMntFastRate r arg => Sys2Proof.Machine.execUartMntFastRate r arg s
  | .discardPendingSet r set => Sys2Proof.Machine.execDiscardPendingSet r set s
  | .canPortStart r p => Sys2Proof.Machine.execCanPortStart r p s
  | .canPortStop r p => Sys2Proof.Machine.execCanPortStop r p s
  | .ethernetPortStart r p => Sys2Proof.Machine.execEthernetPortStart r p s
  | .ethernetPortStop r p => Sys2Proof.Machine.execEthernetPortStop r p s
  | .patternDataWrite r data => Sys2Proof.Machine.execPatternDataWrite r data s
  | .patternCommit r mask => Sys2Proof.Machine.execPatternCommit r mask s
  | .shadowRefreshDone q => Sys2Proof.Machine.execShadowRefreshDone q s
  | .patternDurationCut q => Sys2Proof.Machine.execPatternDurationCut q s
  | .slot q mis => Sys2Proof.Machine.execSlot q mis s
  | .angleTrigger q at_ late => Sys2Proof.Machine.execAngleTrigger q at_ late s
  | .angleMissed q => Sys2Proof.Machine.execAngleMissed q s
  | .strike r arg => Sys2Proof.Machine.execStrike r arg s
  | .hpcPeakReading p code => Sys2Proof.Machine.execHpcPeakReading p code s
  | .emitterRetest r emitter => Sys2Proof.Machine.execEmitterRetest r emitter s
  | .frameTrigInEdge rising => Sys2Proof.Machine.execFrameTrigInEdge rising s
  | .heldTriggerRelease => Sys2Proof.Machine.execHeldTriggerRelease s
  | .fastAxisZeroCrossing half => Sys2Proof.Machine.execFastAxisZeroCrossing half s
  | .fastAxisCrossingTimeout => Sys2Proof.Machine.execFastAxisCrossingTimeout s
  | .controlPeriod a b same => Sys2Proof.Machine.execControlPeriod a b same s
  | .positionRevalidation axis => Sys2Proof.Machine.execPositionRevalidation axis s
  | .helmReinitDone h => Sys2Proof.Machine.execHelmReinitDone h s
  | .helmStandbyReady h => Sys2Proof.Machine.execHelmStandbyReady h s
  | .ferryCommand r arg => Sys2Proof.Machine.execFerryCommand r arg s
  | .loopSample slot n ready => Sys2Proof.Machine.execLoopSample slot n ready s
  | .loopStart r slot => Sys2Proof.Machine.execLoopStart r slot s
  | .loopStop r slot => Sys2Proof.Machine.execLoopStop r slot s
  | .steeringStart r => Sys2Proof.Machine.execSteeringStart r s
  | .steeringStop r => Sys2Proof.Machine.execSteeringStop r s
  | .compensatorClear r table => Sys2Proof.Machine.execCompensatorClear r table s
  | .biasSettled q => Sys2Proof.Machine.execBiasSettled q s
  | .detectorTempFallback q => Sys2Proof.Machine.execDetectorTempFallback q s
  | .gateOpen q slot c => Sys2Proof.Machine.execGateOpen q slot c s
  | .gateClose q slot c => Sys2Proof.Machine.execGateClose q slot c s
  | .hitLeadingEdge q c raw tot rng mis ecc blk => Sys2Proof.Machine.execHitLeadingEdge q c raw tot rng mis ecc blk s
  | .hitTrailingEdge q c raw => Sys2Proof.Machine.execHitTrailingEdge q c raw s
  | .missingPulseDeadline q c => Sys2Proof.Machine.execMissingPulseDeadline q c s
  | .hitUnmatched q c => Sys2Proof.Machine.execHitUnmatched q c s
  | .clampOn q c => Sys2Proof.Machine.execClampOn q c s
  | .clampOff q c => Sys2Proof.Machine.execClampOff q c s
  | .clampEvent q c => Sys2Proof.Machine.execClampEvent q c s
  | .stuckOnDetected q c => Sys2Proof.Machine.execStuckOnDetected q c s
  | .converterCalibrationDue q conv => Sys2Proof.Machine.execConverterCalibrationDue q conv s
  | .reliefHandover q c => Sys2Proof.Machine.execReliefHandover q c s
  | .converterCalibrationDone q conv hist refs lost => Sys2Proof.Machine.execConverterCalibrationDone q conv hist refs lost s
  | .calibrationOverdue q c => Sys2Proof.Machine.execCalibrationOverdue q c s
  | .visitClose q cell pass => Sys2Proof.Machine.execVisitClose q cell pass s
  | .peakSearchDone q cell c => Sys2Proof.Machine.execPeakSearchDone q cell c s
  | .laneTakeUp q => Sys2Proof.Machine.execLaneTakeUp q s
  | .decompositionDone q lane beyond ecc blk => Sys2Proof.Machine.execDecompositionDone q lane beyond ecc blk s
  | .microcodeLoad r mask => Sys2Proof.Machine.execMicrocodeLoad r mask s
  | .microcodeBankSelect r q bank => Sys2Proof.Machine.execMicrocodeBankSelect r q bank s
  | .adcSample c => Sys2Proof.Machine.execAdcSample c s
  | .adcConversionDone c raw beyond clampOn conds pred => Sys2Proof.Machine.execAdcConversionDone c raw beyond clampOn conds pred s
  | .adcConversionTimeout c => Sys2Proof.Machine.execAdcConversionTimeout c s
  | .sequencerPassEnd c => Sys2Proof.Machine.execSequencerPassEnd c s
  | .sequencerStart r c => Sys2Proof.Machine.execSequencerStart r c s
  | .sequencerStop r c => Sys2Proof.Machine.execSequencerStop r c s
  | .calCaptureZero r => Sys2Proof.Machine.execCalCaptureZero r s
  | .calCaptureFullScale r => Sys2Proof.Machine.execCalCaptureFullScale r s
  | .calCaptureComplete => Sys2Proof.Machine.execCalCaptureComplete s
  | .calComputeStore r => Sys2Proof.Machine.execCalComputeStore r s
  | .calRestoreFactory r => Sys2Proof.Machine.execCalRestoreFactory r s
  | .calAbandon r => Sys2Proof.Machine.execCalAbandon r s
  | .accumulatorWindowEnd mm n => Sys2Proof.Machine.execAccumulatorWindowEnd mm n s
  | .accumulatorConfigWrite r n word => Sys2Proof.Machine.execAccumulatorConfigWrite r n word s
  | .accumulatorLatch r arg => Sys2Proof.Machine.execAccumulatorLatch r arg s
  | .minmaxConfigWrite r n word => Sys2Proof.Machine.execMinmaxConfigWrite r n word s
  | .minmaxLatch r arg => Sys2Proof.Machine.execMinmaxLatch r arg s
  | .filterRound => Sys2Proof.Machine.execFilterRound s
  | .filterRoundOverrun => Sys2Proof.Machine.execFilterRoundOverrun s
  | .filterChannelStart r k => Sys2Proof.Machine.execFilterChannelStart r k s
  | .filterChannelStop r k => Sys2Proof.Machine.execFilterChannelStop r k s
  | .angleStampReady q slot => Sys2Proof.Machine.execAngleStampReady q slot s
  | .ppsInEdge rising fine => Sys2Proof.Machine.execPpsInEdge rising fine s
  | .ppsMissing => Sys2Proof.Machine.execPpsMissing s
  | .zdaSentence good utc => Sys2Proof.Machine.execZdaSentence good utc s
  | .ptpMessageReceived p m => Sys2Proof.Machine.execPtpMessageReceived p m s
  | .announceTimeout p => Sys2Proof.Machine.execAnnounceTimeout p s
  | .ptpTransmitInterval p => Sys2Proof.Machine.execPtpTransmitInterval p s
  | .holdoverBudgetExceeded => Sys2Proof.Machine.execHoldoverBudgetExceeded s
  | .wholeSecond => Sys2Proof.Machine.execWholeSecond s
  | .setTime r ns => Sys2Proof.Machine.execSetTime r ns s
  | .timeServiceStart r => Sys2Proof.Machine.execTimeServiceStart r s
  | .timeServiceStop r => Sys2Proof.Machine.execTimeServiceStop r s
  | .wofenCycle => Sys2Proof.Machine.execWofenCycle s
  | .wofenFrameEventSend => Sys2Proof.Machine.execWofenFrameEventSend s
  | .wofenPacketReceived aux pkt raw => Sys2Proof.Machine.execWofenPacketReceived aux pkt raw s
  | .wofenWindow => Sys2Proof.Machine.execWofenWindow s
  | .wofenFrameEventLoss => Sys2Proof.Machine.execWofenFrameEventLoss s
  | .wtbSilence => Sys2Proof.Machine.execWtbSilence s
  | .busCalibration r arg => Sys2Proof.Machine.execBusCalibration r arg s
  | .busRecalibrationTimer => Sys2Proof.Machine.execBusRecalibrationTimer s
  | .busCalibrationDone => Sys2Proof.Machine.execBusCalibrationDone s
  | .triggerBusStart r => Sys2Proof.Machine.execTriggerBusStart r s
  | .triggerBusStop r => Sys2Proof.Machine.execTriggerBusStop r s
  | .fleetJoin r dom ident prev => Sys2Proof.Machine.execFleetJoin r dom ident prev s
  | .fleetRenew r dom ident prev => Sys2Proof.Machine.execFleetRenew r dom ident prev s
  | .fleetRelease r dom ident prev => Sys2Proof.Machine.execFleetRelease r dom ident prev s
  | .fleetGrant r grant => Sys2Proof.Machine.execFleetGrant r grant s
  | .fleetJoinRetry => Sys2Proof.Machine.execFleetJoinRetry s
  | .fleetRenewTimer => Sys2Proof.Machine.execFleetRenewTimer s
  | .fleetIndexExpiry x => Sys2Proof.Machine.execFleetIndexExpiry x s
  | .fleetDomainWrite r el ty val => Sys2Proof.Machine.execFleetDomainWrite r el ty val s
  | .captureStart r => Sys2Proof.Machine.execCaptureStart r s
  | .captureStop r => Sys2Proof.Machine.execCaptureStop r s
  | .captureRecord src unit t data => Sys2Proof.Machine.execCaptureRecord src unit t data s
  | .triggerConditionOccurrence t o => Sys2Proof.Machine.execTriggerConditionOccurrence t o s
  | .triggerSequencerTimer => Sys2Proof.Machine.execTriggerSequencerTimer s
  | .hostTrigger r arg => Sys2Proof.Machine.execHostTrigger r arg s
  | .segmentTimeLimit => Sys2Proof.Machine.execSegmentTimeLimit s
  | .segmentSelect r seg => Sys2Proof.Machine.execSegmentSelect r seg s
  | .segmentLockExpiry => Sys2Proof.Machine.execSegmentLockExpiry s
  | .segmentRelease r seg => Sys2Proof.Machine.execSegmentRelease r seg s
  | .captureClear r arg => Sys2Proof.Machine.execCaptureClear r arg s
  | .descriptorWrite r o => Sys2Proof.Machine.execDescriptorWrite r o s
  | .dmaChannelStart r c retry first => Sys2Proof.Machine.execDmaChannelStart r c retry first s
  | .dmaChannelDisable r c => Sys2Proof.Machine.execDmaChannelDisable r c s
  | .dmaBurst err => Sys2Proof.Machine.execDmaBurst err s
  | .xspiReadTimeout c => Sys2Proof.Machine.execXspiReadTimeout c s
  | .dmaReservationTimeout c => Sys2Proof.Machine.execDmaReservationTimeout c s
  | .dmaHoldLimit d => Sys2Proof.Machine.execDmaHoldLimit d s
  | .completionQueueRead r => Sys2Proof.Machine.execCompletionQueueRead r s
  | .dmaBufferWrite r o => Sys2Proof.Machine.execDmaBufferWrite r o s
  | .linkStart r l => Sys2Proof.Machine.execLinkStart r l s
  | .linkStop r l => Sys2Proof.Machine.execLinkStop r l s
  | .linkPllLocked l => Sys2Proof.Machine.execLinkPllLocked l s
  | .trainingTimeout l => Sys2Proof.Machine.execTrainingTimeout l s
  | .laneLock l ln => Sys2Proof.Machine.execLaneLock l ln s
  | .laneAdjust l ln tap up => Sys2Proof.Machine.execLaneAdjust l ln tap up s
  | .laneDone l ln => Sys2Proof.Machine.execLaneDone l ln s
  | .laneRetrain l ln => Sys2Proof.Machine.execLaneRetrain l ln s
  | .backLaneAck l seq grant => Sys2Proof.Machine.execBackLaneAck l seq grant s
  | .backLaneNak l seq grant => Sys2Proof.Machine.execBackLaneNak l seq grant s
  | .backLaneStatus l lost ref errs => Sys2Proof.Machine.execBackLaneStatus l lost ref errs s
  | .backLaneSide l o => Sys2Proof.Machine.execBackLaneSide l o s
  | .backLaneInvalidBlock l => Sys2Proof.Machine.execBackLaneInvalidBlock l s
  | .linkPacketSend l bad => Sys2Proof.Machine.execLinkPacketSend l bad s
  | .replayTimeout l => Sys2Proof.Machine.execReplayTimeout l s
  | .backLaneSilent l => Sys2Proof.Machine.execBackLaneSilent l s
  | .deskewRound l => Sys2Proof.Machine.execDeskewRound l s
  | .ingotFlush l => Sys2Proof.Machine.execIngotFlush l s
  | .verdict differ miss => Sys2Proof.Machine.execVerdict differ miss s
  | .frameMissingTimeout => Sys2Proof.Machine.execFrameMissingTimeout s
  | .selectionInvalidTimeout => Sys2Proof.Machine.execSelectionInvalidTimeout s
  | .contaminationJudgement => Sys2Proof.Machine.execContaminationJudgement s
  | .testPulse tpB bad => Sys2Proof.Machine.execTestPulse tpB bad s
  | .safeInputDebounced n chB => Sys2Proof.Machine.execSafeInputDebounced n chB s
  | .safeInputDiscrepancy n => Sys2Proof.Machine.execSafeInputDiscrepancy n s
  | .resetPairLongPress n => Sys2Proof.Machine.execResetPairLongPress n s
  | .speedUpdate => Sys2Proof.Machine.execSpeedUpdate s
  | .speedDiscrepancyTimeout => Sys2Proof.Machine.execSpeedDiscrepancyTimeout s
  | .stoppingCheck => Sys2Proof.Machine.execStoppingCheck s
  | .restartDelayExpiry => Sys2Proof.Machine.execRestartDelayExpiry s
  | .outputSwitchTest fault => Sys2Proof.Machine.execOutputSwitchTest fault s
  | .outputReadbackTimeout => Sys2Proof.Machine.execOutputReadbackTimeout s
  | .outputCurrentLimit => Sys2Proof.Machine.execOutputCurrentLimit s
  | .startUpOutputTest fault => Sys2Proof.Machine.execStartUpOutputTest fault s
  | .governorSubinterval long => Sys2Proof.Machine.execGovernorSubinterval long s
  | .safetySupplyFault e => Sys2Proof.Machine.execSafetySupplyFault e s
  | .vddHvUndervoltage => Sys2Proof.Machine.execVddHvUndervoltage s
  | .commandPdu port o => Sys2Proof.Machine.execCommandPdu port o s
  | .paramBegin port o => Sys2Proof.Machine.execParamBegin port o s
  | .paramData port o => Sys2Proof.Machine.execParamData port o s
  | .paramVerify port o => Sys2Proof.Machine.execParamVerify port o s
  | .paramActivate port o => Sys2Proof.Machine.execParamActivate port o s
  | .paramAbandon port o => Sys2Proof.Machine.execParamAbandon port o s
  | .plovivoWatchdog k => Sys2Proof.Machine.execPlovivoWatchdog k s
  | .statusPduCycle second differ => Sys2Proof.Machine.execStatusPduCycle second differ s
  | .hostfsSessionTimer => Sys2Proof.Machine.execHostfsSessionTimer s
  | .pilotWatchdog => Sys2Proof.Machine.execPilotWatchdog s
  | .pilotSramError => Sys2Proof.Machine.execPilotSramError s
  | .pilotRestartComplete => Sys2Proof.Machine.execPilotRestartComplete s
  | .housekeepingRound counts => Sys2Proof.Machine.execHousekeepingRound counts s
  | .quenchRestart r arg => Sys2Proof.Machine.execQuenchRestart r arg s
  | .eventLogCommit => Sys2Proof.Machine.execEventLogCommit s
  | .save r arg readBack => Sys2Proof.Machine.execSave r arg readBack s
  | .storeErase r arg => Sys2Proof.Machine.execStoreErase r arg s
  | .slipDataWrite r data => Sys2Proof.Machine.execSlipDataWrite r data s
  | .slipErase r => Sys2Proof.Machine.execSlipErase r s
  | .slipVerify r => Sys2Proof.Machine.execSlipVerify r s
  | .slipInstall r => Sys2Proof.Machine.execSlipInstall r s
  | .slipActivate r => Sys2Proof.Machine.execSlipActivate r s
  | .slipConfirm r => Sys2Proof.Machine.execSlipConfirm r s
  | .slipRevert r => Sys2Proof.Machine.execSlipRevert r s
  | .slipRestart r => Sys2Proof.Machine.execSlipRestart r s
  | .slipCommandComplete => Sys2Proof.Machine.execSlipCommandComplete s
  | .trialWindowExpiry => Sys2Proof.Machine.execTrialWindowExpiry s
  | .trialStartTimeout => Sys2Proof.Machine.execTrialStartTimeout s
  | .integratorKeyWrite r key => Sys2Proof.Machine.execIntegratorKeyWrite r key s
  | .windowBaseline r arg => Sys2Proof.Machine.execWindowBaseline r arg s
  | .windowBaselineDone => Sys2Proof.Machine.execWindowBaselineDone s
  | .commissioningReport r arg => Sys2Proof.Machine.execCommissioningReport r arg s
  | .commissioningReportDone => Sys2Proof.Machine.execCommissioningReportDone s
  | .converterCampaign r mask => Sys2Proof.Machine.execConverterCampaign r mask s
  | .emitterCampaign r arg => Sys2Proof.Machine.execEmitterCampaign r arg s
  | .powerDomainOff r dom => Sys2Proof.Machine.execPowerDomainOff r dom s
  | .powerDomainOn r dom => Sys2Proof.Machine.execPowerDomainOn r dom s
  | .powerOnResetRelease xoGood => Sys2Proof.Machine.execPowerOnResetRelease xoGood s
  | .xoCheckRetry xoGood => Sys2Proof.Machine.execXoCheckRetry xoGood s
  | .bootComplete => Sys2Proof.Machine.execBootComplete s
  | .selftestComplete res => Sys2Proof.Machine.execSelftestComplete res s
  | .powerOnResetAssert => Sys2Proof.Machine.execPowerOnResetAssert s
  | .runCommand r => Sys2Proof.Machine.execRunCommand r s
  | .stopCommand r => Sys2Proof.Machine.execStopCommand r s
  | .serviceCommand r => Sys2Proof.Machine.execServiceCommand r s
  | .preparePowerRemoval r => Sys2Proof.Machine.execPreparePowerRemoval r s
  | .autoRunRetry => Sys2Proof.Machine.execAutoRunRetry s
  | .quadrantStandDown r q => Sys2Proof.Machine.execQuadrantStandDown r q s
  | .quadrantRejoin r q => Sys2Proof.Machine.execQuadrantRejoin r q s
  | .readmitChannel r arg => Sys2Proof.Machine.execReadmitChannel r arg s
  | .readmitEmitter r arg => Sys2Proof.Machine.execReadmitEmitter r arg s
  | .readmitLane r arg => Sys2Proof.Machine.execReadmitLane r arg s
  | .readmitQuadrant r arg => Sys2Proof.Machine.execReadmitQuadrant r arg s
  | .readmitHelm r arg => Sys2Proof.Machine.execReadmitHelm r arg s
  | .quadrantReadmissionStepDone pass failed => Sys2Proof.Machine.execQuadrantReadmissionStepDone pass failed s
  | .channelReadmissionCalDone ch run => Sys2Proof.Machine.execChannelReadmissionCalDone ch run s
  | .backLaneIdle l => Sys2Proof.Machine.execBackLaneIdle l s
  | .backLaneInvalidSyncHeader l => Sys2Proof.Machine.execBackLaneInvalidSyncHeader l s
  | .clockLaneDriverFault l ref => Sys2Proof.Machine.execClockLaneDriverFault l ref s
  | .laneRetrainTimeout l ln => Sys2Proof.Machine.execLaneRetrainTimeout l ln s
  | .wofenSecondMarkLoss => Sys2Proof.Machine.execWofenSecondMarkLoss s
  | .ref10InChange rate => Sys2Proof.Machine.execRef10InChange rate s
  | .vddHvRestored => Sys2Proof.Machine.execVddHvRestored s
  | .speedEncoderEdge chB => Sys2Proof.Machine.execSpeedEncoderEdge chB s
  | .safeInputEdge n chB closed => Sys2Proof.Machine.execSafeInputEdge n chB closed s
  | .evaluatorsBooted ok => Sys2Proof.Machine.execEvaluatorsBooted ok s
  | .uartMntCrcError => Sys2Proof.Machine.execUartMntCrcError s
  | .canFrameIgnored port => Sys2Proof.Machine.execCanFrameIgnored port s
  | .arpNdpRequest mac v6 target => Sys2Proof.Machine.execArpNdpRequest mac v6 target s
  | .plovivoPduUnmatched port conn => Sys2Proof.Machine.execPlovivoPduUnmatched port conn s
  | .commandRunningResponse port master txn => Sys2Proof.Machine.execCommandRunningResponse port master txn s

end Sys2Proof.Machine
end

