-- ==== Sys2Proof/Safety.lean ====
section
/-! DEFINITION. What claims call a sound state: the canonical form of the sparse memories and of the dictionary, the safety rule on the
outputs (R328), the bounds of the event queue and the log (R388), and which commands may change a part of the state. -/

namespace Sys2Proof.Machine

/-- Keys strictly rising, and no entry equal to what its key reads as when it is not listed. -/
def AMap.wf {α : Type} [DecidableEq α] (d : Nat → α) : AMap α → Bool
  | [] => true
  | (k, v) :: m => decide (v ≠ d k) && (match m with | [] => true | (k', _) :: _ => decide (k < k')) && AMap.wf d m

/-- The canonical form of an addressed memory whose unlisted octets read 00h. -/
def Memory.wf (m : AMap Byte) : Bool := AMap.wf (fun _ => 0) m

/-- The canonical form of the dictionary: a value equal to its default is not listed. -/
def dictWf (m : AMap Int) : Bool := AMap.wf dkeyDflt m

/-- The three addressed memories of the part in canonical form: descriptors and buffer of the DMA engine, and the NOR. -/
def State.memWf (s : State) : Bool := Memory.wf s.dma.desc && Memory.wf s.dma.buf && Memory.wf s.nv.nor

/-- The outputs are on, and their enable lanes toggle, only in ENABLED and STOPPING (R21, R328). -/
def State.outputsSafe (s : State) : Bool :=
  (!s.isl.outA && !s.isl.outB && s.isl.lanes == 0) || s.isl.st == .enabled || s.isl.st == .stopping

/-- The island is in LOCKOUT with both outputs off (R328, R350). -/
abbrev State.lockedOut (s : State) : Prop := s.isl.st = .lockout ∧ s.isl.outA = false ∧ s.isl.outB = false

/-- A request that the part serves and that passes every check of R50; `codes` are the object's own checks (R46, R50). -/
abbrev State.accepts (s : State) (r : Req) (e : Entry) (codes : List Nat) : Prop :=
  s.gate r = .served ∧ firstAbort (s.writeCodes r e ++ codes) = 0

/-- A request has been accepted: its answer with status 0 has gone out, or its command runs and the answer is owed (R46, R71). -/
abbrev State.took (t : State) (r : Req) : Prop :=
  (∃ x ∈ t.tv.stored, x.req = r ∧ x.abort = 0) ∨ (∃ x ∈ t.tv.running, x.req = r ∧ x.answered = false)

/-- The last answer sent refuses a request with an abort code (R46, R50). -/
abbrev State.refused (t : State) (r : Req) (ab : Nat) : Prop := ∃ x ∈ t.tv.stored, x.req = r ∧ x.abort = ab

/-- The back lane of a link is locked once a valid block has been counted (R304). -/
def State.backLocked (s : State) (l : Fin 2) : Bool := s.backOn l && ((s.backSync l true).link l).bkLocked

/-- One tap of a lane moved by one step up or down: pre-cursor, main, post-cursor (R301). -/
def LinkLane.stepTap (x : LinkLane) (tap : Fin 3) (up : Bool) : Nat × Nat × Nat :=
  let mv (v : Nat) : Nat := if up then v + 1 else v - 1
  (if tap = 0 then mv x.pre else x.pre, if tap = 1 then mv x.main else x.main, if tap = 2 then mv x.post else x.post)

/-- The tap has a step left in that direction (R301). -/
def LinkLane.canStep (x : LinkLane) (tap : Fin 3) (up : Bool) : Bool :=
  let v := if tap = 0 then x.pre else if tap = 1 then x.main else x.post
  if up then decide (v < 63) else v != 0

/-- The hardware event queue holds at most 256 records (R388). -/
def State.evQueueOk (s : State) : Bool := decide (s.ev.queue.length ≤ 256)

/-- Settings whose write does nothing beside storing its value: no function starts or stops with them, and none follows them at once. -/
def plainSetting (o : Nat) : Bool :=
  !([0x1022, 0x1023, 0x2001, 0x2010, 0x2011, 0x2101, 0x2210, 0x3000, 0x3203, 0x3210, 0x4202, 0x5200, 0x5221, 0x5301, 0x5311, 0x6001, 0x6210, 0x7003,
    0x7100, 0x7200, 0x7601, 0x8100, 0x9110, 0x9400, 0xA001, 0xA300] : List Nat).contains o

/-- The commands that may change the safety island (R320 ... R357). -/
def touchesIsland : Instr → Bool
  | .flitAckTimeout .. | .flitReceived .. | .dieLinkSilence .. | .enableLaneStopped .. | .anchorOnCommand ..
  | .safetyTapWatchdog .. | .verdictWatchdog .. | .landingWatchdog .. | .sharedCommitTimeout .. | .frameEnd .. | .idleLanding ..
  | .write .. | .multiObjectTransaction .. | .torvipMalformedMessage .. | .canSegment .. | .verdict .. | .frameMissingTimeout ..
  | .selectionInvalidTimeout .. | .contaminationJudgement .. | .testPulse .. | .safeInputDebounced .. | .safeInputDiscrepancy ..
  | .resetPairLongPress .. | .speedUpdate .. | .speedDiscrepancyTimeout .. | .stoppingCheck .. | .restartDelayExpiry ..
  | .outputSwitchTest .. | .outputReadbackTimeout .. | .outputCurrentLimit .. | .startUpOutputTest .. | .safetySupplyFault ..
  | .vddHvUndervoltage .. | .commandPdu .. | .paramBegin .. | .paramData .. | .paramVerify .. | .paramActivate ..
  | .paramAbandon .. | .plovivoWatchdog .. | .statusPduCycle .. | .powerOnResetRelease .. | .selftestComplete ..
  | .powerOnResetAssert .. | .runCommand .. | .stopCommand .. | .serviceCommand .. | .preparePowerRemoval .. | .autoRunRetry ..
  | .speedEncoderEdge .. | .safeInputEdge .. | .evaluatorsBooted .. | .backLaneSide .. => true
  | _ => false

/-- The commands that may change the DMA engine with its descriptors, buffer and completion queue (R285 ... R295). -/
def touchesDma : Instr → Bool
  | .read .. | .write .. | .multiObjectTransaction .. | .torvipMalformedMessage .. | .canSegment .. | .segmentSelect ..
  | .segmentLockExpiry .. | .segmentRelease .. | .captureClear .. | .descriptorWrite .. | .dmaChannelStart ..
  | .dmaChannelDisable .. | .dmaBurst .. | .xspiReadTimeout .. | .dmaReservationTimeout .. | .dmaHoldLimit ..
  | .completionQueueRead .. | .dmaBufferWrite .. | .backLaneAck .. | .backLaneNak .. | .backLaneSide .. | .linkStop .. | .powerDomainOff ..
  | .powerOnResetRelease .. | .selftestComplete .. | .powerOnResetAssert .. => true
  | _ => false

/-- The commands that may change the die-to-die interface and the Anchor die (R20 ... R23). -/
def touchesDie : Instr → Bool
  | .flitAckTimeout .. | .flitReceived .. | .dieLinkSilence .. | .flitRetryRateSecond .. | .enableLaneStopped ..
  | .anchorOnCommand .. | .safetyTapWatchdog .. | .verdictWatchdog .. | .landingWatchdog .. | .sharedCommitTimeout ..
  | .frameEnd .. | .idleLanding .. | .write .. | .multiObjectTransaction .. | .torvipMalformedMessage .. | .canSegment ..
  | .controlPeriod .. | .verdict .. | .frameMissingTimeout .. | .testPulse .. | .safeInputDebounced .. | .safeInputDiscrepancy ..
  | .speedDiscrepancyTimeout .. | .stoppingCheck .. | .restartDelayExpiry .. | .outputSwitchTest .. | .outputReadbackTimeout ..
  | .outputCurrentLimit .. | .startUpOutputTest .. | .safetySupplyFault .. | .vddHvUndervoltage .. | .commandPdu ..
  | .paramActivate .. | .statusPduCycle .. | .housekeepingRound .. | .powerOnResetRelease .. | .bootComplete ..
  | .selftestComplete .. | .powerOnResetAssert .. | .runCommand .. | .stopCommand .. | .serviceCommand ..
  | .preparePowerRemoval .. | .autoRunRetry .. | .vddHvRestored .. | .evaluatorsBooted .. | .backLaneSide .. => true
  | _ => false

/-- The commands that may change the non-volatile memories: the log, the store, the image slots, the parameter sets, the key (R382 ... R396). -/
def touchesNv : Instr → Bool
  | .quadrantContextWatchdog .. | .landingWatchdog .. | .frameEnd .. | .write .. | .multiObjectTransaction ..
  | .torvipMalformedMessage .. | .canSegment .. | .controlPeriod .. | .laneTakeUp .. | .decompositionDone .. | .fleetJoin ..
  | .fleetRenew .. | .fleetRelease .. | .fleetGrant .. | .fleetJoinRetry .. | .fleetRenewTimer .. | .fleetIndexExpiry ..
  | .fleetDomainWrite .. | .paramActivate .. | .pilotWatchdog .. | .pilotRestartComplete .. | .housekeepingRound ..
  | .quenchRestart .. | .eventLogCommit .. | .save .. | .storeErase .. | .slipDataWrite .. | .slipErase .. | .slipVerify ..
  | .slipInstall .. | .slipActivate .. | .slipConfirm .. | .slipRevert .. | .slipRestart .. | .slipCommandComplete ..
  | .trialWindowExpiry .. | .trialStartTimeout .. | .integratorKeyWrite .. | .bootComplete .. | .selftestComplete ..
  | .runCommand .. | .stopCommand .. | .serviceCommand .. | .preparePowerRemoval .. | .powerOnResetAssert .. | .backLaneSide .. => true
  | _ => false

/-- The commands that may change the Plovivo connections and their parameter session (R358 ... R377). -/
def touchesPlovivo : Instr → Bool
  | .commandPdu .. | .paramBegin .. | .paramData .. | .paramVerify .. | .paramActivate .. | .paramAbandon .. | .plovivoWatchdog ..
  | .statusPduCycle .. | .hostfsSessionTimer .. | .powerOnResetRelease .. | .selftestComplete .. | .powerOnResetAssert ..
  | .evaluatorsBooted .. => true
  | _ => false

/-- The commands that may change the sensor block (R380, R381). -/
def touchesSensors : Instr → Bool
  | .housekeepingRound .. | .powerOnResetRelease .. | .selftestComplete .. | .powerOnResetAssert .. => true
  | _ => false

end Sys2Proof.Machine
end

