-- ==== Sys2Proof/WellFormed.lean ====
section
/-! DEFINITION. Which commands are well formed: every operand fits the field that carries it on the wire, at the ball or on the die.
The meanings do not rest on it: a command outside it is one that nothing can send. -/

namespace Sys2Proof

/-- Envelope: port of R45, identity of 16 bits, transaction of 32 (R65), address and port of a datagram. -/
def Req.wf (r : Req) : Bool := r.port < 7 && r.master < 2 ^ 16 && r.txn < 2 ^ 32 && r.src < 2 ^ 145

/-- An identifier of 29 bits, a UDP port of 16. -/
def PlvFrom.wf : PlvFrom → Bool
  | .can _ id => id < 2 ^ 29
  | .udp _ _ dport => dport < 2 ^ 16

/-- Address, type code and a value that fits a message (R64, R70). -/
def Entry.wf (e : Entry) : Bool := e.obj < 2 ^ 16 && e.el < 2 ^ 16 && e.ty < 2 ^ 8 && e.val.length ≤ 1452

/-- Quadrants, sinks, converter codes and channels that exist. -/
def LandingIn.wf (l : LandingIn) : Bool :=
  l.vemLow < 16 && l.shorts.all (· < 192) && l.noHeadroom.all (· < 192) && l.peaks.all (fun p => p.1 < 8 && p.2 < 4096) &&
  l.inject.all (fun p => p.1 < 1024 && p.2.1 < 16)

/-- Channels, Quadrants and sites that exist. -/
def SelfTestIn.wf (t : SelfTestIn) : Bool :=
  t.badBlocks.all (fun p => p.1 < 4) && t.calFailed.all (· < 1024) && t.injFailed.all (· < 1024) && t.badSites.all (· < 20)

/-- Channels that exist, 12-bit ToT, codes of 16 bits. -/
def Occ.wf : Occ → Bool
  | .frameStart => true
  | .landingEnd => true
  | .hit chan tot => chan < 1024 && tot < 4096
  | .edge chan kind => chan < 1024 && 1 ≤ kind && kind ≤ 6
  | .event code => code < 2 ^ 16
  | .train q kind => q < 4 && kind < 2 ^ 8
  | .relay code => code < 2 ^ 16
  | .crossing k _ _ => k < 16
  | .host => true
  | .second => true

/-- Sequence identities of 16 bits, clock identities of 64. -/
def PtpMsg.wf : PtpMsg → Bool
  | .announce _ _ path => path.all (· < 2 ^ 64)
  | .sync seq _ => seq < 2 ^ 16
  | .followUp seq _ => seq < 2 ^ 16
  | .delayReq seq => seq < 2 ^ 16
  | .delayResp seq _ => seq < 2 ^ 16
  | .pdelayReq seq => seq < 2 ^ 16
  | .pdelayResp seq _ => seq < 2 ^ 16
  | .pdelayFollowUp seq _ => seq < 2 ^ 16
  | .management => true

/-- Azimuth codes. -/
def HalfPeriod.wf (x : HalfPeriod) : Bool := x.amp < 2 ^ 16

/-- Bins of the converter. -/
def Handover.wf (x : Handover) : Bool := x.part.length ≤ 384

/-- A domainNumber of an octet. -/
def PtpIn.wf (x : PtpIn) : Bool := x.dom < 2 ^ 8 && x.msg.wf

/-- Data of 64 bits. -/
def CapWord.wf (x : CapWord) : Bool := x.data < 2 ^ 64

/-- Bins and raw codes of the converter, delays of 32 bits. -/
def CalRun.wf (x : CalRun) : Bool :=
  x.hist.length ≤ 384 && x.refs.all (fun r => r < 384) && x.d0.natAbs < 2 ^ 31 && x.d1.natAbs < 2 ^ 31

/-- A command that its sender can form. -/
def Instr.wf (i : Instr) : Bool :=
  match i with
  | .flitAckTimeout _ => true
  | .flitReceived _ _ => true
  | .dieLinkSilence => true
  | .flitRetryRateSecond => true
  | .enableLaneStopped _ => true
  | .anchorOnCommand _ => true
  | .quadrantPipelineWatchdog _ => true
  | .quadrantContextWatchdog _ => true
  | .safetyTapWatchdog _ => true
  | .verdictWatchdog _ => true
  | .landingWatchdog _ unacked li => unacked < 16 ∧ li.wf
  | .sharedCommitTimeout li => li.wf
  | .frameTimerExpiry => true
  | .frameEnd li => li.wf
  | .idleLanding => true
  | .read r obj el _ => r.wf ∧ obj < 2 ^ 16 ∧ el < 2 ^ 16
  | .write r e => r.wf ∧ e.wf
  | .multiObjectTransaction r es => r.wf ∧ es.all Entry.wf
  | .subscribe r obj el trig interval life mask => r.wf ∧ obj < 2 ^ 16 ∧ el < 2 ^ 16 ∧ trig < 2 ^ 8 ∧ interval < 2 ^ 16 ∧ life < 2 ^ 16 ∧ mask < 2 ^ 16
  | .publicationInterval handle => handle < 2 ^ 16
  | .subscriptionLapse handle => handle < 2 ^ 16
  | .leaseAcquire r area timeout => r.wf ∧ area < 16 ∧ timeout < 2 ^ 16
  | .leaseRenew r area timeout => r.wf ∧ area < 16 ∧ timeout < 2 ^ 16
  | .leaseRelease r area timeout => r.wf ∧ area < 16 ∧ timeout < 2 ^ 16
  | .leaseExpiry area => area < 16
  | .torvipMalformedMessage port src msg => port < 7 ∧ src < 2 ^ 145 ∧ msg.length ≤ 1472
  | .canSegment port master kind tag idx total data => port < 7 ∧ master < 2 ^ 16 ∧ kind < 16 ∧ tag < 2 ^ 8 ∧ idx < 2 ^ 8 ∧ total < 2 ^ 16 ∧ data.length ≤ 60
  | .canSegmentTimeout port master => port < 7 ∧ master < 2 ^ 16
  | .uartMntFastRate r arg => r.wf ∧ arg < 2 ^ 32
  | .discardPendingSet r set => r.wf ∧ set < 2 ^ 8
  | .canPortStart r _ => r.wf
  | .canPortStop r _ => r.wf
  | .ethernetPortStart r _ => r.wf
  | .ethernetPortStop r _ => r.wf
  | .patternDataWrite r data => r.wf ∧ data.length ≤ 1440
  | .patternCommit r mask => r.wf ∧ mask < 2 ^ 16
  | .shadowRefreshDone _ => true
  | .patternDurationCut _ => true
  | .slot _ _ => true
  | .angleTrigger _ _ _ => true
  | .angleMissed _ => true
  | .strike r arg => r.wf ∧ arg < 2 ^ 32
  | .hpcPeakReading _ code => code < 4096
  | .emitterRetest r emitter => r.wf ∧ emitter < 2 ^ 8
  | .frameTrigInEdge _ => true
  | .heldTriggerRelease => true
  | .fastAxisZeroCrossing half => half.wf
  | .fastAxisCrossingTimeout => true
  | .controlPeriod _ _ _ => true
  | .positionRevalidation _ => true
  | .helmReinitDone _ => true
  | .helmStandbyReady _ => true
  | .ferryCommand r arg => r.wf ∧ arg < 2 ^ 32
  | .loopSample _ _ _ => true
  | .loopStart r _ => r.wf
  | .loopStop r _ => r.wf
  | .steeringStart r => r.wf
  | .steeringStop r => r.wf
  | .compensatorClear r table => r.wf ∧ table < 2 ^ 8
  | .biasSettled _ => true
  | .detectorTempFallback _ => true
  | .gateOpen _ sl _ => sl < 2 ^ 16
  | .gateClose _ sl _ => sl < 2 ^ 16
  | .hitLeadingEdge _ _ raw tot _ _ _ blk => raw < 2 ^ 16 ∧ tot < 4096 ∧ blk < 49152
  | .hitTrailingEdge _ _ raw => raw < 2 ^ 16
  | .missingPulseDeadline _ _ => true
  | .hitUnmatched _ _ => true
  | .clampOn _ _ => true
  | .clampOff _ _ => true
  | .clampEvent _ _ => true
  | .stuckOnDetected _ _ => true
  | .converterCalibrationDue _ _ => true
  | .reliefHandover _ c => c.wf
  | .converterCalibrationDone _ _ hist refs _ => hist.length ≤ 384 ∧ refs.all (fun x => x < 384)
  | .calibrationOverdue _ _ => true
  | .visitClose _ _ _ => true
  | .peakSearchDone _ _ _ => true
  | .laneTakeUp _ => true
  | .decompositionDone _ _ _ _ blk => blk < 49152
  | .microcodeLoad r mask => r.wf ∧ mask < 2 ^ 16
  | .microcodeBankSelect r _ bank => r.wf ∧ bank < 2 ^ 8
  | .adcSample _ => true
  | .adcConversionDone _ raw _ _ conds pred => raw < 2 ^ 16 ∧ conds < 16 ∧ pred < 2 ^ 16
  | .adcConversionTimeout _ => true
  | .sequencerPassEnd _ => true
  | .sequencerStart r _ => r.wf
  | .sequencerStop r _ => r.wf
  | .calCaptureZero r => r.wf
  | .calCaptureFullScale r => r.wf
  | .calCaptureComplete => true
  | .calComputeStore r => r.wf
  | .calRestoreFactory r => r.wf
  | .calAbandon r => r.wf
  | .accumulatorWindowEnd _ _ => true
  | .accumulatorConfigWrite r _ word => r.wf ∧ word < 2 ^ 32
  | .accumulatorLatch r arg => r.wf ∧ arg < 2 ^ 32
  | .minmaxConfigWrite r _ word => r.wf ∧ word < 2 ^ 32
  | .minmaxLatch r arg => r.wf ∧ arg < 2 ^ 32
  | .filterRound => true
  | .filterRoundOverrun => true
  | .filterChannelStart r _ => r.wf
  | .filterChannelStop r _ => r.wf
  | .angleStampReady _ sl => sl < 2 ^ 16
  | .ppsInEdge _ _ => true
  | .ppsMissing => true
  | .zdaSentence _ _ => true
  | .ptpMessageReceived _ m => m.wf
  | .announceTimeout _ => true
  | .ptpTransmitInterval _ => true
  | .holdoverBudgetExceeded => true
  | .wholeSecond => true
  | .setTime r ns => r.wf ∧ ns < 2 ^ 64
  | .timeServiceStart r => r.wf
  | .timeServiceStop r => r.wf
  | .wofenCycle => true
  | .wofenFrameEventSend => true
  | .wofenPacketReceived _ pkt raw => pkt.length ≤ 64 ∧ raw < 2 ^ 16
  | .wofenWindow => true
  | .wofenFrameEventLoss => true
  | .wtbSilence => true
  | .busCalibration r arg => r.wf ∧ arg < 2 ^ 32
  | .busRecalibrationTimer => true
  | .busCalibrationDone => true
  | .triggerBusStart r => r.wf
  | .triggerBusStop r => r.wf
  | .fleetJoin r dom ident prev => r.wf ∧ dom < 2 ^ 32 ∧ ident < 2 ^ 64 ∧ prev < 2 ^ 16
  | .fleetRenew r dom ident prev => r.wf ∧ dom < 2 ^ 32 ∧ ident < 2 ^ 64 ∧ prev < 2 ^ 16
  | .fleetRelease r dom ident prev => r.wf ∧ dom < 2 ^ 32 ∧ ident < 2 ^ 64 ∧ prev < 2 ^ 16
  | .fleetGrant r grant => r.wf ∧ grant.length ≤ 1440
  | .fleetJoinRetry => true
  | .fleetRenewTimer => true
  | .fleetIndexExpiry _ => true
  | .fleetDomainWrite r el ty val => r.wf ∧ el < 2 ^ 16 ∧ ty < 2 ^ 8 ∧ val.length ≤ 1440
  | .captureStart r => r.wf
  | .captureStop r => r.wf
  | .captureRecord src unit _ data => src < 2 ^ 8 ∧ unit < 2 ^ 8 ∧ data.wf
  | .triggerConditionOccurrence _ o => o.wf
  | .triggerSequencerTimer => true
  | .hostTrigger r arg => r.wf ∧ arg < 2 ^ 32
  | .segmentTimeLimit => true
  | .segmentSelect r seg => r.wf ∧ seg < 2 ^ 16
  | .segmentLockExpiry => true
  | .segmentRelease r seg => r.wf ∧ seg < 2 ^ 16
  | .captureClear r arg => r.wf ∧ arg < 2 ^ 32
  | .descriptorWrite r o => r.wf ∧ o.length ≤ 1472
  | .dmaChannelStart r _ retry first => r.wf ∧ retry < 2 ^ 16 ∧ first < 2 ^ 16
  | .dmaChannelDisable r _ => r.wf
  | .dmaBurst _ => true
  | .xspiReadTimeout _ => true
  | .dmaReservationTimeout _ => true
  | .dmaHoldLimit _ => true
  | .completionQueueRead r => r.wf
  | .dmaBufferWrite r o => r.wf ∧ o.length ≤ 1472
  | .linkStart r _ => r.wf
  | .linkStop r _ => r.wf
  | .linkPllLocked _ => true
  | .trainingTimeout _ => true
  | .laneLock _ _ => true
  | .laneAdjust _ _ _ _ => true
  | .laneDone _ _ => true
  | .laneRetrain _ _ => true
  | .backLaneAck _ seq grant => seq < 2 ^ 16 ∧ grant < 2 ^ 16
  | .backLaneNak _ seq grant => seq < 2 ^ 16 ∧ grant < 2 ^ 16
  | .backLaneStatus _ _ _ errs => errs.length = 4 ∧ errs.all (fun x => x < 4096)
  | .backLaneSide _ o => o.length ≤ 1472
  | .backLaneInvalidBlock _ => true
  | .linkPacketSend _ _ => true
  | .replayTimeout _ => true
  | .backLaneSilent _ => true
  | .deskewRound _ => true
  | .ingotFlush _ => true
  | .verdict _ _ => true
  | .frameMissingTimeout => true
  | .selectionInvalidTimeout => true
  | .contaminationJudgement => true
  | .testPulse _ bad => bad.all (fun x => x < 4)
  | .safeInputDebounced _ _ => true
  | .safeInputDiscrepancy _ => true
  | .resetPairLongPress _ => true
  | .speedUpdate => true
  | .speedDiscrepancyTimeout => true
  | .stoppingCheck => true
  | .restartDelayExpiry => true
  | .outputSwitchTest fault => (fault = 0 ∨ (0x0B ≤ fault ∧ fault ≤ 0x0E))
  | .outputReadbackTimeout => true
  | .outputCurrentLimit => true
  | .startUpOutputTest fault => (fault = 0 ∨ (0x0B ≤ fault ∧ fault ≤ 0x0E))
  | .governorSubinterval _ => true
  | .safetySupplyFault _ => true
  | .vddHvUndervoltage => true
  | .commandPdu port o => port.wf ∧ o.length ≤ 1472
  | .paramBegin port o => port.wf ∧ o.length ≤ 1472
  | .paramData port o => port.wf ∧ o.length ≤ 1472
  | .paramVerify port o => port.wf ∧ o.length ≤ 1472
  | .paramActivate port o => port.wf ∧ o.length ≤ 1472
  | .paramAbandon port o => port.wf ∧ o.length ≤ 1472
  | .plovivoWatchdog _ => true
  | .statusPduCycle _ _ => true
  | .hostfsSessionTimer => true
  | .pilotWatchdog => true
  | .pilotSramError => true
  | .pilotRestartComplete => true
  | .housekeepingRound counts => counts.length = 20
  | .quenchRestart r arg => r.wf ∧ arg < 2 ^ 32
  | .eventLogCommit => true
  | .save r arg _ => r.wf ∧ arg < 2 ^ 32
  | .storeErase r arg => r.wf ∧ arg < 2 ^ 32
  | .slipDataWrite r data => r.wf ∧ data.length ≤ 1440
  | .slipErase r => r.wf
  | .slipVerify r => r.wf
  | .slipInstall r => r.wf
  | .slipActivate r => r.wf
  | .slipConfirm r => r.wf
  | .slipRevert r => r.wf
  | .slipRestart r => r.wf
  | .slipCommandComplete => true
  | .trialWindowExpiry => true
  | .trialStartTimeout => true
  | .integratorKeyWrite r key => r.wf ∧ key.length ≤ 1440
  | .windowBaseline r arg => r.wf ∧ arg < 2 ^ 32
  | .windowBaselineDone => true
  | .commissioningReport r arg => r.wf ∧ arg < 2 ^ 32
  | .commissioningReportDone => true
  | .converterCampaign r mask => r.wf ∧ mask < 2 ^ 16
  | .emitterCampaign r arg => r.wf ∧ arg < 2 ^ 32
  | .powerDomainOff r _ => r.wf
  | .powerDomainOn r _ => r.wf
  | .powerOnResetRelease _ => true
  | .xoCheckRetry _ => true
  | .bootComplete => true
  | .selftestComplete res => res.wf
  | .powerOnResetAssert => true
  | .runCommand r => r.wf
  | .stopCommand r => r.wf
  | .serviceCommand r => r.wf
  | .preparePowerRemoval r => r.wf
  | .autoRunRetry => true
  | .quadrantStandDown r _ => r.wf
  | .quadrantRejoin r _ => r.wf
  | .readmitChannel r arg => r.wf ∧ arg < 2 ^ 32
  | .readmitEmitter r arg => r.wf ∧ arg < 2 ^ 32
  | .readmitLane r arg => r.wf ∧ arg < 2 ^ 32
  | .readmitQuadrant r arg => r.wf ∧ arg < 2 ^ 32
  | .readmitHelm r arg => r.wf ∧ arg < 2 ^ 32
  | .quadrantReadmissionStepDone _ failed => failed.all (fun x => x < 1024)
  | .channelReadmissionCalDone _ run => run.wf
  | .backLaneIdle _ => true
  | .backLaneInvalidSyncHeader _ => true
  | .clockLaneDriverFault _ _ => true
  | .laneRetrainTimeout _ _ => true
  | .wofenSecondMarkLoss => true
  | .ref10InChange rate => (rate.getD 0).natAbs < 2 ^ 32
  | .vddHvRestored => true
  | .speedEncoderEdge _ => true
  | .safeInputEdge _ _ _ => true
  | .evaluatorsBooted _ => true
  | .uartMntCrcError => true
  | .canFrameIgnored _ => true
  | .arpNdpRequest _ _ target => (target.length = 4 ∨ target.length = 16)
  | .plovivoPduUnmatched port conn => port.wf ∧ conn < 2 ^ 32
  | .commandRunningResponse port master txn => port < 7 ∧ master < 2 ^ 16 ∧ txn < 2 ^ 32

end Sys2Proof
end

