-- ==== Sys2Proof/Certificates/Slice0/Obligations.lean ====
section
/-! DEFINITION. The statements for the provers: what the rules of spec/ say the commands do, what every step keeps, and the formats of what
the part sends. -/

open Sys2Proof Sys2Proof.Machine

/-! ### The queue of commands and the clock -/

/-- A step runs the command at the front of the queue on the state with the queue's rest. -/
def Obligations.StepRunsFront : Prop :=
  ∀ (c : Instr) (cs : List Instr) (s : State), step { s with pending := c :: cs } = exec c { s with pending := cs }

/-- On an empty queue one period of the 400 MHz reference passes: 2.5 ns of reference time, 2.5·(1 + y) ns on the timescale, which
counts 64 bits of ns (R227); while no packet waits for the Wofen bus, no gap of the capture engine has ended and no save runs, nothing
else changes. The tick on an empty queue, and what goes on in it, are the model's choice (log entry 1). -/
def Obligations.EmptyQueueTicks : Prop :=
  ∀ s : State, s.pending = [] →
    (∃ t, step s = .next t ∧ t.now = s.now + 1 ∧ t.scale = (s.scale + (5 * (2 ^ 32 + s.time.y)).toNat) % 2 ^ 97 ∧ t.pending = []) ∧
    (s.wof.queue = [] → s.wof.marks = [] → s.cap.st ≠ 3 → s.pilot.save = none →
      step s = .next { s with now := s.now + 1, scale := (s.scale + (5 * (2 ^ 32 + s.time.y)).toNat) % 2 ^ 97 })

/-! ### The die-to-die interface (R20 ... R23, R27) -/

/-- Every row of the die-to-die interface does what R20 ... R23 say, and completes: flitAckTimeout and flitReceived with a bad CRC send a
flit again, and its fourth failure is a link fault that darkens the sinks and locks the island out; a good flitReceived restarts the
silence and touches the interface alone; dieLinkSilence is a fault like the fourth failure; flitRetryRateSecond begins a new second;
enableLaneStopped opens the sinks or the switches of its side; anchorOnCommand restores them only while the lane toggles, and leaves
everything outside the interface as it was but the outputs that it restores. -/
def Obligations.DieLinkRows : Prop :=
  ∀ s : State,
    (∀ flit, s.dieUp = true → assocD 0 s.die.flits flit < 3 →
      ∃ t, exec (.flitAckTimeout flit) s = .next t ∧ assocD 0 t.die.flits flit = assocD 0 s.die.flits flit + 1) ∧
    (∀ flit, s.dieUp = true → 3 ≤ assocD 0 s.die.flits flit →
      ∃ t, exec (.flitAckTimeout flit) s = .next t ∧ t.die.failed = true ∧ t.die.sinksOn = false ∧ t.lockedOut) ∧
    (∀ flit, s.dieUp = true → ∃ t, exec (.flitReceived flit true) s = .next t ∧ t.die.validAt = s.now ∧ t = { s with die := t.die }) ∧
    (∀ flit, s.dieUp = true → assocD 0 s.die.flits flit < 3 →
      ∃ t, exec (.flitReceived flit false) s = .next t ∧ assocD 0 t.die.flits flit = assocD 0 s.die.flits flit + 1) ∧
    (∀ flit, s.dieUp = true → 3 ≤ assocD 0 s.die.flits flit →
      ∃ t, exec (.flitReceived flit false) s = .next t ∧ t.die.failed = true ∧ t.die.sinksOn = false ∧ t.lockedOut) ∧
    (s.dieUp = true → s.die.validAt + 100 * usP ≤ s.now →
      ∃ t, exec .dieLinkSilence s = .next t ∧ t.die.failed = true ∧ t.die.sinksOn = false ∧ t.lockedOut) ∧
    (s.dieUp = true → s.die.secNo < s.now / secP →
      ∃ t, exec .flitRetryRateSecond s = .next t ∧ t.die.retriedSec = 0 ∧ t.die.secNo = s.now / secP) ∧
    (∀ lane, ∃ t, exec (.enableLaneStopped lane) s = .next t ∧ bit t.die.stopped lane.val = true ∧
      (lane = 0 → t.die.sinksOn = false) ∧ (lane = 1 → t.isl.outA = false) ∧ (lane = 2 → t.isl.outB = false)) ∧
    (∀ lane, s.dieUp = true → bit s.die.onCmd lane.val = true → s.laneToggles lane = true →
      ∃ t, exec (.anchorOnCommand lane) s = .next t ∧ t = { s with die := t.die, isl := { s.isl with outA := t.isl.outA, outB := t.isl.outB } } ∧
        bit t.die.stopped lane.val = false ∧ (lane = 0 → t.die.sinksOn = true) ∧
        (lane = 1 → bit s.die.stopped 2 = false → s.isl.lanes = 6 → s.die.hvLow = false → t.isl.outA = true ∧ t.isl.outB = true) ∧
        (lane = 2 → bit s.die.stopped 1 = false → s.isl.lanes = 6 → s.die.hvLow = false → t.isl.outA = true ∧ t.isl.outB = true)) ∧
    (∀ lane, s.dieUp = true → bit s.die.onCmd lane.val = true → s.laneToggles lane = false →
      ∃ t, exec (.anchorOnCommand lane) s = .next t ∧ t = { s with die := t.die } ∧ t.die.stopped = s.die.stopped ∧
        t.die.sinksOn = s.die.sinksOn)

/-! ### The safety island (R321 ... R351) -/

/-- R328: the outputs are on, and their enable lanes toggle (R21), only in ENABLED and STOPPING, and every step of the machine keeps it
so. -/
def Obligations.OutputsOnlyWhenAllowed : Prop :=
  ∀ s t : State, s.outputsSafe = true → step s = .next t → t.outputsSafe = true

/-- Right after reset both outputs are off (R328), and the addressed memories are in canonical form. -/
def Obligations.ResetStateSound : Prop :=
  (State.reset.outputsSafe = true ∧ State.reset.isl.outA = false ∧ State.reset.isl.outB = false ∧ State.reset.isl.st = .init) ∧
  (State.reset.memWf = true)

/-- The faults of R350 lead to LOCKOUT from every state, with both outputs off; the cause is the fault's where the island was not
in LOCKOUT already. -/
def Obligations.FaultsLockOut : Prop :=
  ∀ s : State,
    (∀ e, ∃ t, exec (.safetyTapWatchdog e) s = .next t ∧ t.lockedOut ∧ (s.isl.st ≠ .lockout → t.isl.cause = 2)) ∧
    (∀ e fe rest, s.isl.ended = fe :: rest → fe.at_ + 1500 * usP ≤ s.now →
      ∃ t, exec (.verdictWatchdog e) s = .next t ∧ t.lockedOut ∧ (s.isl.st ≠ .lockout → t.isl.cause = 3)) ∧
    (∀ n, (s.setPair n ((s.pair n).settle s.now)).pairDiffers n = true →
      ∃ t, exec (.safeInputDiscrepancy n) s = .next t ∧ t.lockedOut ∧ (s.isl.st ≠ .lockout → t.isl.cause = 8)) ∧
    (∀ at_, s.isl.disagree = some at_ → at_ + 100 * msP < s.now →
      ∃ t, exec .speedDiscrepancyTimeout s = .next t ∧ t.lockedOut ∧ (s.isl.st ≠ .lockout → t.isl.cause = 10)) ∧
    (s.outputsDue = true ∨ s.isl.st = .startTest →
      ∃ t, exec .outputReadbackTimeout s = .next t ∧ t.lockedOut ∧ (s.isl.st ≠ .lockout → t.isl.cause = 11)) ∧
    (s.isl.outA = true ∨ s.isl.outB = true →
      ∃ t, exec .outputCurrentLimit s = .next t ∧ t.lockedOut ∧ (s.isl.st ≠ .lockout → t.isl.cause = 13)) ∧
    (∀ e, ∃ t, exec (.safetySupplyFault e) s = .next t ∧ t.lockedOut ∧ (s.isl.st ≠ .lockout → t.isl.cause = 5))

/-- Tests of the inputs and outputs (R340, R348, R349), each in its turn: a clean test pulse that is due is sent, a clean switch test opens
its switch and moves on to the next, and a clean step of the start-up cycle advances it, the fourth ending it; a fault found locks out with its own cause.
Safe inputs (R340, R341, R342): an edge is seen at its ball, outside the test-pulse windows as a change that has to hold, a change held
for 3 ms is accepted, and a press of more than 5 s is noted once, with nothing stopped. -/
def Obligations.SafeInputOutputRows : Prop :=
  (∀ s : State,
     (∀ tpB, s.die.hvLow = false → s.tpDue tpB = true →
       ∃ t, exec (.testPulse tpB []) s = .next t ∧ t.tpLow tpB = true ∧ t.out = s.out ++ [.testPulse (b2n tpB)] ∧
         t.isl = (if tpB then { s.isl with tpB := some s.now } else { s.isl with tpA := some s.now })) ∧
     (∀ tpB bad n, s.die.hvLow = false → s.tpDue tpB = true → s.pairType n ≠ 0 → bad.contains n.val = true →
       ∃ t, exec (.testPulse tpB bad) s = .next t ∧ t.lockedOut ∧ (s.isl.st ≠ .lockout → t.isl.cause = 9)) ∧
     (s.isl.outA = true → s.isl.outB = true → s.die.hvLow = false → s.swDue = true → s.isl.st ≠ .startTest → s.isl.swTest < 4 →
       ∃ t, exec (.outputSwitchTest 0) s = .next t ∧ t.isl = { s.isl with swTest := (s.isl.swTest + 1) % 4, swAt := some s.now } ∧
         t.switchClosed s.isl.swTest = false) ∧
     (∀ f, 11 ≤ f → f ≤ 14 → s.isl.outA = true → s.isl.outB = true → s.die.hvLow = false → s.swDue = true →
       ∃ t, exec (.outputSwitchTest f) s = .next t ∧ t.lockedOut ∧ (s.isl.st ≠ .lockout → t.isl.cause = f)) ∧
     (s.outputsDue = false → s.isl.st = .off ∨ s.isl.st = .startTest → ∃ t, exec (.outputSwitchTest 12) s = .next t ∧ t.lockedOut ∧ t.isl.cause = 12) ∧
     (s.isl.st = .startTest → s.die.hvLow = false → s.swDue = true →
       ∃ t, exec (.startUpOutputTest 0) s = .next t ∧ t.isl.testStep = (s.isl.testStep + 1) % 4 ∧
         (s.isl.testStep = 3 → t.isl.testDone = true) ∧ (t.isl.st = .startTest ∨ t.isl.st = .off)) ∧
     (∀ f, 11 ≤ f → f ≤ 14 → s.isl.st = .startTest → s.die.hvLow = false → s.swDue = true →
       ∃ t, exec (.startUpOutputTest f) s = .next t ∧ t.lockedOut ∧ t.isl.cause = f)) ∧
  (∀ (s : State) (n : Fin 4),
     (∀ closed, ∃ t, exec (.safeInputEdge n false closed) s = .next t ∧ (t.pair n).a.ball = closed ∧
       (t.pair n).b = (s.pair n).b.settle s.now ∧
       ((s.pair n).a.ball ≠ closed → s.tpWindow = none → (t.pair n).a.changed = some s.now)) ∧
     (∀ closed, ∃ t, exec (.safeInputEdge n true closed) s = .next t ∧ (t.pair n).b.ball = closed ∧
       (t.pair n).a = (s.pair n).a.settle s.now ∧
       ((s.pair n).b.ball ≠ closed → s.tpWindow = none → (t.pair n).b.changed = some s.now)) ∧
     (∀ at_, (s.pair n).a.changed = some at_ → (s.pair n).a.pend = none → at_ + 3 * msP ≤ s.now →
       ∃ t, exec (.safeInputDebounced n false) s = .next t ∧ (t.pair n).a.closed = (s.pair n).a.ball ∧ (t.pair n).a.changed = none) ∧
     (∀ at_, (s.pair n).b.changed = some at_ → (s.pair n).b.pend = none → at_ + 3 * msP ≤ s.now →
       ∃ t, exec (.safeInputDebounced n true) s = .next t ∧ (t.pair n).b.closed = (s.pair n).b.ball ∧ (t.pair n).b.changed = none) ∧
     (∀ at_, (s.pair n).since = some at_ → s.pairType n = 3 → (s.pair n).long = false → at_ + 5 * secP < s.now →
       ∃ t, exec (.resetPairLongPress n) s = .next t ∧ (t.pair n).long = true ∧ t.isl.st = s.isl.st ∧ t.isl.outA = s.isl.outA ∧
         t.isl.outB = s.isl.outB))

/-- Speed, safe stop and restart (R343, R346, R347): edges are counted, every 10 ms the edges of the last 20 ms give the speeds, a ramp
that has failed, timed out or come to standstill switches the outputs off, and the restart of mode 0 lets the lanes toggle after its
delay and sends the on-commands that restore the outputs; a low VDD_HV opens the switches of both sides (R437). -/
def Obligations.SpeedStopRestart : Prop :=
  ∀ s : State,
    (∃ t, exec (.speedEncoderEdge false) s = .next t ∧ t.isl = { s.isl with edgeA := (s.isl.edgeA.1 + 1, s.isl.edgeA.2) }) ∧
    (∃ t, exec (.speedEncoderEdge true) s = .next t ∧ t.isl = { s.isl with edgeB := (s.isl.edgeB.1 + 1, s.isl.edgeB.2) }) ∧
    (∃ t, exec .speedUpdate s = .next t ∧ t.isl.spdA = (s.isl.edgeA.1 + s.isl.edgeA.2) * s.objN 0xC030 2 / 20 ∧
      t.isl.spdB = (s.isl.edgeB.1 + s.isl.edgeB.2) * s.objN 0xC030 3 / 20 ∧ t.isl.edgeA = (0, s.isl.edgeA.1) ∧
      t.isl.edgeB = (0, s.isl.edgeB.1)) ∧
    (s.isl.st = .stopping → s.rampReason s.isl.ve ≠ 0 ∨ s.rampReason s.isl.veB ≠ 0 →
      ∃ t, exec .stoppingCheck s = .next t ∧ t.isl.st = .off ∧ t.isl.outA = false ∧ t.isl.outB = false) ∧
    (∀ at_, s.isl.conds = some at_ → s.isl.st = .off → s.objN 0xC010 4 = 0 → s.restartOk = true →
      at_ + s.objN 0xC010 5 * msP ≤ s.now →
      ∃ t, exec .restartDelayExpiry s = .next t ∧ t.isl.st = .enabled ∧ t.isl.lanes = 6 ∧ bit t.die.onCmd 1 = true ∧
        bit t.die.onCmd 2 = true ∧ t.out = s.out ++ [.anchor 1 1, .anchor 1 2]) ∧
    (∃ t, exec .vddHvUndervoltage s = .next t ∧ t.die.hvLow = true ∧ bit t.die.stopped 1 = true ∧ bit t.die.stopped 2 = true ∧
      t = { s with die := t.die, isl := { s.isl with outA := false, outB := false } }) ∧
    (∃ t, exec .vddHvRestored s = .next t ∧ t = { s with die := { s.die with hvLow := false } })

/-- Verdicts and windows (R325, R335, R338, R339): a verdict is formed on the oldest frame that has ended once its markers can
have arrived (R146), a missing frame end counts
as a violated frame, an invalid selection that outlasts its time makes frames count as violated, and a judgement starts every zone
anew. -/
def Obligations.VerdictRows : Prop :=
  ∀ s : State,
    (∀ differ miss fe rest, s.isl.ended = fe :: rest → s.verdictDue = true →
      ∃ t, exec (.verdict differ miss) s = .next t ∧ t.isl.ended = rest ∧ t.isl.lastVerdict = fe.no) ∧
    (s.isl.st ≠ .init → s.isl.lastEnd + (s.isl.missed + 1) * (s.objN 0xC010 9 * msP) ≤ s.now →
      ∃ t, exec .frameMissingTimeout s = .next t ∧ t.isl.missed = s.isl.missed + 1 ∧ t.isl.counter = s.isl.counter + 1 ∧
        t.isl.clean = 0 ∧ t.isl.viol = true) ∧
    (s.selectionLate = true → ∃ t, exec .selectionInvalidTimeout s = .next t ∧ t.isl = { s.isl with selViol := true, clean := 0 }) ∧
    (∃ t, exec .contaminationJudgement s = .next t ∧ t.isl.zones.length = s.objN 0xC040 1 ∧
      ∀ z ∈ t.isl.zones, z.2.cands = 0 ∧ z.2.shots = 0) ∧
    (s.isl.st = .init → s.life.st ≠ .off → s.die.failed = false →
      ((s.loadSet.modIsl fun i => { i with setOk := true }).standingCause = none →
        ∃ t, exec (.evaluatorsBooted true) s = .next t ∧ t.isl.st = .startTest ∧ t.isl.setOk = true) ∧
      (∃ t, exec (.evaluatorsBooted false) s = .next t ∧ t.lockedOut ∧ t.isl.cause = 7))

/-! ### Plovivo (R358 ... R377) -/

/-- The PDUs of Plovivo on the connection they name, once accepted by R365: a command sets the case, a parameter PDU moves the download
on: BEGIN opens a session, DATA appends, VERIFY and ACTIVATE advance it, ABANDON ends it. A parameter payload that R372 does not lay
out so for the operation is refused with reason 8 (R373; the model's choice of reason, log entry 84).
The times of Plovivo (R365, R366, R369): a watchdog puts its connection in fail-safe, a status PDU goes out each cycle on a slot
that is enabled, `hostfs` begins new sessions, and a PDU without a slot changes a counter alone, where it comes in as R359 or R360 says. -/
def Obligations.PlovivoRows : Prop :=
  (∀ (s : State) (port : PlvFrom) (o p : Octets), (o.drop 12).take (octAt o 7) = p →
     (s.slotFor port (fieldAt o 0 4) = some 1 → (s.plvAccept 1 (fieldAt o 0 4) o).2 = true → p.length = 10 → octAt p 0 < 16 →
       octAt p 1 = 255 - octAt p 0 →
       ∃ t, exec (.commandPdu port o) s = .next t ∧ t.isl.selCase = some (octAt p 0)) ∧
     (s.slotFor port (fieldAt o 0 4) = some 2 → (s.plvAccept 2 (fieldAt o 0 4) o).2 = true →
       (octAt p 0 = 1 → octAt p 1 = 0 → p.length = 20 → fieldAt p 2 2 = 0 → fieldAt p 4 8 = Config.deviceId % 2 ^ 64 → 0 < fieldAt p 12 4 → fieldAt p 12 4 ≤ 65536 →
         ∃ t, exec (.paramBegin port o) s = .next t ∧ t.plv.psess = 1 ∧ t.plv.image = [] ∧ t.plv.len = fieldAt p 12 4 ∧
           t.plv.crc = fieldAt p 16 4) ∧
       (octAt p 0 = 2 → octAt p 1 = 0 → 8 < p.length → p.length ≤ 44 → s.plv.psess = 1 → fieldAt p 2 2 = (s.plv.seg + 1) % 65536 → fieldAt p 4 4 = s.plv.image.length →
         s.plv.image.length + (p.drop 8).length < s.plv.len →
         ∃ t, exec (.paramData port o) s = .next t ∧ t.plv.psess = 1 ∧ t.plv.image = s.plv.image ++ p.drop 8) ∧
       (octAt p 0 = 3 → octAt p 1 = 0 → p.length = 4 → s.plv.psess = 2 →
         ∃ t, exec (.paramVerify port o) s = .next t ∧ (t.plv.psess = 3 ∨ (t.plv.psess = 4 ∧ (t.plv.reason = 5 ∨ t.plv.reason = 6)))) ∧
       (octAt p 0 = 4 → octAt p 1 = 0 → p.length = 16 → s.plv.psess = 3 → fieldAt p 4 4 = s.plv.crc → fieldAt p 8 8 = Config.deviceId % 2 ^ 64 → s.isl.st = .off →
         ∃ t, exec (.paramActivate port o) s = .next t ∧ t.plv.psess = 5 ∧ t.setImage = some s.plv.image) ∧
       (octAt p 0 = 5 → octAt p 1 = 0 → p.length = 4 →
         ∃ t, exec (.paramAbandon port o) s = .next t ∧ t.plv.psess = 0 ∧ t.plv.image = [] ∧ t.plv.crc = 0) ∧
       (paramForm p = false →
         ∃ t, exec (.paramData port o) s = .next t ∧ t.plv.psess = 4 ∧ t.plv.reason = 8))) ∧
  (∀ s : State,
     (∀ k : Fin 4, k = 1 ∨ k = 2 → s.slotOn k = true → (s.plvSlot k).cond = 0 →
       (s.plvSlot k).wdAt + bits (s.cfg400 k 2) 0 16 * msP ≤ s.now →
       ∃ t, exec (.plovivoWatchdog k) s = .next t ∧ (t.plvSlot k).cond = 1 ∧ (t.plvSlot k).cause = 4) ∧
     (∀ second, s.slotOn (if second then 3 else 0) = true →
       (s.plvSlot (if second then 3 else 0)).sentAt + bits (s.cfg400 (if second then 3 else 0) 2) 16 16 * msP ≤ s.now →
       ∃ t, exec (.statusPduCycle second false) s = .next t ∧ (t.plvSlot (if second then 3 else 0)).sentAt = s.now ∧
         (t.plvSlot (if second then 3 else 0)).e = ((s.plvSlot (if second then 3 else 0)).e + 1) % 2 ^ 32) ∧
     (s.plv.hostfs = true → s.plv.hostfsAt ≤ s.now →
       ∃ t, exec .hostfsSessionTimer s = .next t ∧ t.plv.hostfsAt = s.now + secP ∧ (t.plvSlot 0).e = 0 ∧ (t.plvSlot 0).fresh = true) ∧
     (∀ port conn, s.plvHears port = true → s.slotFor port conn = none →
       ∃ k, k < 3 ∧ exec (.plovivoPduUnmatched port conn) s = .next (s.bump 0xC410 (4 * k + 3) 1)) ∧
     (∀ port conn, s.plvHears port = false → exec (.plovivoPduUnmatched port conn) s = .next s))

/-! ### Patterns, slots and emitters (R82 ... R97, R352 ... R354) -/

/-- The rows of the pattern table (R85, R86, R87): entries go into the shadow, or into the queue while it is refreshed, and the
pointer moves past them; a commit is pending until a Landing, and its validation records the cell table in the shadow of each Quadrant
it names (R152); the refresh ends with the queued writes laid over the active bank. -/
def Obligations.PatternRows : Prop :=
  ∀ s : State,
    (∀ r data q reg i, s.patPtr = (q, reg, i) → s.accepts r (entBlob 0x3202 data) (s.patCodes data) →
      ∃ t, exec (.patternDataWrite r data) s = .next t ∧ t.took r ∧
        t.objN 0x3201 3 = min 65535 (i + (units16 data).length) ∧
        ((s.quad q).ready = true → (t.quad q).shd = (s.quad q).shd.put reg i (units16 data) ∧ (t.quad q).wq = (s.quad q).wq) ∧
        ((s.quad q).ready = false → (t.quad q).shd = (s.quad q).shd ∧ (t.quad q).wq = (s.quad q).wq ++ [(reg, i, data)])) ∧
    (∀ r mask, s.accepts r (entArg 0x3210 .u8 mask) (s.commitCodes mask) →
      ∃ t, exec (.patternCommit r mask) s = .next t ∧ t.took r ∧
        (∃ p ∈ t.tv.pend, p.obj = 0x3210 ∧ p.el = 0 ∧ p.val = mask) ∧
        ∀ q, t.quad q = { s.quad q with shd := (t.quad q).shd } ∧
          (t.quad q).shd = { (s.quad q).shd with pulses := (t.quad q).shd.pulses, weight := (t.quad q).shd.weight } ∧
          (bit mask q.val = true →
            (t.quad q).shd.weight = ((s.quad q).shd.zoomEntries.map fun e => entWeight e * (entRep e + 1)).sum)) ∧
    (∀ q, (s.quad q).ready = false →
      ∃ t, exec (.shadowRefreshDone q) s = .next t ∧ (t.quad q).ready = true ∧ (t.quad q).wq = [] ∧
        (t.quad q).shd = (s.quad q).act.overlay (s.quad q).wq ∧ (t.quad q).act = (s.quad q).act) ∧
    (∀ q, s.sequences q = true → (s.quad q).act.dur ≠ 0 → s.frm.start + (s.quad q).act.dur * usP ≤ s.now →
      ∃ t, exec (.patternDurationCut q) s = .next t ∧ (t.quad q).seq.done = true ∧ (t.quad q).seq.cut = true ∧
        (t.quad q).shots = (s.quad q).shots)

/-- Slot positions (R83, R84, R87): a position is executed at its nominal instant, an angle-triggered one at the instant of its angle, at
its earliest permitted instant when the angle had been passed, or is skipped after one fast-axis period; each becomes the previous
nominal instant and advances the jitter generator once, and a skipped one fires nothing.
Where nothing is sequenced no slot row has an effect (R24, R84): not while no frame runs, and not on a Quadrant that does not fire. -/
def Obligations.SlotRows : Prop :=
  (∀ (s : State) (q : Fin 4), s.sequences q = true →
     (∀ nom, s.timePlaced q = some nom → s.slotAt q nom ≤ s.now2 → s.beforeCut q nom = true →
       ∃ t, exec (.slot q false) s = .next t ∧ (t.quad q).seq.prevNom = nom ∧ (t.quad q).seq.jit = jitNext (s.quad q).seq.jit) ∧
     (∀ nom at_ late, s.angleFrom q = some nom → s.anglePassed q nom = true → nom ≤ s.now → s.beforeCut q nom = true →
       ∃ t, exec (.angleTrigger q at_ late) s = .next t ∧ (t.quad q).seq.prevNom = nom ∧ (t.quad q).seq.jit = jitNext (s.quad q).seq.jit) ∧
     (∀ nom n at_ late, s.angleFrom q = some nom → s.anglePassed q nom = false → s.angleReach q nom = some n → s.beforeCut q n = true →
       ∃ t, exec (.angleTrigger q at_ late) s = .next t ∧ (t.quad q).seq.prevNom = n ∧ (t.quad q).seq.jit = jitNext (s.quad q).seq.jit) ∧
     (∀ nom, s.angleFrom q = some nom → s.anglePassed q nom = false → s.angleReach q nom = none → nom + s.steer.period ≤ s.now →
       s.beforeCut q (nom + s.steer.period) = true →
       ∃ t, exec (.angleMissed q) s = .next t ∧ (t.quad q).seq.prevNom = nom + s.steer.period ∧ (t.quad q).shots = (s.quad q).shots ∧
         t.out = s.out)) ∧
  (∀ (s : State) (q : Fin 4) (at_ : Nat) (late : Bool), s.sequences q = false →
     exec (.slot q false) s = .next s ∧ exec (.angleTrigger q at_ late) s = .next s ∧ exec (.angleMissed q) s = .next s ∧
       exec (.patternDurationCut q) s = .next s)

/-- The rows of the emitters (R92, R93, R97): a strike copies every staged setting, a peak reading is held against its limits and the
second in a row above the high one suspends its channel, a re-test asks for the next two diagnostic Landings; outside the emitters a
peak reading reaches the capture engine alone (R256).
A sub-interval of the governor's windows ends (R353): every sector's running sum opens a new sub-interval, the sixteenth before it
leaves the window, and nothing else changes. -/
def Obligations.EmitterRows : Prop :=
  (∀ s : State,
     (∀ r arg, s.accepts r (entArg 0x3320 .u8 arg) [] →
       ∃ t, exec (.strike r arg) s = .next t ∧ t.took r ∧ (∀ m < 192, t.obj 0x3311 (m + 1) = s.obj 0x3310 (m + 1)) ∧
         (∀ p < 8, t.obj 0x3311 (193 + p) = s.obj 0x3330 (p + 1)) ∧ t.obj 0x3311 201 = s.obj 0x3300 1) ∧
     (∀ (p : Fin 8) code, ∃ t, exec (.hpcPeakReading p code) s = .next t ∧ (t.emitter (192 + p.val)).peak = s.peakKind p.val code ∧
       (s.peakKind p.val code = 2 → 1 ≤ (s.emitter (192 + p.val)).above → (s.emitter (192 + p.val)).retired = 0 →
         (t.emitter (192 + p.val)).suspended = true) ∧
       t = { s with em := t.em, cap := t.cap }) ∧
     (∀ r m, s.accepts r (entArg 0x3352 .u8 m) [] →
       ∃ t, exec (.emitterRetest r m) s = .next t ∧ t.took r ∧ (t.emitter m).retest = 4)) ∧
  (∀ s : State,
     (s.gov.shortNo < s.now / max 1 (s.govLen false) →
       ∃ t, exec (.governorSubinterval false) s = .next t ∧
         t = { s with gov := { s.gov with short := govRoll s.gov.short, shortNo := s.gov.shortNo + 1 } }) ∧
     (s.gov.longNo < s.now / max 1 (s.govLen true) →
       ∃ t, exec (.governorSubinterval true) s = .next t ∧
         t = { s with gov := { s.gov with long := govRoll s.gov.long, longNo := s.gov.longNo + 1 } }))

/-! ### Return channels, contexts and calibration (R126 ... R147, R150 ... R166, R225) -/

/-- Gates and hits (R127, R130, R133, R158, R160): a gate opens and closes at its instant, a leading edge marks the comparator high and,
where it is stamped, stands first in the channel's buffer as the hit in progress, while an edge that is lost begins no hit; the trailing
edge ends it; a waiting train is decided once; a hit in no train is declared unmatched. -/
def Obligations.HitRows : Prop :=
  ∀ (s : State) (q : Fin 4) (c : Fin 256),
    (∀ slot x, s.shotNow q slot = some x → bit x.gmask c = true → bit x.opened c = false → x.open2 ≤ s.now2 + 4 →
      s.chanGates q c = true →
      ∃ t y, exec (.gateOpen q slot c) s = .next t ∧ t.shotNow q slot = some y ∧ bit y.opened c = true ∧
        (t.chan q c).gates = (s.chan q c).gates + 1) ∧
    (∀ slot x, s.shotNow q slot = some x → x.openOn c = true → x.close2 ≤ s.now2 + 4 →
      ∃ t y, exec (.gateClose q slot c) s = .next t ∧ t.shotNow q slot = some y ∧ y.openOn c = false) ∧
    (∀ raw tot rng blk, ∃ t, exec (.hitLeadingEdge q c raw tot rng false 0 blk) s = .next t ∧
      (t.chan q c).compAt = some s.now ∧
      ((s.leadingEdge q c raw tot rng).2 = .outside ∨ (s.leadingEdge q c raw tot rng).2 = .lost →
        (t.chan q c).inHit = false ∧ (t.chan q c).buf = (s.chan q c).buf) ∧
      (∀ h x, (s.leadingEdge q c raw tot rng).2 = .stamped h x →
        (t.chan q c).inHit = true ∧ ∃ g rest, (t.chan q c).buf = g :: rest ∧ g.at_ = s.now ∧ g.fine = s.fineOf q c raw ∧ g.frame = x.frame ∧ g.slot = x.slot)) ∧
    (∀ raw, (s.chan q c).compAt.isSome = true →
      ∃ t, exec (.hitTrailingEdge q c raw) s = .next t ∧ (t.chan q c).compAt = none ∧ (t.chan q c).inHit = false ∧
        (t.chan q c).trail80 = some (s.now * 20480 + 5 * s.fineOf q c raw) ∧ t = { s with quads := t.quads, cap := t.cap }) ∧
    (∀ l, (s.chan q c).late.find? (fun l => l.due ≤ s.now) = some l →
      ∃ t, exec (.missingPulseDeadline q c) s = .next t ∧ l ∉ (t.chan q c).late) ∧
    (∀ h, (s.chan q c).buf.reverse.find? (fun h => !h.done) = some h → h.at_ + 260 ≤ s.now →
      ∃ t, exec (.hitUnmatched q c) s = .next t ∧
        ∀ g ∈ (t.chan q c).buf, g.at_ = h.at_ → g.fine = h.fine → g.done = true)

/-- Clamps and channels that cannot be trusted (R129, R143, R144): an episode begins and ends, one longer than `3.430.01` starts the
handling of a transient, and a comparator stuck for more than 50 µs, none of them clamped, or a converter older than 150 ms makes the
channel suspect, or fails the step of a channel under re-admission (R147). -/
def Obligations.ClampRows : Prop :=
  ∀ (s : State) (q : Fin 4) (c : Fin 256),
    ((s.chan q c).clampAt = none →
      ∃ t, exec (.clampOn q c) s = .next t ∧ (t.chan q c).clampAt = some s.now ∧
        (t.chan q c).clamps = min 511 ((s.chan q c).clamps + 1) ∧ t = { s with quads := t.quads, cap := t.cap }) ∧
    ((s.chan q c).clampAt.isSome = true →
      ∃ t, exec (.clampOff q c) s = .next t ∧ (t.chan q c).clampAt = none ∧ (t.chan q c).clampEnd2 = s.now2 + 40 ∧
        (s.chan q c).clampAt = some (t.chan q c).clampWas ∧
        t = { s with quads := t.quads, cap := t.cap }) ∧
    ((s.chan q c).clampEvt = false → 2 * s.objN 0x3430 1 < s.clampLen (s.chan q c) →
      ∃ t, exec (.clampEvent q c) s = .next t ∧ (t.chan q c).clampEvt = true ∧
        ((s.chan q c).st < 3 → (t.chan q c).st = 2 ∧ (t.chan q c).lastCause = 1 ∧ (t.chan q c).check = 1)) ∧
    (∀ at_, (s.chan q c).compAt = some at_ → (s.chan q c).clampAt = none → at_ + 50 * usP < s.now →
      (s.chan q c).clampEnd2 + 250 * usP < s.now2 → s.chanGates q c = true →
      ∃ t, exec (.stuckOnDetected q c) s = .next t ∧
        ((s.chan q c).st < 3 → (t.chan q c).st = 3 ∧ (t.chan q c).sus = 2) ∧
        ((s.chan q c).st = 4 → (t.chan q c).st = 4 ∧ (t.chan q c).readBad = true)) ∧
    ((s.chan q c).calAt + 150 * msP < s.now → s.chanGates q c = true →
      ∃ t, exec (.calibrationOverdue q c) s = .next t ∧
        ((s.chan q c).st < 3 → (t.chan q c).st = 3 ∧ (t.chan q c).sus = 3) ∧
        ((s.chan q c).st = 4 → (t.chan q c).st = 4 ∧ (t.chan q c).readBad = true))

/-- The calibration of the converters (R136 ... R139, R142, R237): due at 25 ms, handed to a relief converter where one is free, and
complete with a new generation when its test is good, at once where no gate is open on its channel and at the next slot boundary
otherwise; failed otherwise. The converters of the Wofen pairs are calibrated alike. -/
def Obligations.ConverterRows : Prop :=
  ∀ (s : State) (q : Fin 4),
    (∀ v : Fin 266, v.val < 264 → (s.chan q v).due = false → (s.chan q v).calAt + 25 * msP ≤ s.now →
      ∃ t, exec (.converterCalibrationDue q v) s = .next t ∧ (t.chan q v).due = true ∧ (t.chan q v).calStart = s.now ∧
        t = { s with quads := t.quads }) ∧
    (∀ (c : Fin 256) part v rest, (s.chan q c).wantsRelief s.now = true →
      (s.chan q c).outOfTurn = true ∨ s.oldestWaiting q c = true → (s.chan q c).calNext = none → s.reliefFree q = v :: rest →
      ∃ t, exec (.reliefHandover q ⟨c, part⟩) s = .next t ∧ t = { s with quads := t.quads } ∧
        (s.openShots q c = [] → (t.chan q c).relief = some v) ∧
        (s.openShots q c ≠ [] → (t.chan q c).relNext = some (some v) ∧ (t.chan q c).relief = none)) ∧
    (∀ (v : Fin 266) hist refs lost table off, v.val < 264 → (s.chan q v).due = true → s.canCalibrate q v = true →
      calResult (s.prevOffset q v) (addBins (s.chan q v).hist hist) refs lost = some (table, off) →
      ∃ t, exec (.converterCalibrationDone q v hist refs lost) s = .next t ∧ (t.chan q v).calAt = s.now ∧ (t.chan q v).due = false ∧
        (s.openShots q v = [] → (t.chan q v).gen = (s.chan q v).gen + 1 ∧ (t.chan q v).table = some table ∧
          (t.chan q v).offset = some off ∧ (t.chan q v).relief = none) ∧
        (s.openShots q v ≠ [] → (t.chan q v).gen = (s.chan q v).gen ∧ (t.chan q v).table = (s.chan q v).table)) ∧
    (∀ (v : Fin 266) hist refs lost, v.val < 264 → (s.chan q v).due = true → s.canCalibrate q v = true →
      calResult (s.prevOffset q v) (addBins (s.chan q v).hist hist) refs lost = none →
      ∃ t, exec (.converterCalibrationDone q v hist refs lost) s = .next t ∧ (t.chan q v).gen = (s.chan q v).gen ∧
        (t.chan q v).calAt = (s.chan q v).calAt ∧ (t.chan q v).table = (s.chan q v).table) ∧
    (∀ (v : Fin 266) (k : Fin 2), v.val = 264 + k.val → (s.wof.convs.get k).due = false → (s.wof.convs.get k).calAt + 25 * msP ≤ s.now →
      ∃ t, exec (.converterCalibrationDue q v) s = .next t ∧ (t.wof.convs.get k).due = true ∧ t = { s with wof := t.wof }) ∧
    (∀ (v : Fin 266) (k : Fin 2) hist refs lost table off, v.val = 264 + k.val → (s.wof.convs.get k).due = true →
      calResult (s.pairOffset k) hist refs lost = some (table, off) →
      ∃ t, exec (.converterCalibrationDone q v hist refs lost) s = .next t ∧ t = { s with wof := t.wof } ∧
        (t.wof.convs.get k).gen = (s.wof.convs.get k).gen + 1 ∧ (t.wof.convs.get k).table = some table ∧
        (t.wof.convs.get k).calAt = s.now)

/-- Visits, searches and stamps (R150, R153, R165, R191, R225): a visit that is due closes, a peak search ends once, a stamp is given
once, and a microcode bank is chosen for the next Landing. -/
def Obligations.CrucibleRows : Prop :=
  ∀ (s : State) (q : Fin 4),
    (∀ cell : Fin 4096, s.visitCloseDue q cell 0 = true →
      ∃ t, exec (.visitClose q cell 0) s = .next t ∧ (t.cellRec q s.frm.no cell).coarseClosed = true) ∧
    (∀ cell : Fin 4096, s.visitCloseDue q cell 1 = true →
      ∃ t, exec (.visitClose q cell 1) s = .next t ∧ (t.cellRec q s.frm.no cell).zoomClosed = true) ∧
    (∀ (cell : Fin 4096) (c : Fin 256) f k0, s.searchFrame q cell c = some f → s.ctx q f cell c false = some k0 →
      k0.zoomFirst = false → s.hasZoom q cell = true →
      ∃ t k, exec (.peakSearchDone q cell c) s = .next t ∧ t.ctx q f cell c false = some k ∧ k.searched = true) ∧
    (∀ slot x, (s.quad q).shots.find? (fun x => x.slot == slot && x.stamp.isNone) = some x → s.stampDue x = true →
      ∃ t y, exec (.angleStampReady q slot) s = .next t ∧ t.findShot q x.frame slot = some y ∧ y.stamp.isSome = true ∧
        t.ana.stamped = s.ana.stamped + 1) ∧
    (∀ r bank, s.accepts r (entMember 0x4201 (q.val + 1) .u8 bank) (s.mcSelCodes [(q.val + 1, bank)]) →
      ∃ t, exec (.microcodeBankSelect r q bank) s = .next t ∧ t.took r ∧
        (∃ p ∈ t.tv.pend, p.obj = 0x4201 ∧ p.el = q.val + 1 ∧ p.val = bank) ∧ t.quads = s.quads)

/-! ### Beam steering and the control engine (R101 ... R124) -/

/-- The rows of the axes (R102, R105, R106): a zero crossing gives the amplitude of the half period before it, a rising one the period
too; its absence is cause 3 and stops emission at once, and an axis with no cause for 1 ms and two periods is valid again. -/
def Obligations.AxisRows : Prop :=
  ∀ s : State,
    (∀ halfAmp, s.steer.running = true →
      ∃ t, exec (.fastAxisZeroCrossing ⟨true, halfAmp⟩) s = .next t ∧ t.steer.lastZero = s.now ∧ t.steer.zeros = s.steer.zeros + 1 ∧
        t.steer.halves = s.steer.halves + 1 ∧ t.steer.halfAmp = halfAmp ∧
        (s.steer.zeros ≠ 0 → t.steer.period = s.now - s.steer.lastZero)) ∧
    (∀ halfAmp, s.steer.running = true →
      ∃ t, exec (.fastAxisZeroCrossing ⟨false, halfAmp⟩) s = .next t ∧ t.steer.lastZero = s.steer.lastZero ∧ t.steer.zeros = s.steer.zeros ∧
        t.steer.halves = s.steer.halves + 1 ∧ t.steer.halfAmp = halfAmp ∧ t.steer.period = s.steer.period) ∧
    (s.steer.running = true → 3 * s.steer.period ≤ 2 * (s.now - s.steer.lastZero) →
      ∃ t, exec .fastAxisCrossingTimeout s = .next t ∧ bit t.steer.fast.causes 3 = true ∧
        (s.steer.fast.valid = true → t.steer.fast.valid = false ∧ t.gov.enable = false ∧ t.steer.fast.invalidAt = s.now)) ∧
    (∀ a : Fin 2, (s.axis (a == 0)).valid = false → (s.axis (a == 0)).causes = 0 → (s.axis (a == 0)).clearAt + msP ≤ s.now →
      2 ≤ (s.axis (a == 0)).clearPeriods →
      ∃ t, exec (.positionRevalidation a) s = .next t ∧ (t.axis (a == 0)).valid = true ∧ (t.axis (a == 0)).validAt = s.now ∧
        t.axis (a != 0) = s.axis (a != 0) ∧ t = { s with steer := t.steer })

/-- A control period of the steering Helms (R107, R108, R110): the command of the Helm picked, among those whose check codes are good,
drives the output stage; without one the last command is held for three periods, and after that the stage stops driving and both axes
are invalid.
Helms and the Ferry (R111, R113): a Helm that has re-initialised resynchronises, becomes the ready standby one claim below the last
accepted one, and a commanded Ferry is ordered for the next Landing. -/
def Obligations.SteeringHelmRows : Prop :=
  (∀ s : State, s.steer.running = true → s.life.prepReq = false →
     (∀ a b h, a ≠ .lanesFail → b ≠ .lanesFail →
       s.pick (s.steer.helmA.sends true && a.codeOk) (s.steer.helmB.sends true && b.codeOk) = some h → (s.helm h).st = 0 →
       ∃ t, exec (.controlPeriod a b true) s = .next t ∧ t.steer.held = 0 ∧ t.steer.driving = true ∧
         t.steer.lastClaim = (s.helm h).claim ∧ t.steer.lastSrc = b2n h ∧ t.steer.cmd = s.helmCmd h) ∧
     (∀ a b, a ≠ .lanesFail → b ≠ .lanesFail →
       s.pick (s.steer.helmA.sends true && a.codeOk) (s.steer.helmB.sends true && b.codeOk) = none →
       ∃ t, exec (.controlPeriod a b true) s = .next t ∧ t.steer.held = s.steer.held + 1 ∧ t.steer.cmd = s.steer.cmd ∧
         (s.steer.held < 3 → t.steer.driving = s.steer.driving) ∧
         (3 ≤ s.steer.held → t.steer.driving = false ∧ bit t.steer.fast.causes 4 = true ∧ bit t.steer.slow.causes 4 = true))) ∧
  (∀ s : State,
     (∀ h : Fin 2, (s.helm (h == 1)).st = 3 →
       ∃ t, exec (.helmReinitDone h) s = .next t ∧ (t.helm (h == 1)).st = 2 ∧ (t.helm (h == 1)).syncPeriods = 0 ∧
         (t.helm (h == 1)).syncLanding = false ∧ t.helm (h != 1) = s.helm (h != 1) ∧ t = { s with steer := t.steer }) ∧
     (∀ h : Fin 2, (s.helm (h == 1)).st = 2 → 2 ≤ (s.helm (h == 1)).syncPeriods → (s.helm (h == 1)).syncLanding = true →
       ∃ t, exec (.helmStandbyReady h) s = .next t ∧ (t.helm (h == 1)).st = 1 ∧
         (t.helm (h == 1)).claim = (s.steer.lastClaim + 255) % 256 ∧ t.helm (h != 1) = s.helm (h != 1)) ∧
     (∀ r arg, s.accepts r (entArg 0x6110 .u8 arg) (when (!s.standbyReady) 0x0601) →
       ∃ t, exec (.ferryCommand r arg) s = .next t ∧ t.took r ∧ t.steer = { s.steer with ferryOrdered := true }))

/-- A sample instant of a loop instance (R115, R119): the output computed before is applied now and a fresh sample gives the next; a
single missing sample is counted, and a late result holds the instance off until the next Landing. -/
def Obligations.LoopSamples : Prop :=
  ∀ (s : State) (k : Fin 12) (i : Fin 4), s.loopRuns k = true → (s.loopInst k i).faulted = false →
    (lwInst (s.loopWord k) = true ∨ i = 0) →
    ((s.loopInput (lwIn (s.loopWord k)) i).2 ≠ (s.loopInst k i).seen → s.inputVoid (lwIn (s.loopWord k)) i = false →
      ∃ t, exec (.loopSample k i true) s = .next t ∧ (t.loopInst k i).appl = (s.loopInst k i).u ∧
        (t.loopInst k i).applDir = (s.loopInst k i).dir ∧ (t.loopInst k i).missedNow = 0 ∧
        (t.loopInst k i).seen = (s.loopInput (lwIn (s.loopWord k)) i).2 ∧ (t.loopInst k i).faulted = false) ∧
    ((s.loopInput (lwIn (s.loopWord k)) i).2 = (s.loopInst k i).seen ∨ s.inputVoid (lwIn (s.loopWord k)) i = true →
      (s.loopInst k i).missedNow = 0 →
      ∃ t, exec (.loopSample k i true) s = .next t ∧ (t.loopInst k i).missedNow = 1 ∧
        (t.loopInst k i).missedAll = min 255 ((s.loopInst k i).missedAll + 1) ∧ (t.loopInst k i).appl = (s.loopInst k i).u ∧
        (t.loopInst k i).u = (s.loopInst k i).u) ∧
    (∃ t, exec (.loopSample k i false) s = .next t ∧ (t.loopInst k i).faulted = true ∧ (t.loopInst k i).u = 0 ∧
      (t.loopInst k i).appl = 0)

/-- Starting and stopping (R104, R118, R122): an accepted start of a slot or of steering makes it run, an accepted stop ends it, with both
axes invalid once steering has stopped; a compensator table is cleared whole.
Detector bias (R123, R124): 1 ms inside the band as the winner settles it, and 100 ms without a temperature take -55 °C. -/
def Obligations.LoopAndBiasRows : Prop :=
  (∀ s : State,
     (∀ r (k : Fin 12), s.accepts r (ent 0x6210 (k.val + 1) .bool 1) (s.loopStartCodes k) →
       ∃ t, exec (.loopStart r k) s = .next t ∧ t.took r ∧ t.loopRuns k = true) ∧
     (∀ r (k : Fin 12), s.accepts r (ent 0x6210 (k.val + 1) .bool 0) (s.loopStopCodes k) →
       ∃ t, exec (.loopStop r k) s = .next t ∧ t.took r ∧ t.loopRuns k = false) ∧
     (∀ r, s.accepts r (ent 0x6001 0 .bool 1) s.steerStartCodes →
       ∃ t, exec (.steeringStart r) s = .next t ∧ t.took r ∧ t.steer.running = true ∧ t.obj 0x6001 0 = 1) ∧
     (∀ r, s.accepts r (ent 0x6001 0 .bool 0) s.steerStopCodes →
       ∃ t, exec (.steeringStop r) s = .next t ∧ t.took r ∧ t.steer.running = false ∧ t.obj 0x6001 0 = 0 ∧
         (s.steer.running = true → t.steer.fast.valid = false ∧ t.steer.slow.valid = false ∧ t.steer.driving = false)) ∧
     (∀ r n, s.accepts r (entArg 0x6403 .u8 n) [] →
       ∃ t, exec (.compensatorClear r n) s = .next t ∧ t.took r ∧ (assocD comp0 t.forge.comps n).tab = [] ∧
         (assocD comp0 t.forge.comps n).term = 0)) ∧
  (∀ (s : State) (q : Fin 4),
     (∀ at_, (s.forge.bias.get q).inBand = some at_ → at_ + msP ≤ s.now →
       ∃ t, exec (.biasSettled q) s = .next t ∧ t.forge.bias.get q = { s.forge.bias.get q with settled := true } ∧
         t = { s with forge := t.forge }) ∧
     (∀ at_, 0 ≤ s.obj 0x6500 (4 * q + 4) → (s.forge.bias.get q).lostAt = some at_ → (s.forge.bias.get q).fallback = false → at_ + 100 * msP ≤ s.now →
       ∃ t, exec (.detectorTempFallback q) s = .next t ∧ t.forge.bias.get q = { s.forge.bias.get q with fallback := true }))

/-! ### Analogue sensing (R199 ... R222) -/

/-- The converters and their sequencers (R199, R201 ... R208): a sample is taken at its step of the grid, a conversion delivers its
calibrated code, one that is late restarts the converter, a pass ends and the next begins, and an accepted write of `7.003` starts or
stops a sequencer. -/
def Obligations.ConverterSequences : Prop :=
  ∀ (s : State) (c : Fin 4),
    (s.adcRuns c = true → (s.adc c).step < s.objN 0x7001 (c.val + 1) → (s.adc c).passAt + 80 * (s.adc c).step ≤ s.now →
      ∃ t x, exec (.adcSample c) s = .next t ∧ (t.adc c).step = (s.adc c).step + 1 ∧ (t.adc c).taken = (s.adc c).taken ++ [x] ∧
        x.step = (s.adc c).step ∧ x.at_ = (s.adc c).passAt + 80 * (s.adc c).step ∧
        x.sel = bits (s.objN 0x7000 (16 * c.val + (s.adc c).step + 1)) 10 6) ∧
    (∀ x rest raw beyond cl conds pred, (s.adc c).taken = x :: rest →
      ∃ t, exec (.adcConversionDone c raw beyond cl conds pred) s = .next t ∧ (t.adc c).taken = rest ∧
        (beyond = false → cl = false → isPosition c x.sel = false → x.trans = false →
          (s.lineariseIn c x.sel (if x.fine then (calCode (raw % 65536) (s.trimOf (trimKey c x.sel (b2n x.fine))) + 4) / 8
            else calCode (raw % 65536) (s.trimOf (trimKey c x.sel (b2n x.fine))))).1 ≠ 2 →
          (t.newestOf (inKey c x.sel)).at_ = x.at_ ∧ (t.newestOf (inKey c x.sel)).cls = 0 ∧
          (t.newestOf (inKey c x.sel)).cal = (if x.fine then (calCode (raw % 65536) (s.trimOf (trimKey c x.sel (b2n x.fine))) + 4) / 8
            else calCode (raw % 65536) (s.trimOf (trimKey c x.sel (b2n x.fine)))))) ∧
    (∀ x rest, (s.adc c).taken = x :: rest → x.at_ + usP ≤ s.now →
      ∃ t, exec (.adcConversionTimeout c) s = .next t ∧ (t.adc c).taken = [] ∧ (t.adc c).step = 0 ∧
        (t.adc c).passAt = s.now + 20 * usP ∧
        (3 ≤ ((s.now :: (s.adc c).faults).filter fun x => s.now < x + 10 * secP).length → (t.adc c).stopped = true)) ∧
    (s.adcRuns c = true → s.objN 0x7001 (c.val + 1) ≤ (s.adc c).step →
      (s.adc c).passAt + 80 * s.objN 0x7001 (c.val + 1) ≤ s.now →
      ∃ t, exec (.sequencerPassEnd c) s = .next t ∧ (t.adc c).step = 0 ∧
        (t.adc c).passAt = (s.adc c).passAt + 80 * s.objN 0x7001 (c.val + 1)) ∧
    (∀ r, s.accepts r (ent 0x7003 (c.val + 1) .bool 1) (s.seqCodes c true) →
      ∃ t, exec (.sequencerStart r c) s = .next t ∧ t.took r ∧ t.seqRuns c = true ∧
        (s.seqRuns c = false → (t.adc c).step = 0 ∧ (t.adc c).passAt = s.now ∧ (t.adc c).taken = [])) ∧
    (∀ r, s.accepts r (ent 0x7003 (c.val + 1) .bool 0) (s.seqCodes c false) →
      ∃ t, exec (.sequencerStop r c) s = .next t ∧ t.took r ∧ t.seqRuns c = false ∧ (s.seqRuns c = true → (t.adc c).taken = []))

/-- System calibration (R209, R210): the captures begin and end, the store computes offset and gain from both, the factory values return,
and an abandoned calibration holds nothing. -/
def Obligations.SystemCalibration : Prop :=
  ∀ s : State,
    (∀ r, s.accepts r (ent 0x7301 0 .u8 1) s.captCodes →
      ∃ t, exec (.calCaptureZero r) s = .next t ∧ t.took r ∧
        t.ana.capt = some { full := false, key := s.calKey, n := 0, sum := 0, bad := 0, pend := [] }) ∧
    (∀ r, s.accepts r (ent 0x7301 0 .u8 2) s.captCodes →
      ∃ t, exec (.calCaptureFullScale r) s = .next t ∧ t.took r ∧
        t.ana.capt = some { full := true, key := s.calKey, n := 0, sum := 0, bad := 0, pend := [] }) ∧
    (∀ k p, s.ana.capt = some k → k.all = p → 4096 ≤ p.n →
      ∃ t, exec .calCaptureComplete s = .next t ∧ t.ana.capt = none ∧
        (p.bad = 0 → p.full = false → t.ana.m0 = some (p.key, (((p.sum + 128) / 256 : Nat) : Int)) ∧ t.obj 0x7302 2 = ((p.sum + 128) / 256 : Nat)) ∧
        (p.bad = 0 → p.full = true → t.ana.mfs = some (p.key, (((p.sum + 128) / 256 : Nat) : Int)) ∧ t.obj 0x7302 3 = ((p.sum + 128) / 256 : Nat)) ∧
        (p.bad ≠ 0 → t.obj 0x7302 1 = 5 ∧ t.obj 0x7302 7 = p.bad)) ∧
    (∀ r a b, s.accepts r (ent 0x7301 0 .u8 3) s.calStoreCodes → s.calOf s.ana.m0 = some a → s.calOf s.ana.mfs = some b → 0 ≤ a → a ≤ 32768 → a < b →
      1030792152 ≤ calGain (b - a).toNat → calGain (b - a).toNat ≤ 1234803097 →
      ∃ t, exec (.calComputeStore r) s = .next t ∧ t.took r ∧ t.obj 0x7302 1 = 4 ∧
        assocD { off16 := 0, gain := 0, sys := false } t.ana.trimPend s.calKey = { off16 := a, gain := calGain (b - a).toNat, sys := true }) ∧
    (∀ r, s.accepts r (ent 0x7301 0 .u8 4) s.calStoreCodes →
      ∃ t, exec (.calRestoreFactory r) s = .next t ∧ t.took r ∧
        (assocD { off16 := 0, gain := 0, sys := true } t.ana.trimPend s.calKey).sys = false) ∧
    (∀ r, s.accepts r (ent 0x7301 0 .u8 0) s.calSupply →
      ∃ t, exec (.calAbandon r) s = .next t ∧ t.took r ∧ t.ana.capt = none ∧ t.ana.m0 = none ∧ t.ana.mfs = none ∧ t.obj 0x7302 1 = 0)

/-- Accumulators and min-max trackers (R211, R212, R214): a window that is due is published under the next generation and cleared, a new
configuration word clears its window, and a latch clears every enabled window of kind 3. -/
def Obligations.WindowRows : Prop :=
  ∀ s : State,
    (∀ mm (n : Fin 64), s.windowDue mm n = true →
      ∃ t, exec (.accumulatorWindowEnd mm n) s = .next t ∧ t.window mm n = t.clearWindow mm n ∧
        t.objN ((if mm then 0x7240 else 0x7140) + n) 4 = (s.objN ((if mm then 0x7240 else 0x7140) + n) 4 + 1) % 65536) ∧
    (∀ r (n : Fin 64) (w : Nat), s.accepts r (ent 0x7100 (n.val + 1) .u32 w) (winCodes [(n.val + 1, w)]) →
      ∃ t, exec (.accumulatorConfigWrite r n w) s = .next t ∧ t.took r ∧ t.objN 0x7100 (n.val + 1) = w % 2 ^ 32 ∧
        t.window false n = t.clearWindow false n) ∧
    (∀ r arg, s.accepts r (entArg 0x7101 .u8 arg) [] →
      ∃ t, exec (.accumulatorLatch r arg) s = .next t ∧ t.took r ∧
        ∀ n < 64, wwOn (s.winWord false n) = true → wwWin (s.winWord false n) = 3 → t.window false n = t.clearWindow false n) ∧
    (∀ r (n : Fin 64) (w : Nat), s.accepts r (ent 0x7200 (n.val + 1) .u32 w) (winCodes [(n.val + 1, w)]) →
      ∃ t, exec (.minmaxConfigWrite r n w) s = .next t ∧ t.took r ∧ t.objN 0x7200 (n.val + 1) = w % 2 ^ 32 ∧
        t.window true n = t.clearWindow true n) ∧
    (∀ r arg, s.accepts r (entArg 0x7201 .u8 arg) [] →
      ∃ t, exec (.minmaxLatch r arg) s = .next t ∧ t.took r ∧
        ∀ n < 64, wwOn (s.winWord true n) = true → wwWin (s.winWord true n) = 3 → t.window true n = t.clearWindow true n)

/-- The filter engine (R220, R222): rounds are counted, one that overruns clears every channel and the third such fault within 10 s stops
the engine, and an accepted write of `7.601` starts a channel with cleared state or stops it. -/
def Obligations.FilterRows : Prop :=
  ∀ s : State,
    (s.ana.filtStopped = false → ∃ t, exec .filterRound s = .next t ∧ t.ana.rounds = s.ana.rounds + 1) ∧
    (s.ana.filtStopped = false →
      ∃ t, exec .filterRoundOverrun s = .next t ∧ t.ana.filt = [] ∧
        (3 ≤ ((s.now :: s.ana.filtFaults).filter fun x => s.now < x + 10 * secP).length → t.ana.filtStopped = true)) ∧
    (∀ r (k : Fin 16), s.accepts r (ent 0x7601 (k.val + 1) .bool 1) (if s.filtRuns k then [] else s.filtStartCodes k) →
      ∃ t, exec (.filterChannelStart r k) s = .next t ∧ t.took r ∧ t.obj 0x7601 (k.val + 1) = 1 ∧
        (s.filtRuns k = false → t.filtCh k = filt0)) ∧
    (∀ r (k : Fin 16), s.accepts r (ent 0x7601 (k.val + 1) .bool 0) (s.filtStopCodes k) →
      ∃ t, exec (.filterChannelStop r k) s = .next t ∧ t.took r ∧ t.obj 0x7601 (k.val + 1) = 0 ∧ t.ana = s.ana)

/-! ### The Time Keeper (R227 ... R236) -/

/-- GNSS (R230): the first pulse is noted, a pulse within 1 µs of a last interval away counts as good and with eight of them and a known
time of day GNSS is locked, three absent pulses lose it, and a sentence that agrees gives the time of day. -/
def Obligations.GnssRows : Prop :=
  ∀ s : State,
    (∀ rising (fine : Fin 256), s.timeRuns = true → rising = (s.obj 0x2011 1 == 0) → s.time.ppsAt = none →
      ∃ t, exec (.ppsInEdge rising fine) s = .next t ∧ t.time.ppsAt = some (s.steps fine) ∧ t.time.ppsGood = 0 ∧
        t = { s with time := t.time }) ∧
    (∀ rising (fine : Fin 256) at_, s.timeRuns = true → rising = (s.obj 0x2011 1 == 0) → s.time.ppsAt = some at_ → 0 < s.time.ppsInt →
      (s.steps fine - at_ + s.time.ppsInt / 2) / s.time.ppsInt = 1 → s.time.ppsInt ≤ s.steps fine - at_ + us256 →
      s.steps fine - at_ ≤ s.time.ppsInt + us256 →
      ∃ t, exec (.ppsInEdge rising fine) s = .next t ∧ t.time.ppsAt = some (s.steps fine) ∧ t.time.ppsGood = s.time.ppsGood + 1 ∧
        t.time.gnss = (s.time.gnss || (decide (8 ≤ s.time.ppsGood + 1) && s.todKnown))) ∧
    (∀ at_, s.time.ppsAt = some at_ → s.time.gnss = true → at_ + 3 * s.time.ppsInt + us256 < s.steps 0 →
      ∃ t, exec .ppsMissing s = .next t ∧ t.time.gnss = false ∧ t.time.ppsAt = none) ∧
    (∀ (utc : Nat) at_, s.time.ppsAt = some at_ → s.timeRuns = true → s.obj 0x2011 3 = 1 → 100 * msP * 256 ≤ s.steps 0 - at_ →
      s.steps 0 - at_ ≤ 900 * msP * 256 → ((s.time.ppsNs : Int) - ((utc : Int) + s.obj 0x2011 5) * 1000000000).natAbs ≤ 1000 →
      ∃ t, exec (.zdaSentence true utc) s = .next t ∧ t.time.tod = true ∧ t.time.zda = none ∧ t = { s with time := t.time })

/-- PTP (R230, R234, R235): a first Announce of the port's domain is kept, with the rank FFFFh where it carries no Caminaent TLV, a two-step
Sync waits for its Follow_Up, a Delay_Req is answered by a master port outside 802.1AS, management messages are counted, a message of
another domain changes nothing, a master that falls silent is dropped, and a master port sends its Sync. -/
def Obligations.PtpRows : Prop :=
  ∀ (s : State) (p : Fin 2),
    (s.ptpOn p = true →
      (∀ ds tlv path, s.obj 0x2000 1 ≠ 1 → (s.time.ports.get p).best = none → (s.ptpProf p = 3 → path.contains clockIdent = false) →
        ∃ t, exec (.ptpMessageReceived p ⟨s.ptpDom p, .announce ds tlv path⟩) s = .next t ∧
          (t.time.ports.get p).best = some (if tlv then ds else { ds with rank := 0xFFFF }) ∧ (t.time.ports.get p).annAt = s.now) ∧
      (∀ seq, (s.time.ports.get p).st = 3 →
        ∃ t, exec (.ptpMessageReceived p ⟨s.ptpDom p, .sync seq none⟩) s = .next t ∧
          (t.time.ports.get p).sync2 = some (seq, s.rxStamp p, s.steps 0) ∧
          (t.time.ports.get p).syncAt = s.now ∧ t = { s with time := t.time }) ∧
      (∀ seq, (s.time.ports.get p).st = 2 → s.ptpProf p ≠ 3 →
        ∃ t, exec (.ptpMessageReceived p ⟨s.ptpDom p, .delayReq seq⟩) s = .next t ∧
          t = { s with out := s.out ++ [.ptp p.val (s.ptpProf p) (s.ptpDom p) 9 (toBE 2 seq ++ ptpTime (s.rxStamp p))] }) ∧
      (∃ t, exec (.ptpMessageReceived p ⟨s.ptpDom p, .management⟩) s = .next t ∧
        t = { s with time := { s.time with mgmt := s.time.mgmt + 1 } }) ∧
      ((s.time.ports.get p).st = 2 → (s.time.ports.get p).nextSync ≤ s.now →
        ∃ t, exec (.ptpTransmitInterval p) s = .next t ∧ (t.time.ports.get p).seqSync = ((s.time.ports.get p).seqSync + 1) % 65536 ∧
          (t.time.ports.get p).nextSync = s.now + log2Int (s.obj 0x2002 1) ∧
          .ptp p.val (s.ptpProf p) (s.ptpDom p) 0 (toBE 2 (s.time.ports.get p).seqSync) ∈ t.out)) ∧
    (∀ dom m, dom ≠ s.ptpDom p → ∃ t, exec (.ptpMessageReceived p ⟨dom, m⟩) s = .next t ∧ t = s) ∧
    ((s.time.ports.get p).best.isSome = true →
      (s.time.ports.get p).annAt + s.objN 0x2002 8 * log2Int (s.obj 0x2002 2) ≤ s.now →
      ∃ t, exec (.announceTimeout p) s = .next t ∧ (t.time.ports.get p).best = none ∧ (t.time.ports.get p).locked = false)

/-- The time service (R230, R231, R233, R236): holdover ends at its budget, the reference input is noted, time is set while no source is
locked, the service starts and stops, and a whole second moves on to the next. -/
def Obligations.TimeRows : Prop :=
  ∀ s : State,
    (s.time.st = 3 → s.objN 0x2030 1 ≤ s.holdBound → s.topSource = 0 →
      ∃ t, exec .holdoverBudgetExceeded s = .next t ∧ t.time.st = 0) ∧
    (∀ rate, ∃ t, exec (.ref10InChange rate) s = .next t ∧ t.time.ref10 = rate.isSome ∧
      ∀ x, rate = some x → s.time.st = 0 → s.obj 0x2011 6 = 1 → s.timeRuns = true → t.time.y = clampI (-maxRate) maxRate x) ∧
    (∀ r ns, s.accepts r (entArg 0x2005 .u64 ns) (when (s.inRun || s.time.st == 2) 0x0601) →
      ∃ t, exec (.setTime r ns) s = .next t ∧ t.took r ∧ t.timeNs = ns ∧ t.time.tod = true ∧ t.time.nextSec = ns / 1000000000 + 1) ∧
    (∀ r, s.accepts r (ent 0x2001 0 .bool 1) s.timeStartCodes →
      ∃ t, exec (.timeServiceStart r) s = .next t ∧ t.took r ∧ t.obj 0x2001 0 = 1 ∧ t.time.nextSec = s.timeNs / 1000000000 + 1) ∧
    (∀ r, s.accepts r (ent 0x2001 0 .bool 0) (when (s.life.st != .config && s.life.st != .service) 0x0601) →
      ∃ t, exec (.timeServiceStop r) s = .next t ∧ t.took r ∧ t.obj 0x2001 0 = 0 ∧ t.time.st = 0 ∧ t.time.src = 0 ∧
        t.time.gnss = false ∧ t.time.wofen = false ∧ t.scale = s.scale) ∧
    (s.time.nextSec * 1000000000 ≤ s.timeNs →
      ∃ t, exec .wholeSecond s = .next t ∧ t.time.nextSec = s.timeNs / 1000000000 + 1)

/-! ### The Wofen trigger bus (R237 ... R245) -/

/-- The packets of a master (R238, R239, R240, R243): cycles and frame events are numbered and follow each other at their period, a cycle
leaves at once where the line is free and no fixed packet is near, and a calibration begins with a roll call, in its turn, and ends
after 200 ms at the latest. -/
def Obligations.BusMasterRows : Prop :=
  ∀ s : State,
    (s.wof.role = 1 → s.wof.nextCyc ≤ s.now →
      ∃ t, exec .wofenCycle s = .next t ∧ t.wof.cyc = (s.wof.cyc + 1) % 2 ^ 24 ∧ t.wof.nextCyc = s.wof.nextCyc + 250 * usP ∧
        (s.wof.queue = [] → s.wof.calRun = none → s.wof.lineFree ≤ s.now → s.wtbFree = true →
          .wofen 0 (wofenPkt 2 0 s.busAddr t.wof.cyc) (wofenLine (wofenPkt 2 0 s.busAddr t.wof.cyc)) ∈ t.out)) ∧
    (s.sendsFrames = true → s.wof.nextFrame ≤ s.now →
      ∃ t, exec .wofenFrameEventSend s = .next t ∧ t.wof.fseq = (s.wof.fseq + 1) % 2 ^ 24 ∧
        t.wof.nextFrame = s.wof.nextFrame + s.objN 0x3010 0 * usP ∧
        .wofen 0 (wofenPkt 1 0 s.busAddr ((s.wof.fseq + 1) % 2 ^ 24)) (wofenLine (wofenPkt 1 0 s.busAddr ((s.wof.fseq + 1) % 2 ^ 24))) ∈ t.out) ∧
    (∀ r arg, s.accepts r (entArg 0x2102 .u8 arg) (when (s.wof.role != 1) 0x0601 ++ when s.wof.calRun.isSome 0x0701) →
      ∃ t, exec (.busCalibration r arg) s = .next t ∧ t.took r ∧ t.wof.calRun = some s.now ∧ t.wof.answers = [] ∧
        (s.wof.queue = [] → s.wof.lineFree ≤ s.now → s.wtbFree = true →
          .wofen 0 (wofenPkt 7 0 s.busAddr 0) (wofenLine (wofenPkt 7 0 s.busAddr 0)) ∈ t.out)) ∧
    (∀ at_, s.wof.recalAt = some at_ → s.wof.role = 1 → at_ ≤ s.now →
      ∃ t, exec .busRecalibrationTimer s = .next t ∧ t.wof.calRun = some s.now ∧ t.wof.recalAt = none ∧ t.wof.answers = []) ∧
    (∀ at_, s.wof.calRun = some at_ → s.wof.role = 1 → at_ + 200 * msP ≤ s.now →
      ∃ t, exec .busCalibrationDone s = .next t ∧ t.wof.calRun = none ∧ t.wof.calOk = true ∧ t.wof.calAt = s.now) ∧
    (∀ r, s.accepts r (ent 0x2101 0 .bool 1) [] →
      ∃ t, exec (.triggerBusStart r) s = .next t ∧ t.took r ∧ t.obj 0x2101 0 = 1 ∧ t.wof.role = s.objN 0x2100 1) ∧
    (∀ r, s.accepts r (ent 0x2101 0 .bool 0) (when (s.inRun && s.obj 0x3020 1 == 2) 0x0601) →
      ∃ t, exec (.triggerBusStop r) s = .next t ∧ t.took r ∧ t.obj 0x2101 0 = 0 ∧ t.wof.role = 0 ∧ t.time.wofen = false)

/-- The packets of a member (R230, R238, R239, R241, R244): a bad packet is counted, a good one ends the silence, one packet leaves in
the window of the part, two missing frame events fall back on the timer, three missing second marks lose the bus as a source, and
after 2 ms of silence delays no longer hold and a standby master takes over. -/
def Obligations.BusMemberRows : Prop :=
  ∀ s : State,
    (∀ aux o raw, s.wof.role ≠ 0 → wofenGood o = false → s.objN 0x2110 6 + 1 < 2 ^ 32 →
      ∃ t, exec (.wofenPacketReceived aux o raw) s = .next t ∧ t.objN 0x2110 6 = s.objN 0x2110 6 + 1 ∧ t.wof = s.wof) ∧
    (∀ o raw, 2 ≤ s.wof.role → wofenGood o = true →
      ∃ t, exec (.wofenPacketReceived false o raw) s = .next t ∧ t.wof.silentAt = s.now ∧
        (octAt o 2 / 16 = 2 → t.wof.winAt = if bit (octAt o 2 % 16) 0 then none else some s.now)) ∧
    (∀ o raw, s.wof.role = 1 → wofenGood o = true → octAt o 2 / 16 = 10 → s.wof.calRun.isSome = true →
      s.wof.answers.contains (octAt o 3) = false →
      ∃ t, exec (.wofenPacketReceived true o raw) s = .next t ∧ t.wof.answers = s.wof.answers ++ [octAt o 3]) ∧
    (∀ m c rest, s.wof.winAt = some m → 2 ≤ s.wof.role → m + 20 * usP + s.busAddr * 1400 ≤ s.now →
      s.now < m + 20 * usP + s.busAddr * 1400 + 1400 → s.wof.reqs = c :: rest →
      ∃ t, exec .wofenWindow s = .next t ∧ t.wof.reqs = rest ∧ t.wof.winAt = none ∧
        t.out = s.out ++ [.wofen 1 (wofenPkt 8 0 s.busAddr c) (wofenLine (wofenPkt 8 0 s.busAddr c))]) ∧
    (s.frm.active = true → s.obj 0x3020 1 = 2 → s.wof.onTimer = false → s.frm.start + 2 * s.objN 0x3010 0 * usP ≤ s.now →
      ∃ t, exec .wofenFrameEventLoss s = .next t ∧ t.wof = { s.wof with onTimer := true } ∧ t.frm = { s.frm with nextTimer := s.now }) ∧
    (∀ at_, s.time.markAt = some at_ → at_ + 3 * secP * 256 + us256 < s.steps 0 →
      ∃ t, exec .wofenSecondMarkLoss s = .next t ∧ t.time.wofen = false ∧ t.time.markAt = none) ∧
    (2 ≤ s.wof.role → s.wof.silentAt + 2 * msP ≤ s.now →
      ∃ t, exec .wtbSilence s = .next t ∧ t.wof.delay = 0 ∧ t.wof.silentAt = s.now ∧
        (s.wof.role = 3 → t.wof.role = 1 ∧ t.wof.calRun = some s.now) ∧ (s.wof.role ≠ 3 → t.wof.role = s.wof.role ∧ t.wof.calOk = false))

/-! ### Fleet code domains (R246 ... R251) -/

/-- The reference (R247, R248): a join or a renewal is answered with a grant of the index that the rule gives, held from then on for the
lease, a release frees the index for its former holder, and one not renewed is free 1 h after its lease ends.
A member (R249 ... R251): an accepted grant is loaded at once outside RUN, requests go out again each second without a grant and from
half the lease on with one, and a write of `2.210` takes effect. -/
def Obligations.FleetRows : Prop :=
  (∀ s : State,
     (∀ r ident prev i st, ident < 2 ^ 64 → prev < 2 ^ 16 → s.assign ident prev false = some (i, st) →
       s.accepts r (entBlob 0x2220 (joinOctets (s.objN 0x2210 1) ident prev 0)) (when (!s.isReference) 0x0601) → s.objN 0x2210 1 < 2 ^ 32 →
       s.portSends (2 + s.macFor (r.src / 65536)) = true →
       ∃ t, exec (.fleetJoin r (s.objN 0x2210 1) ident prev) s = .next t ∧ t.took r ∧
         (∃ x ∈ t.nv.fleetRows, x.index = i ∧ x.ident = ident ∧ x.held = true ∧ x.lease = s.now + s.objN 0x2210 6 * 3600 * secP) ∧
         s.fleetMsg 2 (r.src / 65536) 0x2201 (grantOctets (s.objN 0x2210 1) ident i (s.fleetSeed i) (s.objN 0x2210 6 * 60) st) ∈ t.out) ∧
     (∀ r ident prev i st, ident < 2 ^ 64 → prev < 2 ^ 16 → s.assign ident prev true = some (i, st) →
       s.accepts r (entBlob 0x2220 (joinOctets (s.objN 0x2210 1) ident prev 1)) (when (!s.isReference) 0x0601) → s.objN 0x2210 1 < 2 ^ 32 →
       s.portSends (2 + s.macFor (r.src / 65536)) = true →
       ∃ t, exec (.fleetRenew r (s.objN 0x2210 1) ident prev) s = .next t ∧ t.took r ∧
         (∃ x ∈ t.nv.fleetRows, x.index = i ∧ x.ident = ident ∧ x.held = true ∧ x.lease = s.now + s.objN 0x2210 6 * 3600 * secP) ∧
         s.fleetMsg 2 (r.src / 65536) 0x2201 (grantOctets (s.objN 0x2210 1) ident i (s.fleetSeed i) (s.objN 0x2210 6 * 60) st) ∈ t.out) ∧
     (∀ r ident prev x, ident < 2 ^ 64 → prev < 2 ^ 16 → s.heldBy ident = some x →
       s.accepts r (entBlob 0x2220 (joinOctets (s.objN 0x2210 1) ident prev 2)) (when (!s.isReference) 0x0601) → s.objN 0x2210 1 < 2 ^ 32 →
       s.portSends (2 + s.macFor (r.src / 65536)) = true →
       ∃ t, exec (.fleetRelease r (s.objN 0x2210 1) ident prev) s = .next t ∧ t.took r ∧
         { x with held := false, released := true } ∈ t.nv.fleetRows ∧ (∀ y ∈ t.nv.fleetRows, y.index = x.index → y.held = false) ∧
         s.fleetMsg 2 (r.src / 65536) 0x2201 (grantOctets (s.objN 0x2210 1) ident x.index 0 0 4) ∈ t.out) ∧
     (∀ (i : Fin 1024) x, s.nv.fleetRows.find? (fun x => x.held && x.index == i.val) = some x → s.isReference = true →
       x.lease + 3600 * secP ≤ s.now →
       ∃ t, exec (.fleetIndexExpiry i) s = .next t ∧ { x with held := false } ∈ t.nv.fleetRows ∧
         ∀ y ∈ t.nv.fleetRows, y.index = i → y.held = false)) ∧
  (∀ s : State,
     (∀ r o, s.accepts r (entBlob 0x2201 o) (s.grantCodes r o) → octAt o 22 ≤ 1 → s.inRun = false →
       ∃ t, exec (.fleetGrant r o) s = .next t ∧ t.took r ∧ t.fleet.st = 2 ∧ t.objN 0x2200 1 = fieldAt o 12 2 ∧
         t.fleet.lease = some (s.now + fieldAt o 20 2 * 60 * secP) ∧ t.nv.fleet = some (fieldAt o 12 2, fieldAt o 14 6)) ∧
     (s.obj 0x2210 1 ≠ 0 → s.fromConfig = true → s.fleet.lease = none → s.fleet.st = 1 ∨ s.fleet.st = 3 ∨ s.fleet.st = 4 →
       s.fleet.askAt + secP ≤ s.now → s.isReference = false → s.portSends (2 + s.macFor (s.objN 0x2210 3)) = true →
       ∃ t, exec .fleetJoinRetry s = .next t ∧ t.fleet.askAt = s.now ∧ t.fleet.asked = true ∧
         t.out = s.out ++ [s.fleetMsg 7 (s.objN 0x2210 3) 0x2220 (joinOctets (s.objN 0x2210 1) Config.deviceId
           (match s.nv.fleet with | some x => x.1 | none => 0xFFFF) 0)]) ∧
     (s.obj 0x2210 1 ≠ 0 → s.fromConfig = true → s.fleet.lease.isSome = true → s.fleet.renewAt ≤ s.now → s.isReference = false →
       s.portSends (2 + s.macFor (s.objN 0x2210 3)) = true →
       ∃ t, exec .fleetRenewTimer s = .next t ∧ t.fleet.renewAt = s.now + 60 * secP ∧
         t.out = s.out ++ [s.fleetMsg 7 (s.objN 0x2210 3) 0x2220 (joinOctets (s.objN 0x2210 1) Config.deviceId
           (match s.nv.fleet with | some x => x.1 | none => 0xFFFF) 1)]) ∧
     (∀ r el ty val row, Catalogue.find 0x2210 = some row → el ≠ 0 →
       s.accepts r { obj := 0x2210, el := el, ty := ty, val := val } (s.domainCodes (written row el val)) →
       ∃ t, exec (.fleetDomainWrite r el ty val) s = .next t ∧ t.took r ∧ t.obj 0x2210 el = row.ty.dec val))

/-! ### Subscriptions (R61, R62) -/

/-- A subscription is created, renewed or cancelled as its request asks, publishes at its interval, and is gone when its life has
passed. That a value never published counts as changed is the model's choice (log entry 21). -/
def Obligations.SubscriptionRows : Prop :=
  ∀ s : State,
    (∀ r obj el trig iv life mask, s.gate r = .served →
      let o := if trig = 4 then 0 else obj
      let e := if trig = 4 then 0 else el
      (firstAbort (s.subCodes r o e trig iv life) = 0 → s.subOf r o e trig = none → 0 < life →
        ∃ t, exec (.subscribe r obj el trig iv life mask) s = .next t ∧ t.took r ∧
          ∃ x ∈ t.tv.subs, x.obj = o ∧ x.el = e ∧ x.trig = trig ∧ x.interval = iv ∧ x.expiry = s.now + life * secP ∧
            x.port = r.port ∧ x.master = r.master) ∧
      (∀ x, firstAbort (s.subCodes r o e trig iv life) = 0 → s.subOf r o e trig = some x → 0 < life →
        ∃ t, exec (.subscribe r obj el trig iv life mask) s = .next t ∧ t.took r ∧
          { x with src := r.src, interval := iv, mask := mask, expiry := s.now + life * secP } ∈ t.tv.subs) ∧
      (∀ x, firstAbort (s.subCodes r o e trig iv life) = 0 → s.subOf r o e trig = some x → life = 0 →
        ∃ t, exec (.subscribe r obj el trig iv life mask) s = .next t ∧ t.took r ∧
          ∀ y, y ∈ t.tv.subs ↔ y ∈ s.tv.subs ∧ y.handle ≠ x.handle) ∧
      (firstAbort (s.subCodes r o e trig iv life) ≠ 0 →
        ∃ t, exec (.subscribe r obj el trig iv life mask) s = .next t ∧ t.tv.subs = s.tv.subs ∧
          t.refused r (firstAbort (s.subCodes r o e trig iv life)))) ∧
    (∀ h x, s.tv.subs.find? (fun x => x.handle == h) = some x → s.restarting = false → s.fromConfig = true →
      x.last + x.interval * msP ≤ s.now → (s.pubValue x).2.length ≤ 1444 → s.portSends x.port = true →
      x.trig = 2 ∨ (x.trig = 1 ∧ x.lastVal ≠ some (s.pubValue x).2) →
      ∃ t, exec (.publicationInterval h) s = .next t ∧
        { x with seq := (x.seq + 1) % 65536, last := s.now, lastVal := some (s.pubValue x).2 } ∈ t.tv.subs ∧
        t.out = (s.sendMsg x.port x.src 5 kPublish 0 x.master s.tv.txnNo 0 (toBE 2 x.handle ++ toBE 2 x.seq ++ toBE 4 s.frm.no ++
          addr3 x.obj x.el ++ toBE 1 (s.pubValue x).1 ++ (s.pubValue x).2)).out) ∧
    (∀ h, ∃ t, exec (.subscriptionLapse h) s = .next t ∧
      (∀ x, x ∈ t.tv.subs ↔ x ∈ s.tv.subs ∧ ¬(x.handle = h ∧ x.expiry ≤ s.now)) ∧ t = { s with tv := t.tv })

/-! ### The segmented capture engine (R253 ... R273) -/

/-- Capture starts and stops, and its segments are read and freed (R268, R271, R272): an accepted start arms from state 0 with its counts
at zero, a stop ends it, a segment selected is locked for its reader, a release or a clear frees its segments, and a descriptor whose
capture source is lost with the lock ends with status 07h. -/
def Obligations.CaptureCommands : Prop :=
  ∀ s : State,
    (∀ r, s.accepts r (ent 0xA001 0 .bool 1) s.capStartCodes →
      ∃ t, exec (.captureStart r) s = .next t ∧ t.took r ∧ t.capRuns = true ∧ t.obj 0xA001 0 = 1 ∧
        (s.capRuns = false → t.cap.state = 0 ∧ t.cap.counter = 0 ∧ t.cap.entered = s.capNow ∧ ∀ i < 12, t.obj 0xA020 (i + 1) = 0)) ∧
    (∀ r, s.accepts r (ent 0xA001 0 .bool 0) (when s.capOff 0x0601) →
      ∃ t, exec (.captureStop r) s = .next t ∧ t.took r ∧ t.capRuns = false ∧ t.obj 0xA001 0 = 0) ∧
    (∀ r i, s.accepts r (entArg 0xA300 .u16 i) (when s.capOff 0x0601 ++ when ((s.seg i).st != 3) 0x0401) →
      ∃ t, exec (.segmentSelect r i) s = .next t ∧ t.took r ∧
        ((∀ h ∈ s.dma.holds, 4 < h.1) → t.cap = { s.cap with lock := some i, readAt := s.now })) ∧
    (s.cap.lock.isSome = true → s.cap.readAt + 60 * secP ≤ s.now →
      ∃ t, exec .segmentLockExpiry s = .next t ∧ ((∀ h ∈ s.dma.holds, 4 < h.1) → t.cap = { s.cap with lock := none }) ∧ t.cap.lock = none ∧
        ∀ c, (s.dmaCh c).st = 1 ∨ (s.dmaCh c).st = 2 → srcRegion (dSrc (s.dmaCh c).image) (dLen (s.dmaCh c).image) = .capture →
          (t.dmaCh c).st = 3 ∧ (t.dmaCh c).last = 7) ∧
    (∀ r i, s.accepts r (entArg 0xA304 .u16 i) (when s.capOff 0x0601 ++ when ((s.seg i).st != 3) 0x0401) →
      ∃ t, exec (.segmentRelease r i) s = .next t ∧ t.took r ∧ t.seg i = seg0 ∧ t.cap.lock ≠ some i ∧
        ((∀ h ∈ s.dma.holds, 4 < h.1) → ∀ k, k ≠ i → t.seg k = s.seg k)) ∧
    (∀ r arg, s.accepts r (entArg 0xA305 .u8 arg) (when s.capOff 0x0601 ++ when s.capRuns 0x0401) →
      ∃ t, exec (.captureClear r arg) s = .next t ∧ t.took r ∧ t.cap.segs = [] ∧ t.cap.lock = none ∧
        ((∀ h ∈ s.dma.holds, 4 < h.1) → t.cap = { s.cap with segs := [], lock := none }))

/-- Records and the trigger sequencer (R254, R257, R258, R261 ... R265): a record of a selected source, the oldest on its way, is written
while a token is there, an occurrence that fulfils the condition, none earlier on its way, counts at its own time and makes transition 1, the timer makes transition
2, and the time limit closes a segment. That only occurrences some state watches are on their way is the model's choice (log entry 76).
Occurrences that come as rows of their own are not taken twice: a host trigger, a logged event and a relay have no effect as a
condition occurrence (the model's choice, log entry 2). -/
def Obligations.CaptureRows : Prop :=
  (∀ s : State, s.cap.wait = [] →
     (4 ≤ min 4096 (s.cap.tok4 + (s.now - s.cap.tokAt)) → s.cap.st = 2 → (s.seg s.cap.use).size + 1 < s.segRecs →
       (∀ unit at_ data bad, data % 16 = 3 ∨ data % 16 = 4 → s.capSelected 2 unit data = true →
         (∀ r ∈ s.cap.bus, r.1 = 2 → at_ * 256 ≤ r.2.2.1) →
         ∃ t, exec (.captureRecord 2 unit at_ ⟨data, bad⟩) s = .next t ∧
           (t.seg s.cap.use).recs = capRec 2 unit (at_ * 256) data bad :: (s.seg s.cap.use).recs ∧ t.cap.st = 2) ∧
       (∀ src unit at_ data bad x, ¬(src = 2 ∧ (data % 16 = 3 ∨ data % 16 = 4)) → s.capFront src unit = some x →
         s.capSelected src unit x.2.2.2 = true → (∀ r ∈ s.cap.bus, r.1 = src → x.2.2.1 ≤ r.2.2.1) →
         ∃ t, exec (.captureRecord src unit at_ ⟨data, bad⟩) s = .next t ∧
           (t.seg s.cap.use).recs = capRec src unit x.2.2.1 x.2.2.2 bad :: (s.seg s.cap.use).recs ∧ t.cap.st = 2 ∧
           t.cap.bus = s.cap.bus.erase x)) ∧
     (s.capRuns = true → s.cap.st ≠ 3 → s.timerDue = none →
       (∀ at_ o x, (∀ c, o ≠ .event c) → (∀ c, o ≠ .relay c) → o ≠ .host → (∀ ch, o ≠ .edge ch 3 ∧ o ≠ .edge ch 4) →
         s.cap.occs.find? (fun y => y.2 == o) = some x → s.cap.entered ≤ x.1 → s.occAhead x.1 = false →
         occMatches o (s.seqWord 1) (fun i => s.obj 0xA010 (i + 1)) (fun i => s.obj 0xA011 (i + 1)) = true →
         (s.seqWord 2 = 0 ∨ s.cap.counter + 1 < s.seqWord 2 →
           ∃ t, exec (.triggerConditionOccurrence at_ o) s = .next t ∧
             t.cap = { s.cap with occs := s.cap.occs.erase x, counter := s.cap.counter + 1 }) ∧
         (s.seqWord 2 ≠ 0 → s.seqWord 2 ≤ s.cap.counter + 1 →
           ∃ t, exec (.triggerConditionOccurrence at_ o) s = .next t ∧ t.cap.state = bits (s.seqWord 4) 13 3 ∧ t.cap.counter = 0 ∧
             t.cap.entered = x.1)) ∧
       (∀ at_ ch k, k = 3 ∨ k = 4 → s.cap.entered ≤ at_ * 256 → s.occAhead (at_ * 256) = false →
         occMatches (.edge ch k) (s.seqWord 1) (fun i => s.obj 0xA010 (i + 1)) (fun i => s.obj 0xA011 (i + 1)) = true →
         (s.seqWord 2 = 0 ∨ s.cap.counter + 1 < s.seqWord 2 →
           ∃ t, exec (.triggerConditionOccurrence at_ (.edge ch k)) s = .next t ∧ t.cap = { s.cap with counter := s.cap.counter + 1 }) ∧
         (s.seqWord 2 ≠ 0 → s.seqWord 2 ≤ s.cap.counter + 1 →
           ∃ t, exec (.triggerConditionOccurrence at_ (.edge ch k)) s = .next t ∧ t.cap.state = bits (s.seqWord 4) 13 3 ∧
             t.cap.counter = 0 ∧ t.cap.entered = at_ * 256))) ∧
     (∀ r arg, s.accepts r (entArg 0xA102 .u8 arg) [] → s.capRuns = true → s.cap.st ≠ 3 → s.cap.entered ≤ s.capNow → s.occAhead s.capNow = false → s.timerDue = none →
       s.seqWord 1 / 2 ^ 24 = 10 → s.seqWord 2 ≠ 0 → s.seqWord 2 ≤ s.cap.counter + 1 →
       ∃ t, exec (.hostTrigger r arg) s = .next t ∧ t.took r ∧ t.cap.state = bits (s.seqWord 4) 13 3 ∧ t.cap.counter = 0 ∧
         t.cap.entered = s.capNow) ∧
     (∀ d, s.timerDue = some d → s.capRuns = true → s.cap.st ≠ 3 → d + 200 * 65536 ≤ s.capNow →
       ∃ t, exec .triggerSequencerTimer s = .next t ∧ t.cap.state = bits (s.seqWord 4) 5 3 ∧ t.cap.counter = 0 ∧ t.cap.entered = d) ∧
     (∀ x p, (s.seg s.cap.use).trig = some (x, p) → s.cap.st = 2 → p + s.objN 0xA000 6 * msP ≤ s.now →
       ∃ t, exec .segmentTimeLimit s = .next t ∧ (t.seg s.cap.use).st = 3 ∧ (t.seg s.cap.use).recs = (s.seg s.cap.use).recs ∧
         bit (t.seg s.cap.use).flags 4 = true)) ∧
  (∀ (s : State) (at_ c : Nat), exec (.triggerConditionOccurrence at_ .host) s = .next s ∧
     exec (.triggerConditionOccurrence at_ (.event c)) s = .next s ∧ exec (.triggerConditionOccurrence at_ (.relay c)) s = .next s)

/-! ### The DMA engine (R285 ... R295) -/

/-- Writes to the engine and a read of its completion queue (R287, R288, R291, R294, R295): descriptors and buffer octets land at their
pointer and nowhere else, a started channel executes its first descriptor or halts with the status of the check that fails, a disabled
one is idle, and a read takes the 90 oldest records. -/
def Obligations.DmaCommands : Prop :=
  ∀ s : State,
    (∀ r o, s.accepts r (entBlob 0x5202 o) (s.descCodes o) →
      ∃ t, exec (.descriptorWrite r o) s = .next t ∧ t.took r ∧ t.dma = { s.dma with desc := memPut s.dma.desc (32 * s.objN 0x5201 0) o } ∧
        t.objN 0x5201 0 = (s.objN 0x5201 0 + o.length / 32) % 1024) ∧
    (∀ r o, s.accepts r (entBlob 0x5221 o) (s.bufCodes o) →
      ∃ t, exec (.dmaBufferWrite r o) s = .next t ∧ t.took r ∧ t.dma = { s.dma with buf := memPut s.dma.buf (s.objN 0x5220 0) o } ∧
        t.objN 0x5220 0 = (s.objN 0x5220 0 + o.length) % 524288) ∧
    (∀ r (c : Fin 32) retry first, retry < 8 → first < 65536 → (s.dmaCh c).st = 0 ∨ (s.dmaCh c).st = 3 →
      s.accepts r { ent 0x5200 (c.val + 1) .u32 (goWord retry first) with val := toBE 4 (goWord retry first) }
        (s.dmaWordCodes c (goWord retry first)) →
      ∃ t, exec (.dmaChannelStart r c retry first) s = .next t ∧ t.took r ∧ (t.dmaCh c).desc = first ∧
        (t.dmaCh c).image = memGet s.dma.desc (32 * first) 32 ∧
        (s.descCheck (memGet s.dma.desc (32 * first) 32) ≠ 0 →
          (t.dmaCh c).st = 3 ∧ (t.dmaCh c).last = s.descCheck (memGet s.dma.desc (32 * first) 32)) ∧
        (s.descCheck (memGet s.dma.desc (32 * first) 32) = 0 → (t.dmaCh c).st = 1 ∨ (t.dmaCh c).st = 2)) ∧
    (∀ r (c : Fin 32), s.accepts r (ent 0x5200 (c.val + 1) .u32 (clrBit (clrBit (s.objN 0x5200 (c.val + 1)) 31) 30))
        (s.dmaWordCodes c (clrBit (clrBit (s.objN 0x5200 (c.val + 1)) 31) 30)) →
      ∃ t, exec (.dmaChannelDisable r c) s = .next t ∧ t.took r ∧ (t.dmaCh c).st = 0 ∧
        ((s.dmaCh c).st = 1 ∨ (s.dmaCh c).st = 2 → (t.dmaCh c).last = 5)) ∧
    (∀ r, s.gate r = .served →
      ∃ t, exec (.completionQueueRead r) s = .next t ∧ t.took r ∧ t.dma = { s.dma with recs := s.dma.recs.drop 90 } ∧
        ∃ x ∈ t.tv.stored, x.req = r ∧ x.body = addr3 0x5210 0 ++ toBE 1 0x0C ++ (s.dma.recs.take 90).flatten)

/-- The engine at work (R285, R288 ... R290, R292): a burst moves up to 32 octets of the next active channel and passes the turn on, a bus
error is retried at once up to the channel's count and halts it after that, a reservation that waits 100 ms fails, and a held power-down ends
after 100 µs. -/
def Obligations.DmaEngine : Prop :=
  ∀ s : State,
    (∀ c err, s.dmaNext = some c → 16 ≤ min 1024 (s.dma.tok + 5 * (s.now - s.dma.tokAt)) →
      ∃ t, exec (.dmaBurst err) s = .next t ∧ t.dma.tok = min 1024 (s.dma.tok + 5 * (s.now - s.dma.tokAt)) - 16 ∧
        (err = false → s.burstFails (s.dmaCh c) = false → t.dma.next = (c.val + 1) % 32) ∧
        (err = true → srcRegion (dSrc (s.dmaCh c).image) (dLen (s.dmaCh c).image) ≠ .capture →
          (s.dmaCh c).retries < bits (s.objN 0x5200 (c.val + 1)) 16 3 →
          t.dma.next = c.val ∧ (t.dmaCh c).retries = (s.dmaCh c).retries + 1)) ∧
    (∀ c, s.dmaNext = some c → 16 ≤ min 1024 (s.dma.tok + 5 * (s.now - s.dma.tokAt)) →
      srcRegion (dSrc (s.dmaCh c).image) (dLen (s.dmaCh c).image) = .buffer →
      dstRegion (dDst (s.dmaCh c).image) (dLen (s.dmaCh c).image) = .buffer →
      (s.dmaCh c).moved + 32 < dLen (s.dmaCh c).image →
      ∃ t, exec (.dmaBurst false) s = .next t ∧ (t.dmaCh c).moved = (s.dmaCh c).moved + 32 ∧
        t.dma.buf = memPut s.dma.buf (dDst (s.dmaCh c).image - 0x20000000 + (s.dmaCh c).moved)
          (memGet s.dma.buf (dSrc (s.dmaCh c).image + (s.dmaCh c).moved - 0x20000000) 32)) ∧
    (∀ c : Fin 32, s.dmaActive c = true → 16 ≤ min 1024 (s.dma.tok + 5 * (s.now - s.dma.tokAt)) → srcRegion (dSrc (s.dmaCh c).image) (dLen (s.dmaCh c).image) = .nor →
      (∃ t, exec (.xspiReadTimeout c) s = .next t ∧
        ((s.dmaCh c).retries < bits (s.objN 0x5200 (c.val + 1)) 16 3 →
          (t.dmaCh c).retries = (s.dmaCh c).retries + 1 ∧ (t.dmaCh c).st = 1) ∧
        (bits (s.objN 0x5200 (c.val + 1)) 16 3 ≤ (s.dmaCh c).retries → (t.dmaCh c).st = 3 ∧ (t.dmaCh c).last = 3))) ∧
    (∀ c : Fin 32, (s.dmaCh c).st = 2 → (s.dmaCh c).waitSince + 100 * msP ≤ s.now →
      ∃ t, exec (.dmaReservationTimeout c) s = .next t ∧ (t.dmaCh c).st = 3 ∧ (t.dmaCh c).last = 6) ∧
    (∀ (d : Fin 7) h, h ∈ s.dma.holds → h.1 = d.val → h.2 + 100 * usP ≤ s.now →
      ∃ t, exec (.dmaHoldLimit d) s = .next t ∧ t.obj 0x8101 (domEl d) = 0 ∧ ∀ k ∈ t.dma.holds, k.1 ≠ d.val)

/-! ### The serial links (R297 ... R319) -/

/-- Starting, stopping and training (R302, R303, R314, R316): an accepted start begins bring-up and a stop ends everything, the PLL lock
begins training, 20 ms of training without a good lane begin anew and with one bring the link up in a new epoch, a lost clock in mode 0
and a silent back lane take it down.
Rounds and times of a link (R297, R300, R307, R314): a DESKEW round is numbered, an Ingot is flushed with the records it has, and a lane
without DONE for 20 ms counts as a retrain. -/
def Obligations.LinkStateRows : Prop :=
  (∀ (s : State) (l : Fin 2),
     (∀ r, s.accepts r (ent (lkRun l) 0 .bool 1) (s.linkStartCodes l) →
       ∃ t, exec (.linkStart r l) s = .next t ∧ t.took r ∧ t.obj (lkRun l) 0 = 1 ∧
         ((s.link l).st = 0 → (t.link l).st = 1 ∧ (t.link l).pll = false ∧ (t.link l).sent = [] ∧ (t.link l).replay = [])) ∧
     (∀ r, s.accepts r (ent (lkRun l) 0 .bool 0) (when (s.obj 0x8101 (7 + l.val) != 1) 0x0601) →
       ∃ t, exec (.linkStop r l) s = .next t ∧ t.took r ∧ t.obj (lkRun l) 0 = 0 ∧
         ((s.link l).st ≠ 5 → (t.link l).st = 0) ∧ ((s.link l).st ≠ 0 → (s.link l).st ≠ 5 → (t.link l).sent = [] ∧ (t.link l).replay = [])) ∧
     ((s.link l).st = 1 ∨ (s.link l).st = 3 → (s.link l).pll = false →
       ∃ t, exec (.linkPllLocked l) s = .next t ∧ (t.link l).pll = true ∧ (t.link l).trainAt = s.now ∧ (t.link l).st = (s.link l).st) ∧
     ((s.link l).st = 1 ∨ (s.link l).st = 3 → (s.link l).pll = true → (s.link l).trainAt + 20 * msP ≤ s.now →
       ((∀ i, s.inMask l i = true → ((s.link l).lane i).good = false) →
         ∃ t, exec (.trainingTimeout l) s = .next t ∧ (t.link l).trainAt = s.now ∧ (t.link l).st = (s.link l).st) ∧
       ((∃ i, s.inMask l i = true ∧ ((s.link l).lane i).good = true) →
         ∃ t, exec (.trainingTimeout l) s = .next t ∧ (t.link l).st = 2 ∧ (t.link l).epoch = ((s.link l).epoch + 1) % 65536)) ∧
     (∀ ref, s.objN (lkCfg l) 3 = 0 → (s.link l).common = false → (s.link l).st = 1 ∨ (s.link l).st = 2 ∨ (s.link l).st = 3 →
       ∃ t, exec (.clockLaneDriverFault l ref) s = .next t ∧ (t.link l).st = 3 ∧ (t.link l).common = ref) ∧
     ((s.link l).st = 2 → (s.link l).bkLast + msP ≤ s.now →
       ∃ t, exec (.backLaneSilent l) s = .next t ∧ (t.link l).st = 3 ∧ (t.link l).sent = [] ∧ (t.link l).width = 0)) ∧
  (∀ (s : State) (l : Fin 2),
     ((s.link l).st = 2 → 2 * 16384 * 6600 ≤ (s.now - (s.link l).rounds) * 5 * laneRate (s.objN (lkCfg l) 1) →
       ∃ t, exec (.deskewRound l) s = .next t ∧ (t.link l).deskew = ((s.link l).deskew + 1) % 65536 ∧ (t.link l).rounds = s.now) ∧
     (∀ h at_, ((s.link l).inHand.filter fun x => x.frame == h.frame) = [h] → h.firstAt = some at_ → h.reserved = true →
       s.objN (lkCfg l) 5 ≠ 0 → at_ + s.objN (lkCfg l) 5 * usP ≤ s.now →
       ∃ t, exec (.ingotFlush l) s = .next t ∧ ∃ x ∈ (t.link l).inHand, x.frame = h.frame ∧ x.iseq = h.iseq + 1 ∧ x.recs = [] ∧
         x.total = h.total + h.recs.length ∧ x.firstAt = none) ∧
     (∀ i, (s.link l).st = 2 → ((s.link l).lane i).st = 2 → ((s.link l).lane i).since + 20 * msP ≤ s.now →
       (((((s.link l).lane i).retrains.filter fun x => s.now ≤ x + 60 * secP).length < 4 →
         ∃ t, exec (.laneRetrainTimeout l i) s = .next t ∧ ((t.link l).lane i).good = false ∧
           ((t.link l).lane i).retrains = s.now :: (((s.link l).lane i).retrains.filter fun x => s.now ≤ x + 60 * secP)) ∧
       (4 ≤ (((s.link l).lane i).retrains.filter fun x => s.now ≤ x + 60 * secP).length →
         ∃ t, exec (.laneRetrainTimeout l i) s = .next t ∧ ((t.link l).lane i).st = 3))))

/-- Blocks of the back lane (R301, R302, R304, R305, R314): each valid block restarts the silence timer, LANE LOCK and DONE advance a lane's
training, ADJUST moves one tap by one step or reports the limit, RETRAIN takes a lane out, SIDE carries octets, of which a frame with
a bad CRC is counted, and an invalid block is counted.
Invalid sync headers (R304): on a link that has power and is not stopped the block counts as invalid, and the sixteenth within 64 unlocks
the back lane. -/
def Obligations.BackLaneRows : Prop :=
  (∀ (s : State) (l : Fin 2), s.backLocked l = true →
     (∃ t, exec (.backLaneIdle l) s = .next t ∧ (t.link l).bkLast = s.now ∧ t = { s with links := t.links }) ∧
     (∀ i, (s.link l).pll = true → ((s.link l).lane i).st = 2 →
       ∃ t, exec (.laneLock l i) s = .next t ∧ ((t.link l).lane i).locked = true ∧ t = { s with links := t.links }) ∧
     (∀ i (tap : Fin 3) up p m q, (s.link l).pll = true → ((s.link l).lane i).st = 2 →
       (p, m, q) = ((s.link l).lane i).stepTap tap up →
       (((s.link l).lane i).canStep tap up = true → tapsOk p m q = true →
         ∃ t, exec (.laneAdjust l i tap up) s = .next t ∧ ((t.link l).lane i).pre = p ∧ ((t.link l).lane i).main = m ∧
           ((t.link l).lane i).post = q ∧ ((t.link l).lane i).tstate = 2) ∧
       (((s.link l).lane i).canStep tap up = false ∨ tapsOk p m q = false →
         ∃ t, exec (.laneAdjust l i tap up) s = .next t ∧ ((t.link l).lane i).pre = ((s.link l).lane i).pre ∧
           ((t.link l).lane i).main = ((s.link l).lane i).main ∧ ((t.link l).lane i).post = ((s.link l).lane i).post ∧
           ((t.link l).lane i).tstate = 3)) ∧
     (∀ i, (s.link l).pll = true → ((s.link l).lane i).st = 2 →
       ∃ t, exec (.laneDone l i) s = .next t ∧ ((t.link l).lane i).good = true) ∧
     (∀ i, (s.link l).st = 2 → (s.link l).pll = true → ((s.link l).lane i).st ≤ 2 →
       (((((s.link l).lane i).retrains.filter fun x => s.now ≤ x + 60 * secP).length < 4 →
         ∃ t, exec (.laneRetrain l i) s = .next t ∧ ((t.link l).lane i).good = false ∧
           ((t.link l).lane i).retrains = s.now :: (((s.link l).lane i).retrains.filter fun x => s.now ≤ x + 60 * secP)) ∧
       (4 ≤ (((s.link l).lane i).retrains.filter fun x => s.now ≤ x + 60 * secP).length →
         ∃ t, exec (.laneRetrain l i) s = .next t ∧ ((t.link l).lane i).st = 3 ∧ ((t.link l).lane i).good = false))) ∧
     (∀ ref errs, (∀ i : Fin 4, errs.getD i.val 0 % 4096 = 0) →
       ∃ t, exec (.backLaneStatus l false ref errs) s = .next t ∧ (t.link l).bkLast = s.now ∧ (t.link l).st = (s.link l).st) ∧
     (∀ o, 0x7E ∉ (s.link l).sideRx → 0x7E ∉ o → o.length ≤ 6 →
       ∃ t, exec (.backLaneSide l o) s = .next t ∧ (t.link l).sideRx = (s.link l).sideRx ++ o ∧ t = { s with links := t.links }) ∧
     (∀ f o, 0x7E ∉ f → f ≠ [] → o.length ≤ 6 → (s.link l).sideRx ++ o = f ++ [0x7E] → 0x7E ∉ (s.link l).sideRx →
       crc16 ((unescape f).take ((unescape f).length - 2)) ≠ fieldAt (unescape f) ((unescape f).length - 2) 2 → s.objN 0x1030 2 + 1 < 2 ^ 32 →
       ∃ t, exec (.backLaneSide l o) s = .next t ∧ (t.link l).sideRx = [] ∧ t.objN 0x1030 2 = s.objN 0x1030 2 + 1) ∧
     (s.objN (lkCnt l) 8 + 1 < 2 ^ 32 →
       ∃ t, exec (.backLaneInvalidBlock l) s = .next t ∧ t.objN (lkCnt l) 8 = s.objN (lkCnt l) 8 + 1)) ∧
  (∀ (s : State) (l : Fin 2),
     ∃ t, exec (.backLaneInvalidSyncHeader l) s = .next t ∧ t = { s with links := t.links } ∧ (s.backOn l = false → t = s) ∧
       (s.backOn l = true → (s.link l).bkLocked = true → 16 ≤ (((false :: (s.link l).bkBits).take 64).filter fun x => !x).length → (t.link l).bkLocked = false) ∧
       (s.backOn l = true → (s.link l).bkLocked = true → (((false :: (s.link l).bkBits).take 64).filter fun x => !x).length < 16 →
         (t.link l).bkLocked = true ∧ (t.link l).bkBits = (false :: (s.link l).bkBits).take 64) ∧
       ((s.link l).bkLocked = false → (t.link l).bkLocked = false))

/-- Packets, acknowledgement and replay (R304, R310 ... R312): the next packet leaves under the next sequence where credit allows it, an ACK
releases every packet up to its own, a NAK those before it and replays the rest, a replay timeout replays from the oldest and the fourth
in a row takes the link down. -/
def Obligations.LinkPackets : Prop :=
  ∀ (s : State) (l : Fin 2),
    (∀ bad p, (s.link l).st = 2 → (s.link l).replay = [] → s.front l false = some p → s.front l true = none →
      (s.link l).allows p.units = true →
      ∃ t, exec (.linkPacketSend l bad) s = .next t ∧ (t.link l).sent = (s.link l).sent ++ [{ p with seq := (s.link l).nextSeq }] ∧
        (t.link l).nextSeq = ((s.link l).nextSeq + 1) % 65536 ∧ (t.link l).unitsSent = (s.link l).unitsSent + p.units ∧
        (t.queue (streamQ l)).r = qNext (s.queue (streamQ l)).r) ∧
    (∀ bad p, (s.link l).st = 2 → (s.link l).replay = [] → s.front l false = none → s.front l true = some p →
      (s.link l).allows p.units = true →
      ∃ t, exec (.linkPacketSend l bad) s = .next t ∧ (t.link l).sent = (s.link l).sent ++ [{ p with seq := (s.link l).nextSeq }] ∧
        (t.queue (bulkQ l)).r = qNext (s.queue (bulkQ l)).r) ∧
    (∀ bad p x rest, (s.link l).st = 2 → (s.link l).replay = p :: rest →
      (s.link l).sent.find? (fun x => x.bulk == p.bulk && x.pos == p.pos) = some x →
      ∃ t, exec (.linkPacketSend l bad) s = .next t ∧ (t.link l).replay = rest ∧ (t.link l).sent = (s.link l).sent) ∧
    (∀ seq grant i, s.backLocked l = true → (s.link l).st = 2 → (s.link l).sent.findIdx? (fun p => p.seq == seq % 65536) = some i →
      ∃ t, exec (.backLaneAck l seq grant) s = .next t ∧ (t.link l).sent = (s.link l).sent.drop (i + 1) ∧
        (t.link l).grant = grant % 65536) ∧
    (∀ seq grant i, s.backLocked l = true → (s.link l).st = 2 → (s.link l).sent.findIdx? (fun p => p.seq == seq % 65536) = some i →
      ∃ t later, exec (.backLaneNak l seq grant) s = .next t ∧ (t.link l).sent = (s.link l).sent.drop i ∧
        (t.link l).grant = grant % 65536 ∧ (t.link l).replay = (s.link l).sent.drop i ++ later) ∧
    ((s.link l).st = 2 → (s.link l).sent ≠ [] → (s.link l).progAt + s.objN (lkCfg l) 6 * usP ≤ s.now →
      ((s.link l).timeouts < 3 →
        ∃ t later, exec (.replayTimeout l) s = .next t ∧ (t.link l).timeouts = (s.link l).timeouts + 1 ∧ (t.link l).progAt = s.now ∧
          (t.link l).replay = (s.link l).sent ++ later) ∧
      (3 ≤ (s.link l).timeouts → ∃ t, exec (.replayTimeout l) s = .next t ∧ (t.link l).st = 3 ∧ (t.link l).sent = []))

/-! ### Reads, writes, transactions and leases (R48 ... R60, R69, R70) -/

/-- Reads (R48, R49, R50): a read that passes its checks is answered with the address, the type and the value, element 02 of a 64-bit pair
with the half latched for its reader, and one that fails with its code. -/
def Obligations.ReadRows : Prop :=
  ∀ (s : State) (r : Req) (obj el : Nat) (whole : Bool), s.gate r = .served → ¬(obj = 0x5210 ∧ el = 0) →
    (∀ row, Catalogue.find obj = some row → firstAbort (s.readCodes obj el) = 0 → ¬(latches obj = true ∧ el = 2) →
      (s.readValue row obj el whole).2.length ≤ 1452 →
      ∃ t, exec (.read r obj el whole) s = .next t ∧ (obj ≠ 0xA303 → t.dict = s.dict) ∧
        ∃ x ∈ t.tv.stored, x.req = r ∧ x.abort = 0 ∧
          x.body = addr3 obj el ++ toBE 1 (s.readValue row obj el whole).1 ++ (s.readValue row obj el whole).2) ∧
    (∀ hi, latches obj = true → el = 2 → firstAbort (s.readCodes obj el) = 0 → s.snapOf r obj = some hi →
      ∃ t, exec (.read r obj el whole) s = .next t ∧
        ∃ x ∈ t.tv.stored, x.req = r ∧ x.abort = 0 ∧ x.body = addr3 obj el ++ toBE 1 Ty.u32.code ++ toBE 4 hi) ∧
    (firstAbort (s.readCodes obj el) ≠ 0 →
      ∃ t, exec (.read r obj el whole) s = .next t ∧ t.refused r (firstAbort (s.readCodes obj el)) ∧
        t = { s with tv := t.tv, out := t.out, sideTx := t.sideTx })

/-- Writes (R15, R50, R51): an accepted write of a setting stores it at once, or leaves it pending until a Landing, and changes no other
value; a refused write changes nothing and is answered with the code of the first check that fails.
Transactions (R59, R60): all entries or none: one whose entries all pass is answered with status 0 and every LND entry is pending; the
first entry that fails refuses the whole with its code and its index, and nothing is changed (a refused load of microcode
logs its event beside, R194). -/
def Obligations.WriteRows : Prop :=
  (∀ (s : State) (r : Req) (e : Entry) (row : Row), Catalogue.find e.obj = some row → row.acc ≠ .wo →
     (∀ lo hi mult, row.shape ≠ .octets lo hi mult) →
     (plainSetting e.obj = true → s.accepts r e (s.ownCodes r e) →
       (row.app ≠ .lnd →
         ∃ t, exec (.write r e) s = .next t ∧ t.took r ∧ (∀ m ∈ written row e.el e.val, m.1 < 65536 → t.obj e.obj m.1 = m.2) ∧
           (∀ o el, (o ≠ e.obj ∨ ∀ m ∈ written row e.el e.val, m.1 % 65536 ≠ el % 65536) → t.obj o el = s.obj o el) ∧
           t = { s with tv := t.tv, out := t.out, sideTx := t.sideTx, dict := t.dict }) ∧
       (row.app = .lnd →
         ∃ t, exec (.write r e) s = .next t ∧ t.took r ∧
           (∀ m ∈ written row e.el e.val, ∃ p ∈ t.tv.pend, p.obj = e.obj ∧ p.el = m.1 ∧ p.val = m.2) ∧
           t = { s with tv := t.tv, out := t.out, sideTx := t.sideTx })) ∧
     (∀ ab, ab = firstAbort (s.writeCodes r e ++ s.ownCodes r e) → plainSetting e.obj = true → s.gate r = .served →
       ab ≠ 0 → ab ≠ 0x0403 → ab ≠ 0x0701 →
       ∃ t, exec (.write r e) s = .next t ∧ t.refused r ab ∧ t = { s with tv := t.tv, out := t.out, sideTx := t.sideTx })) ∧
  (∀ (s : State) (r : Req) (es : List Entry), s.gate r = .served → es ≠ [] → es.length ≤ 32 → bodyOf es ≤ 1456 →
     ((∀ e ∈ es, plainSetting e.obj = true ∧ ∃ row, Catalogue.find e.obj = some row ∧ row.acc ≠ .wo ∧ row.app = .lnd ∧
         ∀ lo hi mult, row.shape ≠ .octets lo hi mult) →
       s.firstBad r 0 es = none → s.setBad r es 0 = none → s.setBad r es 1 = none →
       ∃ t, exec (.multiObjectTransaction r es) s = .next t ∧ t.refused r 0 ∧ t.dict = s.dict ∧
         ∀ e ∈ es, ∀ m ∈ entryWrites e, ∃ p ∈ t.tv.pend, p.obj = e.obj ∧ p.el = m.2.1) ∧
     (∀ i ab e, s.firstBad r 0 es = some (i, ab, e) → ab ≠ 0x0403 → ab ≠ 0x0701 → (e.obj ≠ 0x4202 ∨ ab ≠ 0x0601) →
       ∃ t, exec (.multiObjectTransaction r es) s = .next t ∧
         (∃ x ∈ t.tv.stored, x.req = r ∧ x.abort = ab ∧ x.body = oct [i]) ∧ t = { s with tv := t.tv, out := t.out, sideTx := t.sideTx }))

/-- Leases (R54 ... R56): an accepted acquisition or renewal holds the area for its master until the timeout has passed, a release and the
timeout free it. -/
def Obligations.LeaseRows : Prop :=
  ∀ (s : State) (area : Nat),
    (∀ r timeout, s.gate r = .served → firstAbort (s.leaseCodes r area 1 timeout) = 0 →
      ∃ t, exec (.leaseAcquire r area timeout) s = .next t ∧ t.refused r 0 ∧
        ({ area := area, port := r.port, master := r.master, expiry := s.now + timeout * msP } : Lease) ∈ t.tv.leases ∧
        ∀ l ∈ t.tv.leases, l.area = area → l.port = r.port ∧ l.master = r.master) ∧
    (∀ r timeout, s.gate r = .served → firstAbort (s.leaseCodes r area 2 timeout) = 0 →
      ∃ t, exec (.leaseRenew r area timeout) s = .next t ∧ t.refused r 0 ∧
        ({ area := area, port := r.port, master := r.master, expiry := s.now + timeout * msP } : Lease) ∈ t.tv.leases ∧
        ∀ l ∈ t.tv.leases, l.area = area → l.port = r.port ∧ l.master = r.master) ∧
    (∀ r timeout, s.gate r = .served → firstAbort (s.leaseCodes r area 3 timeout) = 0 →
      ∃ t, exec (.leaseRelease r area timeout) s = .next t ∧ t.refused r 0 ∧ ∀ l ∈ t.tv.leases, l.area ≠ area) ∧
    (∀ l, s.restarting = false → s.tv.leases.find? (fun l => l.area == area && decide (l.expiry ≤ s.now)) = some l →
      ∃ t, exec (.leaseExpiry area) s = .next t ∧ (∀ x ∈ t.tv.leases, x.area ≠ area) ∧ t.isl = s.isl)

/-- Ports and pending sets (R58, R81): accepted starts and stops of the CAN and Ethernet ports and the fast rate of UART_MNT take
effect, and a discarded agreement set leaves no member pending. -/
def Obligations.PortRows : Prop :=
  ∀ (s : State) (r : Req),
    (∀ p : Fin 2, s.accepts r (ent 0x1011 (p.val + 1) .bool 1) [] →
      ∃ t, exec (.canPortStart r p) s = .next t ∧ t.took r ∧ t.obj 0x1011 (p.val + 1) = 1) ∧
    (∀ p : Fin 2, s.accepts r (ent 0x1011 (p.val + 1) .bool 0) [] →
      ∃ t, exec (.canPortStop r p) s = .next t ∧ t.took r ∧ t.obj 0x1011 (p.val + 1) = 0) ∧
    (∀ p : Fin 2, s.accepts r (ent 0x1022 (p.val + 1) .bool 1) [] →
      ∃ t, exec (.ethernetPortStart r p) s = .next t ∧ t.took r ∧ t.obj 0x1022 (p.val + 1) = 1) ∧
    (∀ p : Fin 2, s.accepts r (ent 0x1022 (p.val + 1) .bool 0) [] →
      ∃ t, exec (.ethernetPortStop r p) s = .next t ∧ t.took r ∧ t.obj 0x1022 (p.val + 1) = 0) ∧
    (∀ arg, s.accepts r (entArg 0x1040 .u8 arg) [] →
      ∃ t, exec (.uartMntFastRate r arg) s = .next t ∧ t.took r ∧ t.tv.uartFast = true ∧ t.dict = s.dict) ∧
    (∀ set, s.accepts r (entArg 0x1310 .u8 set) [] →
      ∃ t, exec (.discardPendingSet r set) s = .next t ∧ t.took r ∧ (∀ p ∈ t.tv.pend, agreeSet p.obj p.el ≠ some set) ∧
        bit (t.objN 0x1300 0) set = false)

/-- Messages and segments (R66, R67, R71, R74, R75, R81): malformed traffic is counted or answered with 0302h and changes nothing else, a
CAN FD frame for another node is not looked at, the first segment of a request opens its transfer and 50 ms of silence end it, a neighbour
request for an own address is answered, and a command message that runs for a second gets its interim answer. -/
def Obligations.MessageRows : Prop :=
  ∀ s : State,
    (∀ port src msg, 2 ≤ port → s.portUp port = true → s.life.phase = .done → msg.length < 16 → s.objN 0x1030 1 + 1 < 2 ^ 32 →
      ∃ t, exec (.torvipMalformedMessage port src msg) s = .next t ∧ t.objN 0x1030 1 = s.objN 0x1030 1 + 1 ∧ t = { s with dict := t.dict }) ∧
    (∀ port src msg q, 2 ≤ port → s.portUp port = true → s.life.phase = .done → 16 ≤ msg.length → fieldAt msg 0 2 = 0x5456 → octAt msg 2 = 1 →
      fieldAt msg 14 2 ≠ msg.length - 16 ∨ octAt msg 3 = 0 ∨ octAt msg 3 = 5 ∨ 7 < octAt msg 3 →
      q = ({ port := port, master := fieldAt msg 4 2, txn := fieldAt msg 6 4, asCommand := false, src := src } : Req) → s.gate q = .served →
      ∃ t, exec (.torvipMalformedMessage port src msg) s = .next t ∧ t.refused q 0x0302 ∧
        t = { s with tv := t.tv, out := t.out, sideTx := t.sideTx }) ∧
    (∀ port src msg, port ≤ 1 → bits (fieldAt msg 0 4) 10 10 ≠ s.canNode port →
      ∃ t, exec (.torvipMalformedMessage port src msg) s = .next t ∧ t = s) ∧
    (s.life.st ≠ .off → s.objN 0x1030 2 + 1 < 2 ^ 32 →
      ∃ t, exec .uartMntCrcError s = .next t ∧ t.objN 0x1030 2 = s.objN 0x1030 2 + 1 ∧ t = { s with dict := t.dict }) ∧
    (∀ port : Fin 2, s.life.st ≠ .off → s.portUp port.val = true → s.objN 0x1030 3 + 1 < 2 ^ 32 →
      ∃ t, exec (.canFrameIgnored port) s = .next t ∧ t.objN 0x1030 3 = s.objN 0x1030 3 + 1 ∧ t = { s with dict := t.dict }) ∧
    (∀ port master kind tag total data, port ≤ 1 → s.portUp port = true → s.life.phase = .done → s.canXferOf port master = none →
      63 ≤ total → total ≤ 1458 →
      ∃ t, exec (.canSegment port master kind tag 0 total data) s = .next t ∧
        ∃ x ∈ t.tv.canRx, x.port = port ∧ x.master = master ∧ x.tag = tag ∧ x.kind = kind ∧ x.total = total ∧ x.next = 1 ∧
          x.got = fitTo 60 data ∧ x.last = s.now) ∧
    (∀ port master x, s.canXferOf port master = some x → x.last + 50 * msP < s.now →
      ∃ t, exec (.canSegmentTimeout port master) s = .next t ∧ t.canXferOf port master = none ∧ t.tv.stored = s.tv.stored) ∧
    (∀ (mac : Fin 2) v6 target, s.portUp (2 + mac.val) = true → s.life.phase = .done →
      (s.ownAddress mac v6 target = true →
        ∃ t, exec (.arpNdpRequest mac v6 target) s = .next t ∧
          t = { s with out := s.out ++ [.neighbour mac.val v6 target (Config.macAddr mac.val)] }) ∧
      (s.ownAddress mac v6 target = false → exec (.arpNdpRequest mac v6 target) s = .next s)) ∧
    (∀ port master txn x,
      s.tv.running.find? (fun x => x.req.port == port && x.req.master == master && x.req.txn == txn && !x.answered) = some x →
      x.req.asCommand = true → s.restarting = false → x.started + secP ≤ s.now →
      (s.tv.stored.filter fun y => x.req.sameMaster y.req.port y.req.master && decide (x.started < y.at_)).length < 16 →
      ∃ t, exec (.commandRunningResponse port master txn) s = .next t ∧ { x with answered := true } ∈ t.tv.running ∧
        ∃ y ∈ t.tv.stored, y.req = x.req ∧ y.abort = 0 ∧ y.body = [1])

/-! ### Frames and Landings (R28 ... R34, R98, R99) -/

/-- Frame starts (R30, R34, R98, R99): the timer runs on and starts a frame at once where none runs or is held back, an edge starts one
1 µs later, a trigger in a running frame is ignored and counted under policy 0, and a held trigger starts its frame. -/
def Obligations.FrameStarts : Prop :=
  ∀ s : State, s.frm.active = true →
    (s.timerRuns = true → s.frm.nextTimer ≤ s.now →
      ∃ t, exec .frameTimerExpiry s = .next t ∧ t.frm.nextTimer = s.frm.nextTimer + s.objN 0x3010 0 * usP ∧
        (s.frm.running = false → s.frm.want = none → s.frm.landUntil ≤ s.now → s.frm.start + 10 * msP ≤ s.now →
          t.frm.running = true ∧ t.frm.start = s.now)) ∧
    (∀ rising, s.obj 0x3020 1 = 1 → rising = (s.obj 0x3020 3 == 0) →
      (s.frm.running = false → s.frm.want = none → s.frm.landUntil ≤ s.now → s.frm.start + 10 * msP ≤ s.now →
        ∃ t, exec (.frameTrigInEdge rising) s = .next t ∧ t.frm.running = true ∧ t.frm.start = s.now + usP) ∧
      (s.frm.running = true → s.objN 0x3020 2 = 0 → s.objN 0x3021 1 + 1 < 2 ^ 32 →
        ∃ t, exec (.frameTrigInEdge rising) s = .next t ∧ t.objN 0x3021 1 = s.objN 0x3021 1 + 1 ∧ t = { s with dict := t.dict })) ∧
    (∀ at_, s.frm.want = some at_ → s.frm.running = false → at_ ≤ s.now → s.frm.landUntil ≤ s.now → s.frm.start + 10 * msP ≤ s.now →
      ∃ t, exec .heldTriggerRelease s = .next t ∧ t.frm.running = true ∧ t.frm.start = s.now ∧ t.frm.want = none)

/-- Ends of frames and Landings (R28, R31, R33, R325): the island takes the boundary of each frame that ends, with the monitoring cases it
ran under, the next frame is numbered, a lost agreement on the settings halts the part, and an idle Landing restarts the phase of the slow
axis. -/
def Obligations.FrameEnds : Prop :=
  ∀ s : State,
    let boundary (t : State) : Prop := ∃ x : FrameEnd, t.isl.ended = s.isl.ended ++ [x] ∧ x.no = s.frm.no ∧ x.start = s.frm.startNs ∧
      x.at_ = s.now ∧ x.aborted = s.frm.aborted ∧ x.set = s.isl.setNow ∧ x.before = s.isl.setBefore
    (s.frameOver = true →
      (∀ li, ∃ t, exec (.frameEnd li) s = .next t ∧ t.frm.no = (s.frm.no + 1) % 2 ^ 32 ∧
        boundary t ∧ t.isl.lastEnd = s.now) ∧
      (∀ before5 unacked li, ∃ t, exec (.landingWatchdog before5 unacked li) s = .next t ∧ t.frm.no = (s.frm.no + 1) % 2 ^ 32 ∧
        boundary t ∧ t.isl.lastEnd = s.now) ∧
      (∀ li, ∃ t, exec (.sharedCommitTimeout li) s = .next t ∧ t.life.st = .halted ∧ boundary t)) ∧
    (s.life.st = .config ∨ s.life.st = .service ∨ s.life.st = .quenched → s.frm.active = false → s.frm.nextIdle ≤ s.now →
      ∃ t, exec .idleLanding s = .next t ∧ t.steer.phase0 = s.now ∧ t.frm.nextIdle = s.frm.nextIdle + t.objN 0x3010 0 * usP ∧
        t.tv.withdrawn = [])

/-- Echo lanes and the watchdogs of a Quadrant (R24, R27, R177): a free lane takes up the next decomposition, a finished one is free again,
and a Quadrant whose pipeline watchdog expires, or whose lane has held its context for 50 µs, is counted in F.020, stops firing and is
reported blind to the island. -/
def Obligations.EchoLaneRows : Prop :=
  ∀ (s : State) (q : Fin 4),
    (∀ frame cell c i, s.nextTodo q = some (frame, cell, c) → s.cellStamped q frame cell = true →
      (List.range 16).find? (fun i => !((s.cru q).lanes.any fun l => l.1 == i)) = some i →
      ∃ t ln, exec (.laneTakeUp q) s = .next t ∧ (i, ln) ∈ (t.cru q).lanes ∧ ln.frame = frame ∧ ln.cell = cell ∧ ln.chan = c ∧
        ln.since = s.now) ∧
    (∀ (lane : Fin 16) l beyond ecc blk, (s.cru q).lanes.find? (fun l => l.1 == lane.val) = some l →
      ∃ t, exec (.decompositionDone q lane beyond ecc blk) s = .next t ∧ ∀ x ∈ (t.cru q).lanes, x.1 ≠ lane.val) ∧
    ((s.quad q).fires = true →
      (s.inRun = true →
        ∃ t, exec (.quadrantPipelineWatchdog q) s = .next t ∧ t.objN 0xF020 (1 + q.val) = min 65535 (s.objN 0xF020 (1 + q.val) + 1) ∧
          (t.quad q).fires = false ∧ t.tap.quads.any (fun x => x.1 == q.val) = true) ∧
      (s.lanesDue q ≠ [] →
        ∃ t, exec (.quadrantContextWatchdog q) s = .next t ∧ t.objN 0xF020 (1 + q.val) = min 65535 (s.objN 0xF020 (1 + q.val) + 1) ∧
          (t.quad q).fires = false ∧ t.tap.quads.any (fun x => x.1 == q.val) = true))

/-! ### Power, boot and the run state (R406 ... R417) -/

/-- Power-up and boot (R409 ... R412, R417): a release with a good oscillator begins the boot and one without waits 10 ms, the boot goes on
with the slot selected or waits in recovery, the self-test ends in HALTED on a fatal finding and is done in any case, and an asserted
reset leaves everything volatile as after reset; a save or a fuse blowing that a power loss cuts short is left out. -/
def Obligations.PowerRows : Prop :=
  ∀ s : State,
    (s.life.phase = .held → s.life.st = .off →
      (∃ t, exec (.powerOnResetRelease true) s = .next t ∧ t.life.st = .boot ∧ t.life.phase = .loading ∧ t.nv = s.nv) ∧
      (∃ t, exec (.powerOnResetRelease false) s = .next t ∧ t.life.st = .off ∧ t.life.phase = .waitXo ∧ t.life.nextAuto = s.now + 10 * msP)) ∧
    (s.life.phase = .waitXo → s.life.nextAuto ≤ s.now →
      (∃ t, exec (.xoCheckRetry true) s = .next t ∧ t.life.st = .boot ∧ t.life.phase = .loading) ∧
      (∃ t, exec (.xoCheckRetry false) s = .next t ∧ t.life.st = s.life.st ∧ t.life.phase = .waitXo ∧ t.life.nextAuto = s.now + 10 * msP)) ∧
    (s.life.phase = .loading → s.restarting = false →
      (s.bootSlot = none → ∃ t, exec .bootComplete s = .next t ∧ t = { s with life := { s.life with phase := .recovery } }) ∧
      (∀ i, s.bootSlot = some i → ∃ t, exec .bootComplete s = .next t ∧ t.life.phase = .selfTest ∧ t.pilot.slot = i ∧
        (s.life.st = .boot → t.life.st = .selftest) ∧ (s.life.st ≠ .boot → t.life.st = s.life.st))) ∧
    (∀ res, s.life.phase = .selfTest → s.life.st ≠ .halted →
      ∃ t, exec (.selftestComplete res) s = .next t ∧ t.life.phase = .done ∧
        (s.tv.pend = [] → t.obj 0x9500 4 = (testResult res : Nat)) ∧ (res.dieLinkOk = false ∨ res.memoryOk = false → t.life.st = .halted)) ∧
    (s.pilot.save = none → s.pilot.blow = none →
      ∃ t, exec .powerOnResetAssert s = .next t ∧ t.life.st = .off ∧ t.life.phase = .held ∧ t.nv = s.nv ∧ t.dict = [] ∧
      t.isl.st = .init ∧ t.isl.outA = false ∧ t.isl.outB = false ∧ t.now = s.now)

/-- The run-state command and the return to RUN (R413 ... R416): a run command numbers the frames from 0 and starts the first, at once where
the last start lies 10 ms back, a stop in
RUN waits for the frame's end and one in SERVICE returns to CONFIG, a prepare command is noted until its end, and the automatic return
tries again after 100 ms. -/
def Obligations.RunRows : Prop :=
  ∀ s : State,
    (∀ r, s.accepts r (ent 0x3000 0 .u8 2) s.runCodes →
      ∃ t, exec (.runCommand r) s = .next t ∧ (t.life.st = .run ∨ t.life.st = .degraded) ∧ t.life.autoRun = false ∧
        t.frm.active = true ∧ t.frm.no = 0 ∧ (s.frm.running = false → s.frm.start + 10 * msP ≤ s.now → t.frm.running = true ∧ t.frm.start = s.now)) ∧
    (∀ r, s.accepts r (ent 0x3000 0 .u8 1) s.stopCodes →
      ∃ t, exec (.stopCommand r) s = .next t ∧ t.life.autoRun = false ∧
        (s.inRun = true → s.frm.running = true → t.life.stopReq = true ∧ t.life.st = s.life.st) ∧
        (s.life.st = .service → t.took r ∧ t.life.st = .config)) ∧
    (∀ r, s.accepts r (ent 0x3000 0 .u8 3) (when (s.life.st != .config) 0x0601) →
      ∃ t, exec (.serviceCommand r) s = .next t ∧ t.took r ∧ t.life.st = .service ∧ t.life.autoRun = false) ∧
    (∀ r, s.accepts r (ent 0x3000 0 .u8 4) s.prepareCodes →
      ∃ t, exec (.preparePowerRemoval r) s = .next t ∧ t.life.prepReq = true ∧
        (s.life.prepReq = false → s.life.st = .config → t.life.prepEl.isSome = true)) ∧
    (s.life.autoRun = true → s.restarting = false → s.life.nextAuto ≤ s.now →
      (s.runCodes ≠ [] → ∃ t, exec .autoRunRetry s = .next t ∧ t = { s with life := { s.life with nextAuto := s.now + 100 * msP } }) ∧
      (s.runCodes = [] → ∃ t, exec .autoRunRetry s = .next t ∧ (t.life.st = .run ∨ t.life.st = .degraded) ∧ t.life.autoRun = false ∧
        t.frm.active = true ∧ t.frm.no = 0 ∧ (s.frm.running = false → s.frm.start + 10 * msP ≤ s.now → t.frm.running = true ∧ t.frm.start = s.now)))

/-! ### The Pilot: services, power domains, updates, temperatures and the store (R379 ... R402) -/

/-- Services and power domains (R384, R387, R388, R400 ... R402), each of which completes: with eventLogCommit the oldest event enters the
log, quenchRestart leaves a Quench, windowBaseline, windowBaselineDone, commissioningReport, commissioningReportDone, converterCampaign and
emitterCampaign begin and end the Pilot's services, powerDomainOn switches a domain on, and powerDomainOff off, or holds it while a DMA
channel touches it. -/
def Obligations.ServiceRows : Prop :=
  ∀ s : State,
    (∀ e rest, s.ev.queue = e :: rest → s.firmwareRuns = true →
      ∃ t, exec .eventLogCommit s = .next t ∧ t.nv.log = (e :: s.nv.log).take 65536 ∧ t.nv.logNext = s.nv.logNext + 1) ∧
    (∀ r arg, s.accepts r (entArg 0x8015 .u8 arg) (when (s.life.st != .quenched || decide (2080 ≤ s.sens.tj)) 0x0601) →
      ∃ t, exec (.quenchRestart r arg) s = .next t ∧ t.took r ∧ t.life.st = .config ∧ t.isl = s.isl) ∧
    (∀ r arg, s.accepts r (entArg 0x9300 .u8 arg) (s.serviceCodes s.pilot.base.isSome) →
      ∃ t, exec (.windowBaseline r arg) s = .next t ∧ t.took r ∧ t.pilot = { s.pilot with base := some 1000, baseCnt := [] }) ∧
    (s.pilot.base = some 0 → s.objN 0xC040 1 ≤ 64 →
      ∃ t, exec .windowBaselineDone s = .next t ∧ t.pilot.base = none ∧
        ∀ z c, z < s.objN 0xC040 1 → s.pilot.baseCnt[z]? = some c → c.2.2 ≠ 0 →
          t.obj 0x9301 (z + 1) = (min (256 * c.2.1 / c.2.2) 65535 : Nat)) ∧
    (∀ r arg, s.accepts r (entArg 0x9320 .u8 arg) (s.serviceCodes s.pilot.report.isSome) →
      ∃ t, exec (.commissioningReport r arg) s = .next t ∧ t.took r ∧ t.pilot.report = some 100 ∧ t.pilot.repCrc = s.setCrc) ∧
    (s.pilot.report = some 0 → ∃ t, exec .commissioningReportDone s = .next t ∧ t.pilot = { s.pilot with report := none }) ∧
    (∀ r mask, s.accepts r (entArg 0x9330 .u8 mask) (when s.pilot.conv.isSome 0x0701) →
      ∃ t, exec (.converterCampaign r mask) s = .next t ∧ t.took r ∧ t.pilot.conv = some (mask, s.now)) ∧
    (∀ r arg, s.accepts r (entArg 0x9331 .u8 arg) (when (decide (0 < s.pilot.emit)) 0x0701) →
      ∃ t, exec (.emitterCampaign r arg) s = .next t ∧ t.took r ∧ t.pilot.emit = 2) ∧
    (∀ r (d : Fin 7), s.accepts r (ent 0x8100 (d.val + 1) .u8 1) (s.domOnCodes d.val) →
      ∃ t, exec (.powerDomainOn r d) s = .next t ∧ t.took r ∧ t.obj 0x8101 (domEl d) = 1) ∧
    (∀ r (d : Fin 7), s.accepts r (ent 0x8100 (d.val + 1) .u8 0) (s.domOffCodes d.val) →
      ∃ t, exec (.powerDomainOff r d) s = .next t ∧ t.took r ∧
        (s.obj 0x8101 (domEl d) = 0 ∨ s.domTouched d = false → t.obj 0x8101 (domEl d) = 0) ∧
        (s.obj 0x8101 (domEl d) ≠ 0 → s.domTouched d = true →
          t.dma.holds = s.dma.holds ++ [(d.val, s.now)] ∧ t.obj 0x8101 (domEl d) = s.obj 0x8101 (domEl d)))

/-- Restarts and trials (R379, R396): each cause begins a restart of its own, one that completes takes the slot that boots, and a trial
that is not confirmed in time, or does not start, returns to the former slot. -/
def Obligations.RestartRows : Prop :=
  ∀ s : State,
    (s.pilotOn = true →
      (∃ t, exec .pilotWatchdog s = .next t ∧ t.restarting = true ∧
        t.pilot.restart = some (4, s.now, s.now + if 3 ≤ (s.pilot.wdogs.filter fun x => decide (s.now < x + 600 * secP)).length
          then 10 * secP else 0)) ∧
      (∃ t, exec .pilotSramError s = .next t ∧ t.restarting = true ∧ t.pilot.restart = some (5, s.now, s.now))) ∧
    (∀ x, s.pilot.restart = some x → x.2.2 ≤ s.now →
      (∀ i, s.bootSlot = some i →
        ∃ t, exec .pilotRestartComplete s = .next t ∧ t.restarting = false ∧ t.pilot.restart = none ∧ t.pilot.slot = i ∧
          t.pilot.cause = x.1 ∧ t.pilot.restarts = (s.pilot.restarts + 1) % 2 ^ 32) ∧
      (s.bootSlot = none → ∃ t, exec .pilotRestartComplete s = .next t ∧ t.restarting = false ∧ t.life.phase = .recovery)) ∧
    (∀ at_, s.pilot.trial = some at_ → at_ + s.objN 0x9201 0 * secP ≤ s.now →
      ∃ t, exec .trialWindowExpiry s = .next t ∧ t.pilot.trial = none ∧ t.nv.preferred = s.pilot.former ∧
        t.pilot.restart = some (2, s.now, s.now)) ∧
    (∀ at_ x, s.pilot.trial = some at_ → s.pilot.restart = some x → x.2.2 + 2 * secP ≤ s.now →
      ∃ t, exec .trialStartTimeout s = .next t ∧ t.pilot.trial = none ∧ t.nv.preferred = s.pilot.former ∧
        t.pilot.restart = some (2, s.now, s.now))

/-- The Slip, its commands, the integrator key and microcode (R194, R394 ... R396): data goes to the NOR at the pointer, the long commands
run on and end with their effect, an install with the slot verified again, activation, confirmation, reversion and restart take effect at once, and a load gives the inactive bank
of each Quadrant named the image's identity. -/
def Obligations.SlipRows : Prop :=
  ∀ (s : State) (r : Req),
    (∀ o, s.accepts r (entBlob 0x9211 o) (s.slipDataCodes o) →
      ∃ t, exec (.slipDataWrite r o) s = .next t ∧ t.took r ∧ t.nv = { s.nv with nor := memPut s.nv.nor (norBase 2 + s.objN 0x9210 0) o } ∧
        t.pilot = { s.pilot with slip := 1, slipEnd := s.objN 0x9210 0 + o.length } ∧
        t.objN 0x9210 0 = (s.objN 0x9210 0 + o.length) % slipSize) ∧
    (s.accepts r (entArg 0x9212 .u8 1) (s.slipCodes 1) →
      ∃ t, exec (.slipErase r) s = .next t ∧ t.took r ∧ t.pilot.busy = some (1, s.now) ∧ t.pilot.slip = 0 ∧
        ∀ a, norBase 2 ≤ a → a < norBase 2 + slipSize → AMap.get 0 t.nv.nor a = 0) ∧
    (s.accepts r (entArg 0x9212 .u8 2) (s.slipCodes 2) →
      ∃ t, exec (.slipVerify r) s = .next t ∧ t.took r ∧ t.pilot = { s.pilot with busy := some (2, s.now) } ∧ t.nv = s.nv) ∧
    (s.accepts r (entArg 0x9212 .u8 3) (s.slipCodes 3) →
      ∃ t, exec (.slipInstall r) s = .next t ∧ t.took r ∧ t.pilot = { s.pilot with busy := some (3, s.now), slip := 4 }) ∧
    (s.accepts r (entArg 0x9212 .u8 4) (s.slipCodes 4) →
      ∃ t, exec (.slipActivate r) s = .next t ∧ t.took r ∧ t.pilot.trial = some s.now ∧ t.pilot.former = s.pilot.slot ∧
        t.nv.preferred = 1 - s.pilot.slot ∧ t.pilot.restart = some (1, s.now, s.now)) ∧
    (s.accepts r (entArg 0x9212 .u8 5) (s.slipCodes 5) →
      ∃ t, exec (.slipConfirm r) s = .next t ∧ t.took r ∧ t.pilot.trial = none ∧ t.nv.preferred = s.pilot.slot ∧
        t.nv.fuse = max s.nv.fuse (hRbi (s.imgHeader s.pilot.slot))) ∧
    (s.accepts r (entArg 0x9212 .u8 6) (s.slipCodes 6) →
      ∃ t, exec (.slipRevert r) s = .next t ∧ t.took r ∧ t.pilot.trial = none ∧ t.nv.preferred = s.pilot.former ∧
        t.pilot.restart = some (2, s.now, s.now)) ∧
    (s.accepts r (entArg 0x9212 .u8 7) (s.slipCodes 7) →
      ∃ t, exec (.slipRestart r) s = .next t ∧ t.took r ∧ t.restarting = true ∧ t.pilot.restart = some (3, s.now, s.now)) ∧
    (∀ c at_, s.pilot.busy = some (c, at_) →
      ∃ t, exec .slipCommandComplete s = .next t ∧ t.pilot.busy = none ∧ (c = 1 → t.pilot.slipErased = true) ∧
        (c = 2 → t.pilot.slip = if s.verifyImg 2 = 0 then 2 else 3) ∧ (c ≠ 1 → c ≠ 2 →
          t.pilot.slip = if (({ s with pilot := { s.pilot with busy := none } }).norCopy (1 - s.pilot.slot)).verifyImg (1 - s.pilot.slot) = 0 then 2 else 3)) ∧
    (∀ key, s.accepts r (entBlob 0x9240 key) (when (s.life.st != .service || s.nv.key.isSome) 0x0601) →
      ∃ t, exec (.integratorKeyWrite r key) s = .next t ∧ t.took r ∧ t.nv = { s.nv with key := some key }) ∧
    (∀ mask, mask < 16 → s.accepts r (entArg 0x4202 .u8 mask) (s.mcLoadCodes mask) →
      ∃ t, exec (.microcodeLoad r mask) s = .next t ∧ t.took r ∧ (∀ q : Fin 4, (t.cru q).mcAct = (s.cru q).mcAct ∧
        (bit mask q.val = true → (t.cru q).mcId (s.cru q).idleBank = hId (s.imgHeader 2)) ∧
        (bit mask q.val = false → (t.cru q).mcId (s.cru q).idleBank = (s.cru q).mcId (s.cru q).idleBank)))

/-- Housekeeping, save and erase (R380 ... R383, R393): a round that is due publishes Tj and its levels and quenches at the third one, a
save takes the values of its instant, leaves the copy that is not the newest without its header and never touches the other, and as it
ends writes the header or, where the read-back fails, none; an erase leaves both invalid. -/
def Obligations.StoreAndTemperatureRows : Prop :=
  ∀ s : State,
    (∀ counts, s.sensorsRun = true → s.sens.next ≤ s.now →
      ∃ t, exec (.housekeepingRound counts) s = .next t ∧ t.sens.next = s.sens.next + 409600 ∧
        (∀ l < 3, bit t.sens.levels l = s.levelOn t.sens.tj l) ∧
        (s.levelOn t.sens.tj 2 = true → bit s.sens.levels 2 = false → s.life.st ≠ .halted → s.life.st ≠ .off →
          t.life.st = .quenched ∧ t.frm.active = false) ∧
        (∀ i tmp, i < 20 → siteReading counts i = some tmp → (∀ b ∈ s.sens.bad, b.1 ≠ i) →
          t.obj 0x8011 (i + 1) = clampI (-32768) 32767 tmp)) ∧
    (∀ r arg ok, s.accepts r (entArg 0x9110 .u8 arg) s.saveCodes → s.bodyLen ≤ 262128 → s.pilot.save = none →
      ∃ t, exec (.save r arg ok) s = .next t ∧ t.took r ∧
        t.pilot.save = some { target := s.saveTarget.1, copy := s.copyNow s.saveTarget.2, ok := ok, at_ := s.now } ∧
        (s.saveTarget.1 = 0 → t.nv = { s.nv with copy0 := copyErased }) ∧
        (s.saveTarget.1 ≠ 0 → t.nv = { s.nv with copy1 := copyErased })) ∧
    (∀ x, s.pilot.save = some x → s.pending = [] →
      ∃ t, step s = .next t ∧ t.pilot.save = none ∧ t.pilot.lastSave = (if x.ok then 1 else 3) ∧
        (x.ok = true → x.target = 0 → t.nv = { s.nv with copy0 := x.copy }) ∧
        (x.ok = true → x.target ≠ 0 → t.nv = { s.nv with copy1 := x.copy }) ∧
        (x.ok = false → t.nv = s.nv)) ∧
    (∀ r arg, s.accepts r (entArg 0x9112 .u8 arg) (when (s.life.st != .service) 0x0601) →
      ∃ t, exec (.storeErase r arg) s = .next t ∧ t.took r ∧ t.nv = { s.nv with copy0 := copyErased, copy1 := copyErased })

/-! ### Re-admission (R147, R424 ... R427) -/

/-- Re-admission: an accepted command is running, with its unit on its way back and noted in `9.401`; the steps of a Quadrant follow each
other, and one that fails leaves it retired; participation is written as any setting of a Landing. -/
def Obligations.ReadmitRows : Prop :=
  ∀ (s : State) (r : Req),
    (∀ q : Fin 4, s.accepts r (ent (0x3100 + q.val) 1 .u8 0) [] →
      ∃ t, exec (.quadrantStandDown r q) s = .next t ∧ t.took r ∧ t.quads = s.quads ∧
        ∃ p ∈ t.tv.pend, p.obj = 0x3100 + q.val ∧ p.el = 1 ∧ p.val = 0) ∧
    (∀ q : Fin 4, s.accepts r (ent (0x3100 + q.val) 1 .u8 1) [] →
      ∃ t, exec (.quadrantRejoin r q) s = .next t ∧ t.took r ∧ t.quads = s.quads ∧
        ∃ p ∈ t.tv.pend, p.obj = 0x3100 + q.val ∧ p.el = 1 ∧ p.val = 1) ∧
    (∀ arg, arg < 1024 → s.accepts r (entArg 0x9400 .u16 (0x1000 + arg)) (s.readmitCodes (0x1000 + arg)) →
      ∃ t, exec (.readmitChannel r arg) s = .next t ∧ t.took r ∧ 0x1000 + arg ∈ t.life.readm ∧
        (t.chan (Fin.ofNat 4 (arg / 256)) (arg % 256)).st = 4 ∧ t.obj 0x9401 1 = (0x1000 + arg : Nat) ∧ t.obj 0x9401 2 = 1) ∧
    (∀ arg, arg < 4096 → s.accepts r (entArg 0x9400 .u16 (0x2000 + arg)) (s.readmitCodes (0x2000 + arg)) →
      ∃ t, exec (.readmitEmitter r arg) s = .next t ∧ t.took r ∧ 0x2000 + arg ∈ t.life.readm ∧ (t.emitter arg).retest = 4 ∧
        t.obj 0x9401 1 = (0x2000 + arg : Nat) ∧ t.obj 0x9401 2 = 1) ∧
    (∀ arg, arg < 4096 → s.accepts r (entArg 0x9400 .u16 (0x3000 + arg)) (s.readmitCodes (0x3000 + arg)) →
      ∃ t, exec (.readmitLane r arg) s = .next t ∧ t.took r ∧ 0x3000 + arg ∈ t.life.readm ∧
        ((t.link (argLink arg)).lane (argLane arg)).st = 2 ∧ ((t.link (argLink arg)).lane (argLane arg)).readmit = true ∧
        t.obj 0x9401 1 = (0x3000 + arg : Nat) ∧ t.obj 0x9401 2 = 1) ∧
    (∀ arg, arg < 4096 → s.accepts r (entArg 0x9400 .u16 (0x4000 + arg)) (s.readmitCodes (0x4000 + arg)) →
      ∃ t, exec (.readmitQuadrant r arg) s = .next t ∧ t.took r ∧ 0x4000 + (argQuad arg).val ∈ t.life.readm ∧
        (t.quad (argQuad arg)).st = 4 ∧ (t.quad (argQuad arg)).step = 2 ∧ t.obj 0x9401 1 = (0x4000 + arg : Nat) ∧ t.obj 0x9401 2 = 1) ∧
    (∀ arg, arg < 4096 → s.accepts r (entArg 0x9400 .u16 (0x5000 + arg)) (s.readmitCodes (0x5000 + arg)) →
      ∃ t, exec (.readmitHelm r arg) s = .next t ∧ t.took r ∧ 0x5000 + arg ∈ t.life.readm ∧ (t.helm (arg % 2 == 1)).st = 3 ∧
        t.obj 0x9401 1 = (0x5000 + arg : Nat) ∧ t.obj 0x9401 2 = 1) ∧
    (∀ q failed, quads4.find? (fun q => (s.quad q).st == 4) = some q →
      ((s.quad q).step = 2 → ∃ t, exec (.quadrantReadmissionStepDone true failed) s = .next t ∧ (t.quad q).step = 3 ∧ (t.quad q).st = 4) ∧
      ((s.quad q).step = 4 → (s.forge.bias.get q).settled = true →
        ∃ t, exec (.quadrantReadmissionStepDone true failed) s = .next t ∧ (t.quad q).step = 5 ∧ (t.quad q).st = 4) ∧
      (2 ≤ (s.quad q).step → (s.quad q).step ≤ 4 →
        ∃ t, exec (.quadrantReadmissionStepDone false failed) s = .next t ∧ (t.quad q).st = (if (s.quad q).barred then 7 else 5) ∧
          0x4000 + q.val ∉ t.life.readm)) ∧
    (∀ (ch : Fin 1024) hist refs lost d0 d1, (s.chan (Fin.ofNat 4 (ch.val / 256)) (ch.val % 256)).st = 4 →
      (s.chan (Fin.ofNat 4 (ch.val / 256)) (ch.val % 256)).readmit = 1 →
      s.canCalibrate (Fin.ofNat 4 (ch.val / 256)) (ch.val % 256) = true →
      (∀ x, calResult (s.prevOffset (Fin.ofNat 4 (ch.val / 256)) (ch.val % 256))
          (addBins (s.chan (Fin.ofNat 4 (ch.val / 256)) (ch.val % 256)).hist hist) refs lost = some x →
        ∃ t, exec (.channelReadmissionCalDone ch ⟨hist, refs, lost, d0, d1⟩) s = .next t ∧
          (t.chan (Fin.ofNat 4 (ch.val / 256)) (ch.val % 256)).readmit = 2 ∧
          (s.openShots (Fin.ofNat 4 (ch.val / 256)) (ch.val % 256) = [] →
            (t.chan (Fin.ofNat 4 (ch.val / 256)) (ch.val % 256)).d0 = some d0 ∧
            (t.chan (Fin.ofNat 4 (ch.val / 256)) (ch.val % 256)).d1 = some d1) ∧
          (s.openShots (Fin.ofNat 4 (ch.val / 256)) (ch.val % 256) ≠ [] →
            (t.chan (Fin.ofNat 4 (ch.val / 256)) (ch.val % 256)).delayNext = some (d0, d1)) ∧
          (t.chan (Fin.ofNat 4 (ch.val / 256)) (ch.val % 256)).calAt = s.now) ∧
      (calResult (s.prevOffset (Fin.ofNat 4 (ch.val / 256)) (ch.val % 256))
          (addBins (s.chan (Fin.ofNat 4 (ch.val / 256)) (ch.val % 256)).hist hist) refs lost = none →
        ∃ t, exec (.channelReadmissionCalDone ch ⟨hist, refs, lost, d0, d1⟩) s = .next t ∧
          (t.chan (Fin.ofNat 4 (ch.val / 256)) (ch.val % 256)).readmit = 0 ∧ 0x1000 + ch.val ∉ t.life.readm))

/-! ### Formats, and what every command keeps -/

/-- R68: the octets of an object address. -/
def Obligations.AddressOctets : Prop :=
  (∀ obj el : Nat, obj < 65536 → el < 256 → ∃ a b c : Byte, addr3 obj el = [a, b, c] ∧ a.toNat / 16 = obj / 4096 ∧
    a.toNat % 16 = obj / 256 % 16 ∧ b.toNat = obj % 256 ∧ c.toNat = el) ∧
  addr3 0x3010 0 = [0x30, 0x10, 0x00] ∧ addr3 0xC300 5 = [0xC3, 0x00, 0x05]

/-- R63: an event record is 16 octets, `code`, `time`, `frame` and `param` in this order, each big-endian; the time and the frame are those
of the event. -/
def Obligations.EventRecordOctets : Prop :=
  (∀ (s : State) (code param : Nat), (s.evRec code param).code = code ∧ (s.evRec code param).time = s.timeNs ∧
    (s.evRec code param).frame = s.frm.no ∧ (s.evRec code param).param = param % 65536) ∧
  ∀ e : EvRec, e.code < 2 ^ 16 → e.time < 2 ^ 64 → e.frame < 2 ^ 32 → e.param < 2 ^ 16 →
    e.octets.length = 16 ∧ fieldAt e.octets 0 2 = e.code ∧ fieldAt e.octets 2 8 = e.time ∧ fieldAt e.octets 10 4 = e.frame ∧
      fieldAt e.octets 14 2 = e.param

/-- R141: the walk correction is interpolated from the 32 entries of its gain code in `3.420` + q, in buckets of 128 steps of ToT, and it is
what a hit of either range takes. -/
def Obligations.WalkCorrection : Prop :=
  ∀ (s : State) (q : Fin 4),
    (∀ gain tot b r, b = min (tot / 128) 31 → r = tot % 128 →
      (b = 31 → s.walkOf q gain tot = s.obj (0x3420 + q.val) (32 * gain + 32)) ∧
      (b ≠ 31 → s.walkOf q gain tot = s.obj (0x3420 + q.val) (32 * gain + b + 1) +
        (s.obj (0x3420 + q.val) (32 * gain + b + 2) - s.obj (0x3420 + q.val) (32 * gain + b + 1)) * (r : Nat) / 128)) ∧
    (∀ c raw tot rng h x, (s.leadingEdge q c raw tot rng).2 = .stamped h x → h.w = s.walkOf q h.gain h.tot ∧ h.rng = rng)

/-- Every command completes, in every state, with its own effect or none: it answers a next state, and neither the queue of commands nor
the reference clock is touched by it. -/
def Obligations.QueueAndClockKept : Prop :=
  ∀ (c : Instr) (s : State), ∃ t, exec c s = .next t ∧ t.pending = s.pending ∧ t.now = s.now

/-- The addressed memories keep their canonical form under every step: descriptors and buffer of the DMA engine, and the NOR (the form is
the model's own). -/
def Obligations.MemoriesStayCanonical : Prop :=
  ∀ s t : State, s.memWf = true → step s = .next t → t.memWf = true

/-- Frame of the commands for parts of the state: a command that a table of Safety.lean does not list for a part leaves that part as it
was: the safety island, the DMA engine, the die-to-die interface, the non-volatile memories, Plovivo and the sensor block. -/
def Obligations.CommandsKeepParts : Prop :=
  ∀ (c : Instr) (s t : State), exec c s = .next t →
    (touchesIsland c = false → t.isl = s.isl) ∧
    (touchesDma c = false → t.dma = s.dma) ∧
    (touchesDie c = false → t.die = s.die) ∧
    (touchesNv c = false → t.nv = s.nv) ∧
    (touchesPlovivo c = false → t.plv = s.plv) ∧
    (touchesSensors c = false → t.sens = s.sens)
end

