-- ==== Sys2Proof/Laws/Map.lean ====
section
/-! SUPPORT. Sparse maps and what is built on them: read after write, and that every operation keeps the canonical form (R11, R287, R295,
R394; the form is the model's own). -/

namespace Sys2Proof.Machine

variable {α : Type}

/-! ### Read after write, for every list -/

@[simp] theorem AMap.get_ins_self (d : α) (m : AMap α) (k : Nat) (v : α) : AMap.get d (AMap.ins m k v) k = v := by
  induction m with
  | nil => simp [AMap.ins, AMap.get]
  | cons p m ih =>
    obtain ⟨k', v'⟩ := p
    unfold AMap.ins
    split
    · simp [AMap.get]
    · split
      · simp [AMap.get]
      · simp [AMap.get, ih, show ¬k' = k by omega]

theorem AMap.get_ins_ne (d : α) (m : AMap α) {j k : Nat} (v : α) (h : j ≠ k) : AMap.get d (AMap.ins m k v) j = AMap.get d m j := by
  induction m with
  | nil => simp [AMap.ins, AMap.get, h.symm]
  | cons p m ih =>
    obtain ⟨k', v'⟩ := p
    unfold AMap.ins
    split
    · simp [AMap.get, h.symm]
    · split
      · next e => subst e; simp [AMap.get, h.symm]
      · simp only [AMap.get, ih]

@[simp] theorem AMap.get_del_self (d : α) (m : AMap α) (k : Nat) : AMap.get d (AMap.del m k) k = d := by
  induction m with
  | nil => rfl
  | cons p m ih =>
    obtain ⟨k', v'⟩ := p
    unfold AMap.del
    split
    · exact ih
    · simp [AMap.get, *]

theorem AMap.get_del_ne (d : α) (m : AMap α) {j k : Nat} (h : j ≠ k) : AMap.get d (AMap.del m k) j = AMap.get d m j := by
  induction m with
  | nil => rfl
  | cons p m ih =>
    obtain ⟨k', v'⟩ := p
    unfold AMap.del
    split
    · next e => subst e; simp [AMap.get, ih, h.symm]
    · simp only [AMap.get, ih]

@[simp] theorem AMap.get_put_self [DecidableEq α] (d : α) (m : AMap α) (k : Nat) (v : α) : AMap.get d (AMap.put d m k v) k = v := by
  unfold AMap.put
  split
  · next e => simp [e]
  · simp

/-- Whatever the written key reads as when it is unlisted: every other key reads as before. -/
theorem AMap.get_put_ne [DecidableEq α] (d d' : α) (m : AMap α) {j k : Nat} (v : α) (h : j ≠ k) :
    AMap.get d (AMap.put d' m k v) j = AMap.get d m j := by
  unfold AMap.put
  split
  · exact AMap.get_del_ne d m h
  · exact AMap.get_ins_ne d m v h

/-! ### The canonical form -/

/-- No key of a map lies below a bound. -/
def AMap.above (b : Nat) (m : AMap α) : Prop := ∀ p ∈ m, b ≤ p.1

theorem AMap.wf_cons [DecidableEq α] (d : Nat → α) (k : Nat) (v : α) (m : AMap α) :
    AMap.wf d ((k, v) :: m) = true ↔ v ≠ d k ∧ AMap.above (k + 1) m ∧ AMap.wf d m = true := by
  induction m generalizing k v with
  | nil => simp [AMap.wf, AMap.above]
  | cons p m ih =>
    obtain ⟨k', v'⟩ := p
    have := ih k' v'
    simp only [AMap.wf, Bool.and_eq_true, decide_eq_true_eq] at this ⊢
    constructor
    · rintro ⟨⟨h1, h2⟩, h3⟩
      refine ⟨h1, ?_, h3⟩
      intro p hp
      rcases List.mem_cons.1 hp with rfl | hp
      · exact h2
      · have := (this.1 h3).2.1 p hp
        omega
    · rintro ⟨h1, h2, h3⟩
      exact ⟨⟨h1, h2 _ (List.mem_cons_self ..)⟩, h3⟩

theorem AMap.above_ins (b : Nat) (m : AMap α) (k : Nat) (v : α) (h : AMap.above b m) (hk : b ≤ k) : AMap.above b (AMap.ins m k v) := by
  induction m with
  | nil => intro p hp; simp [AMap.ins] at hp; subst hp; exact hk
  | cons q m ih =>
    obtain ⟨k', v'⟩ := q
    have hm : AMap.above b m := fun p hp => h p (List.mem_cons_of_mem _ hp)
    intro p hp
    unfold AMap.ins at hp
    split at hp
    · rcases List.mem_cons.1 hp with rfl | hp
      · exact hk
      · exact h p hp
    · split at hp
      · rcases List.mem_cons.1 hp with rfl | hp
        · exact hk
        · exact hm p hp
      · rcases List.mem_cons.1 hp with rfl | hp
        · exact h _ (List.mem_cons_self ..)
        · exact ih hm p hp

theorem AMap.above_del (b : Nat) (m : AMap α) (k : Nat) (h : AMap.above b m) : AMap.above b (AMap.del m k) := by
  induction m with
  | nil => intro p hp; simp [AMap.del] at hp
  | cons q m ih =>
    obtain ⟨k', v'⟩ := q
    have hm : AMap.above b m := fun p hp => h p (List.mem_cons_of_mem _ hp)
    intro p hp
    unfold AMap.del at hp
    split at hp
    · exact ih hm p hp
    · rcases List.mem_cons.1 hp with rfl | hp
      · exact h _ (List.mem_cons_self ..)
      · exact ih hm p hp

theorem AMap.wf_ins [DecidableEq α] (d : Nat → α) (m : AMap α) (k : Nat) (v : α) (h : AMap.wf d m = true) (hv : v ≠ d k) :
    AMap.wf d (AMap.ins m k v) = true := by
  induction m with
  | nil => simp [AMap.ins, AMap.wf, hv]
  | cons q m ih =>
    obtain ⟨k', v'⟩ := q
    have hc := (AMap.wf_cons d k' v' m).1 h
    unfold AMap.ins
    split
    · next lt =>
      refine (AMap.wf_cons d k v _).2 ⟨hv, ?_, h⟩
      intro p hp
      rcases List.mem_cons.1 hp with rfl | hp
      · exact lt
      · have := hc.2.1 p hp
        omega
    · split
      · next e => subst e; exact (AMap.wf_cons d k v m).2 ⟨hv, hc.2.1, hc.2.2⟩
      · exact (AMap.wf_cons d k' v' _).2 ⟨hc.1, AMap.above_ins _ m k v hc.2.1 (by omega), ih hc.2.2⟩

theorem AMap.wf_del [DecidableEq α] (d : Nat → α) (m : AMap α) (k : Nat) (h : AMap.wf d m = true) : AMap.wf d (AMap.del m k) = true := by
  induction m with
  | nil => rfl
  | cons q m ih =>
    obtain ⟨k', v'⟩ := q
    have hc := (AMap.wf_cons d k' v' m).1 h
    unfold AMap.del
    split
    · exact ih hc.2.2
    · exact (AMap.wf_cons d k' v' _).2 ⟨hc.1, AMap.above_del _ m k hc.2.1, ih hc.2.2⟩

theorem AMap.wf_put [DecidableEq α] (d : Nat → α) (m : AMap α) (k : Nat) (v : α) (h : AMap.wf d m = true) :
    AMap.wf d (AMap.put (d k) m k v) = true := by
  unfold AMap.put
  split
  · exact AMap.wf_del d m k h
  · exact AMap.wf_ins d m k v h (by assumption)

theorem AMap.wf_filter [DecidableEq α] (d : Nat → α) (m : AMap α) (f : Nat × α → Bool) (h : AMap.wf d m = true) :
    AMap.wf d (m.filter f) = true := by
  induction m with
  | nil => rfl
  | cons q m ih =>
    obtain ⟨k', v'⟩ := q
    have hc := (AMap.wf_cons d k' v' m).1 h
    rw [List.filter_cons]
    split
    · exact (AMap.wf_cons d k' v' _).2 ⟨hc.1, fun p hp => hc.2.1 p ((List.mem_filter.1 hp).1), ih hc.2.2⟩
    · exact ih hc.2.2

/-! ### Addressed memories -/

theorem Memory.wf_put (m : AMap Byte) (a : Nat) (b : Byte) (h : Memory.wf m = true) : Memory.wf (AMap.put 0 m a b) = true :=
  AMap.wf_put (fun _ => 0) m a b h

theorem Memory.wf_memPut (m : AMap Byte) (a : Nat) (o : Octets) (h : Memory.wf m = true) : Memory.wf (memPut m a o) = true := by
  induction o generalizing m a with
  | nil => exact h
  | cons b o ih => exact ih _ _ (Memory.wf_put m a b h)

theorem Memory.wf_freeFill (m : AMap Byte) (k a n : Nat) (h : Memory.wf m = true) : Memory.wf (freeFill m k a n) = true := by
  induction n generalizing m a with
  | zero => exact h
  | succ n ih => exact ih _ _ (Memory.wf_put m a _ h)

theorem Memory.wf_filter (m : AMap Byte) (f : Nat × Byte → Bool) (h : Memory.wf m = true) : Memory.wf (m.filter f) = true :=
  AMap.wf_filter _ m f h

theorem Memory.wf_copy (l : List (Nat × Byte)) (m : AMap Byte) (f : Nat → Nat) (h : Memory.wf m = true) :
    Memory.wf (l.foldl (fun m x => AMap.put 0 m (f x.1) x.2) m) = true := by
  induction l generalizing m with
  | nil => exact h
  | cons x l ih => exact ih _ (Memory.wf_put m _ _ h)

/-- Octets outside those written read as before. -/
theorem memPut_get_ne (m : AMap Byte) (a : Nat) (o : Octets) {j : Nat} (h : j < a ∨ a + o.length ≤ j) :
    AMap.get 0 (memPut m a o) j = AMap.get 0 m j := by
  induction o generalizing m a with
  | nil => rfl
  | cons b o ih =>
    simp only [List.length_cons] at h
    unfold memPut
    rw [ih _ _ (by omega), AMap.get_put_ne _ _ _ _ (by omega)]

/-- An octet written reads as written. -/
theorem memPut_get (m : AMap Byte) (a : Nat) (o : Octets) (i : Nat) (h : i < o.length) : AMap.get 0 (memPut m a o) (a + i) = o.getD i 0 := by
  induction o generalizing m a i with
  | nil => simp at h
  | cons b o ih =>
    simp only [List.length_cons] at h
    unfold memPut
    cases i with
    | zero => rw [memPut_get_ne _ _ _ (by omega)]; simp
    | succ i => rw [show a + (i + 1) = a + 1 + i by omega, ih _ _ _ (by omega)]; simp

@[simp] theorem memGet_length (m : AMap Byte) (a n : Nat) : (memGet m a n).length = n := by
  induction n generalizing a with
  | zero => rfl
  | succ n ih => simp [memGet, ih]

/-! ### Association lists and the dictionary -/

@[simp] theorem assocD_put_self (d : α) (l : List (Nat × α)) (k : Nat) (v : α) : assocD d (assocPut l k v) k = v := AMap.get_ins_self d l k v

theorem assocD_put_ne (d : α) (l : List (Nat × α)) {j k : Nat} (v : α) (h : j ≠ k) : assocD d (assocPut l k v) j = assocD d l j :=
  AMap.get_ins_ne d l v h

theorem dkey_inj {o o' el el' : Nat} : dkey o el = dkey o' el' ↔ o = o' ∧ el % 65536 = el' % 65536 := by
  unfold dkey
  omega

/-- A value set is in effect. -/
@[simp] theorem State.obj_setObj_self (s : State) (o el : Nat) (v : Int) : (s.setObj o el v).obj o el = v := AMap.get_put_self _ _ _ _

/-- Every other value in effect stays. -/
theorem State.obj_setObj_ne (s : State) {o el o' el' : Nat} (v : Int) (h : o' ≠ o ∨ el' % 65536 ≠ el % 65536) :
    (s.setObj o el v).obj o' el' = s.obj o' el' :=
  AMap.get_put_ne _ _ _ _ (fun e => by
    have := dkey_inj.1 e
    rcases h with h | h
    · exact h this.1
    · exact h this.2)

theorem dictWf_setObj (s : State) (o el : Nat) (v : Int) (h : dictWf s.dict = true) : dictWf (s.setObj o el v).dict = true := by
  have e : Catalogue.dflt o (el % 65536) = dkeyDflt (dkey o el) := by
    unfold dkeyDflt dkey
    rw [show (o * 65536 + el % 65536) / 65536 = o by omega, show (o * 65536 + el % 65536) % 65536 = el % 65536 by omega]
  show AMap.wf dkeyDflt (AMap.put (Catalogue.dflt o (el % 65536)) s.dict (dkey o el) v) = true
  rw [e]
  exact AMap.wf_put dkeyDflt s.dict (dkey o el) v h

end Sys2Proof.Machine
end

