-- ==== Sys2Proof/Machine/Jtag.lean ====
section
/-! DEFINITION. The JTAG port: boundary scan by IEEE 1149.1 and nothing else (R2, R448). No row of the table moves TCK, so no command runs
these operations (log entry 110). -/

namespace Sys2Proof.Machine

/-- Width of the data register that an instruction places between TDI and TDO. -/
def JtagInstr.width : JtagInstr → Nat
  | .bypass => 1
  | .idcode => 32
  | .samplePreload => Config.scanCells
  | .extest => Config.scanCells

/-- What Capture-DR loads: 0, the IDCODE from its least significant bit, or the levels at the balls. -/
def State.jtagLoads (s : State) : List Bool :=
  match s.jtag.instr with
  | .bypass => [false]
  | .idcode => (List.range 32).map fun i => bit Config.idcode i
  | .samplePreload => (List.range Config.scanCells).map (Config.ballLevel s.now)
  | .extest => (List.range Config.scanCells).map (Config.ballLevel s.now)

/-- Update-IR: an instruction comes into effect. -/
def State.jtagSelect (s : State) (i : JtagInstr) : State := { s with jtag := { s.jtag with instr := i, shift := [] } }

/-- Capture-DR. -/
def State.jtagCapture (s : State) : State := { s with jtag := { s.jtag with shift := s.jtagLoads } }

/-- A bit at TDO, and the data register after TDI has entered it (Shift-DR). -/
def State.jtagTdo (s : State) : Bool := s.jtag.shift.headD false
def State.jtagShift (s : State) (tdi : Bool) : State := { s with jtag := { s.jtag with shift := s.jtag.shift.drop 1 ++ [tdi] } }

/-- Update-DR: SAMPLE/PRELOAD and EXTEST hold what was shifted in; IDCODE and BYPASS hold nothing. -/
def State.jtagUpdate (s : State) : State :=
  match s.jtag.instr with
  | .samplePreload => { s with jtag := { s.jtag with held := s.jtag.shift } }
  | .extest => { s with jtag := { s.jtag with held := s.jtag.shift } }
  | .bypass => s
  | .idcode => s

/-- The level that a cell drives in place of the part's own logic: under EXTEST alone. -/
def State.jtagDrives (s : State) (cell : Nat) : Option Bool := if s.jtag.instr = .extest then s.jtag.held[cell]? else none

/-- Test-Logic-Reset: the part's own logic drives its balls, and IDCODE is selected. -/
def State.jtagReset (s : State) : State := { s with jtag := Reset.jtag }

end Sys2Proof.Machine
end

