-- ==== Sys2Proof/Laws/State.lean ====
section
/-! SUPPORT. One lemma for each field of the state and each named update of it, so that no proof unfolds a record update. Values in effect
follow the dictionary: `obj` and `objN` see a `setObj` alone. -/

namespace Sys2Proof.Machine

variable (s : State)

/-! ### setObj -/

@[simp] theorem State.setObj_now (o el : Nat) (v : Int) : (s.setObj o el v).now = s.now := rfl
@[simp] theorem State.setObj_scale (o el : Nat) (v : Int) : (s.setObj o el v).scale = s.scale := rfl
@[simp] theorem State.setObj_free (o el : Nat) (v : Int) : (s.setObj o el v).free = s.free := rfl
@[simp] theorem State.setObj_pending (o el : Nat) (v : Int) : (s.setObj o el v).pending = s.pending := rfl
@[simp] theorem State.setObj_out (o el : Nat) (v : Int) : (s.setObj o el v).out = s.out := rfl
@[simp] theorem State.setObj_dict (o el : Nat) (v : Int) : (s.setObj o el v).dict = dictPut s.dict o el v := rfl
@[simp] theorem State.setObj_tv (o el : Nat) (v : Int) : (s.setObj o el v).tv = s.tv := rfl
@[simp] theorem State.setObj_sideTx (o el : Nat) (v : Int) : (s.setObj o el v).sideTx = s.sideTx := rfl
@[simp] theorem State.setObj_restarting (o el : Nat) (v : Int) : (s.setObj o el v).restarting = s.restarting := rfl
@[simp] theorem State.setObj_ev (o el : Nat) (v : Int) : (s.setObj o el v).ev = s.ev := rfl
@[simp] theorem State.setObj_life (o el : Nat) (v : Int) : (s.setObj o el v).life = s.life := rfl
@[simp] theorem State.setObj_die (o el : Nat) (v : Int) : (s.setObj o el v).die = s.die := rfl
@[simp] theorem State.setObj_frm (o el : Nat) (v : Int) : (s.setObj o el v).frm = s.frm := rfl
@[simp] theorem State.setObj_quads (o el : Nat) (v : Int) : (s.setObj o el v).quads = s.quads := rfl
@[simp] theorem State.setObj_em (o el : Nat) (v : Int) : (s.setObj o el v).em = s.em := rfl
@[simp] theorem State.setObj_steer (o el : Nat) (v : Int) : (s.setObj o el v).steer = s.steer := rfl
@[simp] theorem State.setObj_forge (o el : Nat) (v : Int) : (s.setObj o el v).forge = s.forge := rfl
@[simp] theorem State.setObj_ana (o el : Nat) (v : Int) : (s.setObj o el v).ana = s.ana := rfl
@[simp] theorem State.setObj_gov (o el : Nat) (v : Int) : (s.setObj o el v).gov = s.gov := rfl
@[simp] theorem State.setObj_queues (o el : Nat) (v : Int) : (s.setObj o el v).queues = s.queues := rfl
@[simp] theorem State.setObj_dma (o el : Nat) (v : Int) : (s.setObj o el v).dma = s.dma := rfl
@[simp] theorem State.setObj_links (o el : Nat) (v : Int) : (s.setObj o el v).links = s.links := rfl
@[simp] theorem State.setObj_recTok (o el : Nat) (v : Int) : (s.setObj o el v).recTok = s.recTok := rfl
@[simp] theorem State.setObj_recAt (o el : Nat) (v : Int) : (s.setObj o el v).recAt = s.recAt := rfl
@[simp] theorem State.setObj_tap (o el : Nat) (v : Int) : (s.setObj o el v).tap = s.tap := rfl
@[simp] theorem State.setObj_isl (o el : Nat) (v : Int) : (s.setObj o el v).isl = s.isl := rfl
@[simp] theorem State.setObj_cap (o el : Nat) (v : Int) : (s.setObj o el v).cap = s.cap := rfl
@[simp] theorem State.setObj_time (o el : Nat) (v : Int) : (s.setObj o el v).time = s.time := rfl
@[simp] theorem State.setObj_wof (o el : Nat) (v : Int) : (s.setObj o el v).wof = s.wof := rfl
@[simp] theorem State.setObj_fleet (o el : Nat) (v : Int) : (s.setObj o el v).fleet = s.fleet := rfl
@[simp] theorem State.setObj_plv (o el : Nat) (v : Int) : (s.setObj o el v).plv = s.plv := rfl
@[simp] theorem State.setObj_sens (o el : Nat) (v : Int) : (s.setObj o el v).sens = s.sens := rfl
@[simp] theorem State.setObj_pilot (o el : Nat) (v : Int) : (s.setObj o el v).pilot = s.pilot := rfl
@[simp] theorem State.setObj_nv (o el : Nat) (v : Int) : (s.setObj o el v).nv = s.nv := rfl
@[simp] theorem State.setObj_blobs (o el : Nat) (v : Int) : (s.setObj o el v).blobs = s.blobs := rfl
@[simp] theorem State.setObj_jtag (o el : Nat) (v : Int) : (s.setObj o el v).jtag = s.jtag := rfl

/-! ### emit -/

@[simp] theorem State.emit_now (o : Out) : (s.emit o).now = s.now := rfl
@[simp] theorem State.emit_scale (o : Out) : (s.emit o).scale = s.scale := rfl
@[simp] theorem State.emit_free (o : Out) : (s.emit o).free = s.free := rfl
@[simp] theorem State.emit_pending (o : Out) : (s.emit o).pending = s.pending := rfl
@[simp] theorem State.emit_out (o : Out) : (s.emit o).out = s.out ++ [o] := rfl
@[simp] theorem State.emit_dict (o : Out) : (s.emit o).dict = s.dict := rfl
@[simp] theorem State.emit_tv (o : Out) : (s.emit o).tv = s.tv := rfl
@[simp] theorem State.emit_sideTx (o : Out) : (s.emit o).sideTx = s.sideTx := rfl
@[simp] theorem State.emit_restarting (o : Out) : (s.emit o).restarting = s.restarting := rfl
@[simp] theorem State.emit_ev (o : Out) : (s.emit o).ev = s.ev := rfl
@[simp] theorem State.emit_life (o : Out) : (s.emit o).life = s.life := rfl
@[simp] theorem State.emit_die (o : Out) : (s.emit o).die = s.die := rfl
@[simp] theorem State.emit_frm (o : Out) : (s.emit o).frm = s.frm := rfl
@[simp] theorem State.emit_quads (o : Out) : (s.emit o).quads = s.quads := rfl
@[simp] theorem State.emit_em (o : Out) : (s.emit o).em = s.em := rfl
@[simp] theorem State.emit_steer (o : Out) : (s.emit o).steer = s.steer := rfl
@[simp] theorem State.emit_forge (o : Out) : (s.emit o).forge = s.forge := rfl
@[simp] theorem State.emit_ana (o : Out) : (s.emit o).ana = s.ana := rfl
@[simp] theorem State.emit_gov (o : Out) : (s.emit o).gov = s.gov := rfl
@[simp] theorem State.emit_queues (o : Out) : (s.emit o).queues = s.queues := rfl
@[simp] theorem State.emit_dma (o : Out) : (s.emit o).dma = s.dma := rfl
@[simp] theorem State.emit_links (o : Out) : (s.emit o).links = s.links := rfl
@[simp] theorem State.emit_recTok (o : Out) : (s.emit o).recTok = s.recTok := rfl
@[simp] theorem State.emit_recAt (o : Out) : (s.emit o).recAt = s.recAt := rfl
@[simp] theorem State.emit_tap (o : Out) : (s.emit o).tap = s.tap := rfl
@[simp] theorem State.emit_isl (o : Out) : (s.emit o).isl = s.isl := rfl
@[simp] theorem State.emit_cap (o : Out) : (s.emit o).cap = s.cap := rfl
@[simp] theorem State.emit_time (o : Out) : (s.emit o).time = s.time := rfl
@[simp] theorem State.emit_wof (o : Out) : (s.emit o).wof = s.wof := rfl
@[simp] theorem State.emit_fleet (o : Out) : (s.emit o).fleet = s.fleet := rfl
@[simp] theorem State.emit_plv (o : Out) : (s.emit o).plv = s.plv := rfl
@[simp] theorem State.emit_sens (o : Out) : (s.emit o).sens = s.sens := rfl
@[simp] theorem State.emit_pilot (o : Out) : (s.emit o).pilot = s.pilot := rfl
@[simp] theorem State.emit_nv (o : Out) : (s.emit o).nv = s.nv := rfl
@[simp] theorem State.emit_blobs (o : Out) : (s.emit o).blobs = s.blobs := rfl
@[simp] theorem State.emit_jtag (o : Out) : (s.emit o).jtag = s.jtag := rfl
@[simp] theorem State.emit_obj (o : Out) (a e : Nat) : (s.emit o).obj a e = s.obj a e := rfl
@[simp] theorem State.emit_objN (o : Out) (a e : Nat) : (s.emit o).objN a e = s.objN a e := rfl

/-! ### setQuad -/

@[simp] theorem State.setQuad_now (q : Fin 4) (v : Quad) : (s.setQuad q v).now = s.now := rfl
@[simp] theorem State.setQuad_scale (q : Fin 4) (v : Quad) : (s.setQuad q v).scale = s.scale := rfl
@[simp] theorem State.setQuad_free (q : Fin 4) (v : Quad) : (s.setQuad q v).free = s.free := rfl
@[simp] theorem State.setQuad_pending (q : Fin 4) (v : Quad) : (s.setQuad q v).pending = s.pending := rfl
@[simp] theorem State.setQuad_out (q : Fin 4) (v : Quad) : (s.setQuad q v).out = s.out := rfl
@[simp] theorem State.setQuad_dict (q : Fin 4) (v : Quad) : (s.setQuad q v).dict = s.dict := rfl
@[simp] theorem State.setQuad_tv (q : Fin 4) (v : Quad) : (s.setQuad q v).tv = s.tv := rfl
@[simp] theorem State.setQuad_sideTx (q : Fin 4) (v : Quad) : (s.setQuad q v).sideTx = s.sideTx := rfl
@[simp] theorem State.setQuad_restarting (q : Fin 4) (v : Quad) : (s.setQuad q v).restarting = s.restarting := rfl
@[simp] theorem State.setQuad_ev (q : Fin 4) (v : Quad) : (s.setQuad q v).ev = s.ev := rfl
@[simp] theorem State.setQuad_life (q : Fin 4) (v : Quad) : (s.setQuad q v).life = s.life := rfl
@[simp] theorem State.setQuad_die (q : Fin 4) (v : Quad) : (s.setQuad q v).die = s.die := rfl
@[simp] theorem State.setQuad_frm (q : Fin 4) (v : Quad) : (s.setQuad q v).frm = s.frm := rfl
@[simp] theorem State.setQuad_quads (q : Fin 4) (v : Quad) : (s.setQuad q v).quads = s.quads.set q v := rfl
@[simp] theorem State.setQuad_em (q : Fin 4) (v : Quad) : (s.setQuad q v).em = s.em := rfl
@[simp] theorem State.setQuad_steer (q : Fin 4) (v : Quad) : (s.setQuad q v).steer = s.steer := rfl
@[simp] theorem State.setQuad_forge (q : Fin 4) (v : Quad) : (s.setQuad q v).forge = s.forge := rfl
@[simp] theorem State.setQuad_ana (q : Fin 4) (v : Quad) : (s.setQuad q v).ana = s.ana := rfl
@[simp] theorem State.setQuad_gov (q : Fin 4) (v : Quad) : (s.setQuad q v).gov = s.gov := rfl
@[simp] theorem State.setQuad_queues (q : Fin 4) (v : Quad) : (s.setQuad q v).queues = s.queues := rfl
@[simp] theorem State.setQuad_dma (q : Fin 4) (v : Quad) : (s.setQuad q v).dma = s.dma := rfl
@[simp] theorem State.setQuad_links (q : Fin 4) (v : Quad) : (s.setQuad q v).links = s.links := rfl
@[simp] theorem State.setQuad_recTok (q : Fin 4) (v : Quad) : (s.setQuad q v).recTok = s.recTok := rfl
@[simp] theorem State.setQuad_recAt (q : Fin 4) (v : Quad) : (s.setQuad q v).recAt = s.recAt := rfl
@[simp] theorem State.setQuad_tap (q : Fin 4) (v : Quad) : (s.setQuad q v).tap = s.tap := rfl
@[simp] theorem State.setQuad_isl (q : Fin 4) (v : Quad) : (s.setQuad q v).isl = s.isl := rfl
@[simp] theorem State.setQuad_cap (q : Fin 4) (v : Quad) : (s.setQuad q v).cap = s.cap := rfl
@[simp] theorem State.setQuad_time (q : Fin 4) (v : Quad) : (s.setQuad q v).time = s.time := rfl
@[simp] theorem State.setQuad_wof (q : Fin 4) (v : Quad) : (s.setQuad q v).wof = s.wof := rfl
@[simp] theorem State.setQuad_fleet (q : Fin 4) (v : Quad) : (s.setQuad q v).fleet = s.fleet := rfl
@[simp] theorem State.setQuad_plv (q : Fin 4) (v : Quad) : (s.setQuad q v).plv = s.plv := rfl
@[simp] theorem State.setQuad_sens (q : Fin 4) (v : Quad) : (s.setQuad q v).sens = s.sens := rfl
@[simp] theorem State.setQuad_pilot (q : Fin 4) (v : Quad) : (s.setQuad q v).pilot = s.pilot := rfl
@[simp] theorem State.setQuad_nv (q : Fin 4) (v : Quad) : (s.setQuad q v).nv = s.nv := rfl
@[simp] theorem State.setQuad_blobs (q : Fin 4) (v : Quad) : (s.setQuad q v).blobs = s.blobs := rfl
@[simp] theorem State.setQuad_jtag (q : Fin 4) (v : Quad) : (s.setQuad q v).jtag = s.jtag := rfl
@[simp] theorem State.setQuad_obj (q : Fin 4) (v : Quad) (a e : Nat) : (s.setQuad q v).obj a e = s.obj a e := rfl
@[simp] theorem State.setQuad_objN (q : Fin 4) (v : Quad) (a e : Nat) : (s.setQuad q v).objN a e = s.objN a e := rfl

/-! ### modQuad -/

@[simp] theorem State.modQuad_now (q : Fin 4) (f : Quad → Quad) : (s.modQuad q f).now = s.now := rfl
@[simp] theorem State.modQuad_scale (q : Fin 4) (f : Quad → Quad) : (s.modQuad q f).scale = s.scale := rfl
@[simp] theorem State.modQuad_free (q : Fin 4) (f : Quad → Quad) : (s.modQuad q f).free = s.free := rfl
@[simp] theorem State.modQuad_pending (q : Fin 4) (f : Quad → Quad) : (s.modQuad q f).pending = s.pending := rfl
@[simp] theorem State.modQuad_out (q : Fin 4) (f : Quad → Quad) : (s.modQuad q f).out = s.out := rfl
@[simp] theorem State.modQuad_dict (q : Fin 4) (f : Quad → Quad) : (s.modQuad q f).dict = s.dict := rfl
@[simp] theorem State.modQuad_tv (q : Fin 4) (f : Quad → Quad) : (s.modQuad q f).tv = s.tv := rfl
@[simp] theorem State.modQuad_sideTx (q : Fin 4) (f : Quad → Quad) : (s.modQuad q f).sideTx = s.sideTx := rfl
@[simp] theorem State.modQuad_restarting (q : Fin 4) (f : Quad → Quad) : (s.modQuad q f).restarting = s.restarting := rfl
@[simp] theorem State.modQuad_ev (q : Fin 4) (f : Quad → Quad) : (s.modQuad q f).ev = s.ev := rfl
@[simp] theorem State.modQuad_life (q : Fin 4) (f : Quad → Quad) : (s.modQuad q f).life = s.life := rfl
@[simp] theorem State.modQuad_die (q : Fin 4) (f : Quad → Quad) : (s.modQuad q f).die = s.die := rfl
@[simp] theorem State.modQuad_frm (q : Fin 4) (f : Quad → Quad) : (s.modQuad q f).frm = s.frm := rfl
@[simp] theorem State.modQuad_quads (q : Fin 4) (f : Quad → Quad) : (s.modQuad q f).quads = s.quads.set q (f (s.quad q)) := rfl
@[simp] theorem State.modQuad_em (q : Fin 4) (f : Quad → Quad) : (s.modQuad q f).em = s.em := rfl
@[simp] theorem State.modQuad_steer (q : Fin 4) (f : Quad → Quad) : (s.modQuad q f).steer = s.steer := rfl
@[simp] theorem State.modQuad_forge (q : Fin 4) (f : Quad → Quad) : (s.modQuad q f).forge = s.forge := rfl
@[simp] theorem State.modQuad_ana (q : Fin 4) (f : Quad → Quad) : (s.modQuad q f).ana = s.ana := rfl
@[simp] theorem State.modQuad_gov (q : Fin 4) (f : Quad → Quad) : (s.modQuad q f).gov = s.gov := rfl
@[simp] theorem State.modQuad_queues (q : Fin 4) (f : Quad → Quad) : (s.modQuad q f).queues = s.queues := rfl
@[simp] theorem State.modQuad_dma (q : Fin 4) (f : Quad → Quad) : (s.modQuad q f).dma = s.dma := rfl
@[simp] theorem State.modQuad_links (q : Fin 4) (f : Quad → Quad) : (s.modQuad q f).links = s.links := rfl
@[simp] theorem State.modQuad_recTok (q : Fin 4) (f : Quad → Quad) : (s.modQuad q f).recTok = s.recTok := rfl
@[simp] theorem State.modQuad_recAt (q : Fin 4) (f : Quad → Quad) : (s.modQuad q f).recAt = s.recAt := rfl
@[simp] theorem State.modQuad_tap (q : Fin 4) (f : Quad → Quad) : (s.modQuad q f).tap = s.tap := rfl
@[simp] theorem State.modQuad_isl (q : Fin 4) (f : Quad → Quad) : (s.modQuad q f).isl = s.isl := rfl
@[simp] theorem State.modQuad_cap (q : Fin 4) (f : Quad → Quad) : (s.modQuad q f).cap = s.cap := rfl
@[simp] theorem State.modQuad_time (q : Fin 4) (f : Quad → Quad) : (s.modQuad q f).time = s.time := rfl
@[simp] theorem State.modQuad_wof (q : Fin 4) (f : Quad → Quad) : (s.modQuad q f).wof = s.wof := rfl
@[simp] theorem State.modQuad_fleet (q : Fin 4) (f : Quad → Quad) : (s.modQuad q f).fleet = s.fleet := rfl
@[simp] theorem State.modQuad_plv (q : Fin 4) (f : Quad → Quad) : (s.modQuad q f).plv = s.plv := rfl
@[simp] theorem State.modQuad_sens (q : Fin 4) (f : Quad → Quad) : (s.modQuad q f).sens = s.sens := rfl
@[simp] theorem State.modQuad_pilot (q : Fin 4) (f : Quad → Quad) : (s.modQuad q f).pilot = s.pilot := rfl
@[simp] theorem State.modQuad_nv (q : Fin 4) (f : Quad → Quad) : (s.modQuad q f).nv = s.nv := rfl
@[simp] theorem State.modQuad_blobs (q : Fin 4) (f : Quad → Quad) : (s.modQuad q f).blobs = s.blobs := rfl
@[simp] theorem State.modQuad_jtag (q : Fin 4) (f : Quad → Quad) : (s.modQuad q f).jtag = s.jtag := rfl
@[simp] theorem State.modQuad_obj (q : Fin 4) (f : Quad → Quad) (a e : Nat) : (s.modQuad q f).obj a e = s.obj a e := rfl
@[simp] theorem State.modQuad_objN (q : Fin 4) (f : Quad → Quad) (a e : Nat) : (s.modQuad q f).objN a e = s.objN a e := rfl

/-! ### setCause -/

@[simp] theorem State.setCause_now (i : Nat) (b : Bool) : (s.setCause i b).now = s.now := rfl
@[simp] theorem State.setCause_scale (i : Nat) (b : Bool) : (s.setCause i b).scale = s.scale := rfl
@[simp] theorem State.setCause_free (i : Nat) (b : Bool) : (s.setCause i b).free = s.free := rfl
@[simp] theorem State.setCause_pending (i : Nat) (b : Bool) : (s.setCause i b).pending = s.pending := rfl
@[simp] theorem State.setCause_out (i : Nat) (b : Bool) : (s.setCause i b).out = s.out := rfl
@[simp] theorem State.setCause_dict (i : Nat) (b : Bool) : (s.setCause i b).dict = s.dict := rfl
@[simp] theorem State.setCause_tv (i : Nat) (b : Bool) : (s.setCause i b).tv = s.tv := rfl
@[simp] theorem State.setCause_sideTx (i : Nat) (b : Bool) : (s.setCause i b).sideTx = s.sideTx := rfl
@[simp] theorem State.setCause_restarting (i : Nat) (b : Bool) : (s.setCause i b).restarting = s.restarting := rfl
@[simp] theorem State.setCause_ev (i : Nat) (b : Bool) : (s.setCause i b).ev = s.ev := rfl
@[simp] theorem State.setCause_life (i : Nat) (b : Bool) : (s.setCause i b).life = { s.life with causes := putBit s.life.causes i b } := rfl
@[simp] theorem State.setCause_die (i : Nat) (b : Bool) : (s.setCause i b).die = s.die := rfl
@[simp] theorem State.setCause_frm (i : Nat) (b : Bool) : (s.setCause i b).frm = s.frm := rfl
@[simp] theorem State.setCause_quads (i : Nat) (b : Bool) : (s.setCause i b).quads = s.quads := rfl
@[simp] theorem State.setCause_em (i : Nat) (b : Bool) : (s.setCause i b).em = s.em := rfl
@[simp] theorem State.setCause_steer (i : Nat) (b : Bool) : (s.setCause i b).steer = s.steer := rfl
@[simp] theorem State.setCause_forge (i : Nat) (b : Bool) : (s.setCause i b).forge = s.forge := rfl
@[simp] theorem State.setCause_ana (i : Nat) (b : Bool) : (s.setCause i b).ana = s.ana := rfl
@[simp] theorem State.setCause_gov (i : Nat) (b : Bool) : (s.setCause i b).gov = s.gov := rfl
@[simp] theorem State.setCause_queues (i : Nat) (b : Bool) : (s.setCause i b).queues = s.queues := rfl
@[simp] theorem State.setCause_dma (i : Nat) (b : Bool) : (s.setCause i b).dma = s.dma := rfl
@[simp] theorem State.setCause_links (i : Nat) (b : Bool) : (s.setCause i b).links = s.links := rfl
@[simp] theorem State.setCause_recTok (i : Nat) (b : Bool) : (s.setCause i b).recTok = s.recTok := rfl
@[simp] theorem State.setCause_recAt (i : Nat) (b : Bool) : (s.setCause i b).recAt = s.recAt := rfl
@[simp] theorem State.setCause_tap (i : Nat) (b : Bool) : (s.setCause i b).tap = s.tap := rfl
@[simp] theorem State.setCause_isl (i : Nat) (b : Bool) : (s.setCause i b).isl = s.isl := rfl
@[simp] theorem State.setCause_cap (i : Nat) (b : Bool) : (s.setCause i b).cap = s.cap := rfl
@[simp] theorem State.setCause_time (i : Nat) (b : Bool) : (s.setCause i b).time = s.time := rfl
@[simp] theorem State.setCause_wof (i : Nat) (b : Bool) : (s.setCause i b).wof = s.wof := rfl
@[simp] theorem State.setCause_fleet (i : Nat) (b : Bool) : (s.setCause i b).fleet = s.fleet := rfl
@[simp] theorem State.setCause_plv (i : Nat) (b : Bool) : (s.setCause i b).plv = s.plv := rfl
@[simp] theorem State.setCause_sens (i : Nat) (b : Bool) : (s.setCause i b).sens = s.sens := rfl
@[simp] theorem State.setCause_pilot (i : Nat) (b : Bool) : (s.setCause i b).pilot = s.pilot := rfl
@[simp] theorem State.setCause_nv (i : Nat) (b : Bool) : (s.setCause i b).nv = s.nv := rfl
@[simp] theorem State.setCause_blobs (i : Nat) (b : Bool) : (s.setCause i b).blobs = s.blobs := rfl
@[simp] theorem State.setCause_jtag (i : Nat) (b : Bool) : (s.setCause i b).jtag = s.jtag := rfl
@[simp] theorem State.setCause_obj (i : Nat) (b : Bool) (a e : Nat) : (s.setCause i b).obj a e = s.obj a e := rfl
@[simp] theorem State.setCause_objN (i : Nat) (b : Bool) (a e : Nat) : (s.setCause i b).objN a e = s.objN a e := rfl

/-! ### tick -/

@[simp] theorem State.tick_now : (s.tick).now = s.now + 1 := rfl
@[simp] theorem State.tick_scale : (s.tick).scale = (s.scale + (5 * (2 ^ 32 + s.time.y)).toNat) % 2 ^ 97 := rfl
@[simp] theorem State.tick_free : (s.tick).free = s.free := rfl
@[simp] theorem State.tick_pending : (s.tick).pending = s.pending := rfl
@[simp] theorem State.tick_out : (s.tick).out = s.out := rfl
@[simp] theorem State.tick_dict : (s.tick).dict = s.dict := rfl
@[simp] theorem State.tick_tv : (s.tick).tv = s.tv := rfl
@[simp] theorem State.tick_sideTx : (s.tick).sideTx = s.sideTx := rfl
@[simp] theorem State.tick_restarting : (s.tick).restarting = s.restarting := rfl
@[simp] theorem State.tick_ev : (s.tick).ev = s.ev := rfl
@[simp] theorem State.tick_life : (s.tick).life = s.life := rfl
@[simp] theorem State.tick_die : (s.tick).die = s.die := rfl
@[simp] theorem State.tick_frm : (s.tick).frm = s.frm := rfl
@[simp] theorem State.tick_quads : (s.tick).quads = s.quads := rfl
@[simp] theorem State.tick_em : (s.tick).em = s.em := rfl
@[simp] theorem State.tick_steer : (s.tick).steer = s.steer := rfl
@[simp] theorem State.tick_forge : (s.tick).forge = s.forge := rfl
@[simp] theorem State.tick_ana : (s.tick).ana = s.ana := rfl
@[simp] theorem State.tick_gov : (s.tick).gov = s.gov := rfl
@[simp] theorem State.tick_queues : (s.tick).queues = s.queues := rfl
@[simp] theorem State.tick_dma : (s.tick).dma = s.dma := rfl
@[simp] theorem State.tick_links : (s.tick).links = s.links := rfl
@[simp] theorem State.tick_recTok : (s.tick).recTok = s.recTok := rfl
@[simp] theorem State.tick_recAt : (s.tick).recAt = s.recAt := rfl
@[simp] theorem State.tick_tap : (s.tick).tap = s.tap := rfl
@[simp] theorem State.tick_isl : (s.tick).isl = s.isl := rfl
@[simp] theorem State.tick_cap : (s.tick).cap = s.cap := rfl
@[simp] theorem State.tick_time : (s.tick).time = s.time := rfl
@[simp] theorem State.tick_wof : (s.tick).wof = s.wof := rfl
@[simp] theorem State.tick_fleet : (s.tick).fleet = s.fleet := rfl
@[simp] theorem State.tick_plv : (s.tick).plv = s.plv := rfl
@[simp] theorem State.tick_sens : (s.tick).sens = s.sens := rfl
@[simp] theorem State.tick_pilot : (s.tick).pilot = s.pilot := rfl
@[simp] theorem State.tick_nv : (s.tick).nv = s.nv := rfl
@[simp] theorem State.tick_blobs : (s.tick).blobs = s.blobs := rfl
@[simp] theorem State.tick_jtag : (s.tick).jtag = s.jtag := rfl
@[simp] theorem State.tick_obj (a e : Nat) : (s.tick).obj a e = s.obj a e := rfl
@[simp] theorem State.tick_objN (a e : Nat) : (s.tick).objN a e = s.objN a e := rfl

/-! ### modTv -/

@[simp] theorem State.modTv_now (f : Torvip → Torvip) : (s.modTv f).now = s.now := rfl
@[simp] theorem State.modTv_scale (f : Torvip → Torvip) : (s.modTv f).scale = s.scale := rfl
@[simp] theorem State.modTv_free (f : Torvip → Torvip) : (s.modTv f).free = s.free := rfl
@[simp] theorem State.modTv_pending (f : Torvip → Torvip) : (s.modTv f).pending = s.pending := rfl
@[simp] theorem State.modTv_out (f : Torvip → Torvip) : (s.modTv f).out = s.out := rfl
@[simp] theorem State.modTv_dict (f : Torvip → Torvip) : (s.modTv f).dict = s.dict := rfl
@[simp] theorem State.modTv_tv (f : Torvip → Torvip) : (s.modTv f).tv = f s.tv := rfl
@[simp] theorem State.modTv_sideTx (f : Torvip → Torvip) : (s.modTv f).sideTx = s.sideTx := rfl
@[simp] theorem State.modTv_restarting (f : Torvip → Torvip) : (s.modTv f).restarting = s.restarting := rfl
@[simp] theorem State.modTv_ev (f : Torvip → Torvip) : (s.modTv f).ev = s.ev := rfl
@[simp] theorem State.modTv_life (f : Torvip → Torvip) : (s.modTv f).life = s.life := rfl
@[simp] theorem State.modTv_die (f : Torvip → Torvip) : (s.modTv f).die = s.die := rfl
@[simp] theorem State.modTv_frm (f : Torvip → Torvip) : (s.modTv f).frm = s.frm := rfl
@[simp] theorem State.modTv_quads (f : Torvip → Torvip) : (s.modTv f).quads = s.quads := rfl
@[simp] theorem State.modTv_em (f : Torvip → Torvip) : (s.modTv f).em = s.em := rfl
@[simp] theorem State.modTv_steer (f : Torvip → Torvip) : (s.modTv f).steer = s.steer := rfl
@[simp] theorem State.modTv_forge (f : Torvip → Torvip) : (s.modTv f).forge = s.forge := rfl
@[simp] theorem State.modTv_ana (f : Torvip → Torvip) : (s.modTv f).ana = s.ana := rfl
@[simp] theorem State.modTv_gov (f : Torvip → Torvip) : (s.modTv f).gov = s.gov := rfl
@[simp] theorem State.modTv_queues (f : Torvip → Torvip) : (s.modTv f).queues = s.queues := rfl
@[simp] theorem State.modTv_dma (f : Torvip → Torvip) : (s.modTv f).dma = s.dma := rfl
@[simp] theorem State.modTv_links (f : Torvip → Torvip) : (s.modTv f).links = s.links := rfl
@[simp] theorem State.modTv_recTok (f : Torvip → Torvip) : (s.modTv f).recTok = s.recTok := rfl
@[simp] theorem State.modTv_recAt (f : Torvip → Torvip) : (s.modTv f).recAt = s.recAt := rfl
@[simp] theorem State.modTv_tap (f : Torvip → Torvip) : (s.modTv f).tap = s.tap := rfl
@[simp] theorem State.modTv_isl (f : Torvip → Torvip) : (s.modTv f).isl = s.isl := rfl
@[simp] theorem State.modTv_cap (f : Torvip → Torvip) : (s.modTv f).cap = s.cap := rfl
@[simp] theorem State.modTv_time (f : Torvip → Torvip) : (s.modTv f).time = s.time := rfl
@[simp] theorem State.modTv_wof (f : Torvip → Torvip) : (s.modTv f).wof = s.wof := rfl
@[simp] theorem State.modTv_fleet (f : Torvip → Torvip) : (s.modTv f).fleet = s.fleet := rfl
@[simp] theorem State.modTv_plv (f : Torvip → Torvip) : (s.modTv f).plv = s.plv := rfl
@[simp] theorem State.modTv_sens (f : Torvip → Torvip) : (s.modTv f).sens = s.sens := rfl
@[simp] theorem State.modTv_pilot (f : Torvip → Torvip) : (s.modTv f).pilot = s.pilot := rfl
@[simp] theorem State.modTv_nv (f : Torvip → Torvip) : (s.modTv f).nv = s.nv := rfl
@[simp] theorem State.modTv_blobs (f : Torvip → Torvip) : (s.modTv f).blobs = s.blobs := rfl
@[simp] theorem State.modTv_jtag (f : Torvip → Torvip) : (s.modTv f).jtag = s.jtag := rfl
@[simp] theorem State.modTv_obj (f : Torvip → Torvip) (a e : Nat) : (s.modTv f).obj a e = s.obj a e := rfl
@[simp] theorem State.modTv_objN (f : Torvip → Torvip) (a e : Nat) : (s.modTv f).objN a e = s.objN a e := rfl

/-! ### setSub -/

@[simp] theorem State.setSub_now (x : Sub) : (s.setSub x).now = s.now := rfl
@[simp] theorem State.setSub_scale (x : Sub) : (s.setSub x).scale = s.scale := rfl
@[simp] theorem State.setSub_free (x : Sub) : (s.setSub x).free = s.free := rfl
@[simp] theorem State.setSub_pending (x : Sub) : (s.setSub x).pending = s.pending := rfl
@[simp] theorem State.setSub_out (x : Sub) : (s.setSub x).out = s.out := rfl
@[simp] theorem State.setSub_dict (x : Sub) : (s.setSub x).dict = s.dict := rfl
@[simp] theorem State.setSub_sideTx (x : Sub) : (s.setSub x).sideTx = s.sideTx := rfl
@[simp] theorem State.setSub_restarting (x : Sub) : (s.setSub x).restarting = s.restarting := rfl
@[simp] theorem State.setSub_ev (x : Sub) : (s.setSub x).ev = s.ev := rfl
@[simp] theorem State.setSub_life (x : Sub) : (s.setSub x).life = s.life := rfl
@[simp] theorem State.setSub_die (x : Sub) : (s.setSub x).die = s.die := rfl
@[simp] theorem State.setSub_frm (x : Sub) : (s.setSub x).frm = s.frm := rfl
@[simp] theorem State.setSub_quads (x : Sub) : (s.setSub x).quads = s.quads := rfl
@[simp] theorem State.setSub_em (x : Sub) : (s.setSub x).em = s.em := rfl
@[simp] theorem State.setSub_steer (x : Sub) : (s.setSub x).steer = s.steer := rfl
@[simp] theorem State.setSub_forge (x : Sub) : (s.setSub x).forge = s.forge := rfl
@[simp] theorem State.setSub_ana (x : Sub) : (s.setSub x).ana = s.ana := rfl
@[simp] theorem State.setSub_gov (x : Sub) : (s.setSub x).gov = s.gov := rfl
@[simp] theorem State.setSub_queues (x : Sub) : (s.setSub x).queues = s.queues := rfl
@[simp] theorem State.setSub_dma (x : Sub) : (s.setSub x).dma = s.dma := rfl
@[simp] theorem State.setSub_links (x : Sub) : (s.setSub x).links = s.links := rfl
@[simp] theorem State.setSub_recTok (x : Sub) : (s.setSub x).recTok = s.recTok := rfl
@[simp] theorem State.setSub_recAt (x : Sub) : (s.setSub x).recAt = s.recAt := rfl
@[simp] theorem State.setSub_tap (x : Sub) : (s.setSub x).tap = s.tap := rfl
@[simp] theorem State.setSub_isl (x : Sub) : (s.setSub x).isl = s.isl := rfl
@[simp] theorem State.setSub_cap (x : Sub) : (s.setSub x).cap = s.cap := rfl
@[simp] theorem State.setSub_time (x : Sub) : (s.setSub x).time = s.time := rfl
@[simp] theorem State.setSub_wof (x : Sub) : (s.setSub x).wof = s.wof := rfl
@[simp] theorem State.setSub_fleet (x : Sub) : (s.setSub x).fleet = s.fleet := rfl
@[simp] theorem State.setSub_plv (x : Sub) : (s.setSub x).plv = s.plv := rfl
@[simp] theorem State.setSub_sens (x : Sub) : (s.setSub x).sens = s.sens := rfl
@[simp] theorem State.setSub_pilot (x : Sub) : (s.setSub x).pilot = s.pilot := rfl
@[simp] theorem State.setSub_nv (x : Sub) : (s.setSub x).nv = s.nv := rfl
@[simp] theorem State.setSub_blobs (x : Sub) : (s.setSub x).blobs = s.blobs := rfl
@[simp] theorem State.setSub_jtag (x : Sub) : (s.setSub x).jtag = s.jtag := rfl
@[simp] theorem State.setSub_obj (x : Sub) (a e : Nat) : (s.setSub x).obj a e = s.obj a e := rfl
@[simp] theorem State.setSub_objN (x : Sub) (a e : Nat) : (s.setSub x).objN a e = s.objN a e := rfl

/-! ### setQueue -/

@[simp] theorem State.setQueue_now (n : Fin 4) (v : OutQ) : (s.setQueue n v).now = s.now := rfl
@[simp] theorem State.setQueue_scale (n : Fin 4) (v : OutQ) : (s.setQueue n v).scale = s.scale := rfl
@[simp] theorem State.setQueue_free (n : Fin 4) (v : OutQ) : (s.setQueue n v).free = s.free := rfl
@[simp] theorem State.setQueue_pending (n : Fin 4) (v : OutQ) : (s.setQueue n v).pending = s.pending := rfl
@[simp] theorem State.setQueue_out (n : Fin 4) (v : OutQ) : (s.setQueue n v).out = s.out := rfl
@[simp] theorem State.setQueue_dict (n : Fin 4) (v : OutQ) : (s.setQueue n v).dict = s.dict := rfl
@[simp] theorem State.setQueue_tv (n : Fin 4) (v : OutQ) : (s.setQueue n v).tv = s.tv := rfl
@[simp] theorem State.setQueue_sideTx (n : Fin 4) (v : OutQ) : (s.setQueue n v).sideTx = s.sideTx := rfl
@[simp] theorem State.setQueue_restarting (n : Fin 4) (v : OutQ) : (s.setQueue n v).restarting = s.restarting := rfl
@[simp] theorem State.setQueue_ev (n : Fin 4) (v : OutQ) : (s.setQueue n v).ev = s.ev := rfl
@[simp] theorem State.setQueue_life (n : Fin 4) (v : OutQ) : (s.setQueue n v).life = s.life := rfl
@[simp] theorem State.setQueue_die (n : Fin 4) (v : OutQ) : (s.setQueue n v).die = s.die := rfl
@[simp] theorem State.setQueue_frm (n : Fin 4) (v : OutQ) : (s.setQueue n v).frm = s.frm := rfl
@[simp] theorem State.setQueue_quads (n : Fin 4) (v : OutQ) : (s.setQueue n v).quads = s.quads := rfl
@[simp] theorem State.setQueue_em (n : Fin 4) (v : OutQ) : (s.setQueue n v).em = s.em := rfl
@[simp] theorem State.setQueue_steer (n : Fin 4) (v : OutQ) : (s.setQueue n v).steer = s.steer := rfl
@[simp] theorem State.setQueue_forge (n : Fin 4) (v : OutQ) : (s.setQueue n v).forge = s.forge := rfl
@[simp] theorem State.setQueue_ana (n : Fin 4) (v : OutQ) : (s.setQueue n v).ana = s.ana := rfl
@[simp] theorem State.setQueue_gov (n : Fin 4) (v : OutQ) : (s.setQueue n v).gov = s.gov := rfl
@[simp] theorem State.setQueue_queues (n : Fin 4) (v : OutQ) : (s.setQueue n v).queues = s.queues.set n v := rfl
@[simp] theorem State.setQueue_dma (n : Fin 4) (v : OutQ) : (s.setQueue n v).dma = s.dma := rfl
@[simp] theorem State.setQueue_links (n : Fin 4) (v : OutQ) : (s.setQueue n v).links = s.links := rfl
@[simp] theorem State.setQueue_recTok (n : Fin 4) (v : OutQ) : (s.setQueue n v).recTok = s.recTok := rfl
@[simp] theorem State.setQueue_recAt (n : Fin 4) (v : OutQ) : (s.setQueue n v).recAt = s.recAt := rfl
@[simp] theorem State.setQueue_tap (n : Fin 4) (v : OutQ) : (s.setQueue n v).tap = s.tap := rfl
@[simp] theorem State.setQueue_isl (n : Fin 4) (v : OutQ) : (s.setQueue n v).isl = s.isl := rfl
@[simp] theorem State.setQueue_cap (n : Fin 4) (v : OutQ) : (s.setQueue n v).cap = s.cap := rfl
@[simp] theorem State.setQueue_time (n : Fin 4) (v : OutQ) : (s.setQueue n v).time = s.time := rfl
@[simp] theorem State.setQueue_wof (n : Fin 4) (v : OutQ) : (s.setQueue n v).wof = s.wof := rfl
@[simp] theorem State.setQueue_fleet (n : Fin 4) (v : OutQ) : (s.setQueue n v).fleet = s.fleet := rfl
@[simp] theorem State.setQueue_plv (n : Fin 4) (v : OutQ) : (s.setQueue n v).plv = s.plv := rfl
@[simp] theorem State.setQueue_sens (n : Fin 4) (v : OutQ) : (s.setQueue n v).sens = s.sens := rfl
@[simp] theorem State.setQueue_pilot (n : Fin 4) (v : OutQ) : (s.setQueue n v).pilot = s.pilot := rfl
@[simp] theorem State.setQueue_nv (n : Fin 4) (v : OutQ) : (s.setQueue n v).nv = s.nv := rfl
@[simp] theorem State.setQueue_blobs (n : Fin 4) (v : OutQ) : (s.setQueue n v).blobs = s.blobs := rfl
@[simp] theorem State.setQueue_jtag (n : Fin 4) (v : OutQ) : (s.setQueue n v).jtag = s.jtag := rfl
@[simp] theorem State.setQueue_obj (n : Fin 4) (v : OutQ) (a e : Nat) : (s.setQueue n v).obj a e = s.obj a e := rfl
@[simp] theorem State.setQueue_objN (n : Fin 4) (v : OutQ) (a e : Nat) : (s.setQueue n v).objN a e = s.objN a e := rfl

/-! ### setLink -/

@[simp] theorem State.setLink_now (l : Fin 2) (v : Link) : (s.setLink l v).now = s.now := rfl
@[simp] theorem State.setLink_scale (l : Fin 2) (v : Link) : (s.setLink l v).scale = s.scale := rfl
@[simp] theorem State.setLink_free (l : Fin 2) (v : Link) : (s.setLink l v).free = s.free := rfl
@[simp] theorem State.setLink_pending (l : Fin 2) (v : Link) : (s.setLink l v).pending = s.pending := rfl
@[simp] theorem State.setLink_out (l : Fin 2) (v : Link) : (s.setLink l v).out = s.out := rfl
@[simp] theorem State.setLink_dict (l : Fin 2) (v : Link) : (s.setLink l v).dict = s.dict := rfl
@[simp] theorem State.setLink_tv (l : Fin 2) (v : Link) : (s.setLink l v).tv = s.tv := rfl
@[simp] theorem State.setLink_sideTx (l : Fin 2) (v : Link) : (s.setLink l v).sideTx = s.sideTx := rfl
@[simp] theorem State.setLink_restarting (l : Fin 2) (v : Link) : (s.setLink l v).restarting = s.restarting := rfl
@[simp] theorem State.setLink_ev (l : Fin 2) (v : Link) : (s.setLink l v).ev = s.ev := rfl
@[simp] theorem State.setLink_life (l : Fin 2) (v : Link) : (s.setLink l v).life = s.life := rfl
@[simp] theorem State.setLink_die (l : Fin 2) (v : Link) : (s.setLink l v).die = s.die := rfl
@[simp] theorem State.setLink_frm (l : Fin 2) (v : Link) : (s.setLink l v).frm = s.frm := rfl
@[simp] theorem State.setLink_quads (l : Fin 2) (v : Link) : (s.setLink l v).quads = s.quads := rfl
@[simp] theorem State.setLink_em (l : Fin 2) (v : Link) : (s.setLink l v).em = s.em := rfl
@[simp] theorem State.setLink_steer (l : Fin 2) (v : Link) : (s.setLink l v).steer = s.steer := rfl
@[simp] theorem State.setLink_forge (l : Fin 2) (v : Link) : (s.setLink l v).forge = s.forge := rfl
@[simp] theorem State.setLink_ana (l : Fin 2) (v : Link) : (s.setLink l v).ana = s.ana := rfl
@[simp] theorem State.setLink_gov (l : Fin 2) (v : Link) : (s.setLink l v).gov = s.gov := rfl
@[simp] theorem State.setLink_queues (l : Fin 2) (v : Link) : (s.setLink l v).queues = s.queues := rfl
@[simp] theorem State.setLink_dma (l : Fin 2) (v : Link) : (s.setLink l v).dma = s.dma := rfl
@[simp] theorem State.setLink_links (l : Fin 2) (v : Link) : (s.setLink l v).links = s.links.set l v := rfl
@[simp] theorem State.setLink_recTok (l : Fin 2) (v : Link) : (s.setLink l v).recTok = s.recTok := rfl
@[simp] theorem State.setLink_recAt (l : Fin 2) (v : Link) : (s.setLink l v).recAt = s.recAt := rfl
@[simp] theorem State.setLink_tap (l : Fin 2) (v : Link) : (s.setLink l v).tap = s.tap := rfl
@[simp] theorem State.setLink_isl (l : Fin 2) (v : Link) : (s.setLink l v).isl = s.isl := rfl
@[simp] theorem State.setLink_cap (l : Fin 2) (v : Link) : (s.setLink l v).cap = s.cap := rfl
@[simp] theorem State.setLink_time (l : Fin 2) (v : Link) : (s.setLink l v).time = s.time := rfl
@[simp] theorem State.setLink_wof (l : Fin 2) (v : Link) : (s.setLink l v).wof = s.wof := rfl
@[simp] theorem State.setLink_fleet (l : Fin 2) (v : Link) : (s.setLink l v).fleet = s.fleet := rfl
@[simp] theorem State.setLink_plv (l : Fin 2) (v : Link) : (s.setLink l v).plv = s.plv := rfl
@[simp] theorem State.setLink_sens (l : Fin 2) (v : Link) : (s.setLink l v).sens = s.sens := rfl
@[simp] theorem State.setLink_pilot (l : Fin 2) (v : Link) : (s.setLink l v).pilot = s.pilot := rfl
@[simp] theorem State.setLink_nv (l : Fin 2) (v : Link) : (s.setLink l v).nv = s.nv := rfl
@[simp] theorem State.setLink_blobs (l : Fin 2) (v : Link) : (s.setLink l v).blobs = s.blobs := rfl
@[simp] theorem State.setLink_jtag (l : Fin 2) (v : Link) : (s.setLink l v).jtag = s.jtag := rfl
@[simp] theorem State.setLink_obj (l : Fin 2) (v : Link) (a e : Nat) : (s.setLink l v).obj a e = s.obj a e := rfl
@[simp] theorem State.setLink_objN (l : Fin 2) (v : Link) (a e : Nat) : (s.setLink l v).objN a e = s.objN a e := rfl

/-! ### modLink -/

@[simp] theorem State.modLink_now (l : Fin 2) (f : Link → Link) : (s.modLink l f).now = s.now := rfl
@[simp] theorem State.modLink_scale (l : Fin 2) (f : Link → Link) : (s.modLink l f).scale = s.scale := rfl
@[simp] theorem State.modLink_free (l : Fin 2) (f : Link → Link) : (s.modLink l f).free = s.free := rfl
@[simp] theorem State.modLink_pending (l : Fin 2) (f : Link → Link) : (s.modLink l f).pending = s.pending := rfl
@[simp] theorem State.modLink_out (l : Fin 2) (f : Link → Link) : (s.modLink l f).out = s.out := rfl
@[simp] theorem State.modLink_dict (l : Fin 2) (f : Link → Link) : (s.modLink l f).dict = s.dict := rfl
@[simp] theorem State.modLink_tv (l : Fin 2) (f : Link → Link) : (s.modLink l f).tv = s.tv := rfl
@[simp] theorem State.modLink_sideTx (l : Fin 2) (f : Link → Link) : (s.modLink l f).sideTx = s.sideTx := rfl
@[simp] theorem State.modLink_restarting (l : Fin 2) (f : Link → Link) : (s.modLink l f).restarting = s.restarting := rfl
@[simp] theorem State.modLink_ev (l : Fin 2) (f : Link → Link) : (s.modLink l f).ev = s.ev := rfl
@[simp] theorem State.modLink_life (l : Fin 2) (f : Link → Link) : (s.modLink l f).life = s.life := rfl
@[simp] theorem State.modLink_die (l : Fin 2) (f : Link → Link) : (s.modLink l f).die = s.die := rfl
@[simp] theorem State.modLink_frm (l : Fin 2) (f : Link → Link) : (s.modLink l f).frm = s.frm := rfl
@[simp] theorem State.modLink_quads (l : Fin 2) (f : Link → Link) : (s.modLink l f).quads = s.quads := rfl
@[simp] theorem State.modLink_em (l : Fin 2) (f : Link → Link) : (s.modLink l f).em = s.em := rfl
@[simp] theorem State.modLink_steer (l : Fin 2) (f : Link → Link) : (s.modLink l f).steer = s.steer := rfl
@[simp] theorem State.modLink_forge (l : Fin 2) (f : Link → Link) : (s.modLink l f).forge = s.forge := rfl
@[simp] theorem State.modLink_ana (l : Fin 2) (f : Link → Link) : (s.modLink l f).ana = s.ana := rfl
@[simp] theorem State.modLink_gov (l : Fin 2) (f : Link → Link) : (s.modLink l f).gov = s.gov := rfl
@[simp] theorem State.modLink_queues (l : Fin 2) (f : Link → Link) : (s.modLink l f).queues = s.queues := rfl
@[simp] theorem State.modLink_dma (l : Fin 2) (f : Link → Link) : (s.modLink l f).dma = s.dma := rfl
@[simp] theorem State.modLink_links (l : Fin 2) (f : Link → Link) : (s.modLink l f).links = s.links.set l (f (s.link l)) := rfl
@[simp] theorem State.modLink_recTok (l : Fin 2) (f : Link → Link) : (s.modLink l f).recTok = s.recTok := rfl
@[simp] theorem State.modLink_recAt (l : Fin 2) (f : Link → Link) : (s.modLink l f).recAt = s.recAt := rfl
@[simp] theorem State.modLink_tap (l : Fin 2) (f : Link → Link) : (s.modLink l f).tap = s.tap := rfl
@[simp] theorem State.modLink_isl (l : Fin 2) (f : Link → Link) : (s.modLink l f).isl = s.isl := rfl
@[simp] theorem State.modLink_cap (l : Fin 2) (f : Link → Link) : (s.modLink l f).cap = s.cap := rfl
@[simp] theorem State.modLink_time (l : Fin 2) (f : Link → Link) : (s.modLink l f).time = s.time := rfl
@[simp] theorem State.modLink_wof (l : Fin 2) (f : Link → Link) : (s.modLink l f).wof = s.wof := rfl
@[simp] theorem State.modLink_fleet (l : Fin 2) (f : Link → Link) : (s.modLink l f).fleet = s.fleet := rfl
@[simp] theorem State.modLink_plv (l : Fin 2) (f : Link → Link) : (s.modLink l f).plv = s.plv := rfl
@[simp] theorem State.modLink_sens (l : Fin 2) (f : Link → Link) : (s.modLink l f).sens = s.sens := rfl
@[simp] theorem State.modLink_pilot (l : Fin 2) (f : Link → Link) : (s.modLink l f).pilot = s.pilot := rfl
@[simp] theorem State.modLink_nv (l : Fin 2) (f : Link → Link) : (s.modLink l f).nv = s.nv := rfl
@[simp] theorem State.modLink_blobs (l : Fin 2) (f : Link → Link) : (s.modLink l f).blobs = s.blobs := rfl
@[simp] theorem State.modLink_jtag (l : Fin 2) (f : Link → Link) : (s.modLink l f).jtag = s.jtag := rfl
@[simp] theorem State.modLink_obj (l : Fin 2) (f : Link → Link) (a e : Nat) : (s.modLink l f).obj a e = s.obj a e := rfl
@[simp] theorem State.modLink_objN (l : Fin 2) (f : Link → Link) (a e : Nat) : (s.modLink l f).objN a e = s.objN a e := rfl

/-! ### modLane -/

@[simp] theorem State.modLane_now (l : Fin 2) (i : Fin 4) (f : LinkLane → LinkLane) : (s.modLane l i f).now = s.now := rfl
@[simp] theorem State.modLane_scale (l : Fin 2) (i : Fin 4) (f : LinkLane → LinkLane) : (s.modLane l i f).scale = s.scale := rfl
@[simp] theorem State.modLane_free (l : Fin 2) (i : Fin 4) (f : LinkLane → LinkLane) : (s.modLane l i f).free = s.free := rfl
@[simp] theorem State.modLane_pending (l : Fin 2) (i : Fin 4) (f : LinkLane → LinkLane) : (s.modLane l i f).pending = s.pending := rfl
@[simp] theorem State.modLane_out (l : Fin 2) (i : Fin 4) (f : LinkLane → LinkLane) : (s.modLane l i f).out = s.out := rfl
@[simp] theorem State.modLane_dict (l : Fin 2) (i : Fin 4) (f : LinkLane → LinkLane) : (s.modLane l i f).dict = s.dict := rfl
@[simp] theorem State.modLane_tv (l : Fin 2) (i : Fin 4) (f : LinkLane → LinkLane) : (s.modLane l i f).tv = s.tv := rfl
@[simp] theorem State.modLane_sideTx (l : Fin 2) (i : Fin 4) (f : LinkLane → LinkLane) : (s.modLane l i f).sideTx = s.sideTx := rfl
@[simp] theorem State.modLane_restarting (l : Fin 2) (i : Fin 4) (f : LinkLane → LinkLane) : (s.modLane l i f).restarting = s.restarting := rfl
@[simp] theorem State.modLane_ev (l : Fin 2) (i : Fin 4) (f : LinkLane → LinkLane) : (s.modLane l i f).ev = s.ev := rfl
@[simp] theorem State.modLane_life (l : Fin 2) (i : Fin 4) (f : LinkLane → LinkLane) : (s.modLane l i f).life = s.life := rfl
@[simp] theorem State.modLane_die (l : Fin 2) (i : Fin 4) (f : LinkLane → LinkLane) : (s.modLane l i f).die = s.die := rfl
@[simp] theorem State.modLane_frm (l : Fin 2) (i : Fin 4) (f : LinkLane → LinkLane) : (s.modLane l i f).frm = s.frm := rfl
@[simp] theorem State.modLane_quads (l : Fin 2) (i : Fin 4) (f : LinkLane → LinkLane) : (s.modLane l i f).quads = s.quads := rfl
@[simp] theorem State.modLane_em (l : Fin 2) (i : Fin 4) (f : LinkLane → LinkLane) : (s.modLane l i f).em = s.em := rfl
@[simp] theorem State.modLane_steer (l : Fin 2) (i : Fin 4) (f : LinkLane → LinkLane) : (s.modLane l i f).steer = s.steer := rfl
@[simp] theorem State.modLane_forge (l : Fin 2) (i : Fin 4) (f : LinkLane → LinkLane) : (s.modLane l i f).forge = s.forge := rfl
@[simp] theorem State.modLane_ana (l : Fin 2) (i : Fin 4) (f : LinkLane → LinkLane) : (s.modLane l i f).ana = s.ana := rfl
@[simp] theorem State.modLane_gov (l : Fin 2) (i : Fin 4) (f : LinkLane → LinkLane) : (s.modLane l i f).gov = s.gov := rfl
@[simp] theorem State.modLane_queues (l : Fin 2) (i : Fin 4) (f : LinkLane → LinkLane) : (s.modLane l i f).queues = s.queues := rfl
@[simp] theorem State.modLane_dma (l : Fin 2) (i : Fin 4) (f : LinkLane → LinkLane) : (s.modLane l i f).dma = s.dma := rfl
@[simp] theorem State.modLane_recTok (l : Fin 2) (i : Fin 4) (f : LinkLane → LinkLane) : (s.modLane l i f).recTok = s.recTok := rfl
@[simp] theorem State.modLane_recAt (l : Fin 2) (i : Fin 4) (f : LinkLane → LinkLane) : (s.modLane l i f).recAt = s.recAt := rfl
@[simp] theorem State.modLane_tap (l : Fin 2) (i : Fin 4) (f : LinkLane → LinkLane) : (s.modLane l i f).tap = s.tap := rfl
@[simp] theorem State.modLane_isl (l : Fin 2) (i : Fin 4) (f : LinkLane → LinkLane) : (s.modLane l i f).isl = s.isl := rfl
@[simp] theorem State.modLane_cap (l : Fin 2) (i : Fin 4) (f : LinkLane → LinkLane) : (s.modLane l i f).cap = s.cap := rfl
@[simp] theorem State.modLane_time (l : Fin 2) (i : Fin 4) (f : LinkLane → LinkLane) : (s.modLane l i f).time = s.time := rfl
@[simp] theorem State.modLane_wof (l : Fin 2) (i : Fin 4) (f : LinkLane → LinkLane) : (s.modLane l i f).wof = s.wof := rfl
@[simp] theorem State.modLane_fleet (l : Fin 2) (i : Fin 4) (f : LinkLane → LinkLane) : (s.modLane l i f).fleet = s.fleet := rfl
@[simp] theorem State.modLane_plv (l : Fin 2) (i : Fin 4) (f : LinkLane → LinkLane) : (s.modLane l i f).plv = s.plv := rfl
@[simp] theorem State.modLane_sens (l : Fin 2) (i : Fin 4) (f : LinkLane → LinkLane) : (s.modLane l i f).sens = s.sens := rfl
@[simp] theorem State.modLane_pilot (l : Fin 2) (i : Fin 4) (f : LinkLane → LinkLane) : (s.modLane l i f).pilot = s.pilot := rfl
@[simp] theorem State.modLane_nv (l : Fin 2) (i : Fin 4) (f : LinkLane → LinkLane) : (s.modLane l i f).nv = s.nv := rfl
@[simp] theorem State.modLane_blobs (l : Fin 2) (i : Fin 4) (f : LinkLane → LinkLane) : (s.modLane l i f).blobs = s.blobs := rfl
@[simp] theorem State.modLane_jtag (l : Fin 2) (i : Fin 4) (f : LinkLane → LinkLane) : (s.modLane l i f).jtag = s.jtag := rfl
@[simp] theorem State.modLane_obj (l : Fin 2) (i : Fin 4) (f : LinkLane → LinkLane) (a e : Nat) : (s.modLane l i f).obj a e = s.obj a e := rfl
@[simp] theorem State.modLane_objN (l : Fin 2) (i : Fin 4) (f : LinkLane → LinkLane) (a e : Nat) : (s.modLane l i f).objN a e = s.objN a e := rfl

/-! ### setInHand -/

@[simp] theorem State.setInHand_now (l : Fin 2) (h : InHand) : (s.setInHand l h).now = s.now := rfl
@[simp] theorem State.setInHand_scale (l : Fin 2) (h : InHand) : (s.setInHand l h).scale = s.scale := rfl
@[simp] theorem State.setInHand_free (l : Fin 2) (h : InHand) : (s.setInHand l h).free = s.free := rfl
@[simp] theorem State.setInHand_pending (l : Fin 2) (h : InHand) : (s.setInHand l h).pending = s.pending := rfl
@[simp] theorem State.setInHand_out (l : Fin 2) (h : InHand) : (s.setInHand l h).out = s.out := rfl
@[simp] theorem State.setInHand_dict (l : Fin 2) (h : InHand) : (s.setInHand l h).dict = s.dict := rfl
@[simp] theorem State.setInHand_tv (l : Fin 2) (h : InHand) : (s.setInHand l h).tv = s.tv := rfl
@[simp] theorem State.setInHand_sideTx (l : Fin 2) (h : InHand) : (s.setInHand l h).sideTx = s.sideTx := rfl
@[simp] theorem State.setInHand_restarting (l : Fin 2) (h : InHand) : (s.setInHand l h).restarting = s.restarting := rfl
@[simp] theorem State.setInHand_ev (l : Fin 2) (h : InHand) : (s.setInHand l h).ev = s.ev := rfl
@[simp] theorem State.setInHand_life (l : Fin 2) (h : InHand) : (s.setInHand l h).life = s.life := rfl
@[simp] theorem State.setInHand_die (l : Fin 2) (h : InHand) : (s.setInHand l h).die = s.die := rfl
@[simp] theorem State.setInHand_frm (l : Fin 2) (h : InHand) : (s.setInHand l h).frm = s.frm := rfl
@[simp] theorem State.setInHand_quads (l : Fin 2) (h : InHand) : (s.setInHand l h).quads = s.quads := rfl
@[simp] theorem State.setInHand_em (l : Fin 2) (h : InHand) : (s.setInHand l h).em = s.em := rfl
@[simp] theorem State.setInHand_steer (l : Fin 2) (h : InHand) : (s.setInHand l h).steer = s.steer := rfl
@[simp] theorem State.setInHand_forge (l : Fin 2) (h : InHand) : (s.setInHand l h).forge = s.forge := rfl
@[simp] theorem State.setInHand_ana (l : Fin 2) (h : InHand) : (s.setInHand l h).ana = s.ana := rfl
@[simp] theorem State.setInHand_gov (l : Fin 2) (h : InHand) : (s.setInHand l h).gov = s.gov := rfl
@[simp] theorem State.setInHand_queues (l : Fin 2) (h : InHand) : (s.setInHand l h).queues = s.queues := rfl
@[simp] theorem State.setInHand_dma (l : Fin 2) (h : InHand) : (s.setInHand l h).dma = s.dma := rfl
@[simp] theorem State.setInHand_recTok (l : Fin 2) (h : InHand) : (s.setInHand l h).recTok = s.recTok := rfl
@[simp] theorem State.setInHand_recAt (l : Fin 2) (h : InHand) : (s.setInHand l h).recAt = s.recAt := rfl
@[simp] theorem State.setInHand_tap (l : Fin 2) (h : InHand) : (s.setInHand l h).tap = s.tap := rfl
@[simp] theorem State.setInHand_isl (l : Fin 2) (h : InHand) : (s.setInHand l h).isl = s.isl := rfl
@[simp] theorem State.setInHand_cap (l : Fin 2) (h : InHand) : (s.setInHand l h).cap = s.cap := rfl
@[simp] theorem State.setInHand_time (l : Fin 2) (h : InHand) : (s.setInHand l h).time = s.time := rfl
@[simp] theorem State.setInHand_wof (l : Fin 2) (h : InHand) : (s.setInHand l h).wof = s.wof := rfl
@[simp] theorem State.setInHand_fleet (l : Fin 2) (h : InHand) : (s.setInHand l h).fleet = s.fleet := rfl
@[simp] theorem State.setInHand_plv (l : Fin 2) (h : InHand) : (s.setInHand l h).plv = s.plv := rfl
@[simp] theorem State.setInHand_sens (l : Fin 2) (h : InHand) : (s.setInHand l h).sens = s.sens := rfl
@[simp] theorem State.setInHand_pilot (l : Fin 2) (h : InHand) : (s.setInHand l h).pilot = s.pilot := rfl
@[simp] theorem State.setInHand_nv (l : Fin 2) (h : InHand) : (s.setInHand l h).nv = s.nv := rfl
@[simp] theorem State.setInHand_blobs (l : Fin 2) (h : InHand) : (s.setInHand l h).blobs = s.blobs := rfl
@[simp] theorem State.setInHand_jtag (l : Fin 2) (h : InHand) : (s.setInHand l h).jtag = s.jtag := rfl
@[simp] theorem State.setInHand_obj (l : Fin 2) (h : InHand) (a e : Nat) : (s.setInHand l h).obj a e = s.obj a e := rfl
@[simp] theorem State.setInHand_objN (l : Fin 2) (h : InHand) (a e : Nat) : (s.setInHand l h).objN a e = s.objN a e := rfl

/-! ### setDmaCh -/

@[simp] theorem State.setDmaCh_now (c : Fin 32) (v : DmaCh) : (s.setDmaCh c v).now = s.now := rfl
@[simp] theorem State.setDmaCh_scale (c : Fin 32) (v : DmaCh) : (s.setDmaCh c v).scale = s.scale := rfl
@[simp] theorem State.setDmaCh_free (c : Fin 32) (v : DmaCh) : (s.setDmaCh c v).free = s.free := rfl
@[simp] theorem State.setDmaCh_pending (c : Fin 32) (v : DmaCh) : (s.setDmaCh c v).pending = s.pending := rfl
@[simp] theorem State.setDmaCh_out (c : Fin 32) (v : DmaCh) : (s.setDmaCh c v).out = s.out := rfl
@[simp] theorem State.setDmaCh_dict (c : Fin 32) (v : DmaCh) : (s.setDmaCh c v).dict = s.dict := rfl
@[simp] theorem State.setDmaCh_tv (c : Fin 32) (v : DmaCh) : (s.setDmaCh c v).tv = s.tv := rfl
@[simp] theorem State.setDmaCh_sideTx (c : Fin 32) (v : DmaCh) : (s.setDmaCh c v).sideTx = s.sideTx := rfl
@[simp] theorem State.setDmaCh_restarting (c : Fin 32) (v : DmaCh) : (s.setDmaCh c v).restarting = s.restarting := rfl
@[simp] theorem State.setDmaCh_ev (c : Fin 32) (v : DmaCh) : (s.setDmaCh c v).ev = s.ev := rfl
@[simp] theorem State.setDmaCh_life (c : Fin 32) (v : DmaCh) : (s.setDmaCh c v).life = s.life := rfl
@[simp] theorem State.setDmaCh_die (c : Fin 32) (v : DmaCh) : (s.setDmaCh c v).die = s.die := rfl
@[simp] theorem State.setDmaCh_frm (c : Fin 32) (v : DmaCh) : (s.setDmaCh c v).frm = s.frm := rfl
@[simp] theorem State.setDmaCh_quads (c : Fin 32) (v : DmaCh) : (s.setDmaCh c v).quads = s.quads := rfl
@[simp] theorem State.setDmaCh_em (c : Fin 32) (v : DmaCh) : (s.setDmaCh c v).em = s.em := rfl
@[simp] theorem State.setDmaCh_steer (c : Fin 32) (v : DmaCh) : (s.setDmaCh c v).steer = s.steer := rfl
@[simp] theorem State.setDmaCh_forge (c : Fin 32) (v : DmaCh) : (s.setDmaCh c v).forge = s.forge := rfl
@[simp] theorem State.setDmaCh_ana (c : Fin 32) (v : DmaCh) : (s.setDmaCh c v).ana = s.ana := rfl
@[simp] theorem State.setDmaCh_gov (c : Fin 32) (v : DmaCh) : (s.setDmaCh c v).gov = s.gov := rfl
@[simp] theorem State.setDmaCh_queues (c : Fin 32) (v : DmaCh) : (s.setDmaCh c v).queues = s.queues := rfl
@[simp] theorem State.setDmaCh_dma (c : Fin 32) (v : DmaCh) : (s.setDmaCh c v).dma = { s.dma with chans := s.dma.chans.set c v } := rfl
@[simp] theorem State.setDmaCh_links (c : Fin 32) (v : DmaCh) : (s.setDmaCh c v).links = s.links := rfl
@[simp] theorem State.setDmaCh_recTok (c : Fin 32) (v : DmaCh) : (s.setDmaCh c v).recTok = s.recTok := rfl
@[simp] theorem State.setDmaCh_recAt (c : Fin 32) (v : DmaCh) : (s.setDmaCh c v).recAt = s.recAt := rfl
@[simp] theorem State.setDmaCh_tap (c : Fin 32) (v : DmaCh) : (s.setDmaCh c v).tap = s.tap := rfl
@[simp] theorem State.setDmaCh_isl (c : Fin 32) (v : DmaCh) : (s.setDmaCh c v).isl = s.isl := rfl
@[simp] theorem State.setDmaCh_cap (c : Fin 32) (v : DmaCh) : (s.setDmaCh c v).cap = s.cap := rfl
@[simp] theorem State.setDmaCh_time (c : Fin 32) (v : DmaCh) : (s.setDmaCh c v).time = s.time := rfl
@[simp] theorem State.setDmaCh_wof (c : Fin 32) (v : DmaCh) : (s.setDmaCh c v).wof = s.wof := rfl
@[simp] theorem State.setDmaCh_fleet (c : Fin 32) (v : DmaCh) : (s.setDmaCh c v).fleet = s.fleet := rfl
@[simp] theorem State.setDmaCh_plv (c : Fin 32) (v : DmaCh) : (s.setDmaCh c v).plv = s.plv := rfl
@[simp] theorem State.setDmaCh_sens (c : Fin 32) (v : DmaCh) : (s.setDmaCh c v).sens = s.sens := rfl
@[simp] theorem State.setDmaCh_pilot (c : Fin 32) (v : DmaCh) : (s.setDmaCh c v).pilot = s.pilot := rfl
@[simp] theorem State.setDmaCh_nv (c : Fin 32) (v : DmaCh) : (s.setDmaCh c v).nv = s.nv := rfl
@[simp] theorem State.setDmaCh_blobs (c : Fin 32) (v : DmaCh) : (s.setDmaCh c v).blobs = s.blobs := rfl
@[simp] theorem State.setDmaCh_jtag (c : Fin 32) (v : DmaCh) : (s.setDmaCh c v).jtag = s.jtag := rfl
@[simp] theorem State.setDmaCh_obj (c : Fin 32) (v : DmaCh) (a e : Nat) : (s.setDmaCh c v).obj a e = s.obj a e := rfl
@[simp] theorem State.setDmaCh_objN (c : Fin 32) (v : DmaCh) (a e : Nat) : (s.setDmaCh c v).objN a e = s.objN a e := rfl

/-! ### modCap -/

@[simp] theorem State.modCap_now (f : Capture → Capture) : (s.modCap f).now = s.now := rfl
@[simp] theorem State.modCap_scale (f : Capture → Capture) : (s.modCap f).scale = s.scale := rfl
@[simp] theorem State.modCap_free (f : Capture → Capture) : (s.modCap f).free = s.free := rfl
@[simp] theorem State.modCap_pending (f : Capture → Capture) : (s.modCap f).pending = s.pending := rfl
@[simp] theorem State.modCap_out (f : Capture → Capture) : (s.modCap f).out = s.out := rfl
@[simp] theorem State.modCap_dict (f : Capture → Capture) : (s.modCap f).dict = s.dict := rfl
@[simp] theorem State.modCap_tv (f : Capture → Capture) : (s.modCap f).tv = s.tv := rfl
@[simp] theorem State.modCap_sideTx (f : Capture → Capture) : (s.modCap f).sideTx = s.sideTx := rfl
@[simp] theorem State.modCap_restarting (f : Capture → Capture) : (s.modCap f).restarting = s.restarting := rfl
@[simp] theorem State.modCap_ev (f : Capture → Capture) : (s.modCap f).ev = s.ev := rfl
@[simp] theorem State.modCap_life (f : Capture → Capture) : (s.modCap f).life = s.life := rfl
@[simp] theorem State.modCap_die (f : Capture → Capture) : (s.modCap f).die = s.die := rfl
@[simp] theorem State.modCap_frm (f : Capture → Capture) : (s.modCap f).frm = s.frm := rfl
@[simp] theorem State.modCap_quads (f : Capture → Capture) : (s.modCap f).quads = s.quads := rfl
@[simp] theorem State.modCap_em (f : Capture → Capture) : (s.modCap f).em = s.em := rfl
@[simp] theorem State.modCap_steer (f : Capture → Capture) : (s.modCap f).steer = s.steer := rfl
@[simp] theorem State.modCap_forge (f : Capture → Capture) : (s.modCap f).forge = s.forge := rfl
@[simp] theorem State.modCap_ana (f : Capture → Capture) : (s.modCap f).ana = s.ana := rfl
@[simp] theorem State.modCap_gov (f : Capture → Capture) : (s.modCap f).gov = s.gov := rfl
@[simp] theorem State.modCap_queues (f : Capture → Capture) : (s.modCap f).queues = s.queues := rfl
@[simp] theorem State.modCap_dma (f : Capture → Capture) : (s.modCap f).dma = s.dma := rfl
@[simp] theorem State.modCap_links (f : Capture → Capture) : (s.modCap f).links = s.links := rfl
@[simp] theorem State.modCap_recTok (f : Capture → Capture) : (s.modCap f).recTok = s.recTok := rfl
@[simp] theorem State.modCap_recAt (f : Capture → Capture) : (s.modCap f).recAt = s.recAt := rfl
@[simp] theorem State.modCap_tap (f : Capture → Capture) : (s.modCap f).tap = s.tap := rfl
@[simp] theorem State.modCap_isl (f : Capture → Capture) : (s.modCap f).isl = s.isl := rfl
@[simp] theorem State.modCap_cap (f : Capture → Capture) : (s.modCap f).cap = f s.cap := rfl
@[simp] theorem State.modCap_time (f : Capture → Capture) : (s.modCap f).time = s.time := rfl
@[simp] theorem State.modCap_wof (f : Capture → Capture) : (s.modCap f).wof = s.wof := rfl
@[simp] theorem State.modCap_fleet (f : Capture → Capture) : (s.modCap f).fleet = s.fleet := rfl
@[simp] theorem State.modCap_plv (f : Capture → Capture) : (s.modCap f).plv = s.plv := rfl
@[simp] theorem State.modCap_sens (f : Capture → Capture) : (s.modCap f).sens = s.sens := rfl
@[simp] theorem State.modCap_pilot (f : Capture → Capture) : (s.modCap f).pilot = s.pilot := rfl
@[simp] theorem State.modCap_nv (f : Capture → Capture) : (s.modCap f).nv = s.nv := rfl
@[simp] theorem State.modCap_blobs (f : Capture → Capture) : (s.modCap f).blobs = s.blobs := rfl
@[simp] theorem State.modCap_jtag (f : Capture → Capture) : (s.modCap f).jtag = s.jtag := rfl
@[simp] theorem State.modCap_obj (f : Capture → Capture) (a e : Nat) : (s.modCap f).obj a e = s.obj a e := rfl
@[simp] theorem State.modCap_objN (f : Capture → Capture) (a e : Nat) : (s.modCap f).objN a e = s.objN a e := rfl

/-! ### setSeg -/

@[simp] theorem State.setSeg_now (i : Nat) (g : Seg) : (s.setSeg i g).now = s.now := rfl
@[simp] theorem State.setSeg_scale (i : Nat) (g : Seg) : (s.setSeg i g).scale = s.scale := rfl
@[simp] theorem State.setSeg_free (i : Nat) (g : Seg) : (s.setSeg i g).free = s.free := rfl
@[simp] theorem State.setSeg_pending (i : Nat) (g : Seg) : (s.setSeg i g).pending = s.pending := rfl
@[simp] theorem State.setSeg_out (i : Nat) (g : Seg) : (s.setSeg i g).out = s.out := rfl
@[simp] theorem State.setSeg_dict (i : Nat) (g : Seg) : (s.setSeg i g).dict = s.dict := rfl
@[simp] theorem State.setSeg_tv (i : Nat) (g : Seg) : (s.setSeg i g).tv = s.tv := rfl
@[simp] theorem State.setSeg_sideTx (i : Nat) (g : Seg) : (s.setSeg i g).sideTx = s.sideTx := rfl
@[simp] theorem State.setSeg_restarting (i : Nat) (g : Seg) : (s.setSeg i g).restarting = s.restarting := rfl
@[simp] theorem State.setSeg_ev (i : Nat) (g : Seg) : (s.setSeg i g).ev = s.ev := rfl
@[simp] theorem State.setSeg_life (i : Nat) (g : Seg) : (s.setSeg i g).life = s.life := rfl
@[simp] theorem State.setSeg_die (i : Nat) (g : Seg) : (s.setSeg i g).die = s.die := rfl
@[simp] theorem State.setSeg_frm (i : Nat) (g : Seg) : (s.setSeg i g).frm = s.frm := rfl
@[simp] theorem State.setSeg_quads (i : Nat) (g : Seg) : (s.setSeg i g).quads = s.quads := rfl
@[simp] theorem State.setSeg_em (i : Nat) (g : Seg) : (s.setSeg i g).em = s.em := rfl
@[simp] theorem State.setSeg_steer (i : Nat) (g : Seg) : (s.setSeg i g).steer = s.steer := rfl
@[simp] theorem State.setSeg_forge (i : Nat) (g : Seg) : (s.setSeg i g).forge = s.forge := rfl
@[simp] theorem State.setSeg_ana (i : Nat) (g : Seg) : (s.setSeg i g).ana = s.ana := rfl
@[simp] theorem State.setSeg_gov (i : Nat) (g : Seg) : (s.setSeg i g).gov = s.gov := rfl
@[simp] theorem State.setSeg_queues (i : Nat) (g : Seg) : (s.setSeg i g).queues = s.queues := rfl
@[simp] theorem State.setSeg_dma (i : Nat) (g : Seg) : (s.setSeg i g).dma = s.dma := rfl
@[simp] theorem State.setSeg_links (i : Nat) (g : Seg) : (s.setSeg i g).links = s.links := rfl
@[simp] theorem State.setSeg_recTok (i : Nat) (g : Seg) : (s.setSeg i g).recTok = s.recTok := rfl
@[simp] theorem State.setSeg_recAt (i : Nat) (g : Seg) : (s.setSeg i g).recAt = s.recAt := rfl
@[simp] theorem State.setSeg_tap (i : Nat) (g : Seg) : (s.setSeg i g).tap = s.tap := rfl
@[simp] theorem State.setSeg_isl (i : Nat) (g : Seg) : (s.setSeg i g).isl = s.isl := rfl
@[simp] theorem State.setSeg_cap (i : Nat) (g : Seg) : (s.setSeg i g).cap = { s.cap with segs := assocPut s.cap.segs i g } := rfl
@[simp] theorem State.setSeg_time (i : Nat) (g : Seg) : (s.setSeg i g).time = s.time := rfl
@[simp] theorem State.setSeg_wof (i : Nat) (g : Seg) : (s.setSeg i g).wof = s.wof := rfl
@[simp] theorem State.setSeg_fleet (i : Nat) (g : Seg) : (s.setSeg i g).fleet = s.fleet := rfl
@[simp] theorem State.setSeg_plv (i : Nat) (g : Seg) : (s.setSeg i g).plv = s.plv := rfl
@[simp] theorem State.setSeg_sens (i : Nat) (g : Seg) : (s.setSeg i g).sens = s.sens := rfl
@[simp] theorem State.setSeg_pilot (i : Nat) (g : Seg) : (s.setSeg i g).pilot = s.pilot := rfl
@[simp] theorem State.setSeg_nv (i : Nat) (g : Seg) : (s.setSeg i g).nv = s.nv := rfl
@[simp] theorem State.setSeg_blobs (i : Nat) (g : Seg) : (s.setSeg i g).blobs = s.blobs := rfl
@[simp] theorem State.setSeg_jtag (i : Nat) (g : Seg) : (s.setSeg i g).jtag = s.jtag := rfl
@[simp] theorem State.setSeg_obj (i : Nat) (g : Seg) (a e : Nat) : (s.setSeg i g).obj a e = s.obj a e := rfl
@[simp] theorem State.setSeg_objN (i : Nat) (g : Seg) (a e : Nat) : (s.setSeg i g).objN a e = s.objN a e := rfl

/-! ### modCru -/

@[simp] theorem State.modCru_now (q : Fin 4) (f : Crucible → Crucible) : (s.modCru q f).now = s.now := rfl
@[simp] theorem State.modCru_scale (q : Fin 4) (f : Crucible → Crucible) : (s.modCru q f).scale = s.scale := rfl
@[simp] theorem State.modCru_free (q : Fin 4) (f : Crucible → Crucible) : (s.modCru q f).free = s.free := rfl
@[simp] theorem State.modCru_pending (q : Fin 4) (f : Crucible → Crucible) : (s.modCru q f).pending = s.pending := rfl
@[simp] theorem State.modCru_out (q : Fin 4) (f : Crucible → Crucible) : (s.modCru q f).out = s.out := rfl
@[simp] theorem State.modCru_dict (q : Fin 4) (f : Crucible → Crucible) : (s.modCru q f).dict = s.dict := rfl
@[simp] theorem State.modCru_tv (q : Fin 4) (f : Crucible → Crucible) : (s.modCru q f).tv = s.tv := rfl
@[simp] theorem State.modCru_sideTx (q : Fin 4) (f : Crucible → Crucible) : (s.modCru q f).sideTx = s.sideTx := rfl
@[simp] theorem State.modCru_restarting (q : Fin 4) (f : Crucible → Crucible) : (s.modCru q f).restarting = s.restarting := rfl
@[simp] theorem State.modCru_ev (q : Fin 4) (f : Crucible → Crucible) : (s.modCru q f).ev = s.ev := rfl
@[simp] theorem State.modCru_life (q : Fin 4) (f : Crucible → Crucible) : (s.modCru q f).life = s.life := rfl
@[simp] theorem State.modCru_die (q : Fin 4) (f : Crucible → Crucible) : (s.modCru q f).die = s.die := rfl
@[simp] theorem State.modCru_frm (q : Fin 4) (f : Crucible → Crucible) : (s.modCru q f).frm = s.frm := rfl
@[simp] theorem State.modCru_em (q : Fin 4) (f : Crucible → Crucible) : (s.modCru q f).em = s.em := rfl
@[simp] theorem State.modCru_steer (q : Fin 4) (f : Crucible → Crucible) : (s.modCru q f).steer = s.steer := rfl
@[simp] theorem State.modCru_forge (q : Fin 4) (f : Crucible → Crucible) : (s.modCru q f).forge = s.forge := rfl
@[simp] theorem State.modCru_ana (q : Fin 4) (f : Crucible → Crucible) : (s.modCru q f).ana = s.ana := rfl
@[simp] theorem State.modCru_gov (q : Fin 4) (f : Crucible → Crucible) : (s.modCru q f).gov = s.gov := rfl
@[simp] theorem State.modCru_queues (q : Fin 4) (f : Crucible → Crucible) : (s.modCru q f).queues = s.queues := rfl
@[simp] theorem State.modCru_dma (q : Fin 4) (f : Crucible → Crucible) : (s.modCru q f).dma = s.dma := rfl
@[simp] theorem State.modCru_links (q : Fin 4) (f : Crucible → Crucible) : (s.modCru q f).links = s.links := rfl
@[simp] theorem State.modCru_recTok (q : Fin 4) (f : Crucible → Crucible) : (s.modCru q f).recTok = s.recTok := rfl
@[simp] theorem State.modCru_recAt (q : Fin 4) (f : Crucible → Crucible) : (s.modCru q f).recAt = s.recAt := rfl
@[simp] theorem State.modCru_tap (q : Fin 4) (f : Crucible → Crucible) : (s.modCru q f).tap = s.tap := rfl
@[simp] theorem State.modCru_isl (q : Fin 4) (f : Crucible → Crucible) : (s.modCru q f).isl = s.isl := rfl
@[simp] theorem State.modCru_cap (q : Fin 4) (f : Crucible → Crucible) : (s.modCru q f).cap = s.cap := rfl
@[simp] theorem State.modCru_time (q : Fin 4) (f : Crucible → Crucible) : (s.modCru q f).time = s.time := rfl
@[simp] theorem State.modCru_wof (q : Fin 4) (f : Crucible → Crucible) : (s.modCru q f).wof = s.wof := rfl
@[simp] theorem State.modCru_fleet (q : Fin 4) (f : Crucible → Crucible) : (s.modCru q f).fleet = s.fleet := rfl
@[simp] theorem State.modCru_plv (q : Fin 4) (f : Crucible → Crucible) : (s.modCru q f).plv = s.plv := rfl
@[simp] theorem State.modCru_sens (q : Fin 4) (f : Crucible → Crucible) : (s.modCru q f).sens = s.sens := rfl
@[simp] theorem State.modCru_pilot (q : Fin 4) (f : Crucible → Crucible) : (s.modCru q f).pilot = s.pilot := rfl
@[simp] theorem State.modCru_nv (q : Fin 4) (f : Crucible → Crucible) : (s.modCru q f).nv = s.nv := rfl
@[simp] theorem State.modCru_blobs (q : Fin 4) (f : Crucible → Crucible) : (s.modCru q f).blobs = s.blobs := rfl
@[simp] theorem State.modCru_jtag (q : Fin 4) (f : Crucible → Crucible) : (s.modCru q f).jtag = s.jtag := rfl
@[simp] theorem State.modCru_obj (q : Fin 4) (f : Crucible → Crucible) (a e : Nat) : (s.modCru q f).obj a e = s.obj a e := rfl
@[simp] theorem State.modCru_objN (q : Fin 4) (f : Crucible → Crucible) (a e : Nat) : (s.modCru q f).objN a e = s.objN a e := rfl

/-! ### setChan -/

@[simp] theorem State.setChan_now (q : Fin 4) (c : Nat) (v : Chan) : (s.setChan q c v).now = s.now := rfl
@[simp] theorem State.setChan_scale (q : Fin 4) (c : Nat) (v : Chan) : (s.setChan q c v).scale = s.scale := rfl
@[simp] theorem State.setChan_free (q : Fin 4) (c : Nat) (v : Chan) : (s.setChan q c v).free = s.free := rfl
@[simp] theorem State.setChan_pending (q : Fin 4) (c : Nat) (v : Chan) : (s.setChan q c v).pending = s.pending := rfl
@[simp] theorem State.setChan_out (q : Fin 4) (c : Nat) (v : Chan) : (s.setChan q c v).out = s.out := rfl
@[simp] theorem State.setChan_dict (q : Fin 4) (c : Nat) (v : Chan) : (s.setChan q c v).dict = s.dict := rfl
@[simp] theorem State.setChan_tv (q : Fin 4) (c : Nat) (v : Chan) : (s.setChan q c v).tv = s.tv := rfl
@[simp] theorem State.setChan_sideTx (q : Fin 4) (c : Nat) (v : Chan) : (s.setChan q c v).sideTx = s.sideTx := rfl
@[simp] theorem State.setChan_restarting (q : Fin 4) (c : Nat) (v : Chan) : (s.setChan q c v).restarting = s.restarting := rfl
@[simp] theorem State.setChan_ev (q : Fin 4) (c : Nat) (v : Chan) : (s.setChan q c v).ev = s.ev := rfl
@[simp] theorem State.setChan_life (q : Fin 4) (c : Nat) (v : Chan) : (s.setChan q c v).life = s.life := rfl
@[simp] theorem State.setChan_die (q : Fin 4) (c : Nat) (v : Chan) : (s.setChan q c v).die = s.die := rfl
@[simp] theorem State.setChan_frm (q : Fin 4) (c : Nat) (v : Chan) : (s.setChan q c v).frm = s.frm := rfl
@[simp] theorem State.setChan_em (q : Fin 4) (c : Nat) (v : Chan) : (s.setChan q c v).em = s.em := rfl
@[simp] theorem State.setChan_steer (q : Fin 4) (c : Nat) (v : Chan) : (s.setChan q c v).steer = s.steer := rfl
@[simp] theorem State.setChan_forge (q : Fin 4) (c : Nat) (v : Chan) : (s.setChan q c v).forge = s.forge := rfl
@[simp] theorem State.setChan_ana (q : Fin 4) (c : Nat) (v : Chan) : (s.setChan q c v).ana = s.ana := rfl
@[simp] theorem State.setChan_gov (q : Fin 4) (c : Nat) (v : Chan) : (s.setChan q c v).gov = s.gov := rfl
@[simp] theorem State.setChan_queues (q : Fin 4) (c : Nat) (v : Chan) : (s.setChan q c v).queues = s.queues := rfl
@[simp] theorem State.setChan_dma (q : Fin 4) (c : Nat) (v : Chan) : (s.setChan q c v).dma = s.dma := rfl
@[simp] theorem State.setChan_links (q : Fin 4) (c : Nat) (v : Chan) : (s.setChan q c v).links = s.links := rfl
@[simp] theorem State.setChan_recTok (q : Fin 4) (c : Nat) (v : Chan) : (s.setChan q c v).recTok = s.recTok := rfl
@[simp] theorem State.setChan_recAt (q : Fin 4) (c : Nat) (v : Chan) : (s.setChan q c v).recAt = s.recAt := rfl
@[simp] theorem State.setChan_tap (q : Fin 4) (c : Nat) (v : Chan) : (s.setChan q c v).tap = s.tap := rfl
@[simp] theorem State.setChan_isl (q : Fin 4) (c : Nat) (v : Chan) : (s.setChan q c v).isl = s.isl := rfl
@[simp] theorem State.setChan_cap (q : Fin 4) (c : Nat) (v : Chan) : (s.setChan q c v).cap = s.cap := rfl
@[simp] theorem State.setChan_time (q : Fin 4) (c : Nat) (v : Chan) : (s.setChan q c v).time = s.time := rfl
@[simp] theorem State.setChan_wof (q : Fin 4) (c : Nat) (v : Chan) : (s.setChan q c v).wof = s.wof := rfl
@[simp] theorem State.setChan_fleet (q : Fin 4) (c : Nat) (v : Chan) : (s.setChan q c v).fleet = s.fleet := rfl
@[simp] theorem State.setChan_plv (q : Fin 4) (c : Nat) (v : Chan) : (s.setChan q c v).plv = s.plv := rfl
@[simp] theorem State.setChan_sens (q : Fin 4) (c : Nat) (v : Chan) : (s.setChan q c v).sens = s.sens := rfl
@[simp] theorem State.setChan_pilot (q : Fin 4) (c : Nat) (v : Chan) : (s.setChan q c v).pilot = s.pilot := rfl
@[simp] theorem State.setChan_nv (q : Fin 4) (c : Nat) (v : Chan) : (s.setChan q c v).nv = s.nv := rfl
@[simp] theorem State.setChan_blobs (q : Fin 4) (c : Nat) (v : Chan) : (s.setChan q c v).blobs = s.blobs := rfl
@[simp] theorem State.setChan_jtag (q : Fin 4) (c : Nat) (v : Chan) : (s.setChan q c v).jtag = s.jtag := rfl
@[simp] theorem State.setChan_obj (q : Fin 4) (c : Nat) (v : Chan) (a e : Nat) : (s.setChan q c v).obj a e = s.obj a e := rfl
@[simp] theorem State.setChan_objN (q : Fin 4) (c : Nat) (v : Chan) (a e : Nat) : (s.setChan q c v).objN a e = s.objN a e := rfl

/-! ### modCtx -/

@[simp] theorem State.modCtx_now (q : Fin 4) (frame cell chan : Nat) (zoom : Bool) (f : Ctx → Ctx) : (s.modCtx q frame cell chan zoom f).now = s.now := rfl
@[simp] theorem State.modCtx_scale (q : Fin 4) (frame cell chan : Nat) (zoom : Bool) (f : Ctx → Ctx) : (s.modCtx q frame cell chan zoom f).scale = s.scale := rfl
@[simp] theorem State.modCtx_free (q : Fin 4) (frame cell chan : Nat) (zoom : Bool) (f : Ctx → Ctx) : (s.modCtx q frame cell chan zoom f).free = s.free := rfl
@[simp] theorem State.modCtx_pending (q : Fin 4) (frame cell chan : Nat) (zoom : Bool) (f : Ctx → Ctx) : (s.modCtx q frame cell chan zoom f).pending = s.pending := rfl
@[simp] theorem State.modCtx_out (q : Fin 4) (frame cell chan : Nat) (zoom : Bool) (f : Ctx → Ctx) : (s.modCtx q frame cell chan zoom f).out = s.out := rfl
@[simp] theorem State.modCtx_dict (q : Fin 4) (frame cell chan : Nat) (zoom : Bool) (f : Ctx → Ctx) : (s.modCtx q frame cell chan zoom f).dict = s.dict := rfl
@[simp] theorem State.modCtx_tv (q : Fin 4) (frame cell chan : Nat) (zoom : Bool) (f : Ctx → Ctx) : (s.modCtx q frame cell chan zoom f).tv = s.tv := rfl
@[simp] theorem State.modCtx_sideTx (q : Fin 4) (frame cell chan : Nat) (zoom : Bool) (f : Ctx → Ctx) : (s.modCtx q frame cell chan zoom f).sideTx = s.sideTx := rfl
@[simp] theorem State.modCtx_restarting (q : Fin 4) (frame cell chan : Nat) (zoom : Bool) (f : Ctx → Ctx) : (s.modCtx q frame cell chan zoom f).restarting = s.restarting := rfl
@[simp] theorem State.modCtx_ev (q : Fin 4) (frame cell chan : Nat) (zoom : Bool) (f : Ctx → Ctx) : (s.modCtx q frame cell chan zoom f).ev = s.ev := rfl
@[simp] theorem State.modCtx_life (q : Fin 4) (frame cell chan : Nat) (zoom : Bool) (f : Ctx → Ctx) : (s.modCtx q frame cell chan zoom f).life = s.life := rfl
@[simp] theorem State.modCtx_die (q : Fin 4) (frame cell chan : Nat) (zoom : Bool) (f : Ctx → Ctx) : (s.modCtx q frame cell chan zoom f).die = s.die := rfl
@[simp] theorem State.modCtx_frm (q : Fin 4) (frame cell chan : Nat) (zoom : Bool) (f : Ctx → Ctx) : (s.modCtx q frame cell chan zoom f).frm = s.frm := rfl
@[simp] theorem State.modCtx_em (q : Fin 4) (frame cell chan : Nat) (zoom : Bool) (f : Ctx → Ctx) : (s.modCtx q frame cell chan zoom f).em = s.em := rfl
@[simp] theorem State.modCtx_steer (q : Fin 4) (frame cell chan : Nat) (zoom : Bool) (f : Ctx → Ctx) : (s.modCtx q frame cell chan zoom f).steer = s.steer := rfl
@[simp] theorem State.modCtx_forge (q : Fin 4) (frame cell chan : Nat) (zoom : Bool) (f : Ctx → Ctx) : (s.modCtx q frame cell chan zoom f).forge = s.forge := rfl
@[simp] theorem State.modCtx_ana (q : Fin 4) (frame cell chan : Nat) (zoom : Bool) (f : Ctx → Ctx) : (s.modCtx q frame cell chan zoom f).ana = s.ana := rfl
@[simp] theorem State.modCtx_gov (q : Fin 4) (frame cell chan : Nat) (zoom : Bool) (f : Ctx → Ctx) : (s.modCtx q frame cell chan zoom f).gov = s.gov := rfl
@[simp] theorem State.modCtx_queues (q : Fin 4) (frame cell chan : Nat) (zoom : Bool) (f : Ctx → Ctx) : (s.modCtx q frame cell chan zoom f).queues = s.queues := rfl
@[simp] theorem State.modCtx_dma (q : Fin 4) (frame cell chan : Nat) (zoom : Bool) (f : Ctx → Ctx) : (s.modCtx q frame cell chan zoom f).dma = s.dma := rfl
@[simp] theorem State.modCtx_links (q : Fin 4) (frame cell chan : Nat) (zoom : Bool) (f : Ctx → Ctx) : (s.modCtx q frame cell chan zoom f).links = s.links := rfl
@[simp] theorem State.modCtx_recTok (q : Fin 4) (frame cell chan : Nat) (zoom : Bool) (f : Ctx → Ctx) : (s.modCtx q frame cell chan zoom f).recTok = s.recTok := rfl
@[simp] theorem State.modCtx_recAt (q : Fin 4) (frame cell chan : Nat) (zoom : Bool) (f : Ctx → Ctx) : (s.modCtx q frame cell chan zoom f).recAt = s.recAt := rfl
@[simp] theorem State.modCtx_tap (q : Fin 4) (frame cell chan : Nat) (zoom : Bool) (f : Ctx → Ctx) : (s.modCtx q frame cell chan zoom f).tap = s.tap := rfl
@[simp] theorem State.modCtx_isl (q : Fin 4) (frame cell chan : Nat) (zoom : Bool) (f : Ctx → Ctx) : (s.modCtx q frame cell chan zoom f).isl = s.isl := rfl
@[simp] theorem State.modCtx_cap (q : Fin 4) (frame cell chan : Nat) (zoom : Bool) (f : Ctx → Ctx) : (s.modCtx q frame cell chan zoom f).cap = s.cap := rfl
@[simp] theorem State.modCtx_time (q : Fin 4) (frame cell chan : Nat) (zoom : Bool) (f : Ctx → Ctx) : (s.modCtx q frame cell chan zoom f).time = s.time := rfl
@[simp] theorem State.modCtx_wof (q : Fin 4) (frame cell chan : Nat) (zoom : Bool) (f : Ctx → Ctx) : (s.modCtx q frame cell chan zoom f).wof = s.wof := rfl
@[simp] theorem State.modCtx_fleet (q : Fin 4) (frame cell chan : Nat) (zoom : Bool) (f : Ctx → Ctx) : (s.modCtx q frame cell chan zoom f).fleet = s.fleet := rfl
@[simp] theorem State.modCtx_plv (q : Fin 4) (frame cell chan : Nat) (zoom : Bool) (f : Ctx → Ctx) : (s.modCtx q frame cell chan zoom f).plv = s.plv := rfl
@[simp] theorem State.modCtx_sens (q : Fin 4) (frame cell chan : Nat) (zoom : Bool) (f : Ctx → Ctx) : (s.modCtx q frame cell chan zoom f).sens = s.sens := rfl
@[simp] theorem State.modCtx_pilot (q : Fin 4) (frame cell chan : Nat) (zoom : Bool) (f : Ctx → Ctx) : (s.modCtx q frame cell chan zoom f).pilot = s.pilot := rfl
@[simp] theorem State.modCtx_nv (q : Fin 4) (frame cell chan : Nat) (zoom : Bool) (f : Ctx → Ctx) : (s.modCtx q frame cell chan zoom f).nv = s.nv := rfl
@[simp] theorem State.modCtx_blobs (q : Fin 4) (frame cell chan : Nat) (zoom : Bool) (f : Ctx → Ctx) : (s.modCtx q frame cell chan zoom f).blobs = s.blobs := rfl
@[simp] theorem State.modCtx_jtag (q : Fin 4) (frame cell chan : Nat) (zoom : Bool) (f : Ctx → Ctx) : (s.modCtx q frame cell chan zoom f).jtag = s.jtag := rfl
@[simp] theorem State.modCtx_obj (q : Fin 4) (frame cell chan : Nat) (zoom : Bool) (f : Ctx → Ctx) (a e : Nat) : (s.modCtx q frame cell chan zoom f).obj a e = s.obj a e := rfl
@[simp] theorem State.modCtx_objN (q : Fin 4) (frame cell chan : Nat) (zoom : Bool) (f : Ctx → Ctx) (a e : Nat) : (s.modCtx q frame cell chan zoom f).objN a e = s.objN a e := rfl

/-! ### modShot -/

@[simp] theorem State.modShot_now (q : Fin 4) (frame slot : Nat) (f : Shot → Shot) : (s.modShot q frame slot f).now = s.now := rfl
@[simp] theorem State.modShot_scale (q : Fin 4) (frame slot : Nat) (f : Shot → Shot) : (s.modShot q frame slot f).scale = s.scale := rfl
@[simp] theorem State.modShot_free (q : Fin 4) (frame slot : Nat) (f : Shot → Shot) : (s.modShot q frame slot f).free = s.free := rfl
@[simp] theorem State.modShot_pending (q : Fin 4) (frame slot : Nat) (f : Shot → Shot) : (s.modShot q frame slot f).pending = s.pending := rfl
@[simp] theorem State.modShot_out (q : Fin 4) (frame slot : Nat) (f : Shot → Shot) : (s.modShot q frame slot f).out = s.out := rfl
@[simp] theorem State.modShot_dict (q : Fin 4) (frame slot : Nat) (f : Shot → Shot) : (s.modShot q frame slot f).dict = s.dict := rfl
@[simp] theorem State.modShot_tv (q : Fin 4) (frame slot : Nat) (f : Shot → Shot) : (s.modShot q frame slot f).tv = s.tv := rfl
@[simp] theorem State.modShot_sideTx (q : Fin 4) (frame slot : Nat) (f : Shot → Shot) : (s.modShot q frame slot f).sideTx = s.sideTx := rfl
@[simp] theorem State.modShot_restarting (q : Fin 4) (frame slot : Nat) (f : Shot → Shot) : (s.modShot q frame slot f).restarting = s.restarting := rfl
@[simp] theorem State.modShot_ev (q : Fin 4) (frame slot : Nat) (f : Shot → Shot) : (s.modShot q frame slot f).ev = s.ev := rfl
@[simp] theorem State.modShot_life (q : Fin 4) (frame slot : Nat) (f : Shot → Shot) : (s.modShot q frame slot f).life = s.life := rfl
@[simp] theorem State.modShot_die (q : Fin 4) (frame slot : Nat) (f : Shot → Shot) : (s.modShot q frame slot f).die = s.die := rfl
@[simp] theorem State.modShot_frm (q : Fin 4) (frame slot : Nat) (f : Shot → Shot) : (s.modShot q frame slot f).frm = s.frm := rfl
@[simp] theorem State.modShot_em (q : Fin 4) (frame slot : Nat) (f : Shot → Shot) : (s.modShot q frame slot f).em = s.em := rfl
@[simp] theorem State.modShot_steer (q : Fin 4) (frame slot : Nat) (f : Shot → Shot) : (s.modShot q frame slot f).steer = s.steer := rfl
@[simp] theorem State.modShot_forge (q : Fin 4) (frame slot : Nat) (f : Shot → Shot) : (s.modShot q frame slot f).forge = s.forge := rfl
@[simp] theorem State.modShot_ana (q : Fin 4) (frame slot : Nat) (f : Shot → Shot) : (s.modShot q frame slot f).ana = s.ana := rfl
@[simp] theorem State.modShot_gov (q : Fin 4) (frame slot : Nat) (f : Shot → Shot) : (s.modShot q frame slot f).gov = s.gov := rfl
@[simp] theorem State.modShot_queues (q : Fin 4) (frame slot : Nat) (f : Shot → Shot) : (s.modShot q frame slot f).queues = s.queues := rfl
@[simp] theorem State.modShot_dma (q : Fin 4) (frame slot : Nat) (f : Shot → Shot) : (s.modShot q frame slot f).dma = s.dma := rfl
@[simp] theorem State.modShot_links (q : Fin 4) (frame slot : Nat) (f : Shot → Shot) : (s.modShot q frame slot f).links = s.links := rfl
@[simp] theorem State.modShot_recTok (q : Fin 4) (frame slot : Nat) (f : Shot → Shot) : (s.modShot q frame slot f).recTok = s.recTok := rfl
@[simp] theorem State.modShot_recAt (q : Fin 4) (frame slot : Nat) (f : Shot → Shot) : (s.modShot q frame slot f).recAt = s.recAt := rfl
@[simp] theorem State.modShot_tap (q : Fin 4) (frame slot : Nat) (f : Shot → Shot) : (s.modShot q frame slot f).tap = s.tap := rfl
@[simp] theorem State.modShot_isl (q : Fin 4) (frame slot : Nat) (f : Shot → Shot) : (s.modShot q frame slot f).isl = s.isl := rfl
@[simp] theorem State.modShot_cap (q : Fin 4) (frame slot : Nat) (f : Shot → Shot) : (s.modShot q frame slot f).cap = s.cap := rfl
@[simp] theorem State.modShot_time (q : Fin 4) (frame slot : Nat) (f : Shot → Shot) : (s.modShot q frame slot f).time = s.time := rfl
@[simp] theorem State.modShot_wof (q : Fin 4) (frame slot : Nat) (f : Shot → Shot) : (s.modShot q frame slot f).wof = s.wof := rfl
@[simp] theorem State.modShot_fleet (q : Fin 4) (frame slot : Nat) (f : Shot → Shot) : (s.modShot q frame slot f).fleet = s.fleet := rfl
@[simp] theorem State.modShot_plv (q : Fin 4) (frame slot : Nat) (f : Shot → Shot) : (s.modShot q frame slot f).plv = s.plv := rfl
@[simp] theorem State.modShot_sens (q : Fin 4) (frame slot : Nat) (f : Shot → Shot) : (s.modShot q frame slot f).sens = s.sens := rfl
@[simp] theorem State.modShot_pilot (q : Fin 4) (frame slot : Nat) (f : Shot → Shot) : (s.modShot q frame slot f).pilot = s.pilot := rfl
@[simp] theorem State.modShot_nv (q : Fin 4) (frame slot : Nat) (f : Shot → Shot) : (s.modShot q frame slot f).nv = s.nv := rfl
@[simp] theorem State.modShot_blobs (q : Fin 4) (frame slot : Nat) (f : Shot → Shot) : (s.modShot q frame slot f).blobs = s.blobs := rfl
@[simp] theorem State.modShot_jtag (q : Fin 4) (frame slot : Nat) (f : Shot → Shot) : (s.modShot q frame slot f).jtag = s.jtag := rfl
@[simp] theorem State.modShot_obj (q : Fin 4) (frame slot : Nat) (f : Shot → Shot) (a e : Nat) : (s.modShot q frame slot f).obj a e = s.obj a e := rfl
@[simp] theorem State.modShot_objN (q : Fin 4) (frame slot : Nat) (f : Shot → Shot) (a e : Nat) : (s.modShot q frame slot f).objN a e = s.objN a e := rfl

/-! ### modSeq -/

@[simp] theorem State.modSeq_now (q : Fin 4) (f : Seq → Seq) : (s.modSeq q f).now = s.now := rfl
@[simp] theorem State.modSeq_scale (q : Fin 4) (f : Seq → Seq) : (s.modSeq q f).scale = s.scale := rfl
@[simp] theorem State.modSeq_free (q : Fin 4) (f : Seq → Seq) : (s.modSeq q f).free = s.free := rfl
@[simp] theorem State.modSeq_pending (q : Fin 4) (f : Seq → Seq) : (s.modSeq q f).pending = s.pending := rfl
@[simp] theorem State.modSeq_out (q : Fin 4) (f : Seq → Seq) : (s.modSeq q f).out = s.out := rfl
@[simp] theorem State.modSeq_dict (q : Fin 4) (f : Seq → Seq) : (s.modSeq q f).dict = s.dict := rfl
@[simp] theorem State.modSeq_tv (q : Fin 4) (f : Seq → Seq) : (s.modSeq q f).tv = s.tv := rfl
@[simp] theorem State.modSeq_sideTx (q : Fin 4) (f : Seq → Seq) : (s.modSeq q f).sideTx = s.sideTx := rfl
@[simp] theorem State.modSeq_restarting (q : Fin 4) (f : Seq → Seq) : (s.modSeq q f).restarting = s.restarting := rfl
@[simp] theorem State.modSeq_ev (q : Fin 4) (f : Seq → Seq) : (s.modSeq q f).ev = s.ev := rfl
@[simp] theorem State.modSeq_life (q : Fin 4) (f : Seq → Seq) : (s.modSeq q f).life = s.life := rfl
@[simp] theorem State.modSeq_die (q : Fin 4) (f : Seq → Seq) : (s.modSeq q f).die = s.die := rfl
@[simp] theorem State.modSeq_frm (q : Fin 4) (f : Seq → Seq) : (s.modSeq q f).frm = s.frm := rfl
@[simp] theorem State.modSeq_em (q : Fin 4) (f : Seq → Seq) : (s.modSeq q f).em = s.em := rfl
@[simp] theorem State.modSeq_steer (q : Fin 4) (f : Seq → Seq) : (s.modSeq q f).steer = s.steer := rfl
@[simp] theorem State.modSeq_forge (q : Fin 4) (f : Seq → Seq) : (s.modSeq q f).forge = s.forge := rfl
@[simp] theorem State.modSeq_ana (q : Fin 4) (f : Seq → Seq) : (s.modSeq q f).ana = s.ana := rfl
@[simp] theorem State.modSeq_gov (q : Fin 4) (f : Seq → Seq) : (s.modSeq q f).gov = s.gov := rfl
@[simp] theorem State.modSeq_queues (q : Fin 4) (f : Seq → Seq) : (s.modSeq q f).queues = s.queues := rfl
@[simp] theorem State.modSeq_dma (q : Fin 4) (f : Seq → Seq) : (s.modSeq q f).dma = s.dma := rfl
@[simp] theorem State.modSeq_links (q : Fin 4) (f : Seq → Seq) : (s.modSeq q f).links = s.links := rfl
@[simp] theorem State.modSeq_recTok (q : Fin 4) (f : Seq → Seq) : (s.modSeq q f).recTok = s.recTok := rfl
@[simp] theorem State.modSeq_recAt (q : Fin 4) (f : Seq → Seq) : (s.modSeq q f).recAt = s.recAt := rfl
@[simp] theorem State.modSeq_tap (q : Fin 4) (f : Seq → Seq) : (s.modSeq q f).tap = s.tap := rfl
@[simp] theorem State.modSeq_isl (q : Fin 4) (f : Seq → Seq) : (s.modSeq q f).isl = s.isl := rfl
@[simp] theorem State.modSeq_cap (q : Fin 4) (f : Seq → Seq) : (s.modSeq q f).cap = s.cap := rfl
@[simp] theorem State.modSeq_time (q : Fin 4) (f : Seq → Seq) : (s.modSeq q f).time = s.time := rfl
@[simp] theorem State.modSeq_wof (q : Fin 4) (f : Seq → Seq) : (s.modSeq q f).wof = s.wof := rfl
@[simp] theorem State.modSeq_fleet (q : Fin 4) (f : Seq → Seq) : (s.modSeq q f).fleet = s.fleet := rfl
@[simp] theorem State.modSeq_plv (q : Fin 4) (f : Seq → Seq) : (s.modSeq q f).plv = s.plv := rfl
@[simp] theorem State.modSeq_sens (q : Fin 4) (f : Seq → Seq) : (s.modSeq q f).sens = s.sens := rfl
@[simp] theorem State.modSeq_pilot (q : Fin 4) (f : Seq → Seq) : (s.modSeq q f).pilot = s.pilot := rfl
@[simp] theorem State.modSeq_nv (q : Fin 4) (f : Seq → Seq) : (s.modSeq q f).nv = s.nv := rfl
@[simp] theorem State.modSeq_blobs (q : Fin 4) (f : Seq → Seq) : (s.modSeq q f).blobs = s.blobs := rfl
@[simp] theorem State.modSeq_jtag (q : Fin 4) (f : Seq → Seq) : (s.modSeq q f).jtag = s.jtag := rfl
@[simp] theorem State.modSeq_obj (q : Fin 4) (f : Seq → Seq) (a e : Nat) : (s.modSeq q f).obj a e = s.obj a e := rfl
@[simp] theorem State.modSeq_objN (q : Fin 4) (f : Seq → Seq) (a e : Nat) : (s.modSeq q f).objN a e = s.objN a e := rfl

/-! ### modDie -/

@[simp] theorem State.modDie_now (f : Die → Die) : (s.modDie f).now = s.now := rfl
@[simp] theorem State.modDie_scale (f : Die → Die) : (s.modDie f).scale = s.scale := rfl
@[simp] theorem State.modDie_free (f : Die → Die) : (s.modDie f).free = s.free := rfl
@[simp] theorem State.modDie_pending (f : Die → Die) : (s.modDie f).pending = s.pending := rfl
@[simp] theorem State.modDie_out (f : Die → Die) : (s.modDie f).out = s.out := rfl
@[simp] theorem State.modDie_dict (f : Die → Die) : (s.modDie f).dict = s.dict := rfl
@[simp] theorem State.modDie_tv (f : Die → Die) : (s.modDie f).tv = s.tv := rfl
@[simp] theorem State.modDie_sideTx (f : Die → Die) : (s.modDie f).sideTx = s.sideTx := rfl
@[simp] theorem State.modDie_restarting (f : Die → Die) : (s.modDie f).restarting = s.restarting := rfl
@[simp] theorem State.modDie_ev (f : Die → Die) : (s.modDie f).ev = s.ev := rfl
@[simp] theorem State.modDie_life (f : Die → Die) : (s.modDie f).life = s.life := rfl
@[simp] theorem State.modDie_die (f : Die → Die) : (s.modDie f).die = f s.die := rfl
@[simp] theorem State.modDie_frm (f : Die → Die) : (s.modDie f).frm = s.frm := rfl
@[simp] theorem State.modDie_quads (f : Die → Die) : (s.modDie f).quads = s.quads := rfl
@[simp] theorem State.modDie_em (f : Die → Die) : (s.modDie f).em = s.em := rfl
@[simp] theorem State.modDie_steer (f : Die → Die) : (s.modDie f).steer = s.steer := rfl
@[simp] theorem State.modDie_forge (f : Die → Die) : (s.modDie f).forge = s.forge := rfl
@[simp] theorem State.modDie_ana (f : Die → Die) : (s.modDie f).ana = s.ana := rfl
@[simp] theorem State.modDie_gov (f : Die → Die) : (s.modDie f).gov = s.gov := rfl
@[simp] theorem State.modDie_queues (f : Die → Die) : (s.modDie f).queues = s.queues := rfl
@[simp] theorem State.modDie_dma (f : Die → Die) : (s.modDie f).dma = s.dma := rfl
@[simp] theorem State.modDie_links (f : Die → Die) : (s.modDie f).links = s.links := rfl
@[simp] theorem State.modDie_recTok (f : Die → Die) : (s.modDie f).recTok = s.recTok := rfl
@[simp] theorem State.modDie_recAt (f : Die → Die) : (s.modDie f).recAt = s.recAt := rfl
@[simp] theorem State.modDie_tap (f : Die → Die) : (s.modDie f).tap = s.tap := rfl
@[simp] theorem State.modDie_isl (f : Die → Die) : (s.modDie f).isl = s.isl := rfl
@[simp] theorem State.modDie_cap (f : Die → Die) : (s.modDie f).cap = s.cap := rfl
@[simp] theorem State.modDie_time (f : Die → Die) : (s.modDie f).time = s.time := rfl
@[simp] theorem State.modDie_wof (f : Die → Die) : (s.modDie f).wof = s.wof := rfl
@[simp] theorem State.modDie_fleet (f : Die → Die) : (s.modDie f).fleet = s.fleet := rfl
@[simp] theorem State.modDie_plv (f : Die → Die) : (s.modDie f).plv = s.plv := rfl
@[simp] theorem State.modDie_sens (f : Die → Die) : (s.modDie f).sens = s.sens := rfl
@[simp] theorem State.modDie_pilot (f : Die → Die) : (s.modDie f).pilot = s.pilot := rfl
@[simp] theorem State.modDie_nv (f : Die → Die) : (s.modDie f).nv = s.nv := rfl
@[simp] theorem State.modDie_blobs (f : Die → Die) : (s.modDie f).blobs = s.blobs := rfl
@[simp] theorem State.modDie_jtag (f : Die → Die) : (s.modDie f).jtag = s.jtag := rfl
@[simp] theorem State.modDie_obj (f : Die → Die) (a e : Nat) : (s.modDie f).obj a e = s.obj a e := rfl
@[simp] theorem State.modDie_objN (f : Die → Die) (a e : Nat) : (s.modDie f).objN a e = s.objN a e := rfl

/-! ### modEm -/

@[simp] theorem State.modEm_now (m : Nat) (f : Emitter → Emitter) : (s.modEm m f).now = s.now := rfl
@[simp] theorem State.modEm_scale (m : Nat) (f : Emitter → Emitter) : (s.modEm m f).scale = s.scale := rfl
@[simp] theorem State.modEm_free (m : Nat) (f : Emitter → Emitter) : (s.modEm m f).free = s.free := rfl
@[simp] theorem State.modEm_pending (m : Nat) (f : Emitter → Emitter) : (s.modEm m f).pending = s.pending := rfl
@[simp] theorem State.modEm_out (m : Nat) (f : Emitter → Emitter) : (s.modEm m f).out = s.out := rfl
@[simp] theorem State.modEm_dict (m : Nat) (f : Emitter → Emitter) : (s.modEm m f).dict = s.dict := rfl
@[simp] theorem State.modEm_tv (m : Nat) (f : Emitter → Emitter) : (s.modEm m f).tv = s.tv := rfl
@[simp] theorem State.modEm_sideTx (m : Nat) (f : Emitter → Emitter) : (s.modEm m f).sideTx = s.sideTx := rfl
@[simp] theorem State.modEm_restarting (m : Nat) (f : Emitter → Emitter) : (s.modEm m f).restarting = s.restarting := rfl
@[simp] theorem State.modEm_ev (m : Nat) (f : Emitter → Emitter) : (s.modEm m f).ev = s.ev := rfl
@[simp] theorem State.modEm_life (m : Nat) (f : Emitter → Emitter) : (s.modEm m f).life = s.life := rfl
@[simp] theorem State.modEm_die (m : Nat) (f : Emitter → Emitter) : (s.modEm m f).die = s.die := rfl
@[simp] theorem State.modEm_frm (m : Nat) (f : Emitter → Emitter) : (s.modEm m f).frm = s.frm := rfl
@[simp] theorem State.modEm_quads (m : Nat) (f : Emitter → Emitter) : (s.modEm m f).quads = s.quads := rfl
@[simp] theorem State.modEm_em (m : Nat) (f : Emitter → Emitter) : (s.modEm m f).em = assocPut s.em m (f (s.emitter m)) := rfl
@[simp] theorem State.modEm_steer (m : Nat) (f : Emitter → Emitter) : (s.modEm m f).steer = s.steer := rfl
@[simp] theorem State.modEm_forge (m : Nat) (f : Emitter → Emitter) : (s.modEm m f).forge = s.forge := rfl
@[simp] theorem State.modEm_ana (m : Nat) (f : Emitter → Emitter) : (s.modEm m f).ana = s.ana := rfl
@[simp] theorem State.modEm_gov (m : Nat) (f : Emitter → Emitter) : (s.modEm m f).gov = s.gov := rfl
@[simp] theorem State.modEm_queues (m : Nat) (f : Emitter → Emitter) : (s.modEm m f).queues = s.queues := rfl
@[simp] theorem State.modEm_dma (m : Nat) (f : Emitter → Emitter) : (s.modEm m f).dma = s.dma := rfl
@[simp] theorem State.modEm_links (m : Nat) (f : Emitter → Emitter) : (s.modEm m f).links = s.links := rfl
@[simp] theorem State.modEm_recTok (m : Nat) (f : Emitter → Emitter) : (s.modEm m f).recTok = s.recTok := rfl
@[simp] theorem State.modEm_recAt (m : Nat) (f : Emitter → Emitter) : (s.modEm m f).recAt = s.recAt := rfl
@[simp] theorem State.modEm_tap (m : Nat) (f : Emitter → Emitter) : (s.modEm m f).tap = s.tap := rfl
@[simp] theorem State.modEm_isl (m : Nat) (f : Emitter → Emitter) : (s.modEm m f).isl = s.isl := rfl
@[simp] theorem State.modEm_cap (m : Nat) (f : Emitter → Emitter) : (s.modEm m f).cap = s.cap := rfl
@[simp] theorem State.modEm_time (m : Nat) (f : Emitter → Emitter) : (s.modEm m f).time = s.time := rfl
@[simp] theorem State.modEm_wof (m : Nat) (f : Emitter → Emitter) : (s.modEm m f).wof = s.wof := rfl
@[simp] theorem State.modEm_fleet (m : Nat) (f : Emitter → Emitter) : (s.modEm m f).fleet = s.fleet := rfl
@[simp] theorem State.modEm_plv (m : Nat) (f : Emitter → Emitter) : (s.modEm m f).plv = s.plv := rfl
@[simp] theorem State.modEm_sens (m : Nat) (f : Emitter → Emitter) : (s.modEm m f).sens = s.sens := rfl
@[simp] theorem State.modEm_pilot (m : Nat) (f : Emitter → Emitter) : (s.modEm m f).pilot = s.pilot := rfl
@[simp] theorem State.modEm_nv (m : Nat) (f : Emitter → Emitter) : (s.modEm m f).nv = s.nv := rfl
@[simp] theorem State.modEm_blobs (m : Nat) (f : Emitter → Emitter) : (s.modEm m f).blobs = s.blobs := rfl
@[simp] theorem State.modEm_jtag (m : Nat) (f : Emitter → Emitter) : (s.modEm m f).jtag = s.jtag := rfl
@[simp] theorem State.modEm_obj (m : Nat) (f : Emitter → Emitter) (a e : Nat) : (s.modEm m f).obj a e = s.obj a e := rfl
@[simp] theorem State.modEm_objN (m : Nat) (f : Emitter → Emitter) (a e : Nat) : (s.modEm m f).objN a e = s.objN a e := rfl

/-! ### setAdc -/

@[simp] theorem State.setAdc_now (c : Fin 4) (a : Adc) : (s.setAdc c a).now = s.now := rfl
@[simp] theorem State.setAdc_scale (c : Fin 4) (a : Adc) : (s.setAdc c a).scale = s.scale := rfl
@[simp] theorem State.setAdc_free (c : Fin 4) (a : Adc) : (s.setAdc c a).free = s.free := rfl
@[simp] theorem State.setAdc_pending (c : Fin 4) (a : Adc) : (s.setAdc c a).pending = s.pending := rfl
@[simp] theorem State.setAdc_out (c : Fin 4) (a : Adc) : (s.setAdc c a).out = s.out := rfl
@[simp] theorem State.setAdc_dict (c : Fin 4) (a : Adc) : (s.setAdc c a).dict = s.dict := rfl
@[simp] theorem State.setAdc_tv (c : Fin 4) (a : Adc) : (s.setAdc c a).tv = s.tv := rfl
@[simp] theorem State.setAdc_sideTx (c : Fin 4) (a : Adc) : (s.setAdc c a).sideTx = s.sideTx := rfl
@[simp] theorem State.setAdc_restarting (c : Fin 4) (a : Adc) : (s.setAdc c a).restarting = s.restarting := rfl
@[simp] theorem State.setAdc_ev (c : Fin 4) (a : Adc) : (s.setAdc c a).ev = s.ev := rfl
@[simp] theorem State.setAdc_life (c : Fin 4) (a : Adc) : (s.setAdc c a).life = s.life := rfl
@[simp] theorem State.setAdc_die (c : Fin 4) (a : Adc) : (s.setAdc c a).die = s.die := rfl
@[simp] theorem State.setAdc_frm (c : Fin 4) (a : Adc) : (s.setAdc c a).frm = s.frm := rfl
@[simp] theorem State.setAdc_quads (c : Fin 4) (a : Adc) : (s.setAdc c a).quads = s.quads := rfl
@[simp] theorem State.setAdc_em (c : Fin 4) (a : Adc) : (s.setAdc c a).em = s.em := rfl
@[simp] theorem State.setAdc_steer (c : Fin 4) (a : Adc) : (s.setAdc c a).steer = s.steer := rfl
@[simp] theorem State.setAdc_forge (c : Fin 4) (a : Adc) : (s.setAdc c a).forge = s.forge := rfl
@[simp] theorem State.setAdc_ana (c : Fin 4) (a : Adc) : (s.setAdc c a).ana = { s.ana with adcs := s.ana.adcs.set c a } := rfl
@[simp] theorem State.setAdc_gov (c : Fin 4) (a : Adc) : (s.setAdc c a).gov = s.gov := rfl
@[simp] theorem State.setAdc_queues (c : Fin 4) (a : Adc) : (s.setAdc c a).queues = s.queues := rfl
@[simp] theorem State.setAdc_dma (c : Fin 4) (a : Adc) : (s.setAdc c a).dma = s.dma := rfl
@[simp] theorem State.setAdc_links (c : Fin 4) (a : Adc) : (s.setAdc c a).links = s.links := rfl
@[simp] theorem State.setAdc_recTok (c : Fin 4) (a : Adc) : (s.setAdc c a).recTok = s.recTok := rfl
@[simp] theorem State.setAdc_recAt (c : Fin 4) (a : Adc) : (s.setAdc c a).recAt = s.recAt := rfl
@[simp] theorem State.setAdc_tap (c : Fin 4) (a : Adc) : (s.setAdc c a).tap = s.tap := rfl
@[simp] theorem State.setAdc_isl (c : Fin 4) (a : Adc) : (s.setAdc c a).isl = s.isl := rfl
@[simp] theorem State.setAdc_cap (c : Fin 4) (a : Adc) : (s.setAdc c a).cap = s.cap := rfl
@[simp] theorem State.setAdc_time (c : Fin 4) (a : Adc) : (s.setAdc c a).time = s.time := rfl
@[simp] theorem State.setAdc_wof (c : Fin 4) (a : Adc) : (s.setAdc c a).wof = s.wof := rfl
@[simp] theorem State.setAdc_fleet (c : Fin 4) (a : Adc) : (s.setAdc c a).fleet = s.fleet := rfl
@[simp] theorem State.setAdc_plv (c : Fin 4) (a : Adc) : (s.setAdc c a).plv = s.plv := rfl
@[simp] theorem State.setAdc_sens (c : Fin 4) (a : Adc) : (s.setAdc c a).sens = s.sens := rfl
@[simp] theorem State.setAdc_pilot (c : Fin 4) (a : Adc) : (s.setAdc c a).pilot = s.pilot := rfl
@[simp] theorem State.setAdc_nv (c : Fin 4) (a : Adc) : (s.setAdc c a).nv = s.nv := rfl
@[simp] theorem State.setAdc_blobs (c : Fin 4) (a : Adc) : (s.setAdc c a).blobs = s.blobs := rfl
@[simp] theorem State.setAdc_jtag (c : Fin 4) (a : Adc) : (s.setAdc c a).jtag = s.jtag := rfl
@[simp] theorem State.setAdc_obj (c : Fin 4) (a : Adc) (o e : Nat) : (s.setAdc c a).obj o e = s.obj o e := rfl
@[simp] theorem State.setAdc_objN (c : Fin 4) (a : Adc) (o e : Nat) : (s.setAdc c a).objN o e = s.objN o e := rfl

/-! ### setRange -/

@[simp] theorem State.setRange_now (k : Nat) (r : RangeSt) : (s.setRange k r).now = s.now := rfl
@[simp] theorem State.setRange_scale (k : Nat) (r : RangeSt) : (s.setRange k r).scale = s.scale := rfl
@[simp] theorem State.setRange_free (k : Nat) (r : RangeSt) : (s.setRange k r).free = s.free := rfl
@[simp] theorem State.setRange_pending (k : Nat) (r : RangeSt) : (s.setRange k r).pending = s.pending := rfl
@[simp] theorem State.setRange_out (k : Nat) (r : RangeSt) : (s.setRange k r).out = s.out := rfl
@[simp] theorem State.setRange_dict (k : Nat) (r : RangeSt) : (s.setRange k r).dict = s.dict := rfl
@[simp] theorem State.setRange_tv (k : Nat) (r : RangeSt) : (s.setRange k r).tv = s.tv := rfl
@[simp] theorem State.setRange_sideTx (k : Nat) (r : RangeSt) : (s.setRange k r).sideTx = s.sideTx := rfl
@[simp] theorem State.setRange_restarting (k : Nat) (r : RangeSt) : (s.setRange k r).restarting = s.restarting := rfl
@[simp] theorem State.setRange_ev (k : Nat) (r : RangeSt) : (s.setRange k r).ev = s.ev := rfl
@[simp] theorem State.setRange_life (k : Nat) (r : RangeSt) : (s.setRange k r).life = s.life := rfl
@[simp] theorem State.setRange_die (k : Nat) (r : RangeSt) : (s.setRange k r).die = s.die := rfl
@[simp] theorem State.setRange_frm (k : Nat) (r : RangeSt) : (s.setRange k r).frm = s.frm := rfl
@[simp] theorem State.setRange_quads (k : Nat) (r : RangeSt) : (s.setRange k r).quads = s.quads := rfl
@[simp] theorem State.setRange_em (k : Nat) (r : RangeSt) : (s.setRange k r).em = s.em := rfl
@[simp] theorem State.setRange_steer (k : Nat) (r : RangeSt) : (s.setRange k r).steer = s.steer := rfl
@[simp] theorem State.setRange_forge (k : Nat) (r : RangeSt) : (s.setRange k r).forge = s.forge := rfl
@[simp] theorem State.setRange_ana (k : Nat) (r : RangeSt) : (s.setRange k r).ana = { s.ana with ranges := assocPut s.ana.ranges k r } := rfl
@[simp] theorem State.setRange_gov (k : Nat) (r : RangeSt) : (s.setRange k r).gov = s.gov := rfl
@[simp] theorem State.setRange_queues (k : Nat) (r : RangeSt) : (s.setRange k r).queues = s.queues := rfl
@[simp] theorem State.setRange_dma (k : Nat) (r : RangeSt) : (s.setRange k r).dma = s.dma := rfl
@[simp] theorem State.setRange_links (k : Nat) (r : RangeSt) : (s.setRange k r).links = s.links := rfl
@[simp] theorem State.setRange_recTok (k : Nat) (r : RangeSt) : (s.setRange k r).recTok = s.recTok := rfl
@[simp] theorem State.setRange_recAt (k : Nat) (r : RangeSt) : (s.setRange k r).recAt = s.recAt := rfl
@[simp] theorem State.setRange_tap (k : Nat) (r : RangeSt) : (s.setRange k r).tap = s.tap := rfl
@[simp] theorem State.setRange_isl (k : Nat) (r : RangeSt) : (s.setRange k r).isl = s.isl := rfl
@[simp] theorem State.setRange_cap (k : Nat) (r : RangeSt) : (s.setRange k r).cap = s.cap := rfl
@[simp] theorem State.setRange_time (k : Nat) (r : RangeSt) : (s.setRange k r).time = s.time := rfl
@[simp] theorem State.setRange_wof (k : Nat) (r : RangeSt) : (s.setRange k r).wof = s.wof := rfl
@[simp] theorem State.setRange_fleet (k : Nat) (r : RangeSt) : (s.setRange k r).fleet = s.fleet := rfl
@[simp] theorem State.setRange_plv (k : Nat) (r : RangeSt) : (s.setRange k r).plv = s.plv := rfl
@[simp] theorem State.setRange_sens (k : Nat) (r : RangeSt) : (s.setRange k r).sens = s.sens := rfl
@[simp] theorem State.setRange_pilot (k : Nat) (r : RangeSt) : (s.setRange k r).pilot = s.pilot := rfl
@[simp] theorem State.setRange_nv (k : Nat) (r : RangeSt) : (s.setRange k r).nv = s.nv := rfl
@[simp] theorem State.setRange_blobs (k : Nat) (r : RangeSt) : (s.setRange k r).blobs = s.blobs := rfl
@[simp] theorem State.setRange_jtag (k : Nat) (r : RangeSt) : (s.setRange k r).jtag = s.jtag := rfl
@[simp] theorem State.setRange_obj (k : Nat) (r : RangeSt) (a e : Nat) : (s.setRange k r).obj a e = s.obj a e := rfl
@[simp] theorem State.setRange_objN (k : Nat) (r : RangeSt) (a e : Nat) : (s.setRange k r).objN a e = s.objN a e := rfl

/-! ### setFilt -/

@[simp] theorem State.setFilt_now (k : Nat) (c : FiltCh) : (s.setFilt k c).now = s.now := rfl
@[simp] theorem State.setFilt_scale (k : Nat) (c : FiltCh) : (s.setFilt k c).scale = s.scale := rfl
@[simp] theorem State.setFilt_free (k : Nat) (c : FiltCh) : (s.setFilt k c).free = s.free := rfl
@[simp] theorem State.setFilt_pending (k : Nat) (c : FiltCh) : (s.setFilt k c).pending = s.pending := rfl
@[simp] theorem State.setFilt_out (k : Nat) (c : FiltCh) : (s.setFilt k c).out = s.out := rfl
@[simp] theorem State.setFilt_dict (k : Nat) (c : FiltCh) : (s.setFilt k c).dict = s.dict := rfl
@[simp] theorem State.setFilt_tv (k : Nat) (c : FiltCh) : (s.setFilt k c).tv = s.tv := rfl
@[simp] theorem State.setFilt_sideTx (k : Nat) (c : FiltCh) : (s.setFilt k c).sideTx = s.sideTx := rfl
@[simp] theorem State.setFilt_restarting (k : Nat) (c : FiltCh) : (s.setFilt k c).restarting = s.restarting := rfl
@[simp] theorem State.setFilt_ev (k : Nat) (c : FiltCh) : (s.setFilt k c).ev = s.ev := rfl
@[simp] theorem State.setFilt_life (k : Nat) (c : FiltCh) : (s.setFilt k c).life = s.life := rfl
@[simp] theorem State.setFilt_die (k : Nat) (c : FiltCh) : (s.setFilt k c).die = s.die := rfl
@[simp] theorem State.setFilt_frm (k : Nat) (c : FiltCh) : (s.setFilt k c).frm = s.frm := rfl
@[simp] theorem State.setFilt_quads (k : Nat) (c : FiltCh) : (s.setFilt k c).quads = s.quads := rfl
@[simp] theorem State.setFilt_em (k : Nat) (c : FiltCh) : (s.setFilt k c).em = s.em := rfl
@[simp] theorem State.setFilt_steer (k : Nat) (c : FiltCh) : (s.setFilt k c).steer = s.steer := rfl
@[simp] theorem State.setFilt_forge (k : Nat) (c : FiltCh) : (s.setFilt k c).forge = s.forge := rfl
@[simp] theorem State.setFilt_ana (k : Nat) (c : FiltCh) : (s.setFilt k c).ana = { s.ana with filt := assocPut s.ana.filt k c } := rfl
@[simp] theorem State.setFilt_gov (k : Nat) (c : FiltCh) : (s.setFilt k c).gov = s.gov := rfl
@[simp] theorem State.setFilt_queues (k : Nat) (c : FiltCh) : (s.setFilt k c).queues = s.queues := rfl
@[simp] theorem State.setFilt_dma (k : Nat) (c : FiltCh) : (s.setFilt k c).dma = s.dma := rfl
@[simp] theorem State.setFilt_links (k : Nat) (c : FiltCh) : (s.setFilt k c).links = s.links := rfl
@[simp] theorem State.setFilt_recTok (k : Nat) (c : FiltCh) : (s.setFilt k c).recTok = s.recTok := rfl
@[simp] theorem State.setFilt_recAt (k : Nat) (c : FiltCh) : (s.setFilt k c).recAt = s.recAt := rfl
@[simp] theorem State.setFilt_tap (k : Nat) (c : FiltCh) : (s.setFilt k c).tap = s.tap := rfl
@[simp] theorem State.setFilt_isl (k : Nat) (c : FiltCh) : (s.setFilt k c).isl = s.isl := rfl
@[simp] theorem State.setFilt_cap (k : Nat) (c : FiltCh) : (s.setFilt k c).cap = s.cap := rfl
@[simp] theorem State.setFilt_time (k : Nat) (c : FiltCh) : (s.setFilt k c).time = s.time := rfl
@[simp] theorem State.setFilt_wof (k : Nat) (c : FiltCh) : (s.setFilt k c).wof = s.wof := rfl
@[simp] theorem State.setFilt_fleet (k : Nat) (c : FiltCh) : (s.setFilt k c).fleet = s.fleet := rfl
@[simp] theorem State.setFilt_plv (k : Nat) (c : FiltCh) : (s.setFilt k c).plv = s.plv := rfl
@[simp] theorem State.setFilt_sens (k : Nat) (c : FiltCh) : (s.setFilt k c).sens = s.sens := rfl
@[simp] theorem State.setFilt_pilot (k : Nat) (c : FiltCh) : (s.setFilt k c).pilot = s.pilot := rfl
@[simp] theorem State.setFilt_nv (k : Nat) (c : FiltCh) : (s.setFilt k c).nv = s.nv := rfl
@[simp] theorem State.setFilt_blobs (k : Nat) (c : FiltCh) : (s.setFilt k c).blobs = s.blobs := rfl
@[simp] theorem State.setFilt_jtag (k : Nat) (c : FiltCh) : (s.setFilt k c).jtag = s.jtag := rfl
@[simp] theorem State.setFilt_obj (k : Nat) (c : FiltCh) (a e : Nat) : (s.setFilt k c).obj a e = s.obj a e := rfl
@[simp] theorem State.setFilt_objN (k : Nat) (c : FiltCh) (a e : Nat) : (s.setFilt k c).objN a e = s.objN a e := rfl

/-! ### setLoopInst -/

@[simp] theorem State.setLoopInst_now (k i : Nat) (v : LoopInst) : (s.setLoopInst k i v).now = s.now := rfl
@[simp] theorem State.setLoopInst_scale (k i : Nat) (v : LoopInst) : (s.setLoopInst k i v).scale = s.scale := rfl
@[simp] theorem State.setLoopInst_free (k i : Nat) (v : LoopInst) : (s.setLoopInst k i v).free = s.free := rfl
@[simp] theorem State.setLoopInst_pending (k i : Nat) (v : LoopInst) : (s.setLoopInst k i v).pending = s.pending := rfl
@[simp] theorem State.setLoopInst_out (k i : Nat) (v : LoopInst) : (s.setLoopInst k i v).out = s.out := rfl
@[simp] theorem State.setLoopInst_dict (k i : Nat) (v : LoopInst) : (s.setLoopInst k i v).dict = s.dict := rfl
@[simp] theorem State.setLoopInst_tv (k i : Nat) (v : LoopInst) : (s.setLoopInst k i v).tv = s.tv := rfl
@[simp] theorem State.setLoopInst_sideTx (k i : Nat) (v : LoopInst) : (s.setLoopInst k i v).sideTx = s.sideTx := rfl
@[simp] theorem State.setLoopInst_restarting (k i : Nat) (v : LoopInst) : (s.setLoopInst k i v).restarting = s.restarting := rfl
@[simp] theorem State.setLoopInst_ev (k i : Nat) (v : LoopInst) : (s.setLoopInst k i v).ev = s.ev := rfl
@[simp] theorem State.setLoopInst_life (k i : Nat) (v : LoopInst) : (s.setLoopInst k i v).life = s.life := rfl
@[simp] theorem State.setLoopInst_die (k i : Nat) (v : LoopInst) : (s.setLoopInst k i v).die = s.die := rfl
@[simp] theorem State.setLoopInst_frm (k i : Nat) (v : LoopInst) : (s.setLoopInst k i v).frm = s.frm := rfl
@[simp] theorem State.setLoopInst_quads (k i : Nat) (v : LoopInst) : (s.setLoopInst k i v).quads = s.quads := rfl
@[simp] theorem State.setLoopInst_em (k i : Nat) (v : LoopInst) : (s.setLoopInst k i v).em = s.em := rfl
@[simp] theorem State.setLoopInst_steer (k i : Nat) (v : LoopInst) : (s.setLoopInst k i v).steer = s.steer := rfl
@[simp] theorem State.setLoopInst_ana (k i : Nat) (v : LoopInst) : (s.setLoopInst k i v).ana = s.ana := rfl
@[simp] theorem State.setLoopInst_gov (k i : Nat) (v : LoopInst) : (s.setLoopInst k i v).gov = s.gov := rfl
@[simp] theorem State.setLoopInst_queues (k i : Nat) (v : LoopInst) : (s.setLoopInst k i v).queues = s.queues := rfl
@[simp] theorem State.setLoopInst_dma (k i : Nat) (v : LoopInst) : (s.setLoopInst k i v).dma = s.dma := rfl
@[simp] theorem State.setLoopInst_links (k i : Nat) (v : LoopInst) : (s.setLoopInst k i v).links = s.links := rfl
@[simp] theorem State.setLoopInst_recTok (k i : Nat) (v : LoopInst) : (s.setLoopInst k i v).recTok = s.recTok := rfl
@[simp] theorem State.setLoopInst_recAt (k i : Nat) (v : LoopInst) : (s.setLoopInst k i v).recAt = s.recAt := rfl
@[simp] theorem State.setLoopInst_tap (k i : Nat) (v : LoopInst) : (s.setLoopInst k i v).tap = s.tap := rfl
@[simp] theorem State.setLoopInst_isl (k i : Nat) (v : LoopInst) : (s.setLoopInst k i v).isl = s.isl := rfl
@[simp] theorem State.setLoopInst_cap (k i : Nat) (v : LoopInst) : (s.setLoopInst k i v).cap = s.cap := rfl
@[simp] theorem State.setLoopInst_time (k i : Nat) (v : LoopInst) : (s.setLoopInst k i v).time = s.time := rfl
@[simp] theorem State.setLoopInst_wof (k i : Nat) (v : LoopInst) : (s.setLoopInst k i v).wof = s.wof := rfl
@[simp] theorem State.setLoopInst_fleet (k i : Nat) (v : LoopInst) : (s.setLoopInst k i v).fleet = s.fleet := rfl
@[simp] theorem State.setLoopInst_plv (k i : Nat) (v : LoopInst) : (s.setLoopInst k i v).plv = s.plv := rfl
@[simp] theorem State.setLoopInst_sens (k i : Nat) (v : LoopInst) : (s.setLoopInst k i v).sens = s.sens := rfl
@[simp] theorem State.setLoopInst_pilot (k i : Nat) (v : LoopInst) : (s.setLoopInst k i v).pilot = s.pilot := rfl
@[simp] theorem State.setLoopInst_nv (k i : Nat) (v : LoopInst) : (s.setLoopInst k i v).nv = s.nv := rfl
@[simp] theorem State.setLoopInst_blobs (k i : Nat) (v : LoopInst) : (s.setLoopInst k i v).blobs = s.blobs := rfl
@[simp] theorem State.setLoopInst_jtag (k i : Nat) (v : LoopInst) : (s.setLoopInst k i v).jtag = s.jtag := rfl
@[simp] theorem State.setLoopInst_obj (k i : Nat) (v : LoopInst) (a e : Nat) : (s.setLoopInst k i v).obj a e = s.obj a e := rfl
@[simp] theorem State.setLoopInst_objN (k i : Nat) (v : LoopInst) (a e : Nat) : (s.setLoopInst k i v).objN a e = s.objN a e := rfl

/-! ### setComp -/

@[simp] theorem State.setComp_now (k i : Nat) (c : Comp) : (s.setComp k i c).now = s.now := rfl
@[simp] theorem State.setComp_scale (k i : Nat) (c : Comp) : (s.setComp k i c).scale = s.scale := rfl
@[simp] theorem State.setComp_free (k i : Nat) (c : Comp) : (s.setComp k i c).free = s.free := rfl
@[simp] theorem State.setComp_pending (k i : Nat) (c : Comp) : (s.setComp k i c).pending = s.pending := rfl
@[simp] theorem State.setComp_out (k i : Nat) (c : Comp) : (s.setComp k i c).out = s.out := rfl
@[simp] theorem State.setComp_dict (k i : Nat) (c : Comp) : (s.setComp k i c).dict = s.dict := rfl
@[simp] theorem State.setComp_tv (k i : Nat) (c : Comp) : (s.setComp k i c).tv = s.tv := rfl
@[simp] theorem State.setComp_sideTx (k i : Nat) (c : Comp) : (s.setComp k i c).sideTx = s.sideTx := rfl
@[simp] theorem State.setComp_restarting (k i : Nat) (c : Comp) : (s.setComp k i c).restarting = s.restarting := rfl
@[simp] theorem State.setComp_ev (k i : Nat) (c : Comp) : (s.setComp k i c).ev = s.ev := rfl
@[simp] theorem State.setComp_life (k i : Nat) (c : Comp) : (s.setComp k i c).life = s.life := rfl
@[simp] theorem State.setComp_die (k i : Nat) (c : Comp) : (s.setComp k i c).die = s.die := rfl
@[simp] theorem State.setComp_frm (k i : Nat) (c : Comp) : (s.setComp k i c).frm = s.frm := rfl
@[simp] theorem State.setComp_quads (k i : Nat) (c : Comp) : (s.setComp k i c).quads = s.quads := rfl
@[simp] theorem State.setComp_em (k i : Nat) (c : Comp) : (s.setComp k i c).em = s.em := rfl
@[simp] theorem State.setComp_steer (k i : Nat) (c : Comp) : (s.setComp k i c).steer = s.steer := rfl
@[simp] theorem State.setComp_ana (k i : Nat) (c : Comp) : (s.setComp k i c).ana = s.ana := rfl
@[simp] theorem State.setComp_gov (k i : Nat) (c : Comp) : (s.setComp k i c).gov = s.gov := rfl
@[simp] theorem State.setComp_queues (k i : Nat) (c : Comp) : (s.setComp k i c).queues = s.queues := rfl
@[simp] theorem State.setComp_dma (k i : Nat) (c : Comp) : (s.setComp k i c).dma = s.dma := rfl
@[simp] theorem State.setComp_links (k i : Nat) (c : Comp) : (s.setComp k i c).links = s.links := rfl
@[simp] theorem State.setComp_recTok (k i : Nat) (c : Comp) : (s.setComp k i c).recTok = s.recTok := rfl
@[simp] theorem State.setComp_recAt (k i : Nat) (c : Comp) : (s.setComp k i c).recAt = s.recAt := rfl
@[simp] theorem State.setComp_tap (k i : Nat) (c : Comp) : (s.setComp k i c).tap = s.tap := rfl
@[simp] theorem State.setComp_isl (k i : Nat) (c : Comp) : (s.setComp k i c).isl = s.isl := rfl
@[simp] theorem State.setComp_cap (k i : Nat) (c : Comp) : (s.setComp k i c).cap = s.cap := rfl
@[simp] theorem State.setComp_time (k i : Nat) (c : Comp) : (s.setComp k i c).time = s.time := rfl
@[simp] theorem State.setComp_wof (k i : Nat) (c : Comp) : (s.setComp k i c).wof = s.wof := rfl
@[simp] theorem State.setComp_fleet (k i : Nat) (c : Comp) : (s.setComp k i c).fleet = s.fleet := rfl
@[simp] theorem State.setComp_plv (k i : Nat) (c : Comp) : (s.setComp k i c).plv = s.plv := rfl
@[simp] theorem State.setComp_sens (k i : Nat) (c : Comp) : (s.setComp k i c).sens = s.sens := rfl
@[simp] theorem State.setComp_pilot (k i : Nat) (c : Comp) : (s.setComp k i c).pilot = s.pilot := rfl
@[simp] theorem State.setComp_nv (k i : Nat) (c : Comp) : (s.setComp k i c).nv = s.nv := rfl
@[simp] theorem State.setComp_blobs (k i : Nat) (c : Comp) : (s.setComp k i c).blobs = s.blobs := rfl
@[simp] theorem State.setComp_jtag (k i : Nat) (c : Comp) : (s.setComp k i c).jtag = s.jtag := rfl
@[simp] theorem State.setComp_obj (k i : Nat) (c : Comp) (a e : Nat) : (s.setComp k i c).obj a e = s.obj a e := rfl
@[simp] theorem State.setComp_objN (k i : Nat) (c : Comp) (a e : Nat) : (s.setComp k i c).objN a e = s.objN a e := rfl

/-! ### modFleet -/

@[simp] theorem State.modFleet_now (f : Fleet → Fleet) : (s.modFleet f).now = s.now := rfl
@[simp] theorem State.modFleet_scale (f : Fleet → Fleet) : (s.modFleet f).scale = s.scale := rfl
@[simp] theorem State.modFleet_free (f : Fleet → Fleet) : (s.modFleet f).free = s.free := rfl
@[simp] theorem State.modFleet_pending (f : Fleet → Fleet) : (s.modFleet f).pending = s.pending := rfl
@[simp] theorem State.modFleet_out (f : Fleet → Fleet) : (s.modFleet f).out = s.out := rfl
@[simp] theorem State.modFleet_dict (f : Fleet → Fleet) : (s.modFleet f).dict = s.dict := rfl
@[simp] theorem State.modFleet_tv (f : Fleet → Fleet) : (s.modFleet f).tv = s.tv := rfl
@[simp] theorem State.modFleet_sideTx (f : Fleet → Fleet) : (s.modFleet f).sideTx = s.sideTx := rfl
@[simp] theorem State.modFleet_restarting (f : Fleet → Fleet) : (s.modFleet f).restarting = s.restarting := rfl
@[simp] theorem State.modFleet_ev (f : Fleet → Fleet) : (s.modFleet f).ev = s.ev := rfl
@[simp] theorem State.modFleet_life (f : Fleet → Fleet) : (s.modFleet f).life = s.life := rfl
@[simp] theorem State.modFleet_die (f : Fleet → Fleet) : (s.modFleet f).die = s.die := rfl
@[simp] theorem State.modFleet_frm (f : Fleet → Fleet) : (s.modFleet f).frm = s.frm := rfl
@[simp] theorem State.modFleet_quads (f : Fleet → Fleet) : (s.modFleet f).quads = s.quads := rfl
@[simp] theorem State.modFleet_em (f : Fleet → Fleet) : (s.modFleet f).em = s.em := rfl
@[simp] theorem State.modFleet_steer (f : Fleet → Fleet) : (s.modFleet f).steer = s.steer := rfl
@[simp] theorem State.modFleet_forge (f : Fleet → Fleet) : (s.modFleet f).forge = s.forge := rfl
@[simp] theorem State.modFleet_ana (f : Fleet → Fleet) : (s.modFleet f).ana = s.ana := rfl
@[simp] theorem State.modFleet_gov (f : Fleet → Fleet) : (s.modFleet f).gov = s.gov := rfl
@[simp] theorem State.modFleet_queues (f : Fleet → Fleet) : (s.modFleet f).queues = s.queues := rfl
@[simp] theorem State.modFleet_dma (f : Fleet → Fleet) : (s.modFleet f).dma = s.dma := rfl
@[simp] theorem State.modFleet_links (f : Fleet → Fleet) : (s.modFleet f).links = s.links := rfl
@[simp] theorem State.modFleet_recTok (f : Fleet → Fleet) : (s.modFleet f).recTok = s.recTok := rfl
@[simp] theorem State.modFleet_recAt (f : Fleet → Fleet) : (s.modFleet f).recAt = s.recAt := rfl
@[simp] theorem State.modFleet_tap (f : Fleet → Fleet) : (s.modFleet f).tap = s.tap := rfl
@[simp] theorem State.modFleet_isl (f : Fleet → Fleet) : (s.modFleet f).isl = s.isl := rfl
@[simp] theorem State.modFleet_cap (f : Fleet → Fleet) : (s.modFleet f).cap = s.cap := rfl
@[simp] theorem State.modFleet_time (f : Fleet → Fleet) : (s.modFleet f).time = s.time := rfl
@[simp] theorem State.modFleet_wof (f : Fleet → Fleet) : (s.modFleet f).wof = s.wof := rfl
@[simp] theorem State.modFleet_fleet (f : Fleet → Fleet) : (s.modFleet f).fleet = f s.fleet := rfl
@[simp] theorem State.modFleet_plv (f : Fleet → Fleet) : (s.modFleet f).plv = s.plv := rfl
@[simp] theorem State.modFleet_sens (f : Fleet → Fleet) : (s.modFleet f).sens = s.sens := rfl
@[simp] theorem State.modFleet_pilot (f : Fleet → Fleet) : (s.modFleet f).pilot = s.pilot := rfl
@[simp] theorem State.modFleet_nv (f : Fleet → Fleet) : (s.modFleet f).nv = s.nv := rfl
@[simp] theorem State.modFleet_blobs (f : Fleet → Fleet) : (s.modFleet f).blobs = s.blobs := rfl
@[simp] theorem State.modFleet_jtag (f : Fleet → Fleet) : (s.modFleet f).jtag = s.jtag := rfl
@[simp] theorem State.modFleet_obj (f : Fleet → Fleet) (a e : Nat) : (s.modFleet f).obj a e = s.obj a e := rfl
@[simp] theorem State.modFleet_objN (f : Fleet → Fleet) (a e : Nat) : (s.modFleet f).objN a e = s.objN a e := rfl

/-! ### setRows -/

@[simp] theorem State.setRows_now (l : List FleetRow) : (s.setRows l).now = s.now := rfl
@[simp] theorem State.setRows_scale (l : List FleetRow) : (s.setRows l).scale = s.scale := rfl
@[simp] theorem State.setRows_free (l : List FleetRow) : (s.setRows l).free = s.free := rfl
@[simp] theorem State.setRows_pending (l : List FleetRow) : (s.setRows l).pending = s.pending := rfl
@[simp] theorem State.setRows_out (l : List FleetRow) : (s.setRows l).out = s.out := rfl
@[simp] theorem State.setRows_dict (l : List FleetRow) : (s.setRows l).dict = s.dict := rfl
@[simp] theorem State.setRows_tv (l : List FleetRow) : (s.setRows l).tv = s.tv := rfl
@[simp] theorem State.setRows_sideTx (l : List FleetRow) : (s.setRows l).sideTx = s.sideTx := rfl
@[simp] theorem State.setRows_restarting (l : List FleetRow) : (s.setRows l).restarting = s.restarting := rfl
@[simp] theorem State.setRows_ev (l : List FleetRow) : (s.setRows l).ev = s.ev := rfl
@[simp] theorem State.setRows_life (l : List FleetRow) : (s.setRows l).life = s.life := rfl
@[simp] theorem State.setRows_die (l : List FleetRow) : (s.setRows l).die = s.die := rfl
@[simp] theorem State.setRows_frm (l : List FleetRow) : (s.setRows l).frm = s.frm := rfl
@[simp] theorem State.setRows_quads (l : List FleetRow) : (s.setRows l).quads = s.quads := rfl
@[simp] theorem State.setRows_em (l : List FleetRow) : (s.setRows l).em = s.em := rfl
@[simp] theorem State.setRows_steer (l : List FleetRow) : (s.setRows l).steer = s.steer := rfl
@[simp] theorem State.setRows_forge (l : List FleetRow) : (s.setRows l).forge = s.forge := rfl
@[simp] theorem State.setRows_ana (l : List FleetRow) : (s.setRows l).ana = s.ana := rfl
@[simp] theorem State.setRows_gov (l : List FleetRow) : (s.setRows l).gov = s.gov := rfl
@[simp] theorem State.setRows_queues (l : List FleetRow) : (s.setRows l).queues = s.queues := rfl
@[simp] theorem State.setRows_dma (l : List FleetRow) : (s.setRows l).dma = s.dma := rfl
@[simp] theorem State.setRows_links (l : List FleetRow) : (s.setRows l).links = s.links := rfl
@[simp] theorem State.setRows_recTok (l : List FleetRow) : (s.setRows l).recTok = s.recTok := rfl
@[simp] theorem State.setRows_recAt (l : List FleetRow) : (s.setRows l).recAt = s.recAt := rfl
@[simp] theorem State.setRows_tap (l : List FleetRow) : (s.setRows l).tap = s.tap := rfl
@[simp] theorem State.setRows_isl (l : List FleetRow) : (s.setRows l).isl = s.isl := rfl
@[simp] theorem State.setRows_cap (l : List FleetRow) : (s.setRows l).cap = s.cap := rfl
@[simp] theorem State.setRows_time (l : List FleetRow) : (s.setRows l).time = s.time := rfl
@[simp] theorem State.setRows_wof (l : List FleetRow) : (s.setRows l).wof = s.wof := rfl
@[simp] theorem State.setRows_fleet (l : List FleetRow) : (s.setRows l).fleet = s.fleet := rfl
@[simp] theorem State.setRows_plv (l : List FleetRow) : (s.setRows l).plv = s.plv := rfl
@[simp] theorem State.setRows_sens (l : List FleetRow) : (s.setRows l).sens = s.sens := rfl
@[simp] theorem State.setRows_pilot (l : List FleetRow) : (s.setRows l).pilot = s.pilot := rfl
@[simp] theorem State.setRows_nv (l : List FleetRow) : (s.setRows l).nv = { s.nv with fleetRows := l } := rfl
@[simp] theorem State.setRows_blobs (l : List FleetRow) : (s.setRows l).blobs = s.blobs := rfl
@[simp] theorem State.setRows_jtag (l : List FleetRow) : (s.setRows l).jtag = s.jtag := rfl
@[simp] theorem State.setRows_obj (l : List FleetRow) (a e : Nat) : (s.setRows l).obj a e = s.obj a e := rfl
@[simp] theorem State.setRows_objN (l : List FleetRow) (a e : Nat) : (s.setRows l).objN a e = s.objN a e := rfl

/-! ### modFrm -/

@[simp] theorem State.modFrm_now (f : Frames → Frames) : (s.modFrm f).now = s.now := rfl
@[simp] theorem State.modFrm_scale (f : Frames → Frames) : (s.modFrm f).scale = s.scale := rfl
@[simp] theorem State.modFrm_free (f : Frames → Frames) : (s.modFrm f).free = s.free := rfl
@[simp] theorem State.modFrm_pending (f : Frames → Frames) : (s.modFrm f).pending = s.pending := rfl
@[simp] theorem State.modFrm_out (f : Frames → Frames) : (s.modFrm f).out = s.out := rfl
@[simp] theorem State.modFrm_dict (f : Frames → Frames) : (s.modFrm f).dict = s.dict := rfl
@[simp] theorem State.modFrm_tv (f : Frames → Frames) : (s.modFrm f).tv = s.tv := rfl
@[simp] theorem State.modFrm_sideTx (f : Frames → Frames) : (s.modFrm f).sideTx = s.sideTx := rfl
@[simp] theorem State.modFrm_restarting (f : Frames → Frames) : (s.modFrm f).restarting = s.restarting := rfl
@[simp] theorem State.modFrm_ev (f : Frames → Frames) : (s.modFrm f).ev = s.ev := rfl
@[simp] theorem State.modFrm_life (f : Frames → Frames) : (s.modFrm f).life = s.life := rfl
@[simp] theorem State.modFrm_die (f : Frames → Frames) : (s.modFrm f).die = s.die := rfl
@[simp] theorem State.modFrm_frm (f : Frames → Frames) : (s.modFrm f).frm = f s.frm := rfl
@[simp] theorem State.modFrm_quads (f : Frames → Frames) : (s.modFrm f).quads = s.quads := rfl
@[simp] theorem State.modFrm_em (f : Frames → Frames) : (s.modFrm f).em = s.em := rfl
@[simp] theorem State.modFrm_steer (f : Frames → Frames) : (s.modFrm f).steer = s.steer := rfl
@[simp] theorem State.modFrm_forge (f : Frames → Frames) : (s.modFrm f).forge = s.forge := rfl
@[simp] theorem State.modFrm_ana (f : Frames → Frames) : (s.modFrm f).ana = s.ana := rfl
@[simp] theorem State.modFrm_gov (f : Frames → Frames) : (s.modFrm f).gov = s.gov := rfl
@[simp] theorem State.modFrm_queues (f : Frames → Frames) : (s.modFrm f).queues = s.queues := rfl
@[simp] theorem State.modFrm_dma (f : Frames → Frames) : (s.modFrm f).dma = s.dma := rfl
@[simp] theorem State.modFrm_links (f : Frames → Frames) : (s.modFrm f).links = s.links := rfl
@[simp] theorem State.modFrm_recTok (f : Frames → Frames) : (s.modFrm f).recTok = s.recTok := rfl
@[simp] theorem State.modFrm_recAt (f : Frames → Frames) : (s.modFrm f).recAt = s.recAt := rfl
@[simp] theorem State.modFrm_tap (f : Frames → Frames) : (s.modFrm f).tap = s.tap := rfl
@[simp] theorem State.modFrm_isl (f : Frames → Frames) : (s.modFrm f).isl = s.isl := rfl
@[simp] theorem State.modFrm_cap (f : Frames → Frames) : (s.modFrm f).cap = s.cap := rfl
@[simp] theorem State.modFrm_time (f : Frames → Frames) : (s.modFrm f).time = s.time := rfl
@[simp] theorem State.modFrm_wof (f : Frames → Frames) : (s.modFrm f).wof = s.wof := rfl
@[simp] theorem State.modFrm_fleet (f : Frames → Frames) : (s.modFrm f).fleet = s.fleet := rfl
@[simp] theorem State.modFrm_plv (f : Frames → Frames) : (s.modFrm f).plv = s.plv := rfl
@[simp] theorem State.modFrm_sens (f : Frames → Frames) : (s.modFrm f).sens = s.sens := rfl
@[simp] theorem State.modFrm_pilot (f : Frames → Frames) : (s.modFrm f).pilot = s.pilot := rfl
@[simp] theorem State.modFrm_nv (f : Frames → Frames) : (s.modFrm f).nv = s.nv := rfl
@[simp] theorem State.modFrm_blobs (f : Frames → Frames) : (s.modFrm f).blobs = s.blobs := rfl
@[simp] theorem State.modFrm_jtag (f : Frames → Frames) : (s.modFrm f).jtag = s.jtag := rfl
@[simp] theorem State.modFrm_obj (f : Frames → Frames) (a e : Nat) : (s.modFrm f).obj a e = s.obj a e := rfl
@[simp] theorem State.modFrm_objN (f : Frames → Frames) (a e : Nat) : (s.modFrm f).objN a e = s.objN a e := rfl

/-! ### modIsl -/

@[simp] theorem State.modIsl_now (f : Island → Island) : (s.modIsl f).now = s.now := rfl
@[simp] theorem State.modIsl_scale (f : Island → Island) : (s.modIsl f).scale = s.scale := rfl
@[simp] theorem State.modIsl_free (f : Island → Island) : (s.modIsl f).free = s.free := rfl
@[simp] theorem State.modIsl_pending (f : Island → Island) : (s.modIsl f).pending = s.pending := rfl
@[simp] theorem State.modIsl_out (f : Island → Island) : (s.modIsl f).out = s.out := rfl
@[simp] theorem State.modIsl_dict (f : Island → Island) : (s.modIsl f).dict = s.dict := rfl
@[simp] theorem State.modIsl_tv (f : Island → Island) : (s.modIsl f).tv = s.tv := rfl
@[simp] theorem State.modIsl_sideTx (f : Island → Island) : (s.modIsl f).sideTx = s.sideTx := rfl
@[simp] theorem State.modIsl_restarting (f : Island → Island) : (s.modIsl f).restarting = s.restarting := rfl
@[simp] theorem State.modIsl_ev (f : Island → Island) : (s.modIsl f).ev = s.ev := rfl
@[simp] theorem State.modIsl_life (f : Island → Island) : (s.modIsl f).life = s.life := rfl
@[simp] theorem State.modIsl_die (f : Island → Island) : (s.modIsl f).die = s.die := rfl
@[simp] theorem State.modIsl_frm (f : Island → Island) : (s.modIsl f).frm = s.frm := rfl
@[simp] theorem State.modIsl_quads (f : Island → Island) : (s.modIsl f).quads = s.quads := rfl
@[simp] theorem State.modIsl_em (f : Island → Island) : (s.modIsl f).em = s.em := rfl
@[simp] theorem State.modIsl_steer (f : Island → Island) : (s.modIsl f).steer = s.steer := rfl
@[simp] theorem State.modIsl_forge (f : Island → Island) : (s.modIsl f).forge = s.forge := rfl
@[simp] theorem State.modIsl_ana (f : Island → Island) : (s.modIsl f).ana = s.ana := rfl
@[simp] theorem State.modIsl_gov (f : Island → Island) : (s.modIsl f).gov = s.gov := rfl
@[simp] theorem State.modIsl_queues (f : Island → Island) : (s.modIsl f).queues = s.queues := rfl
@[simp] theorem State.modIsl_dma (f : Island → Island) : (s.modIsl f).dma = s.dma := rfl
@[simp] theorem State.modIsl_links (f : Island → Island) : (s.modIsl f).links = s.links := rfl
@[simp] theorem State.modIsl_recTok (f : Island → Island) : (s.modIsl f).recTok = s.recTok := rfl
@[simp] theorem State.modIsl_recAt (f : Island → Island) : (s.modIsl f).recAt = s.recAt := rfl
@[simp] theorem State.modIsl_tap (f : Island → Island) : (s.modIsl f).tap = s.tap := rfl
@[simp] theorem State.modIsl_isl (f : Island → Island) : (s.modIsl f).isl = f s.isl := rfl
@[simp] theorem State.modIsl_cap (f : Island → Island) : (s.modIsl f).cap = s.cap := rfl
@[simp] theorem State.modIsl_time (f : Island → Island) : (s.modIsl f).time = s.time := rfl
@[simp] theorem State.modIsl_wof (f : Island → Island) : (s.modIsl f).wof = s.wof := rfl
@[simp] theorem State.modIsl_fleet (f : Island → Island) : (s.modIsl f).fleet = s.fleet := rfl
@[simp] theorem State.modIsl_plv (f : Island → Island) : (s.modIsl f).plv = s.plv := rfl
@[simp] theorem State.modIsl_sens (f : Island → Island) : (s.modIsl f).sens = s.sens := rfl
@[simp] theorem State.modIsl_pilot (f : Island → Island) : (s.modIsl f).pilot = s.pilot := rfl
@[simp] theorem State.modIsl_nv (f : Island → Island) : (s.modIsl f).nv = s.nv := rfl
@[simp] theorem State.modIsl_blobs (f : Island → Island) : (s.modIsl f).blobs = s.blobs := rfl
@[simp] theorem State.modIsl_jtag (f : Island → Island) : (s.modIsl f).jtag = s.jtag := rfl
@[simp] theorem State.modIsl_obj (f : Island → Island) (a e : Nat) : (s.modIsl f).obj a e = s.obj a e := rfl
@[simp] theorem State.modIsl_objN (f : Island → Island) (a e : Nat) : (s.modIsl f).objN a e = s.objN a e := rfl

/-! ### setPair -/

@[simp] theorem State.setPair_now (n : Fin 4) (p : SafePair) : (s.setPair n p).now = s.now := rfl
@[simp] theorem State.setPair_scale (n : Fin 4) (p : SafePair) : (s.setPair n p).scale = s.scale := rfl
@[simp] theorem State.setPair_free (n : Fin 4) (p : SafePair) : (s.setPair n p).free = s.free := rfl
@[simp] theorem State.setPair_pending (n : Fin 4) (p : SafePair) : (s.setPair n p).pending = s.pending := rfl
@[simp] theorem State.setPair_out (n : Fin 4) (p : SafePair) : (s.setPair n p).out = s.out := rfl
@[simp] theorem State.setPair_dict (n : Fin 4) (p : SafePair) : (s.setPair n p).dict = s.dict := rfl
@[simp] theorem State.setPair_tv (n : Fin 4) (p : SafePair) : (s.setPair n p).tv = s.tv := rfl
@[simp] theorem State.setPair_sideTx (n : Fin 4) (p : SafePair) : (s.setPair n p).sideTx = s.sideTx := rfl
@[simp] theorem State.setPair_restarting (n : Fin 4) (p : SafePair) : (s.setPair n p).restarting = s.restarting := rfl
@[simp] theorem State.setPair_ev (n : Fin 4) (p : SafePair) : (s.setPair n p).ev = s.ev := rfl
@[simp] theorem State.setPair_life (n : Fin 4) (p : SafePair) : (s.setPair n p).life = s.life := rfl
@[simp] theorem State.setPair_die (n : Fin 4) (p : SafePair) : (s.setPair n p).die = s.die := rfl
@[simp] theorem State.setPair_frm (n : Fin 4) (p : SafePair) : (s.setPair n p).frm = s.frm := rfl
@[simp] theorem State.setPair_quads (n : Fin 4) (p : SafePair) : (s.setPair n p).quads = s.quads := rfl
@[simp] theorem State.setPair_em (n : Fin 4) (p : SafePair) : (s.setPair n p).em = s.em := rfl
@[simp] theorem State.setPair_steer (n : Fin 4) (p : SafePair) : (s.setPair n p).steer = s.steer := rfl
@[simp] theorem State.setPair_forge (n : Fin 4) (p : SafePair) : (s.setPair n p).forge = s.forge := rfl
@[simp] theorem State.setPair_ana (n : Fin 4) (p : SafePair) : (s.setPair n p).ana = s.ana := rfl
@[simp] theorem State.setPair_gov (n : Fin 4) (p : SafePair) : (s.setPair n p).gov = s.gov := rfl
@[simp] theorem State.setPair_queues (n : Fin 4) (p : SafePair) : (s.setPair n p).queues = s.queues := rfl
@[simp] theorem State.setPair_dma (n : Fin 4) (p : SafePair) : (s.setPair n p).dma = s.dma := rfl
@[simp] theorem State.setPair_links (n : Fin 4) (p : SafePair) : (s.setPair n p).links = s.links := rfl
@[simp] theorem State.setPair_recTok (n : Fin 4) (p : SafePair) : (s.setPair n p).recTok = s.recTok := rfl
@[simp] theorem State.setPair_recAt (n : Fin 4) (p : SafePair) : (s.setPair n p).recAt = s.recAt := rfl
@[simp] theorem State.setPair_tap (n : Fin 4) (p : SafePair) : (s.setPair n p).tap = s.tap := rfl
@[simp] theorem State.setPair_isl (n : Fin 4) (p : SafePair) : (s.setPair n p).isl = { s.isl with pairs := s.isl.pairs.set n p } := rfl
@[simp] theorem State.setPair_cap (n : Fin 4) (p : SafePair) : (s.setPair n p).cap = s.cap := rfl
@[simp] theorem State.setPair_time (n : Fin 4) (p : SafePair) : (s.setPair n p).time = s.time := rfl
@[simp] theorem State.setPair_wof (n : Fin 4) (p : SafePair) : (s.setPair n p).wof = s.wof := rfl
@[simp] theorem State.setPair_fleet (n : Fin 4) (p : SafePair) : (s.setPair n p).fleet = s.fleet := rfl
@[simp] theorem State.setPair_plv (n : Fin 4) (p : SafePair) : (s.setPair n p).plv = s.plv := rfl
@[simp] theorem State.setPair_sens (n : Fin 4) (p : SafePair) : (s.setPair n p).sens = s.sens := rfl
@[simp] theorem State.setPair_pilot (n : Fin 4) (p : SafePair) : (s.setPair n p).pilot = s.pilot := rfl
@[simp] theorem State.setPair_nv (n : Fin 4) (p : SafePair) : (s.setPair n p).nv = s.nv := rfl
@[simp] theorem State.setPair_blobs (n : Fin 4) (p : SafePair) : (s.setPair n p).blobs = s.blobs := rfl
@[simp] theorem State.setPair_jtag (n : Fin 4) (p : SafePair) : (s.setPair n p).jtag = s.jtag := rfl
@[simp] theorem State.setPair_obj (n : Fin 4) (p : SafePair) (a e : Nat) : (s.setPair n p).obj a e = s.obj a e := rfl
@[simp] theorem State.setPair_objN (n : Fin 4) (p : SafePair) (a e : Nat) : (s.setPair n p).objN a e = s.objN a e := rfl

/-! ### modPlv -/

@[simp] theorem State.modPlv_now (f : Plovivo → Plovivo) : (s.modPlv f).now = s.now := rfl
@[simp] theorem State.modPlv_scale (f : Plovivo → Plovivo) : (s.modPlv f).scale = s.scale := rfl
@[simp] theorem State.modPlv_free (f : Plovivo → Plovivo) : (s.modPlv f).free = s.free := rfl
@[simp] theorem State.modPlv_pending (f : Plovivo → Plovivo) : (s.modPlv f).pending = s.pending := rfl
@[simp] theorem State.modPlv_out (f : Plovivo → Plovivo) : (s.modPlv f).out = s.out := rfl
@[simp] theorem State.modPlv_dict (f : Plovivo → Plovivo) : (s.modPlv f).dict = s.dict := rfl
@[simp] theorem State.modPlv_tv (f : Plovivo → Plovivo) : (s.modPlv f).tv = s.tv := rfl
@[simp] theorem State.modPlv_sideTx (f : Plovivo → Plovivo) : (s.modPlv f).sideTx = s.sideTx := rfl
@[simp] theorem State.modPlv_restarting (f : Plovivo → Plovivo) : (s.modPlv f).restarting = s.restarting := rfl
@[simp] theorem State.modPlv_ev (f : Plovivo → Plovivo) : (s.modPlv f).ev = s.ev := rfl
@[simp] theorem State.modPlv_life (f : Plovivo → Plovivo) : (s.modPlv f).life = s.life := rfl
@[simp] theorem State.modPlv_die (f : Plovivo → Plovivo) : (s.modPlv f).die = s.die := rfl
@[simp] theorem State.modPlv_frm (f : Plovivo → Plovivo) : (s.modPlv f).frm = s.frm := rfl
@[simp] theorem State.modPlv_quads (f : Plovivo → Plovivo) : (s.modPlv f).quads = s.quads := rfl
@[simp] theorem State.modPlv_em (f : Plovivo → Plovivo) : (s.modPlv f).em = s.em := rfl
@[simp] theorem State.modPlv_steer (f : Plovivo → Plovivo) : (s.modPlv f).steer = s.steer := rfl
@[simp] theorem State.modPlv_forge (f : Plovivo → Plovivo) : (s.modPlv f).forge = s.forge := rfl
@[simp] theorem State.modPlv_ana (f : Plovivo → Plovivo) : (s.modPlv f).ana = s.ana := rfl
@[simp] theorem State.modPlv_gov (f : Plovivo → Plovivo) : (s.modPlv f).gov = s.gov := rfl
@[simp] theorem State.modPlv_queues (f : Plovivo → Plovivo) : (s.modPlv f).queues = s.queues := rfl
@[simp] theorem State.modPlv_dma (f : Plovivo → Plovivo) : (s.modPlv f).dma = s.dma := rfl
@[simp] theorem State.modPlv_links (f : Plovivo → Plovivo) : (s.modPlv f).links = s.links := rfl
@[simp] theorem State.modPlv_recTok (f : Plovivo → Plovivo) : (s.modPlv f).recTok = s.recTok := rfl
@[simp] theorem State.modPlv_recAt (f : Plovivo → Plovivo) : (s.modPlv f).recAt = s.recAt := rfl
@[simp] theorem State.modPlv_tap (f : Plovivo → Plovivo) : (s.modPlv f).tap = s.tap := rfl
@[simp] theorem State.modPlv_isl (f : Plovivo → Plovivo) : (s.modPlv f).isl = s.isl := rfl
@[simp] theorem State.modPlv_cap (f : Plovivo → Plovivo) : (s.modPlv f).cap = s.cap := rfl
@[simp] theorem State.modPlv_time (f : Plovivo → Plovivo) : (s.modPlv f).time = s.time := rfl
@[simp] theorem State.modPlv_wof (f : Plovivo → Plovivo) : (s.modPlv f).wof = s.wof := rfl
@[simp] theorem State.modPlv_fleet (f : Plovivo → Plovivo) : (s.modPlv f).fleet = s.fleet := rfl
@[simp] theorem State.modPlv_plv (f : Plovivo → Plovivo) : (s.modPlv f).plv = f s.plv := rfl
@[simp] theorem State.modPlv_sens (f : Plovivo → Plovivo) : (s.modPlv f).sens = s.sens := rfl
@[simp] theorem State.modPlv_pilot (f : Plovivo → Plovivo) : (s.modPlv f).pilot = s.pilot := rfl
@[simp] theorem State.modPlv_nv (f : Plovivo → Plovivo) : (s.modPlv f).nv = s.nv := rfl
@[simp] theorem State.modPlv_blobs (f : Plovivo → Plovivo) : (s.modPlv f).blobs = s.blobs := rfl
@[simp] theorem State.modPlv_jtag (f : Plovivo → Plovivo) : (s.modPlv f).jtag = s.jtag := rfl
@[simp] theorem State.modPlv_obj (f : Plovivo → Plovivo) (a e : Nat) : (s.modPlv f).obj a e = s.obj a e := rfl
@[simp] theorem State.modPlv_objN (f : Plovivo → Plovivo) (a e : Nat) : (s.modPlv f).objN a e = s.objN a e := rfl

/-! ### modSlot -/

@[simp] theorem State.modSlot_now (k : Fin 4) (f : PlvSlot → PlvSlot) : (s.modSlot k f).now = s.now := rfl
@[simp] theorem State.modSlot_scale (k : Fin 4) (f : PlvSlot → PlvSlot) : (s.modSlot k f).scale = s.scale := rfl
@[simp] theorem State.modSlot_free (k : Fin 4) (f : PlvSlot → PlvSlot) : (s.modSlot k f).free = s.free := rfl
@[simp] theorem State.modSlot_pending (k : Fin 4) (f : PlvSlot → PlvSlot) : (s.modSlot k f).pending = s.pending := rfl
@[simp] theorem State.modSlot_out (k : Fin 4) (f : PlvSlot → PlvSlot) : (s.modSlot k f).out = s.out := rfl
@[simp] theorem State.modSlot_dict (k : Fin 4) (f : PlvSlot → PlvSlot) : (s.modSlot k f).dict = s.dict := rfl
@[simp] theorem State.modSlot_tv (k : Fin 4) (f : PlvSlot → PlvSlot) : (s.modSlot k f).tv = s.tv := rfl
@[simp] theorem State.modSlot_sideTx (k : Fin 4) (f : PlvSlot → PlvSlot) : (s.modSlot k f).sideTx = s.sideTx := rfl
@[simp] theorem State.modSlot_restarting (k : Fin 4) (f : PlvSlot → PlvSlot) : (s.modSlot k f).restarting = s.restarting := rfl
@[simp] theorem State.modSlot_ev (k : Fin 4) (f : PlvSlot → PlvSlot) : (s.modSlot k f).ev = s.ev := rfl
@[simp] theorem State.modSlot_life (k : Fin 4) (f : PlvSlot → PlvSlot) : (s.modSlot k f).life = s.life := rfl
@[simp] theorem State.modSlot_die (k : Fin 4) (f : PlvSlot → PlvSlot) : (s.modSlot k f).die = s.die := rfl
@[simp] theorem State.modSlot_frm (k : Fin 4) (f : PlvSlot → PlvSlot) : (s.modSlot k f).frm = s.frm := rfl
@[simp] theorem State.modSlot_quads (k : Fin 4) (f : PlvSlot → PlvSlot) : (s.modSlot k f).quads = s.quads := rfl
@[simp] theorem State.modSlot_em (k : Fin 4) (f : PlvSlot → PlvSlot) : (s.modSlot k f).em = s.em := rfl
@[simp] theorem State.modSlot_steer (k : Fin 4) (f : PlvSlot → PlvSlot) : (s.modSlot k f).steer = s.steer := rfl
@[simp] theorem State.modSlot_forge (k : Fin 4) (f : PlvSlot → PlvSlot) : (s.modSlot k f).forge = s.forge := rfl
@[simp] theorem State.modSlot_ana (k : Fin 4) (f : PlvSlot → PlvSlot) : (s.modSlot k f).ana = s.ana := rfl
@[simp] theorem State.modSlot_gov (k : Fin 4) (f : PlvSlot → PlvSlot) : (s.modSlot k f).gov = s.gov := rfl
@[simp] theorem State.modSlot_queues (k : Fin 4) (f : PlvSlot → PlvSlot) : (s.modSlot k f).queues = s.queues := rfl
@[simp] theorem State.modSlot_dma (k : Fin 4) (f : PlvSlot → PlvSlot) : (s.modSlot k f).dma = s.dma := rfl
@[simp] theorem State.modSlot_links (k : Fin 4) (f : PlvSlot → PlvSlot) : (s.modSlot k f).links = s.links := rfl
@[simp] theorem State.modSlot_recTok (k : Fin 4) (f : PlvSlot → PlvSlot) : (s.modSlot k f).recTok = s.recTok := rfl
@[simp] theorem State.modSlot_recAt (k : Fin 4) (f : PlvSlot → PlvSlot) : (s.modSlot k f).recAt = s.recAt := rfl
@[simp] theorem State.modSlot_tap (k : Fin 4) (f : PlvSlot → PlvSlot) : (s.modSlot k f).tap = s.tap := rfl
@[simp] theorem State.modSlot_isl (k : Fin 4) (f : PlvSlot → PlvSlot) : (s.modSlot k f).isl = s.isl := rfl
@[simp] theorem State.modSlot_cap (k : Fin 4) (f : PlvSlot → PlvSlot) : (s.modSlot k f).cap = s.cap := rfl
@[simp] theorem State.modSlot_time (k : Fin 4) (f : PlvSlot → PlvSlot) : (s.modSlot k f).time = s.time := rfl
@[simp] theorem State.modSlot_wof (k : Fin 4) (f : PlvSlot → PlvSlot) : (s.modSlot k f).wof = s.wof := rfl
@[simp] theorem State.modSlot_fleet (k : Fin 4) (f : PlvSlot → PlvSlot) : (s.modSlot k f).fleet = s.fleet := rfl
@[simp] theorem State.modSlot_sens (k : Fin 4) (f : PlvSlot → PlvSlot) : (s.modSlot k f).sens = s.sens := rfl
@[simp] theorem State.modSlot_pilot (k : Fin 4) (f : PlvSlot → PlvSlot) : (s.modSlot k f).pilot = s.pilot := rfl
@[simp] theorem State.modSlot_nv (k : Fin 4) (f : PlvSlot → PlvSlot) : (s.modSlot k f).nv = s.nv := rfl
@[simp] theorem State.modSlot_blobs (k : Fin 4) (f : PlvSlot → PlvSlot) : (s.modSlot k f).blobs = s.blobs := rfl
@[simp] theorem State.modSlot_jtag (k : Fin 4) (f : PlvSlot → PlvSlot) : (s.modSlot k f).jtag = s.jtag := rfl
@[simp] theorem State.modSlot_obj (k : Fin 4) (f : PlvSlot → PlvSlot) (a e : Nat) : (s.modSlot k f).obj a e = s.obj a e := rfl
@[simp] theorem State.modSlot_objN (k : Fin 4) (f : PlvSlot → PlvSlot) (a e : Nat) : (s.modSlot k f).objN a e = s.objN a e := rfl

/-! ### modTime -/

@[simp] theorem State.modTime_now (f : Time → Time) : (s.modTime f).now = s.now := rfl
@[simp] theorem State.modTime_scale (f : Time → Time) : (s.modTime f).scale = s.scale := rfl
@[simp] theorem State.modTime_free (f : Time → Time) : (s.modTime f).free = s.free := rfl
@[simp] theorem State.modTime_pending (f : Time → Time) : (s.modTime f).pending = s.pending := rfl
@[simp] theorem State.modTime_out (f : Time → Time) : (s.modTime f).out = s.out := rfl
@[simp] theorem State.modTime_dict (f : Time → Time) : (s.modTime f).dict = s.dict := rfl
@[simp] theorem State.modTime_tv (f : Time → Time) : (s.modTime f).tv = s.tv := rfl
@[simp] theorem State.modTime_sideTx (f : Time → Time) : (s.modTime f).sideTx = s.sideTx := rfl
@[simp] theorem State.modTime_restarting (f : Time → Time) : (s.modTime f).restarting = s.restarting := rfl
@[simp] theorem State.modTime_ev (f : Time → Time) : (s.modTime f).ev = s.ev := rfl
@[simp] theorem State.modTime_life (f : Time → Time) : (s.modTime f).life = s.life := rfl
@[simp] theorem State.modTime_die (f : Time → Time) : (s.modTime f).die = s.die := rfl
@[simp] theorem State.modTime_frm (f : Time → Time) : (s.modTime f).frm = s.frm := rfl
@[simp] theorem State.modTime_quads (f : Time → Time) : (s.modTime f).quads = s.quads := rfl
@[simp] theorem State.modTime_em (f : Time → Time) : (s.modTime f).em = s.em := rfl
@[simp] theorem State.modTime_steer (f : Time → Time) : (s.modTime f).steer = s.steer := rfl
@[simp] theorem State.modTime_forge (f : Time → Time) : (s.modTime f).forge = s.forge := rfl
@[simp] theorem State.modTime_ana (f : Time → Time) : (s.modTime f).ana = s.ana := rfl
@[simp] theorem State.modTime_gov (f : Time → Time) : (s.modTime f).gov = s.gov := rfl
@[simp] theorem State.modTime_queues (f : Time → Time) : (s.modTime f).queues = s.queues := rfl
@[simp] theorem State.modTime_dma (f : Time → Time) : (s.modTime f).dma = s.dma := rfl
@[simp] theorem State.modTime_links (f : Time → Time) : (s.modTime f).links = s.links := rfl
@[simp] theorem State.modTime_recTok (f : Time → Time) : (s.modTime f).recTok = s.recTok := rfl
@[simp] theorem State.modTime_recAt (f : Time → Time) : (s.modTime f).recAt = s.recAt := rfl
@[simp] theorem State.modTime_tap (f : Time → Time) : (s.modTime f).tap = s.tap := rfl
@[simp] theorem State.modTime_isl (f : Time → Time) : (s.modTime f).isl = s.isl := rfl
@[simp] theorem State.modTime_cap (f : Time → Time) : (s.modTime f).cap = s.cap := rfl
@[simp] theorem State.modTime_time (f : Time → Time) : (s.modTime f).time = f s.time := rfl
@[simp] theorem State.modTime_wof (f : Time → Time) : (s.modTime f).wof = s.wof := rfl
@[simp] theorem State.modTime_fleet (f : Time → Time) : (s.modTime f).fleet = s.fleet := rfl
@[simp] theorem State.modTime_plv (f : Time → Time) : (s.modTime f).plv = s.plv := rfl
@[simp] theorem State.modTime_sens (f : Time → Time) : (s.modTime f).sens = s.sens := rfl
@[simp] theorem State.modTime_pilot (f : Time → Time) : (s.modTime f).pilot = s.pilot := rfl
@[simp] theorem State.modTime_nv (f : Time → Time) : (s.modTime f).nv = s.nv := rfl
@[simp] theorem State.modTime_blobs (f : Time → Time) : (s.modTime f).blobs = s.blobs := rfl
@[simp] theorem State.modTime_jtag (f : Time → Time) : (s.modTime f).jtag = s.jtag := rfl
@[simp] theorem State.modTime_obj (f : Time → Time) (a e : Nat) : (s.modTime f).obj a e = s.obj a e := rfl
@[simp] theorem State.modTime_objN (f : Time → Time) (a e : Nat) : (s.modTime f).objN a e = s.objN a e := rfl

/-! ### modPort -/

@[simp] theorem State.modPort_now (p : Fin 2) (f : PtpPort → PtpPort) : (s.modPort p f).now = s.now := rfl
@[simp] theorem State.modPort_scale (p : Fin 2) (f : PtpPort → PtpPort) : (s.modPort p f).scale = s.scale := rfl
@[simp] theorem State.modPort_free (p : Fin 2) (f : PtpPort → PtpPort) : (s.modPort p f).free = s.free := rfl
@[simp] theorem State.modPort_pending (p : Fin 2) (f : PtpPort → PtpPort) : (s.modPort p f).pending = s.pending := rfl
@[simp] theorem State.modPort_out (p : Fin 2) (f : PtpPort → PtpPort) : (s.modPort p f).out = s.out := rfl
@[simp] theorem State.modPort_dict (p : Fin 2) (f : PtpPort → PtpPort) : (s.modPort p f).dict = s.dict := rfl
@[simp] theorem State.modPort_tv (p : Fin 2) (f : PtpPort → PtpPort) : (s.modPort p f).tv = s.tv := rfl
@[simp] theorem State.modPort_sideTx (p : Fin 2) (f : PtpPort → PtpPort) : (s.modPort p f).sideTx = s.sideTx := rfl
@[simp] theorem State.modPort_restarting (p : Fin 2) (f : PtpPort → PtpPort) : (s.modPort p f).restarting = s.restarting := rfl
@[simp] theorem State.modPort_ev (p : Fin 2) (f : PtpPort → PtpPort) : (s.modPort p f).ev = s.ev := rfl
@[simp] theorem State.modPort_life (p : Fin 2) (f : PtpPort → PtpPort) : (s.modPort p f).life = s.life := rfl
@[simp] theorem State.modPort_die (p : Fin 2) (f : PtpPort → PtpPort) : (s.modPort p f).die = s.die := rfl
@[simp] theorem State.modPort_frm (p : Fin 2) (f : PtpPort → PtpPort) : (s.modPort p f).frm = s.frm := rfl
@[simp] theorem State.modPort_quads (p : Fin 2) (f : PtpPort → PtpPort) : (s.modPort p f).quads = s.quads := rfl
@[simp] theorem State.modPort_em (p : Fin 2) (f : PtpPort → PtpPort) : (s.modPort p f).em = s.em := rfl
@[simp] theorem State.modPort_steer (p : Fin 2) (f : PtpPort → PtpPort) : (s.modPort p f).steer = s.steer := rfl
@[simp] theorem State.modPort_forge (p : Fin 2) (f : PtpPort → PtpPort) : (s.modPort p f).forge = s.forge := rfl
@[simp] theorem State.modPort_ana (p : Fin 2) (f : PtpPort → PtpPort) : (s.modPort p f).ana = s.ana := rfl
@[simp] theorem State.modPort_gov (p : Fin 2) (f : PtpPort → PtpPort) : (s.modPort p f).gov = s.gov := rfl
@[simp] theorem State.modPort_queues (p : Fin 2) (f : PtpPort → PtpPort) : (s.modPort p f).queues = s.queues := rfl
@[simp] theorem State.modPort_dma (p : Fin 2) (f : PtpPort → PtpPort) : (s.modPort p f).dma = s.dma := rfl
@[simp] theorem State.modPort_links (p : Fin 2) (f : PtpPort → PtpPort) : (s.modPort p f).links = s.links := rfl
@[simp] theorem State.modPort_recTok (p : Fin 2) (f : PtpPort → PtpPort) : (s.modPort p f).recTok = s.recTok := rfl
@[simp] theorem State.modPort_recAt (p : Fin 2) (f : PtpPort → PtpPort) : (s.modPort p f).recAt = s.recAt := rfl
@[simp] theorem State.modPort_tap (p : Fin 2) (f : PtpPort → PtpPort) : (s.modPort p f).tap = s.tap := rfl
@[simp] theorem State.modPort_isl (p : Fin 2) (f : PtpPort → PtpPort) : (s.modPort p f).isl = s.isl := rfl
@[simp] theorem State.modPort_cap (p : Fin 2) (f : PtpPort → PtpPort) : (s.modPort p f).cap = s.cap := rfl
@[simp] theorem State.modPort_wof (p : Fin 2) (f : PtpPort → PtpPort) : (s.modPort p f).wof = s.wof := rfl
@[simp] theorem State.modPort_fleet (p : Fin 2) (f : PtpPort → PtpPort) : (s.modPort p f).fleet = s.fleet := rfl
@[simp] theorem State.modPort_plv (p : Fin 2) (f : PtpPort → PtpPort) : (s.modPort p f).plv = s.plv := rfl
@[simp] theorem State.modPort_sens (p : Fin 2) (f : PtpPort → PtpPort) : (s.modPort p f).sens = s.sens := rfl
@[simp] theorem State.modPort_pilot (p : Fin 2) (f : PtpPort → PtpPort) : (s.modPort p f).pilot = s.pilot := rfl
@[simp] theorem State.modPort_nv (p : Fin 2) (f : PtpPort → PtpPort) : (s.modPort p f).nv = s.nv := rfl
@[simp] theorem State.modPort_blobs (p : Fin 2) (f : PtpPort → PtpPort) : (s.modPort p f).blobs = s.blobs := rfl
@[simp] theorem State.modPort_jtag (p : Fin 2) (f : PtpPort → PtpPort) : (s.modPort p f).jtag = s.jtag := rfl
@[simp] theorem State.modPort_obj (p : Fin 2) (f : PtpPort → PtpPort) (a e : Nat) : (s.modPort p f).obj a e = s.obj a e := rfl
@[simp] theorem State.modPort_objN (p : Fin 2) (f : PtpPort → PtpPort) (a e : Nat) : (s.modPort p f).objN a e = s.objN a e := rfl

/-! ### modPilot -/

@[simp] theorem State.modPilot_now (f : Pilot → Pilot) : (s.modPilot f).now = s.now := rfl
@[simp] theorem State.modPilot_scale (f : Pilot → Pilot) : (s.modPilot f).scale = s.scale := rfl
@[simp] theorem State.modPilot_free (f : Pilot → Pilot) : (s.modPilot f).free = s.free := rfl
@[simp] theorem State.modPilot_pending (f : Pilot → Pilot) : (s.modPilot f).pending = s.pending := rfl
@[simp] theorem State.modPilot_out (f : Pilot → Pilot) : (s.modPilot f).out = s.out := rfl
@[simp] theorem State.modPilot_dict (f : Pilot → Pilot) : (s.modPilot f).dict = s.dict := rfl
@[simp] theorem State.modPilot_tv (f : Pilot → Pilot) : (s.modPilot f).tv = s.tv := rfl
@[simp] theorem State.modPilot_sideTx (f : Pilot → Pilot) : (s.modPilot f).sideTx = s.sideTx := rfl
@[simp] theorem State.modPilot_restarting (f : Pilot → Pilot) : (s.modPilot f).restarting = s.restarting := rfl
@[simp] theorem State.modPilot_ev (f : Pilot → Pilot) : (s.modPilot f).ev = s.ev := rfl
@[simp] theorem State.modPilot_life (f : Pilot → Pilot) : (s.modPilot f).life = s.life := rfl
@[simp] theorem State.modPilot_die (f : Pilot → Pilot) : (s.modPilot f).die = s.die := rfl
@[simp] theorem State.modPilot_frm (f : Pilot → Pilot) : (s.modPilot f).frm = s.frm := rfl
@[simp] theorem State.modPilot_quads (f : Pilot → Pilot) : (s.modPilot f).quads = s.quads := rfl
@[simp] theorem State.modPilot_em (f : Pilot → Pilot) : (s.modPilot f).em = s.em := rfl
@[simp] theorem State.modPilot_steer (f : Pilot → Pilot) : (s.modPilot f).steer = s.steer := rfl
@[simp] theorem State.modPilot_forge (f : Pilot → Pilot) : (s.modPilot f).forge = s.forge := rfl
@[simp] theorem State.modPilot_ana (f : Pilot → Pilot) : (s.modPilot f).ana = s.ana := rfl
@[simp] theorem State.modPilot_gov (f : Pilot → Pilot) : (s.modPilot f).gov = s.gov := rfl
@[simp] theorem State.modPilot_queues (f : Pilot → Pilot) : (s.modPilot f).queues = s.queues := rfl
@[simp] theorem State.modPilot_dma (f : Pilot → Pilot) : (s.modPilot f).dma = s.dma := rfl
@[simp] theorem State.modPilot_links (f : Pilot → Pilot) : (s.modPilot f).links = s.links := rfl
@[simp] theorem State.modPilot_recTok (f : Pilot → Pilot) : (s.modPilot f).recTok = s.recTok := rfl
@[simp] theorem State.modPilot_recAt (f : Pilot → Pilot) : (s.modPilot f).recAt = s.recAt := rfl
@[simp] theorem State.modPilot_tap (f : Pilot → Pilot) : (s.modPilot f).tap = s.tap := rfl
@[simp] theorem State.modPilot_isl (f : Pilot → Pilot) : (s.modPilot f).isl = s.isl := rfl
@[simp] theorem State.modPilot_cap (f : Pilot → Pilot) : (s.modPilot f).cap = s.cap := rfl
@[simp] theorem State.modPilot_time (f : Pilot → Pilot) : (s.modPilot f).time = s.time := rfl
@[simp] theorem State.modPilot_wof (f : Pilot → Pilot) : (s.modPilot f).wof = s.wof := rfl
@[simp] theorem State.modPilot_fleet (f : Pilot → Pilot) : (s.modPilot f).fleet = s.fleet := rfl
@[simp] theorem State.modPilot_plv (f : Pilot → Pilot) : (s.modPilot f).plv = s.plv := rfl
@[simp] theorem State.modPilot_sens (f : Pilot → Pilot) : (s.modPilot f).sens = s.sens := rfl
@[simp] theorem State.modPilot_pilot (f : Pilot → Pilot) : (s.modPilot f).pilot = f s.pilot := rfl
@[simp] theorem State.modPilot_nv (f : Pilot → Pilot) : (s.modPilot f).nv = s.nv := rfl
@[simp] theorem State.modPilot_blobs (f : Pilot → Pilot) : (s.modPilot f).blobs = s.blobs := rfl
@[simp] theorem State.modPilot_jtag (f : Pilot → Pilot) : (s.modPilot f).jtag = s.jtag := rfl
@[simp] theorem State.modPilot_obj (f : Pilot → Pilot) (a e : Nat) : (s.modPilot f).obj a e = s.obj a e := rfl
@[simp] theorem State.modPilot_objN (f : Pilot → Pilot) (a e : Nat) : (s.modPilot f).objN a e = s.objN a e := rfl

/-! ### modNv -/

@[simp] theorem State.modNv_now (f : Nv → Nv) : (s.modNv f).now = s.now := rfl
@[simp] theorem State.modNv_scale (f : Nv → Nv) : (s.modNv f).scale = s.scale := rfl
@[simp] theorem State.modNv_free (f : Nv → Nv) : (s.modNv f).free = s.free := rfl
@[simp] theorem State.modNv_pending (f : Nv → Nv) : (s.modNv f).pending = s.pending := rfl
@[simp] theorem State.modNv_out (f : Nv → Nv) : (s.modNv f).out = s.out := rfl
@[simp] theorem State.modNv_dict (f : Nv → Nv) : (s.modNv f).dict = s.dict := rfl
@[simp] theorem State.modNv_tv (f : Nv → Nv) : (s.modNv f).tv = s.tv := rfl
@[simp] theorem State.modNv_sideTx (f : Nv → Nv) : (s.modNv f).sideTx = s.sideTx := rfl
@[simp] theorem State.modNv_restarting (f : Nv → Nv) : (s.modNv f).restarting = s.restarting := rfl
@[simp] theorem State.modNv_ev (f : Nv → Nv) : (s.modNv f).ev = s.ev := rfl
@[simp] theorem State.modNv_life (f : Nv → Nv) : (s.modNv f).life = s.life := rfl
@[simp] theorem State.modNv_die (f : Nv → Nv) : (s.modNv f).die = s.die := rfl
@[simp] theorem State.modNv_frm (f : Nv → Nv) : (s.modNv f).frm = s.frm := rfl
@[simp] theorem State.modNv_quads (f : Nv → Nv) : (s.modNv f).quads = s.quads := rfl
@[simp] theorem State.modNv_em (f : Nv → Nv) : (s.modNv f).em = s.em := rfl
@[simp] theorem State.modNv_steer (f : Nv → Nv) : (s.modNv f).steer = s.steer := rfl
@[simp] theorem State.modNv_forge (f : Nv → Nv) : (s.modNv f).forge = s.forge := rfl
@[simp] theorem State.modNv_ana (f : Nv → Nv) : (s.modNv f).ana = s.ana := rfl
@[simp] theorem State.modNv_gov (f : Nv → Nv) : (s.modNv f).gov = s.gov := rfl
@[simp] theorem State.modNv_queues (f : Nv → Nv) : (s.modNv f).queues = s.queues := rfl
@[simp] theorem State.modNv_dma (f : Nv → Nv) : (s.modNv f).dma = s.dma := rfl
@[simp] theorem State.modNv_links (f : Nv → Nv) : (s.modNv f).links = s.links := rfl
@[simp] theorem State.modNv_recTok (f : Nv → Nv) : (s.modNv f).recTok = s.recTok := rfl
@[simp] theorem State.modNv_recAt (f : Nv → Nv) : (s.modNv f).recAt = s.recAt := rfl
@[simp] theorem State.modNv_tap (f : Nv → Nv) : (s.modNv f).tap = s.tap := rfl
@[simp] theorem State.modNv_isl (f : Nv → Nv) : (s.modNv f).isl = s.isl := rfl
@[simp] theorem State.modNv_cap (f : Nv → Nv) : (s.modNv f).cap = s.cap := rfl
@[simp] theorem State.modNv_time (f : Nv → Nv) : (s.modNv f).time = s.time := rfl
@[simp] theorem State.modNv_wof (f : Nv → Nv) : (s.modNv f).wof = s.wof := rfl
@[simp] theorem State.modNv_fleet (f : Nv → Nv) : (s.modNv f).fleet = s.fleet := rfl
@[simp] theorem State.modNv_plv (f : Nv → Nv) : (s.modNv f).plv = s.plv := rfl
@[simp] theorem State.modNv_sens (f : Nv → Nv) : (s.modNv f).sens = s.sens := rfl
@[simp] theorem State.modNv_pilot (f : Nv → Nv) : (s.modNv f).pilot = s.pilot := rfl
@[simp] theorem State.modNv_nv (f : Nv → Nv) : (s.modNv f).nv = f s.nv := rfl
@[simp] theorem State.modNv_blobs (f : Nv → Nv) : (s.modNv f).blobs = s.blobs := rfl
@[simp] theorem State.modNv_jtag (f : Nv → Nv) : (s.modNv f).jtag = s.jtag := rfl
@[simp] theorem State.modNv_obj (f : Nv → Nv) (a e : Nat) : (s.modNv f).obj a e = s.obj a e := rfl
@[simp] theorem State.modNv_objN (f : Nv → Nv) (a e : Nat) : (s.modNv f).objN a e = s.objN a e := rfl

/-! ### modWof -/

@[simp] theorem State.modWof_now (f : Wofen → Wofen) : (s.modWof f).now = s.now := rfl
@[simp] theorem State.modWof_scale (f : Wofen → Wofen) : (s.modWof f).scale = s.scale := rfl
@[simp] theorem State.modWof_free (f : Wofen → Wofen) : (s.modWof f).free = s.free := rfl
@[simp] theorem State.modWof_pending (f : Wofen → Wofen) : (s.modWof f).pending = s.pending := rfl
@[simp] theorem State.modWof_out (f : Wofen → Wofen) : (s.modWof f).out = s.out := rfl
@[simp] theorem State.modWof_dict (f : Wofen → Wofen) : (s.modWof f).dict = s.dict := rfl
@[simp] theorem State.modWof_tv (f : Wofen → Wofen) : (s.modWof f).tv = s.tv := rfl
@[simp] theorem State.modWof_sideTx (f : Wofen → Wofen) : (s.modWof f).sideTx = s.sideTx := rfl
@[simp] theorem State.modWof_restarting (f : Wofen → Wofen) : (s.modWof f).restarting = s.restarting := rfl
@[simp] theorem State.modWof_ev (f : Wofen → Wofen) : (s.modWof f).ev = s.ev := rfl
@[simp] theorem State.modWof_life (f : Wofen → Wofen) : (s.modWof f).life = s.life := rfl
@[simp] theorem State.modWof_die (f : Wofen → Wofen) : (s.modWof f).die = s.die := rfl
@[simp] theorem State.modWof_frm (f : Wofen → Wofen) : (s.modWof f).frm = s.frm := rfl
@[simp] theorem State.modWof_quads (f : Wofen → Wofen) : (s.modWof f).quads = s.quads := rfl
@[simp] theorem State.modWof_em (f : Wofen → Wofen) : (s.modWof f).em = s.em := rfl
@[simp] theorem State.modWof_steer (f : Wofen → Wofen) : (s.modWof f).steer = s.steer := rfl
@[simp] theorem State.modWof_forge (f : Wofen → Wofen) : (s.modWof f).forge = s.forge := rfl
@[simp] theorem State.modWof_ana (f : Wofen → Wofen) : (s.modWof f).ana = s.ana := rfl
@[simp] theorem State.modWof_gov (f : Wofen → Wofen) : (s.modWof f).gov = s.gov := rfl
@[simp] theorem State.modWof_queues (f : Wofen → Wofen) : (s.modWof f).queues = s.queues := rfl
@[simp] theorem State.modWof_dma (f : Wofen → Wofen) : (s.modWof f).dma = s.dma := rfl
@[simp] theorem State.modWof_links (f : Wofen → Wofen) : (s.modWof f).links = s.links := rfl
@[simp] theorem State.modWof_recTok (f : Wofen → Wofen) : (s.modWof f).recTok = s.recTok := rfl
@[simp] theorem State.modWof_recAt (f : Wofen → Wofen) : (s.modWof f).recAt = s.recAt := rfl
@[simp] theorem State.modWof_tap (f : Wofen → Wofen) : (s.modWof f).tap = s.tap := rfl
@[simp] theorem State.modWof_isl (f : Wofen → Wofen) : (s.modWof f).isl = s.isl := rfl
@[simp] theorem State.modWof_cap (f : Wofen → Wofen) : (s.modWof f).cap = s.cap := rfl
@[simp] theorem State.modWof_time (f : Wofen → Wofen) : (s.modWof f).time = s.time := rfl
@[simp] theorem State.modWof_wof (f : Wofen → Wofen) : (s.modWof f).wof = f s.wof := rfl
@[simp] theorem State.modWof_fleet (f : Wofen → Wofen) : (s.modWof f).fleet = s.fleet := rfl
@[simp] theorem State.modWof_plv (f : Wofen → Wofen) : (s.modWof f).plv = s.plv := rfl
@[simp] theorem State.modWof_sens (f : Wofen → Wofen) : (s.modWof f).sens = s.sens := rfl
@[simp] theorem State.modWof_pilot (f : Wofen → Wofen) : (s.modWof f).pilot = s.pilot := rfl
@[simp] theorem State.modWof_nv (f : Wofen → Wofen) : (s.modWof f).nv = s.nv := rfl
@[simp] theorem State.modWof_blobs (f : Wofen → Wofen) : (s.modWof f).blobs = s.blobs := rfl
@[simp] theorem State.modWof_jtag (f : Wofen → Wofen) : (s.modWof f).jtag = s.jtag := rfl
@[simp] theorem State.modWof_obj (f : Wofen → Wofen) (a e : Nat) : (s.modWof f).obj a e = s.obj a e := rfl
@[simp] theorem State.modWof_objN (f : Wofen → Wofen) (a e : Nat) : (s.modWof f).objN a e = s.objN a e := rfl

/-! ### jtagSelect -/

@[simp] theorem State.jtagSelect_now (i : JtagInstr) : (s.jtagSelect i).now = s.now := rfl
@[simp] theorem State.jtagSelect_scale (i : JtagInstr) : (s.jtagSelect i).scale = s.scale := rfl
@[simp] theorem State.jtagSelect_free (i : JtagInstr) : (s.jtagSelect i).free = s.free := rfl
@[simp] theorem State.jtagSelect_pending (i : JtagInstr) : (s.jtagSelect i).pending = s.pending := rfl
@[simp] theorem State.jtagSelect_out (i : JtagInstr) : (s.jtagSelect i).out = s.out := rfl
@[simp] theorem State.jtagSelect_dict (i : JtagInstr) : (s.jtagSelect i).dict = s.dict := rfl
@[simp] theorem State.jtagSelect_tv (i : JtagInstr) : (s.jtagSelect i).tv = s.tv := rfl
@[simp] theorem State.jtagSelect_sideTx (i : JtagInstr) : (s.jtagSelect i).sideTx = s.sideTx := rfl
@[simp] theorem State.jtagSelect_restarting (i : JtagInstr) : (s.jtagSelect i).restarting = s.restarting := rfl
@[simp] theorem State.jtagSelect_ev (i : JtagInstr) : (s.jtagSelect i).ev = s.ev := rfl
@[simp] theorem State.jtagSelect_life (i : JtagInstr) : (s.jtagSelect i).life = s.life := rfl
@[simp] theorem State.jtagSelect_die (i : JtagInstr) : (s.jtagSelect i).die = s.die := rfl
@[simp] theorem State.jtagSelect_frm (i : JtagInstr) : (s.jtagSelect i).frm = s.frm := rfl
@[simp] theorem State.jtagSelect_quads (i : JtagInstr) : (s.jtagSelect i).quads = s.quads := rfl
@[simp] theorem State.jtagSelect_em (i : JtagInstr) : (s.jtagSelect i).em = s.em := rfl
@[simp] theorem State.jtagSelect_steer (i : JtagInstr) : (s.jtagSelect i).steer = s.steer := rfl
@[simp] theorem State.jtagSelect_forge (i : JtagInstr) : (s.jtagSelect i).forge = s.forge := rfl
@[simp] theorem State.jtagSelect_ana (i : JtagInstr) : (s.jtagSelect i).ana = s.ana := rfl
@[simp] theorem State.jtagSelect_gov (i : JtagInstr) : (s.jtagSelect i).gov = s.gov := rfl
@[simp] theorem State.jtagSelect_queues (i : JtagInstr) : (s.jtagSelect i).queues = s.queues := rfl
@[simp] theorem State.jtagSelect_dma (i : JtagInstr) : (s.jtagSelect i).dma = s.dma := rfl
@[simp] theorem State.jtagSelect_links (i : JtagInstr) : (s.jtagSelect i).links = s.links := rfl
@[simp] theorem State.jtagSelect_recTok (i : JtagInstr) : (s.jtagSelect i).recTok = s.recTok := rfl
@[simp] theorem State.jtagSelect_recAt (i : JtagInstr) : (s.jtagSelect i).recAt = s.recAt := rfl
@[simp] theorem State.jtagSelect_tap (i : JtagInstr) : (s.jtagSelect i).tap = s.tap := rfl
@[simp] theorem State.jtagSelect_isl (i : JtagInstr) : (s.jtagSelect i).isl = s.isl := rfl
@[simp] theorem State.jtagSelect_cap (i : JtagInstr) : (s.jtagSelect i).cap = s.cap := rfl
@[simp] theorem State.jtagSelect_time (i : JtagInstr) : (s.jtagSelect i).time = s.time := rfl
@[simp] theorem State.jtagSelect_wof (i : JtagInstr) : (s.jtagSelect i).wof = s.wof := rfl
@[simp] theorem State.jtagSelect_fleet (i : JtagInstr) : (s.jtagSelect i).fleet = s.fleet := rfl
@[simp] theorem State.jtagSelect_plv (i : JtagInstr) : (s.jtagSelect i).plv = s.plv := rfl
@[simp] theorem State.jtagSelect_sens (i : JtagInstr) : (s.jtagSelect i).sens = s.sens := rfl
@[simp] theorem State.jtagSelect_pilot (i : JtagInstr) : (s.jtagSelect i).pilot = s.pilot := rfl
@[simp] theorem State.jtagSelect_nv (i : JtagInstr) : (s.jtagSelect i).nv = s.nv := rfl
@[simp] theorem State.jtagSelect_blobs (i : JtagInstr) : (s.jtagSelect i).blobs = s.blobs := rfl
@[simp] theorem State.jtagSelect_jtag (i : JtagInstr) : (s.jtagSelect i).jtag = { s.jtag with instr := i, shift := [] } := rfl
@[simp] theorem State.jtagSelect_obj (i : JtagInstr) (a e : Nat) : (s.jtagSelect i).obj a e = s.obj a e := rfl
@[simp] theorem State.jtagSelect_objN (i : JtagInstr) (a e : Nat) : (s.jtagSelect i).objN a e = s.objN a e := rfl

/-! ### jtagCapture -/

@[simp] theorem State.jtagCapture_now : (s.jtagCapture).now = s.now := rfl
@[simp] theorem State.jtagCapture_scale : (s.jtagCapture).scale = s.scale := rfl
@[simp] theorem State.jtagCapture_free : (s.jtagCapture).free = s.free := rfl
@[simp] theorem State.jtagCapture_pending : (s.jtagCapture).pending = s.pending := rfl
@[simp] theorem State.jtagCapture_out : (s.jtagCapture).out = s.out := rfl
@[simp] theorem State.jtagCapture_dict : (s.jtagCapture).dict = s.dict := rfl
@[simp] theorem State.jtagCapture_tv : (s.jtagCapture).tv = s.tv := rfl
@[simp] theorem State.jtagCapture_sideTx : (s.jtagCapture).sideTx = s.sideTx := rfl
@[simp] theorem State.jtagCapture_restarting : (s.jtagCapture).restarting = s.restarting := rfl
@[simp] theorem State.jtagCapture_ev : (s.jtagCapture).ev = s.ev := rfl
@[simp] theorem State.jtagCapture_life : (s.jtagCapture).life = s.life := rfl
@[simp] theorem State.jtagCapture_die : (s.jtagCapture).die = s.die := rfl
@[simp] theorem State.jtagCapture_frm : (s.jtagCapture).frm = s.frm := rfl
@[simp] theorem State.jtagCapture_quads : (s.jtagCapture).quads = s.quads := rfl
@[simp] theorem State.jtagCapture_em : (s.jtagCapture).em = s.em := rfl
@[simp] theorem State.jtagCapture_steer : (s.jtagCapture).steer = s.steer := rfl
@[simp] theorem State.jtagCapture_forge : (s.jtagCapture).forge = s.forge := rfl
@[simp] theorem State.jtagCapture_ana : (s.jtagCapture).ana = s.ana := rfl
@[simp] theorem State.jtagCapture_gov : (s.jtagCapture).gov = s.gov := rfl
@[simp] theorem State.jtagCapture_queues : (s.jtagCapture).queues = s.queues := rfl
@[simp] theorem State.jtagCapture_dma : (s.jtagCapture).dma = s.dma := rfl
@[simp] theorem State.jtagCapture_links : (s.jtagCapture).links = s.links := rfl
@[simp] theorem State.jtagCapture_recTok : (s.jtagCapture).recTok = s.recTok := rfl
@[simp] theorem State.jtagCapture_recAt : (s.jtagCapture).recAt = s.recAt := rfl
@[simp] theorem State.jtagCapture_tap : (s.jtagCapture).tap = s.tap := rfl
@[simp] theorem State.jtagCapture_isl : (s.jtagCapture).isl = s.isl := rfl
@[simp] theorem State.jtagCapture_cap : (s.jtagCapture).cap = s.cap := rfl
@[simp] theorem State.jtagCapture_time : (s.jtagCapture).time = s.time := rfl
@[simp] theorem State.jtagCapture_wof : (s.jtagCapture).wof = s.wof := rfl
@[simp] theorem State.jtagCapture_fleet : (s.jtagCapture).fleet = s.fleet := rfl
@[simp] theorem State.jtagCapture_plv : (s.jtagCapture).plv = s.plv := rfl
@[simp] theorem State.jtagCapture_sens : (s.jtagCapture).sens = s.sens := rfl
@[simp] theorem State.jtagCapture_pilot : (s.jtagCapture).pilot = s.pilot := rfl
@[simp] theorem State.jtagCapture_nv : (s.jtagCapture).nv = s.nv := rfl
@[simp] theorem State.jtagCapture_blobs : (s.jtagCapture).blobs = s.blobs := rfl
@[simp] theorem State.jtagCapture_jtag : (s.jtagCapture).jtag = { s.jtag with shift := s.jtagLoads } := rfl
@[simp] theorem State.jtagCapture_obj (a e : Nat) : (s.jtagCapture).obj a e = s.obj a e := rfl
@[simp] theorem State.jtagCapture_objN (a e : Nat) : (s.jtagCapture).objN a e = s.objN a e := rfl

/-! ### jtagShift -/

@[simp] theorem State.jtagShift_now (tdi : Bool) : (s.jtagShift tdi).now = s.now := rfl
@[simp] theorem State.jtagShift_scale (tdi : Bool) : (s.jtagShift tdi).scale = s.scale := rfl
@[simp] theorem State.jtagShift_free (tdi : Bool) : (s.jtagShift tdi).free = s.free := rfl
@[simp] theorem State.jtagShift_pending (tdi : Bool) : (s.jtagShift tdi).pending = s.pending := rfl
@[simp] theorem State.jtagShift_out (tdi : Bool) : (s.jtagShift tdi).out = s.out := rfl
@[simp] theorem State.jtagShift_dict (tdi : Bool) : (s.jtagShift tdi).dict = s.dict := rfl
@[simp] theorem State.jtagShift_tv (tdi : Bool) : (s.jtagShift tdi).tv = s.tv := rfl
@[simp] theorem State.jtagShift_sideTx (tdi : Bool) : (s.jtagShift tdi).sideTx = s.sideTx := rfl
@[simp] theorem State.jtagShift_restarting (tdi : Bool) : (s.jtagShift tdi).restarting = s.restarting := rfl
@[simp] theorem State.jtagShift_ev (tdi : Bool) : (s.jtagShift tdi).ev = s.ev := rfl
@[simp] theorem State.jtagShift_life (tdi : Bool) : (s.jtagShift tdi).life = s.life := rfl
@[simp] theorem State.jtagShift_die (tdi : Bool) : (s.jtagShift tdi).die = s.die := rfl
@[simp] theorem State.jtagShift_frm (tdi : Bool) : (s.jtagShift tdi).frm = s.frm := rfl
@[simp] theorem State.jtagShift_quads (tdi : Bool) : (s.jtagShift tdi).quads = s.quads := rfl
@[simp] theorem State.jtagShift_em (tdi : Bool) : (s.jtagShift tdi).em = s.em := rfl
@[simp] theorem State.jtagShift_steer (tdi : Bool) : (s.jtagShift tdi).steer = s.steer := rfl
@[simp] theorem State.jtagShift_forge (tdi : Bool) : (s.jtagShift tdi).forge = s.forge := rfl
@[simp] theorem State.jtagShift_ana (tdi : Bool) : (s.jtagShift tdi).ana = s.ana := rfl
@[simp] theorem State.jtagShift_gov (tdi : Bool) : (s.jtagShift tdi).gov = s.gov := rfl
@[simp] theorem State.jtagShift_queues (tdi : Bool) : (s.jtagShift tdi).queues = s.queues := rfl
@[simp] theorem State.jtagShift_dma (tdi : Bool) : (s.jtagShift tdi).dma = s.dma := rfl
@[simp] theorem State.jtagShift_links (tdi : Bool) : (s.jtagShift tdi).links = s.links := rfl
@[simp] theorem State.jtagShift_recTok (tdi : Bool) : (s.jtagShift tdi).recTok = s.recTok := rfl
@[simp] theorem State.jtagShift_recAt (tdi : Bool) : (s.jtagShift tdi).recAt = s.recAt := rfl
@[simp] theorem State.jtagShift_tap (tdi : Bool) : (s.jtagShift tdi).tap = s.tap := rfl
@[simp] theorem State.jtagShift_isl (tdi : Bool) : (s.jtagShift tdi).isl = s.isl := rfl
@[simp] theorem State.jtagShift_cap (tdi : Bool) : (s.jtagShift tdi).cap = s.cap := rfl
@[simp] theorem State.jtagShift_time (tdi : Bool) : (s.jtagShift tdi).time = s.time := rfl
@[simp] theorem State.jtagShift_wof (tdi : Bool) : (s.jtagShift tdi).wof = s.wof := rfl
@[simp] theorem State.jtagShift_fleet (tdi : Bool) : (s.jtagShift tdi).fleet = s.fleet := rfl
@[simp] theorem State.jtagShift_plv (tdi : Bool) : (s.jtagShift tdi).plv = s.plv := rfl
@[simp] theorem State.jtagShift_sens (tdi : Bool) : (s.jtagShift tdi).sens = s.sens := rfl
@[simp] theorem State.jtagShift_pilot (tdi : Bool) : (s.jtagShift tdi).pilot = s.pilot := rfl
@[simp] theorem State.jtagShift_nv (tdi : Bool) : (s.jtagShift tdi).nv = s.nv := rfl
@[simp] theorem State.jtagShift_blobs (tdi : Bool) : (s.jtagShift tdi).blobs = s.blobs := rfl
@[simp] theorem State.jtagShift_jtag (tdi : Bool) : (s.jtagShift tdi).jtag = { s.jtag with shift := s.jtag.shift.drop 1 ++ [tdi] } := rfl
@[simp] theorem State.jtagShift_obj (tdi : Bool) (a e : Nat) : (s.jtagShift tdi).obj a e = s.obj a e := rfl
@[simp] theorem State.jtagShift_objN (tdi : Bool) (a e : Nat) : (s.jtagShift tdi).objN a e = s.objN a e := rfl

/-! ### jtagReset -/

@[simp] theorem State.jtagReset_now : (s.jtagReset).now = s.now := rfl
@[simp] theorem State.jtagReset_scale : (s.jtagReset).scale = s.scale := rfl
@[simp] theorem State.jtagReset_free : (s.jtagReset).free = s.free := rfl
@[simp] theorem State.jtagReset_pending : (s.jtagReset).pending = s.pending := rfl
@[simp] theorem State.jtagReset_out : (s.jtagReset).out = s.out := rfl
@[simp] theorem State.jtagReset_dict : (s.jtagReset).dict = s.dict := rfl
@[simp] theorem State.jtagReset_tv : (s.jtagReset).tv = s.tv := rfl
@[simp] theorem State.jtagReset_sideTx : (s.jtagReset).sideTx = s.sideTx := rfl
@[simp] theorem State.jtagReset_restarting : (s.jtagReset).restarting = s.restarting := rfl
@[simp] theorem State.jtagReset_ev : (s.jtagReset).ev = s.ev := rfl
@[simp] theorem State.jtagReset_life : (s.jtagReset).life = s.life := rfl
@[simp] theorem State.jtagReset_die : (s.jtagReset).die = s.die := rfl
@[simp] theorem State.jtagReset_frm : (s.jtagReset).frm = s.frm := rfl
@[simp] theorem State.jtagReset_quads : (s.jtagReset).quads = s.quads := rfl
@[simp] theorem State.jtagReset_em : (s.jtagReset).em = s.em := rfl
@[simp] theorem State.jtagReset_steer : (s.jtagReset).steer = s.steer := rfl
@[simp] theorem State.jtagReset_forge : (s.jtagReset).forge = s.forge := rfl
@[simp] theorem State.jtagReset_ana : (s.jtagReset).ana = s.ana := rfl
@[simp] theorem State.jtagReset_gov : (s.jtagReset).gov = s.gov := rfl
@[simp] theorem State.jtagReset_queues : (s.jtagReset).queues = s.queues := rfl
@[simp] theorem State.jtagReset_dma : (s.jtagReset).dma = s.dma := rfl
@[simp] theorem State.jtagReset_links : (s.jtagReset).links = s.links := rfl
@[simp] theorem State.jtagReset_recTok : (s.jtagReset).recTok = s.recTok := rfl
@[simp] theorem State.jtagReset_recAt : (s.jtagReset).recAt = s.recAt := rfl
@[simp] theorem State.jtagReset_tap : (s.jtagReset).tap = s.tap := rfl
@[simp] theorem State.jtagReset_isl : (s.jtagReset).isl = s.isl := rfl
@[simp] theorem State.jtagReset_cap : (s.jtagReset).cap = s.cap := rfl
@[simp] theorem State.jtagReset_time : (s.jtagReset).time = s.time := rfl
@[simp] theorem State.jtagReset_wof : (s.jtagReset).wof = s.wof := rfl
@[simp] theorem State.jtagReset_fleet : (s.jtagReset).fleet = s.fleet := rfl
@[simp] theorem State.jtagReset_plv : (s.jtagReset).plv = s.plv := rfl
@[simp] theorem State.jtagReset_sens : (s.jtagReset).sens = s.sens := rfl
@[simp] theorem State.jtagReset_pilot : (s.jtagReset).pilot = s.pilot := rfl
@[simp] theorem State.jtagReset_nv : (s.jtagReset).nv = s.nv := rfl
@[simp] theorem State.jtagReset_blobs : (s.jtagReset).blobs = s.blobs := rfl
@[simp] theorem State.jtagReset_jtag : (s.jtagReset).jtag = Reset.jtag := rfl
@[simp] theorem State.jtagReset_obj (a e : Nat) : (s.jtagReset).obj a e = s.obj a e := rfl
@[simp] theorem State.jtagReset_objN (a e : Nat) : (s.jtagReset).objN a e = s.objN a e := rfl

end Sys2Proof.Machine
end

