-- ==== Sys2Proof/Laws/Ops.lean ====
section
/-! SUPPORT. What the shared operations do, once for each: `<operation>_keeps` says all that it can change, with one lemma for each field
it leaves alone, and the lemmas at the end say what it does to the rest. -/

namespace Sys2Proof.Machine

variable (s : State)

theorem State.emits_keeps (l : List Out) : l.foldl State.emit s = { s with out := (l.foldl State.emit s).out } := by
  induction l generalizing s with
  | nil => rfl
  | cons o l ih => rw [List.foldl_cons, ih]; rfl

theorem State.sendCan_keeps (prio kind resp master txn abort : Nat) (body : Octets) (p : Nat) :
    State.sendMsg.sendCan prio kind resp master txn abort body s p =
      { s with
        out := (State.sendMsg.sendCan prio kind resp master txn abort body s p).out
        sideTx := (State.sendMsg.sendCan prio kind resp master txn abort body s p).sideTx } := by
  unfold State.sendMsg.sendCan
  dsimp only
  generalize (canData (txn % 256) (toBE 2 abort ++ body)).2 = l
  generalize canIdent prio kind resp (canData (txn % 256) (toBE 2 abort ++ body)).1 (s.canNode p) master = c
  induction l generalizing s with
  | nil => rfl
  | cons o l ih => rw [List.foldl_cons, ih]; rfl

/-! ### bump -/

theorem State.bump_keeps (o el k : Nat) : s.bump o el k =
    { s with dict := (s.bump o el k).dict, free := (s.bump o el k).free } := by
  unfold State.bump
  dsimp only
  split <;> rfl
@[simp] theorem State.bump_now (o el k : Nat) : (s.bump o el k).now = s.now := by
  rw [State.bump_keeps]
@[simp] theorem State.bump_scale (o el k : Nat) : (s.bump o el k).scale = s.scale := by
  rw [State.bump_keeps]
@[simp] theorem State.bump_pending (o el k : Nat) : (s.bump o el k).pending = s.pending := by
  rw [State.bump_keeps]
@[simp] theorem State.bump_out (o el k : Nat) : (s.bump o el k).out = s.out := by
  rw [State.bump_keeps]
@[simp] theorem State.bump_tv (o el k : Nat) : (s.bump o el k).tv = s.tv := by
  rw [State.bump_keeps]
@[simp] theorem State.bump_sideTx (o el k : Nat) : (s.bump o el k).sideTx = s.sideTx := by
  rw [State.bump_keeps]
@[simp] theorem State.bump_restarting (o el k : Nat) : (s.bump o el k).restarting = s.restarting := by
  rw [State.bump_keeps]
@[simp] theorem State.bump_ev (o el k : Nat) : (s.bump o el k).ev = s.ev := by
  rw [State.bump_keeps]
@[simp] theorem State.bump_life (o el k : Nat) : (s.bump o el k).life = s.life := by
  rw [State.bump_keeps]
@[simp] theorem State.bump_die (o el k : Nat) : (s.bump o el k).die = s.die := by
  rw [State.bump_keeps]
@[simp] theorem State.bump_frm (o el k : Nat) : (s.bump o el k).frm = s.frm := by
  rw [State.bump_keeps]
@[simp] theorem State.bump_quads (o el k : Nat) : (s.bump o el k).quads = s.quads := by
  rw [State.bump_keeps]
@[simp] theorem State.bump_em (o el k : Nat) : (s.bump o el k).em = s.em := by
  rw [State.bump_keeps]
@[simp] theorem State.bump_steer (o el k : Nat) : (s.bump o el k).steer = s.steer := by
  rw [State.bump_keeps]
@[simp] theorem State.bump_forge (o el k : Nat) : (s.bump o el k).forge = s.forge := by
  rw [State.bump_keeps]
@[simp] theorem State.bump_ana (o el k : Nat) : (s.bump o el k).ana = s.ana := by
  rw [State.bump_keeps]
@[simp] theorem State.bump_gov (o el k : Nat) : (s.bump o el k).gov = s.gov := by
  rw [State.bump_keeps]
@[simp] theorem State.bump_queues (o el k : Nat) : (s.bump o el k).queues = s.queues := by
  rw [State.bump_keeps]
@[simp] theorem State.bump_dma (o el k : Nat) : (s.bump o el k).dma = s.dma := by
  rw [State.bump_keeps]
@[simp] theorem State.bump_links (o el k : Nat) : (s.bump o el k).links = s.links := by
  rw [State.bump_keeps]
@[simp] theorem State.bump_recTok (o el k : Nat) : (s.bump o el k).recTok = s.recTok := by
  rw [State.bump_keeps]
@[simp] theorem State.bump_recAt (o el k : Nat) : (s.bump o el k).recAt = s.recAt := by
  rw [State.bump_keeps]
@[simp] theorem State.bump_tap (o el k : Nat) : (s.bump o el k).tap = s.tap := by
  rw [State.bump_keeps]
@[simp] theorem State.bump_isl (o el k : Nat) : (s.bump o el k).isl = s.isl := by
  rw [State.bump_keeps]
@[simp] theorem State.bump_cap (o el k : Nat) : (s.bump o el k).cap = s.cap := by
  rw [State.bump_keeps]
@[simp] theorem State.bump_time (o el k : Nat) : (s.bump o el k).time = s.time := by
  rw [State.bump_keeps]
@[simp] theorem State.bump_wof (o el k : Nat) : (s.bump o el k).wof = s.wof := by
  rw [State.bump_keeps]
@[simp] theorem State.bump_fleet (o el k : Nat) : (s.bump o el k).fleet = s.fleet := by
  rw [State.bump_keeps]
@[simp] theorem State.bump_plv (o el k : Nat) : (s.bump o el k).plv = s.plv := by
  rw [State.bump_keeps]
@[simp] theorem State.bump_sens (o el k : Nat) : (s.bump o el k).sens = s.sens := by
  rw [State.bump_keeps]
@[simp] theorem State.bump_pilot (o el k : Nat) : (s.bump o el k).pilot = s.pilot := by
  rw [State.bump_keeps]
@[simp] theorem State.bump_nv (o el k : Nat) : (s.bump o el k).nv = s.nv := by
  rw [State.bump_keeps]
@[simp] theorem State.bump_blobs (o el k : Nat) : (s.bump o el k).blobs = s.blobs := by
  rw [State.bump_keeps]
@[simp] theorem State.bump_jtag (o el k : Nat) : (s.bump o el k).jtag = s.jtag := by
  rw [State.bump_keeps]

/-! ### satBump -/

theorem State.satBump_keeps (o el m k : Nat) : s.satBump o el m k =
    { s with dict := (s.satBump o el m k).dict } := rfl
@[simp] theorem State.satBump_now (o el m k : Nat) : (s.satBump o el m k).now = s.now := by
  rw [State.satBump_keeps]
@[simp] theorem State.satBump_scale (o el m k : Nat) : (s.satBump o el m k).scale = s.scale := by
  rw [State.satBump_keeps]
@[simp] theorem State.satBump_free (o el m k : Nat) : (s.satBump o el m k).free = s.free := by
  rw [State.satBump_keeps]
@[simp] theorem State.satBump_pending (o el m k : Nat) : (s.satBump o el m k).pending = s.pending := by
  rw [State.satBump_keeps]
@[simp] theorem State.satBump_out (o el m k : Nat) : (s.satBump o el m k).out = s.out := by
  rw [State.satBump_keeps]
@[simp] theorem State.satBump_tv (o el m k : Nat) : (s.satBump o el m k).tv = s.tv := by
  rw [State.satBump_keeps]
@[simp] theorem State.satBump_sideTx (o el m k : Nat) : (s.satBump o el m k).sideTx = s.sideTx := by
  rw [State.satBump_keeps]
@[simp] theorem State.satBump_restarting (o el m k : Nat) : (s.satBump o el m k).restarting = s.restarting := by
  rw [State.satBump_keeps]
@[simp] theorem State.satBump_ev (o el m k : Nat) : (s.satBump o el m k).ev = s.ev := by
  rw [State.satBump_keeps]
@[simp] theorem State.satBump_life (o el m k : Nat) : (s.satBump o el m k).life = s.life := by
  rw [State.satBump_keeps]
@[simp] theorem State.satBump_die (o el m k : Nat) : (s.satBump o el m k).die = s.die := by
  rw [State.satBump_keeps]
@[simp] theorem State.satBump_frm (o el m k : Nat) : (s.satBump o el m k).frm = s.frm := by
  rw [State.satBump_keeps]
@[simp] theorem State.satBump_quads (o el m k : Nat) : (s.satBump o el m k).quads = s.quads := by
  rw [State.satBump_keeps]
@[simp] theorem State.satBump_em (o el m k : Nat) : (s.satBump o el m k).em = s.em := by
  rw [State.satBump_keeps]
@[simp] theorem State.satBump_steer (o el m k : Nat) : (s.satBump o el m k).steer = s.steer := by
  rw [State.satBump_keeps]
@[simp] theorem State.satBump_forge (o el m k : Nat) : (s.satBump o el m k).forge = s.forge := by
  rw [State.satBump_keeps]
@[simp] theorem State.satBump_ana (o el m k : Nat) : (s.satBump o el m k).ana = s.ana := by
  rw [State.satBump_keeps]
@[simp] theorem State.satBump_gov (o el m k : Nat) : (s.satBump o el m k).gov = s.gov := by
  rw [State.satBump_keeps]
@[simp] theorem State.satBump_queues (o el m k : Nat) : (s.satBump o el m k).queues = s.queues := by
  rw [State.satBump_keeps]
@[simp] theorem State.satBump_dma (o el m k : Nat) : (s.satBump o el m k).dma = s.dma := by
  rw [State.satBump_keeps]
@[simp] theorem State.satBump_links (o el m k : Nat) : (s.satBump o el m k).links = s.links := by
  rw [State.satBump_keeps]
@[simp] theorem State.satBump_recTok (o el m k : Nat) : (s.satBump o el m k).recTok = s.recTok := by
  rw [State.satBump_keeps]
@[simp] theorem State.satBump_recAt (o el m k : Nat) : (s.satBump o el m k).recAt = s.recAt := by
  rw [State.satBump_keeps]
@[simp] theorem State.satBump_tap (o el m k : Nat) : (s.satBump o el m k).tap = s.tap := by
  rw [State.satBump_keeps]
@[simp] theorem State.satBump_isl (o el m k : Nat) : (s.satBump o el m k).isl = s.isl := by
  rw [State.satBump_keeps]
@[simp] theorem State.satBump_cap (o el m k : Nat) : (s.satBump o el m k).cap = s.cap := by
  rw [State.satBump_keeps]
@[simp] theorem State.satBump_time (o el m k : Nat) : (s.satBump o el m k).time = s.time := by
  rw [State.satBump_keeps]
@[simp] theorem State.satBump_wof (o el m k : Nat) : (s.satBump o el m k).wof = s.wof := by
  rw [State.satBump_keeps]
@[simp] theorem State.satBump_fleet (o el m k : Nat) : (s.satBump o el m k).fleet = s.fleet := by
  rw [State.satBump_keeps]
@[simp] theorem State.satBump_plv (o el m k : Nat) : (s.satBump o el m k).plv = s.plv := by
  rw [State.satBump_keeps]
@[simp] theorem State.satBump_sens (o el m k : Nat) : (s.satBump o el m k).sens = s.sens := by
  rw [State.satBump_keeps]
@[simp] theorem State.satBump_pilot (o el m k : Nat) : (s.satBump o el m k).pilot = s.pilot := by
  rw [State.satBump_keeps]
@[simp] theorem State.satBump_nv (o el m k : Nat) : (s.satBump o el m k).nv = s.nv := by
  rw [State.satBump_keeps]
@[simp] theorem State.satBump_blobs (o el m k : Nat) : (s.satBump o el m k).blobs = s.blobs := by
  rw [State.satBump_keeps]
@[simp] theorem State.satBump_jtag (o el m k : Nat) : (s.satBump o el m k).jtag = s.jtag := by
  rw [State.satBump_keeps]

/-! ### evt -/

theorem State.evt_keeps (code param : Nat) : s.evt code param =
    { s with dict := (s.evt code param).dict, free := (s.evt code param).free, ev := (s.evt code param).ev } := by
  unfold State.evt
  split
  · rfl
  · rw [State.bump_keeps]
@[simp] theorem State.evt_now (code param : Nat) : (s.evt code param).now = s.now := by
  rw [State.evt_keeps]
@[simp] theorem State.evt_scale (code param : Nat) : (s.evt code param).scale = s.scale := by
  rw [State.evt_keeps]
@[simp] theorem State.evt_pending (code param : Nat) : (s.evt code param).pending = s.pending := by
  rw [State.evt_keeps]
@[simp] theorem State.evt_out (code param : Nat) : (s.evt code param).out = s.out := by
  rw [State.evt_keeps]
@[simp] theorem State.evt_tv (code param : Nat) : (s.evt code param).tv = s.tv := by
  rw [State.evt_keeps]
@[simp] theorem State.evt_sideTx (code param : Nat) : (s.evt code param).sideTx = s.sideTx := by
  rw [State.evt_keeps]
@[simp] theorem State.evt_restarting (code param : Nat) : (s.evt code param).restarting = s.restarting := by
  rw [State.evt_keeps]
@[simp] theorem State.evt_life (code param : Nat) : (s.evt code param).life = s.life := by
  rw [State.evt_keeps]
@[simp] theorem State.evt_die (code param : Nat) : (s.evt code param).die = s.die := by
  rw [State.evt_keeps]
@[simp] theorem State.evt_frm (code param : Nat) : (s.evt code param).frm = s.frm := by
  rw [State.evt_keeps]
@[simp] theorem State.evt_quads (code param : Nat) : (s.evt code param).quads = s.quads := by
  rw [State.evt_keeps]
@[simp] theorem State.evt_em (code param : Nat) : (s.evt code param).em = s.em := by
  rw [State.evt_keeps]
@[simp] theorem State.evt_steer (code param : Nat) : (s.evt code param).steer = s.steer := by
  rw [State.evt_keeps]
@[simp] theorem State.evt_forge (code param : Nat) : (s.evt code param).forge = s.forge := by
  rw [State.evt_keeps]
@[simp] theorem State.evt_ana (code param : Nat) : (s.evt code param).ana = s.ana := by
  rw [State.evt_keeps]
@[simp] theorem State.evt_gov (code param : Nat) : (s.evt code param).gov = s.gov := by
  rw [State.evt_keeps]
@[simp] theorem State.evt_queues (code param : Nat) : (s.evt code param).queues = s.queues := by
  rw [State.evt_keeps]
@[simp] theorem State.evt_dma (code param : Nat) : (s.evt code param).dma = s.dma := by
  rw [State.evt_keeps]
@[simp] theorem State.evt_links (code param : Nat) : (s.evt code param).links = s.links := by
  rw [State.evt_keeps]
@[simp] theorem State.evt_recTok (code param : Nat) : (s.evt code param).recTok = s.recTok := by
  rw [State.evt_keeps]
@[simp] theorem State.evt_recAt (code param : Nat) : (s.evt code param).recAt = s.recAt := by
  rw [State.evt_keeps]
@[simp] theorem State.evt_tap (code param : Nat) : (s.evt code param).tap = s.tap := by
  rw [State.evt_keeps]
@[simp] theorem State.evt_isl (code param : Nat) : (s.evt code param).isl = s.isl := by
  rw [State.evt_keeps]
@[simp] theorem State.evt_cap (code param : Nat) : (s.evt code param).cap = s.cap := by
  rw [State.evt_keeps]
@[simp] theorem State.evt_time (code param : Nat) : (s.evt code param).time = s.time := by
  rw [State.evt_keeps]
@[simp] theorem State.evt_wof (code param : Nat) : (s.evt code param).wof = s.wof := by
  rw [State.evt_keeps]
@[simp] theorem State.evt_fleet (code param : Nat) : (s.evt code param).fleet = s.fleet := by
  rw [State.evt_keeps]
@[simp] theorem State.evt_plv (code param : Nat) : (s.evt code param).plv = s.plv := by
  rw [State.evt_keeps]
@[simp] theorem State.evt_sens (code param : Nat) : (s.evt code param).sens = s.sens := by
  rw [State.evt_keeps]
@[simp] theorem State.evt_pilot (code param : Nat) : (s.evt code param).pilot = s.pilot := by
  rw [State.evt_keeps]
@[simp] theorem State.evt_nv (code param : Nat) : (s.evt code param).nv = s.nv := by
  rw [State.evt_keeps]
@[simp] theorem State.evt_blobs (code param : Nat) : (s.evt code param).blobs = s.blobs := by
  rw [State.evt_keeps]
@[simp] theorem State.evt_jtag (code param : Nat) : (s.evt code param).jtag = s.jtag := by
  rw [State.evt_keeps]

/-! ### evtFree -/

theorem State.evtFree_keeps (code : Nat) : s.evtFree code =
    { s with dict := (s.evtFree code).dict, free := (s.evtFree code).free, ev := (s.evtFree code).ev } := by
  unfold State.evtFree
  rw [State.evt_keeps]
@[simp] theorem State.evtFree_now (code : Nat) : (s.evtFree code).now = s.now := by
  rw [State.evtFree_keeps]
@[simp] theorem State.evtFree_scale (code : Nat) : (s.evtFree code).scale = s.scale := by
  rw [State.evtFree_keeps]
@[simp] theorem State.evtFree_pending (code : Nat) : (s.evtFree code).pending = s.pending := by
  rw [State.evtFree_keeps]
@[simp] theorem State.evtFree_out (code : Nat) : (s.evtFree code).out = s.out := by
  rw [State.evtFree_keeps]
@[simp] theorem State.evtFree_tv (code : Nat) : (s.evtFree code).tv = s.tv := by
  rw [State.evtFree_keeps]
@[simp] theorem State.evtFree_sideTx (code : Nat) : (s.evtFree code).sideTx = s.sideTx := by
  rw [State.evtFree_keeps]
@[simp] theorem State.evtFree_restarting (code : Nat) : (s.evtFree code).restarting = s.restarting := by
  rw [State.evtFree_keeps]
@[simp] theorem State.evtFree_life (code : Nat) : (s.evtFree code).life = s.life := by
  rw [State.evtFree_keeps]
@[simp] theorem State.evtFree_die (code : Nat) : (s.evtFree code).die = s.die := by
  rw [State.evtFree_keeps]
@[simp] theorem State.evtFree_frm (code : Nat) : (s.evtFree code).frm = s.frm := by
  rw [State.evtFree_keeps]
@[simp] theorem State.evtFree_quads (code : Nat) : (s.evtFree code).quads = s.quads := by
  rw [State.evtFree_keeps]
@[simp] theorem State.evtFree_em (code : Nat) : (s.evtFree code).em = s.em := by
  rw [State.evtFree_keeps]
@[simp] theorem State.evtFree_steer (code : Nat) : (s.evtFree code).steer = s.steer := by
  rw [State.evtFree_keeps]
@[simp] theorem State.evtFree_forge (code : Nat) : (s.evtFree code).forge = s.forge := by
  rw [State.evtFree_keeps]
@[simp] theorem State.evtFree_ana (code : Nat) : (s.evtFree code).ana = s.ana := by
  rw [State.evtFree_keeps]
@[simp] theorem State.evtFree_gov (code : Nat) : (s.evtFree code).gov = s.gov := by
  rw [State.evtFree_keeps]
@[simp] theorem State.evtFree_queues (code : Nat) : (s.evtFree code).queues = s.queues := by
  rw [State.evtFree_keeps]
@[simp] theorem State.evtFree_dma (code : Nat) : (s.evtFree code).dma = s.dma := by
  rw [State.evtFree_keeps]
@[simp] theorem State.evtFree_links (code : Nat) : (s.evtFree code).links = s.links := by
  rw [State.evtFree_keeps]
@[simp] theorem State.evtFree_recTok (code : Nat) : (s.evtFree code).recTok = s.recTok := by
  rw [State.evtFree_keeps]
@[simp] theorem State.evtFree_recAt (code : Nat) : (s.evtFree code).recAt = s.recAt := by
  rw [State.evtFree_keeps]
@[simp] theorem State.evtFree_tap (code : Nat) : (s.evtFree code).tap = s.tap := by
  rw [State.evtFree_keeps]
@[simp] theorem State.evtFree_isl (code : Nat) : (s.evtFree code).isl = s.isl := by
  rw [State.evtFree_keeps]
@[simp] theorem State.evtFree_cap (code : Nat) : (s.evtFree code).cap = s.cap := by
  rw [State.evtFree_keeps]
@[simp] theorem State.evtFree_time (code : Nat) : (s.evtFree code).time = s.time := by
  rw [State.evtFree_keeps]
@[simp] theorem State.evtFree_wof (code : Nat) : (s.evtFree code).wof = s.wof := by
  rw [State.evtFree_keeps]
@[simp] theorem State.evtFree_fleet (code : Nat) : (s.evtFree code).fleet = s.fleet := by
  rw [State.evtFree_keeps]
@[simp] theorem State.evtFree_plv (code : Nat) : (s.evtFree code).plv = s.plv := by
  rw [State.evtFree_keeps]
@[simp] theorem State.evtFree_sens (code : Nat) : (s.evtFree code).sens = s.sens := by
  rw [State.evtFree_keeps]
@[simp] theorem State.evtFree_pilot (code : Nat) : (s.evtFree code).pilot = s.pilot := by
  rw [State.evtFree_keeps]
@[simp] theorem State.evtFree_nv (code : Nat) : (s.evtFree code).nv = s.nv := by
  rw [State.evtFree_keeps]
@[simp] theorem State.evtFree_blobs (code : Nat) : (s.evtFree code).blobs = s.blobs := by
  rw [State.evtFree_keeps]
@[simp] theorem State.evtFree_jtag (code : Nat) : (s.evtFree code).jtag = s.jtag := by
  rw [State.evtFree_keeps]

/-! ### goto -/

theorem State.goto_keeps (st : DevState) : s.goto st =
    { s with dict := (s.goto st).dict, free := (s.goto st).free, ev := (s.goto st).ev, life := (s.goto st).life } := by
  unfold State.goto
  dsimp only
  rw [State.evt_keeps, State.bump_keeps]
@[simp] theorem State.goto_now (st : DevState) : (s.goto st).now = s.now := by
  rw [State.goto_keeps]
@[simp] theorem State.goto_scale (st : DevState) : (s.goto st).scale = s.scale := by
  rw [State.goto_keeps]
@[simp] theorem State.goto_pending (st : DevState) : (s.goto st).pending = s.pending := by
  rw [State.goto_keeps]
@[simp] theorem State.goto_out (st : DevState) : (s.goto st).out = s.out := by
  rw [State.goto_keeps]
@[simp] theorem State.goto_tv (st : DevState) : (s.goto st).tv = s.tv := by
  rw [State.goto_keeps]
@[simp] theorem State.goto_sideTx (st : DevState) : (s.goto st).sideTx = s.sideTx := by
  rw [State.goto_keeps]
@[simp] theorem State.goto_restarting (st : DevState) : (s.goto st).restarting = s.restarting := by
  rw [State.goto_keeps]
@[simp] theorem State.goto_die (st : DevState) : (s.goto st).die = s.die := by
  rw [State.goto_keeps]
@[simp] theorem State.goto_frm (st : DevState) : (s.goto st).frm = s.frm := by
  rw [State.goto_keeps]
@[simp] theorem State.goto_quads (st : DevState) : (s.goto st).quads = s.quads := by
  rw [State.goto_keeps]
@[simp] theorem State.goto_em (st : DevState) : (s.goto st).em = s.em := by
  rw [State.goto_keeps]
@[simp] theorem State.goto_steer (st : DevState) : (s.goto st).steer = s.steer := by
  rw [State.goto_keeps]
@[simp] theorem State.goto_forge (st : DevState) : (s.goto st).forge = s.forge := by
  rw [State.goto_keeps]
@[simp] theorem State.goto_ana (st : DevState) : (s.goto st).ana = s.ana := by
  rw [State.goto_keeps]
@[simp] theorem State.goto_gov (st : DevState) : (s.goto st).gov = s.gov := by
  rw [State.goto_keeps]
@[simp] theorem State.goto_queues (st : DevState) : (s.goto st).queues = s.queues := by
  rw [State.goto_keeps]
@[simp] theorem State.goto_dma (st : DevState) : (s.goto st).dma = s.dma := by
  rw [State.goto_keeps]
@[simp] theorem State.goto_links (st : DevState) : (s.goto st).links = s.links := by
  rw [State.goto_keeps]
@[simp] theorem State.goto_recTok (st : DevState) : (s.goto st).recTok = s.recTok := by
  rw [State.goto_keeps]
@[simp] theorem State.goto_recAt (st : DevState) : (s.goto st).recAt = s.recAt := by
  rw [State.goto_keeps]
@[simp] theorem State.goto_tap (st : DevState) : (s.goto st).tap = s.tap := by
  rw [State.goto_keeps]
@[simp] theorem State.goto_isl (st : DevState) : (s.goto st).isl = s.isl := by
  rw [State.goto_keeps]
@[simp] theorem State.goto_cap (st : DevState) : (s.goto st).cap = s.cap := by
  rw [State.goto_keeps]
@[simp] theorem State.goto_time (st : DevState) : (s.goto st).time = s.time := by
  rw [State.goto_keeps]
@[simp] theorem State.goto_wof (st : DevState) : (s.goto st).wof = s.wof := by
  rw [State.goto_keeps]
@[simp] theorem State.goto_fleet (st : DevState) : (s.goto st).fleet = s.fleet := by
  rw [State.goto_keeps]
@[simp] theorem State.goto_plv (st : DevState) : (s.goto st).plv = s.plv := by
  rw [State.goto_keeps]
@[simp] theorem State.goto_sens (st : DevState) : (s.goto st).sens = s.sens := by
  rw [State.goto_keeps]
@[simp] theorem State.goto_pilot (st : DevState) : (s.goto st).pilot = s.pilot := by
  rw [State.goto_keeps]
@[simp] theorem State.goto_nv (st : DevState) : (s.goto st).nv = s.nv := by
  rw [State.goto_keeps]
@[simp] theorem State.goto_blobs (st : DevState) : (s.goto st).blobs = s.blobs := by
  rw [State.goto_keeps]
@[simp] theorem State.goto_jtag (st : DevState) : (s.goto st).jtag = s.jtag := by
  rw [State.goto_keeps]

/-! ### raiseCause -/

theorem State.raiseCause_keeps (i : Nat) : s.raiseCause i =
    { s with dict := (s.raiseCause i).dict, free := (s.raiseCause i).free, ev := (s.raiseCause i).ev, life := (s.raiseCause i).life } := by
  unfold State.raiseCause
  dsimp only
  split
  · rw [State.goto_keeps]; rfl
  · rfl
@[simp] theorem State.raiseCause_now (i : Nat) : (s.raiseCause i).now = s.now := by
  rw [State.raiseCause_keeps]
@[simp] theorem State.raiseCause_scale (i : Nat) : (s.raiseCause i).scale = s.scale := by
  rw [State.raiseCause_keeps]
@[simp] theorem State.raiseCause_pending (i : Nat) : (s.raiseCause i).pending = s.pending := by
  rw [State.raiseCause_keeps]
@[simp] theorem State.raiseCause_out (i : Nat) : (s.raiseCause i).out = s.out := by
  rw [State.raiseCause_keeps]
@[simp] theorem State.raiseCause_tv (i : Nat) : (s.raiseCause i).tv = s.tv := by
  rw [State.raiseCause_keeps]
@[simp] theorem State.raiseCause_sideTx (i : Nat) : (s.raiseCause i).sideTx = s.sideTx := by
  rw [State.raiseCause_keeps]
@[simp] theorem State.raiseCause_restarting (i : Nat) : (s.raiseCause i).restarting = s.restarting := by
  rw [State.raiseCause_keeps]
@[simp] theorem State.raiseCause_die (i : Nat) : (s.raiseCause i).die = s.die := by
  rw [State.raiseCause_keeps]
@[simp] theorem State.raiseCause_frm (i : Nat) : (s.raiseCause i).frm = s.frm := by
  rw [State.raiseCause_keeps]
@[simp] theorem State.raiseCause_quads (i : Nat) : (s.raiseCause i).quads = s.quads := by
  rw [State.raiseCause_keeps]
@[simp] theorem State.raiseCause_em (i : Nat) : (s.raiseCause i).em = s.em := by
  rw [State.raiseCause_keeps]
@[simp] theorem State.raiseCause_steer (i : Nat) : (s.raiseCause i).steer = s.steer := by
  rw [State.raiseCause_keeps]
@[simp] theorem State.raiseCause_forge (i : Nat) : (s.raiseCause i).forge = s.forge := by
  rw [State.raiseCause_keeps]
@[simp] theorem State.raiseCause_ana (i : Nat) : (s.raiseCause i).ana = s.ana := by
  rw [State.raiseCause_keeps]
@[simp] theorem State.raiseCause_gov (i : Nat) : (s.raiseCause i).gov = s.gov := by
  rw [State.raiseCause_keeps]
@[simp] theorem State.raiseCause_queues (i : Nat) : (s.raiseCause i).queues = s.queues := by
  rw [State.raiseCause_keeps]
@[simp] theorem State.raiseCause_dma (i : Nat) : (s.raiseCause i).dma = s.dma := by
  rw [State.raiseCause_keeps]
@[simp] theorem State.raiseCause_links (i : Nat) : (s.raiseCause i).links = s.links := by
  rw [State.raiseCause_keeps]
@[simp] theorem State.raiseCause_recTok (i : Nat) : (s.raiseCause i).recTok = s.recTok := by
  rw [State.raiseCause_keeps]
@[simp] theorem State.raiseCause_recAt (i : Nat) : (s.raiseCause i).recAt = s.recAt := by
  rw [State.raiseCause_keeps]
@[simp] theorem State.raiseCause_tap (i : Nat) : (s.raiseCause i).tap = s.tap := by
  rw [State.raiseCause_keeps]
@[simp] theorem State.raiseCause_isl (i : Nat) : (s.raiseCause i).isl = s.isl := by
  rw [State.raiseCause_keeps]
@[simp] theorem State.raiseCause_cap (i : Nat) : (s.raiseCause i).cap = s.cap := by
  rw [State.raiseCause_keeps]
@[simp] theorem State.raiseCause_time (i : Nat) : (s.raiseCause i).time = s.time := by
  rw [State.raiseCause_keeps]
@[simp] theorem State.raiseCause_wof (i : Nat) : (s.raiseCause i).wof = s.wof := by
  rw [State.raiseCause_keeps]
@[simp] theorem State.raiseCause_fleet (i : Nat) : (s.raiseCause i).fleet = s.fleet := by
  rw [State.raiseCause_keeps]
@[simp] theorem State.raiseCause_plv (i : Nat) : (s.raiseCause i).plv = s.plv := by
  rw [State.raiseCause_keeps]
@[simp] theorem State.raiseCause_sens (i : Nat) : (s.raiseCause i).sens = s.sens := by
  rw [State.raiseCause_keeps]
@[simp] theorem State.raiseCause_pilot (i : Nat) : (s.raiseCause i).pilot = s.pilot := by
  rw [State.raiseCause_keeps]
@[simp] theorem State.raiseCause_nv (i : Nat) : (s.raiseCause i).nv = s.nv := by
  rw [State.raiseCause_keeps]
@[simp] theorem State.raiseCause_blobs (i : Nat) : (s.raiseCause i).blobs = s.blobs := by
  rw [State.raiseCause_keeps]
@[simp] theorem State.raiseCause_jtag (i : Nat) : (s.raiseCause i).jtag = s.jtag := by
  rw [State.raiseCause_keeps]

/-! ### sendMsg -/

theorem State.sendMsg_keeps (port dst prio kind resp master txn abort : Nat) (body : Octets) : s.sendMsg port dst prio kind resp master txn abort body =
    { s with out := (s.sendMsg port dst prio kind resp master txn abort body).out, sideTx := (s.sendMsg port dst prio kind resp master txn abort body).sideTx } := by
  unfold State.sendMsg
  split
  · exact State.sendCan_keeps ..
  · exact State.sendCan_keeps ..
  all_goals rfl
@[simp] theorem State.sendMsg_now (port dst prio kind resp master txn abort : Nat) (body : Octets) : (s.sendMsg port dst prio kind resp master txn abort body).now = s.now := by
  rw [State.sendMsg_keeps]
@[simp] theorem State.sendMsg_scale (port dst prio kind resp master txn abort : Nat) (body : Octets) : (s.sendMsg port dst prio kind resp master txn abort body).scale = s.scale := by
  rw [State.sendMsg_keeps]
@[simp] theorem State.sendMsg_free (port dst prio kind resp master txn abort : Nat) (body : Octets) : (s.sendMsg port dst prio kind resp master txn abort body).free = s.free := by
  rw [State.sendMsg_keeps]
@[simp] theorem State.sendMsg_pending (port dst prio kind resp master txn abort : Nat) (body : Octets) : (s.sendMsg port dst prio kind resp master txn abort body).pending = s.pending := by
  rw [State.sendMsg_keeps]
@[simp] theorem State.sendMsg_dict (port dst prio kind resp master txn abort : Nat) (body : Octets) : (s.sendMsg port dst prio kind resp master txn abort body).dict = s.dict := by
  rw [State.sendMsg_keeps]
@[simp] theorem State.sendMsg_tv (port dst prio kind resp master txn abort : Nat) (body : Octets) : (s.sendMsg port dst prio kind resp master txn abort body).tv = s.tv := by
  rw [State.sendMsg_keeps]
@[simp] theorem State.sendMsg_restarting (port dst prio kind resp master txn abort : Nat) (body : Octets) : (s.sendMsg port dst prio kind resp master txn abort body).restarting = s.restarting := by
  rw [State.sendMsg_keeps]
@[simp] theorem State.sendMsg_ev (port dst prio kind resp master txn abort : Nat) (body : Octets) : (s.sendMsg port dst prio kind resp master txn abort body).ev = s.ev := by
  rw [State.sendMsg_keeps]
@[simp] theorem State.sendMsg_life (port dst prio kind resp master txn abort : Nat) (body : Octets) : (s.sendMsg port dst prio kind resp master txn abort body).life = s.life := by
  rw [State.sendMsg_keeps]
@[simp] theorem State.sendMsg_die (port dst prio kind resp master txn abort : Nat) (body : Octets) : (s.sendMsg port dst prio kind resp master txn abort body).die = s.die := by
  rw [State.sendMsg_keeps]
@[simp] theorem State.sendMsg_frm (port dst prio kind resp master txn abort : Nat) (body : Octets) : (s.sendMsg port dst prio kind resp master txn abort body).frm = s.frm := by
  rw [State.sendMsg_keeps]
@[simp] theorem State.sendMsg_quads (port dst prio kind resp master txn abort : Nat) (body : Octets) : (s.sendMsg port dst prio kind resp master txn abort body).quads = s.quads := by
  rw [State.sendMsg_keeps]
@[simp] theorem State.sendMsg_em (port dst prio kind resp master txn abort : Nat) (body : Octets) : (s.sendMsg port dst prio kind resp master txn abort body).em = s.em := by
  rw [State.sendMsg_keeps]
@[simp] theorem State.sendMsg_steer (port dst prio kind resp master txn abort : Nat) (body : Octets) : (s.sendMsg port dst prio kind resp master txn abort body).steer = s.steer := by
  rw [State.sendMsg_keeps]
@[simp] theorem State.sendMsg_forge (port dst prio kind resp master txn abort : Nat) (body : Octets) : (s.sendMsg port dst prio kind resp master txn abort body).forge = s.forge := by
  rw [State.sendMsg_keeps]
@[simp] theorem State.sendMsg_ana (port dst prio kind resp master txn abort : Nat) (body : Octets) : (s.sendMsg port dst prio kind resp master txn abort body).ana = s.ana := by
  rw [State.sendMsg_keeps]
@[simp] theorem State.sendMsg_gov (port dst prio kind resp master txn abort : Nat) (body : Octets) : (s.sendMsg port dst prio kind resp master txn abort body).gov = s.gov := by
  rw [State.sendMsg_keeps]
@[simp] theorem State.sendMsg_queues (port dst prio kind resp master txn abort : Nat) (body : Octets) : (s.sendMsg port dst prio kind resp master txn abort body).queues = s.queues := by
  rw [State.sendMsg_keeps]
@[simp] theorem State.sendMsg_dma (port dst prio kind resp master txn abort : Nat) (body : Octets) : (s.sendMsg port dst prio kind resp master txn abort body).dma = s.dma := by
  rw [State.sendMsg_keeps]
@[simp] theorem State.sendMsg_links (port dst prio kind resp master txn abort : Nat) (body : Octets) : (s.sendMsg port dst prio kind resp master txn abort body).links = s.links := by
  rw [State.sendMsg_keeps]
@[simp] theorem State.sendMsg_recTok (port dst prio kind resp master txn abort : Nat) (body : Octets) : (s.sendMsg port dst prio kind resp master txn abort body).recTok = s.recTok := by
  rw [State.sendMsg_keeps]
@[simp] theorem State.sendMsg_recAt (port dst prio kind resp master txn abort : Nat) (body : Octets) : (s.sendMsg port dst prio kind resp master txn abort body).recAt = s.recAt := by
  rw [State.sendMsg_keeps]
@[simp] theorem State.sendMsg_tap (port dst prio kind resp master txn abort : Nat) (body : Octets) : (s.sendMsg port dst prio kind resp master txn abort body).tap = s.tap := by
  rw [State.sendMsg_keeps]
@[simp] theorem State.sendMsg_isl (port dst prio kind resp master txn abort : Nat) (body : Octets) : (s.sendMsg port dst prio kind resp master txn abort body).isl = s.isl := by
  rw [State.sendMsg_keeps]
@[simp] theorem State.sendMsg_cap (port dst prio kind resp master txn abort : Nat) (body : Octets) : (s.sendMsg port dst prio kind resp master txn abort body).cap = s.cap := by
  rw [State.sendMsg_keeps]
@[simp] theorem State.sendMsg_time (port dst prio kind resp master txn abort : Nat) (body : Octets) : (s.sendMsg port dst prio kind resp master txn abort body).time = s.time := by
  rw [State.sendMsg_keeps]
@[simp] theorem State.sendMsg_wof (port dst prio kind resp master txn abort : Nat) (body : Octets) : (s.sendMsg port dst prio kind resp master txn abort body).wof = s.wof := by
  rw [State.sendMsg_keeps]
@[simp] theorem State.sendMsg_fleet (port dst prio kind resp master txn abort : Nat) (body : Octets) : (s.sendMsg port dst prio kind resp master txn abort body).fleet = s.fleet := by
  rw [State.sendMsg_keeps]
@[simp] theorem State.sendMsg_plv (port dst prio kind resp master txn abort : Nat) (body : Octets) : (s.sendMsg port dst prio kind resp master txn abort body).plv = s.plv := by
  rw [State.sendMsg_keeps]
@[simp] theorem State.sendMsg_sens (port dst prio kind resp master txn abort : Nat) (body : Octets) : (s.sendMsg port dst prio kind resp master txn abort body).sens = s.sens := by
  rw [State.sendMsg_keeps]
@[simp] theorem State.sendMsg_pilot (port dst prio kind resp master txn abort : Nat) (body : Octets) : (s.sendMsg port dst prio kind resp master txn abort body).pilot = s.pilot := by
  rw [State.sendMsg_keeps]
@[simp] theorem State.sendMsg_nv (port dst prio kind resp master txn abort : Nat) (body : Octets) : (s.sendMsg port dst prio kind resp master txn abort body).nv = s.nv := by
  rw [State.sendMsg_keeps]
@[simp] theorem State.sendMsg_blobs (port dst prio kind resp master txn abort : Nat) (body : Octets) : (s.sendMsg port dst prio kind resp master txn abort body).blobs = s.blobs := by
  rw [State.sendMsg_keeps]
@[simp] theorem State.sendMsg_jtag (port dst prio kind resp master txn abort : Nat) (body : Octets) : (s.sendMsg port dst prio kind resp master txn abort body).jtag = s.jtag := by
  rw [State.sendMsg_keeps]

/-! ### respondTo -/

theorem State.respondTo_keeps (r : Req) (at_ kind abort : Nat) (body : Octets) : s.respondTo r at_ kind abort body =
    { s with dict := (s.respondTo r at_ kind abort body).dict, free := (s.respondTo r at_ kind abort body).free, out := (s.respondTo r at_ kind abort body).out, sideTx := (s.respondTo r at_ kind abort body).sideTx, tv := (s.respondTo r at_ kind abort body).tv } := by
  unfold State.respondTo
  dsimp only
  split
  · rw [State.bump_keeps, State.sendMsg_keeps]
  · rw [State.sendMsg_keeps]
@[simp] theorem State.respondTo_now (r : Req) (at_ kind abort : Nat) (body : Octets) : (s.respondTo r at_ kind abort body).now = s.now := by
  rw [State.respondTo_keeps]
@[simp] theorem State.respondTo_scale (r : Req) (at_ kind abort : Nat) (body : Octets) : (s.respondTo r at_ kind abort body).scale = s.scale := by
  rw [State.respondTo_keeps]
@[simp] theorem State.respondTo_pending (r : Req) (at_ kind abort : Nat) (body : Octets) : (s.respondTo r at_ kind abort body).pending = s.pending := by
  rw [State.respondTo_keeps]
@[simp] theorem State.respondTo_restarting (r : Req) (at_ kind abort : Nat) (body : Octets) : (s.respondTo r at_ kind abort body).restarting = s.restarting := by
  rw [State.respondTo_keeps]
@[simp] theorem State.respondTo_ev (r : Req) (at_ kind abort : Nat) (body : Octets) : (s.respondTo r at_ kind abort body).ev = s.ev := by
  rw [State.respondTo_keeps]
@[simp] theorem State.respondTo_life (r : Req) (at_ kind abort : Nat) (body : Octets) : (s.respondTo r at_ kind abort body).life = s.life := by
  rw [State.respondTo_keeps]
@[simp] theorem State.respondTo_die (r : Req) (at_ kind abort : Nat) (body : Octets) : (s.respondTo r at_ kind abort body).die = s.die := by
  rw [State.respondTo_keeps]
@[simp] theorem State.respondTo_frm (r : Req) (at_ kind abort : Nat) (body : Octets) : (s.respondTo r at_ kind abort body).frm = s.frm := by
  rw [State.respondTo_keeps]
@[simp] theorem State.respondTo_quads (r : Req) (at_ kind abort : Nat) (body : Octets) : (s.respondTo r at_ kind abort body).quads = s.quads := by
  rw [State.respondTo_keeps]
@[simp] theorem State.respondTo_em (r : Req) (at_ kind abort : Nat) (body : Octets) : (s.respondTo r at_ kind abort body).em = s.em := by
  rw [State.respondTo_keeps]
@[simp] theorem State.respondTo_steer (r : Req) (at_ kind abort : Nat) (body : Octets) : (s.respondTo r at_ kind abort body).steer = s.steer := by
  rw [State.respondTo_keeps]
@[simp] theorem State.respondTo_forge (r : Req) (at_ kind abort : Nat) (body : Octets) : (s.respondTo r at_ kind abort body).forge = s.forge := by
  rw [State.respondTo_keeps]
@[simp] theorem State.respondTo_ana (r : Req) (at_ kind abort : Nat) (body : Octets) : (s.respondTo r at_ kind abort body).ana = s.ana := by
  rw [State.respondTo_keeps]
@[simp] theorem State.respondTo_gov (r : Req) (at_ kind abort : Nat) (body : Octets) : (s.respondTo r at_ kind abort body).gov = s.gov := by
  rw [State.respondTo_keeps]
@[simp] theorem State.respondTo_queues (r : Req) (at_ kind abort : Nat) (body : Octets) : (s.respondTo r at_ kind abort body).queues = s.queues := by
  rw [State.respondTo_keeps]
@[simp] theorem State.respondTo_dma (r : Req) (at_ kind abort : Nat) (body : Octets) : (s.respondTo r at_ kind abort body).dma = s.dma := by
  rw [State.respondTo_keeps]
@[simp] theorem State.respondTo_links (r : Req) (at_ kind abort : Nat) (body : Octets) : (s.respondTo r at_ kind abort body).links = s.links := by
  rw [State.respondTo_keeps]
@[simp] theorem State.respondTo_recTok (r : Req) (at_ kind abort : Nat) (body : Octets) : (s.respondTo r at_ kind abort body).recTok = s.recTok := by
  rw [State.respondTo_keeps]
@[simp] theorem State.respondTo_recAt (r : Req) (at_ kind abort : Nat) (body : Octets) : (s.respondTo r at_ kind abort body).recAt = s.recAt := by
  rw [State.respondTo_keeps]
@[simp] theorem State.respondTo_tap (r : Req) (at_ kind abort : Nat) (body : Octets) : (s.respondTo r at_ kind abort body).tap = s.tap := by
  rw [State.respondTo_keeps]
@[simp] theorem State.respondTo_isl (r : Req) (at_ kind abort : Nat) (body : Octets) : (s.respondTo r at_ kind abort body).isl = s.isl := by
  rw [State.respondTo_keeps]
@[simp] theorem State.respondTo_cap (r : Req) (at_ kind abort : Nat) (body : Octets) : (s.respondTo r at_ kind abort body).cap = s.cap := by
  rw [State.respondTo_keeps]
@[simp] theorem State.respondTo_time (r : Req) (at_ kind abort : Nat) (body : Octets) : (s.respondTo r at_ kind abort body).time = s.time := by
  rw [State.respondTo_keeps]
@[simp] theorem State.respondTo_wof (r : Req) (at_ kind abort : Nat) (body : Octets) : (s.respondTo r at_ kind abort body).wof = s.wof := by
  rw [State.respondTo_keeps]
@[simp] theorem State.respondTo_fleet (r : Req) (at_ kind abort : Nat) (body : Octets) : (s.respondTo r at_ kind abort body).fleet = s.fleet := by
  rw [State.respondTo_keeps]
@[simp] theorem State.respondTo_plv (r : Req) (at_ kind abort : Nat) (body : Octets) : (s.respondTo r at_ kind abort body).plv = s.plv := by
  rw [State.respondTo_keeps]
@[simp] theorem State.respondTo_sens (r : Req) (at_ kind abort : Nat) (body : Octets) : (s.respondTo r at_ kind abort body).sens = s.sens := by
  rw [State.respondTo_keeps]
@[simp] theorem State.respondTo_pilot (r : Req) (at_ kind abort : Nat) (body : Octets) : (s.respondTo r at_ kind abort body).pilot = s.pilot := by
  rw [State.respondTo_keeps]
@[simp] theorem State.respondTo_nv (r : Req) (at_ kind abort : Nat) (body : Octets) : (s.respondTo r at_ kind abort body).nv = s.nv := by
  rw [State.respondTo_keeps]
@[simp] theorem State.respondTo_blobs (r : Req) (at_ kind abort : Nat) (body : Octets) : (s.respondTo r at_ kind abort body).blobs = s.blobs := by
  rw [State.respondTo_keeps]
@[simp] theorem State.respondTo_jtag (r : Req) (at_ kind abort : Nat) (body : Octets) : (s.respondTo r at_ kind abort body).jtag = s.jtag := by
  rw [State.respondTo_keeps]

/-! ### respond -/

theorem State.respond_keeps (r : Req) (kind abort : Nat) (body : Octets) : s.respond r kind abort body =
    { s with dict := (s.respond r kind abort body).dict, free := (s.respond r kind abort body).free, out := (s.respond r kind abort body).out, sideTx := (s.respond r kind abort body).sideTx, tv := (s.respond r kind abort body).tv } := by
  unfold State.respond
  rw [State.respondTo_keeps]
@[simp] theorem State.respond_now (r : Req) (kind abort : Nat) (body : Octets) : (s.respond r kind abort body).now = s.now := by
  rw [State.respond_keeps]
@[simp] theorem State.respond_scale (r : Req) (kind abort : Nat) (body : Octets) : (s.respond r kind abort body).scale = s.scale := by
  rw [State.respond_keeps]
@[simp] theorem State.respond_pending (r : Req) (kind abort : Nat) (body : Octets) : (s.respond r kind abort body).pending = s.pending := by
  rw [State.respond_keeps]
@[simp] theorem State.respond_restarting (r : Req) (kind abort : Nat) (body : Octets) : (s.respond r kind abort body).restarting = s.restarting := by
  rw [State.respond_keeps]
@[simp] theorem State.respond_ev (r : Req) (kind abort : Nat) (body : Octets) : (s.respond r kind abort body).ev = s.ev := by
  rw [State.respond_keeps]
@[simp] theorem State.respond_life (r : Req) (kind abort : Nat) (body : Octets) : (s.respond r kind abort body).life = s.life := by
  rw [State.respond_keeps]
@[simp] theorem State.respond_die (r : Req) (kind abort : Nat) (body : Octets) : (s.respond r kind abort body).die = s.die := by
  rw [State.respond_keeps]
@[simp] theorem State.respond_frm (r : Req) (kind abort : Nat) (body : Octets) : (s.respond r kind abort body).frm = s.frm := by
  rw [State.respond_keeps]
@[simp] theorem State.respond_quads (r : Req) (kind abort : Nat) (body : Octets) : (s.respond r kind abort body).quads = s.quads := by
  rw [State.respond_keeps]
@[simp] theorem State.respond_em (r : Req) (kind abort : Nat) (body : Octets) : (s.respond r kind abort body).em = s.em := by
  rw [State.respond_keeps]
@[simp] theorem State.respond_steer (r : Req) (kind abort : Nat) (body : Octets) : (s.respond r kind abort body).steer = s.steer := by
  rw [State.respond_keeps]
@[simp] theorem State.respond_forge (r : Req) (kind abort : Nat) (body : Octets) : (s.respond r kind abort body).forge = s.forge := by
  rw [State.respond_keeps]
@[simp] theorem State.respond_ana (r : Req) (kind abort : Nat) (body : Octets) : (s.respond r kind abort body).ana = s.ana := by
  rw [State.respond_keeps]
@[simp] theorem State.respond_gov (r : Req) (kind abort : Nat) (body : Octets) : (s.respond r kind abort body).gov = s.gov := by
  rw [State.respond_keeps]
@[simp] theorem State.respond_queues (r : Req) (kind abort : Nat) (body : Octets) : (s.respond r kind abort body).queues = s.queues := by
  rw [State.respond_keeps]
@[simp] theorem State.respond_dma (r : Req) (kind abort : Nat) (body : Octets) : (s.respond r kind abort body).dma = s.dma := by
  rw [State.respond_keeps]
@[simp] theorem State.respond_links (r : Req) (kind abort : Nat) (body : Octets) : (s.respond r kind abort body).links = s.links := by
  rw [State.respond_keeps]
@[simp] theorem State.respond_recTok (r : Req) (kind abort : Nat) (body : Octets) : (s.respond r kind abort body).recTok = s.recTok := by
  rw [State.respond_keeps]
@[simp] theorem State.respond_recAt (r : Req) (kind abort : Nat) (body : Octets) : (s.respond r kind abort body).recAt = s.recAt := by
  rw [State.respond_keeps]
@[simp] theorem State.respond_tap (r : Req) (kind abort : Nat) (body : Octets) : (s.respond r kind abort body).tap = s.tap := by
  rw [State.respond_keeps]
@[simp] theorem State.respond_isl (r : Req) (kind abort : Nat) (body : Octets) : (s.respond r kind abort body).isl = s.isl := by
  rw [State.respond_keeps]
@[simp] theorem State.respond_cap (r : Req) (kind abort : Nat) (body : Octets) : (s.respond r kind abort body).cap = s.cap := by
  rw [State.respond_keeps]
@[simp] theorem State.respond_time (r : Req) (kind abort : Nat) (body : Octets) : (s.respond r kind abort body).time = s.time := by
  rw [State.respond_keeps]
@[simp] theorem State.respond_wof (r : Req) (kind abort : Nat) (body : Octets) : (s.respond r kind abort body).wof = s.wof := by
  rw [State.respond_keeps]
@[simp] theorem State.respond_fleet (r : Req) (kind abort : Nat) (body : Octets) : (s.respond r kind abort body).fleet = s.fleet := by
  rw [State.respond_keeps]
@[simp] theorem State.respond_plv (r : Req) (kind abort : Nat) (body : Octets) : (s.respond r kind abort body).plv = s.plv := by
  rw [State.respond_keeps]
@[simp] theorem State.respond_sens (r : Req) (kind abort : Nat) (body : Octets) : (s.respond r kind abort body).sens = s.sens := by
  rw [State.respond_keeps]
@[simp] theorem State.respond_pilot (r : Req) (kind abort : Nat) (body : Octets) : (s.respond r kind abort body).pilot = s.pilot := by
  rw [State.respond_keeps]
@[simp] theorem State.respond_nv (r : Req) (kind abort : Nat) (body : Octets) : (s.respond r kind abort body).nv = s.nv := by
  rw [State.respond_keeps]
@[simp] theorem State.respond_blobs (r : Req) (kind abort : Nat) (body : Octets) : (s.respond r kind abort body).blobs = s.blobs := by
  rw [State.respond_keeps]
@[simp] theorem State.respond_jtag (r : Req) (kind abort : Nat) (body : Octets) : (s.respond r kind abort body).jtag = s.jtag := by
  rw [State.respond_keeps]

/-! ### respondLate -/

theorem State.respondLate_keeps (x : Running) (kind abort : Nat) (body : Octets) : s.respondLate x kind abort body =
    { s with dict := (s.respondLate x kind abort body).dict, free := (s.respondLate x kind abort body).free, out := (s.respondLate x kind abort body).out, sideTx := (s.respondLate x kind abort body).sideTx, tv := (s.respondLate x kind abort body).tv } := by
  unfold State.respondLate
  split
  · rw [State.respondTo_keeps]
  · rfl
@[simp] theorem State.respondLate_now (x : Running) (kind abort : Nat) (body : Octets) : (s.respondLate x kind abort body).now = s.now := by
  rw [State.respondLate_keeps]
@[simp] theorem State.respondLate_scale (x : Running) (kind abort : Nat) (body : Octets) : (s.respondLate x kind abort body).scale = s.scale := by
  rw [State.respondLate_keeps]
@[simp] theorem State.respondLate_pending (x : Running) (kind abort : Nat) (body : Octets) : (s.respondLate x kind abort body).pending = s.pending := by
  rw [State.respondLate_keeps]
@[simp] theorem State.respondLate_restarting (x : Running) (kind abort : Nat) (body : Octets) : (s.respondLate x kind abort body).restarting = s.restarting := by
  rw [State.respondLate_keeps]
@[simp] theorem State.respondLate_ev (x : Running) (kind abort : Nat) (body : Octets) : (s.respondLate x kind abort body).ev = s.ev := by
  rw [State.respondLate_keeps]
@[simp] theorem State.respondLate_life (x : Running) (kind abort : Nat) (body : Octets) : (s.respondLate x kind abort body).life = s.life := by
  rw [State.respondLate_keeps]
@[simp] theorem State.respondLate_die (x : Running) (kind abort : Nat) (body : Octets) : (s.respondLate x kind abort body).die = s.die := by
  rw [State.respondLate_keeps]
@[simp] theorem State.respondLate_frm (x : Running) (kind abort : Nat) (body : Octets) : (s.respondLate x kind abort body).frm = s.frm := by
  rw [State.respondLate_keeps]
@[simp] theorem State.respondLate_quads (x : Running) (kind abort : Nat) (body : Octets) : (s.respondLate x kind abort body).quads = s.quads := by
  rw [State.respondLate_keeps]
@[simp] theorem State.respondLate_em (x : Running) (kind abort : Nat) (body : Octets) : (s.respondLate x kind abort body).em = s.em := by
  rw [State.respondLate_keeps]
@[simp] theorem State.respondLate_steer (x : Running) (kind abort : Nat) (body : Octets) : (s.respondLate x kind abort body).steer = s.steer := by
  rw [State.respondLate_keeps]
@[simp] theorem State.respondLate_forge (x : Running) (kind abort : Nat) (body : Octets) : (s.respondLate x kind abort body).forge = s.forge := by
  rw [State.respondLate_keeps]
@[simp] theorem State.respondLate_ana (x : Running) (kind abort : Nat) (body : Octets) : (s.respondLate x kind abort body).ana = s.ana := by
  rw [State.respondLate_keeps]
@[simp] theorem State.respondLate_gov (x : Running) (kind abort : Nat) (body : Octets) : (s.respondLate x kind abort body).gov = s.gov := by
  rw [State.respondLate_keeps]
@[simp] theorem State.respondLate_queues (x : Running) (kind abort : Nat) (body : Octets) : (s.respondLate x kind abort body).queues = s.queues := by
  rw [State.respondLate_keeps]
@[simp] theorem State.respondLate_dma (x : Running) (kind abort : Nat) (body : Octets) : (s.respondLate x kind abort body).dma = s.dma := by
  rw [State.respondLate_keeps]
@[simp] theorem State.respondLate_links (x : Running) (kind abort : Nat) (body : Octets) : (s.respondLate x kind abort body).links = s.links := by
  rw [State.respondLate_keeps]
@[simp] theorem State.respondLate_recTok (x : Running) (kind abort : Nat) (body : Octets) : (s.respondLate x kind abort body).recTok = s.recTok := by
  rw [State.respondLate_keeps]
@[simp] theorem State.respondLate_recAt (x : Running) (kind abort : Nat) (body : Octets) : (s.respondLate x kind abort body).recAt = s.recAt := by
  rw [State.respondLate_keeps]
@[simp] theorem State.respondLate_tap (x : Running) (kind abort : Nat) (body : Octets) : (s.respondLate x kind abort body).tap = s.tap := by
  rw [State.respondLate_keeps]
@[simp] theorem State.respondLate_isl (x : Running) (kind abort : Nat) (body : Octets) : (s.respondLate x kind abort body).isl = s.isl := by
  rw [State.respondLate_keeps]
@[simp] theorem State.respondLate_cap (x : Running) (kind abort : Nat) (body : Octets) : (s.respondLate x kind abort body).cap = s.cap := by
  rw [State.respondLate_keeps]
@[simp] theorem State.respondLate_time (x : Running) (kind abort : Nat) (body : Octets) : (s.respondLate x kind abort body).time = s.time := by
  rw [State.respondLate_keeps]
@[simp] theorem State.respondLate_wof (x : Running) (kind abort : Nat) (body : Octets) : (s.respondLate x kind abort body).wof = s.wof := by
  rw [State.respondLate_keeps]
@[simp] theorem State.respondLate_fleet (x : Running) (kind abort : Nat) (body : Octets) : (s.respondLate x kind abort body).fleet = s.fleet := by
  rw [State.respondLate_keeps]
@[simp] theorem State.respondLate_plv (x : Running) (kind abort : Nat) (body : Octets) : (s.respondLate x kind abort body).plv = s.plv := by
  rw [State.respondLate_keeps]
@[simp] theorem State.respondLate_sens (x : Running) (kind abort : Nat) (body : Octets) : (s.respondLate x kind abort body).sens = s.sens := by
  rw [State.respondLate_keeps]
@[simp] theorem State.respondLate_pilot (x : Running) (kind abort : Nat) (body : Octets) : (s.respondLate x kind abort body).pilot = s.pilot := by
  rw [State.respondLate_keeps]
@[simp] theorem State.respondLate_nv (x : Running) (kind abort : Nat) (body : Octets) : (s.respondLate x kind abort body).nv = s.nv := by
  rw [State.respondLate_keeps]
@[simp] theorem State.respondLate_blobs (x : Running) (kind abort : Nat) (body : Octets) : (s.respondLate x kind abort body).blobs = s.blobs := by
  rw [State.respondLate_keeps]
@[simp] theorem State.respondLate_jtag (x : Running) (kind abort : Nat) (body : Octets) : (s.respondLate x kind abort body).jtag = s.jtag := by
  rw [State.respondLate_keeps]

/-! ### accept -/

theorem State.accept_keeps (q : Req) (e : Entry) (long : Bool) : s.accept q e long =
    { s with dict := (s.accept q e long).dict, free := (s.accept q e long).free, out := (s.accept q e long).out, sideTx := (s.accept q e long).sideTx, tv := (s.accept q e long).tv } := by
  unfold State.accept
  split
  · split
    · rfl
    · rw [State.respond_keeps]
  · rw [State.respond_keeps]
@[simp] theorem State.accept_now (q : Req) (e : Entry) (long : Bool) : (s.accept q e long).now = s.now := by
  rw [State.accept_keeps]
@[simp] theorem State.accept_scale (q : Req) (e : Entry) (long : Bool) : (s.accept q e long).scale = s.scale := by
  rw [State.accept_keeps]
@[simp] theorem State.accept_pending (q : Req) (e : Entry) (long : Bool) : (s.accept q e long).pending = s.pending := by
  rw [State.accept_keeps]
@[simp] theorem State.accept_restarting (q : Req) (e : Entry) (long : Bool) : (s.accept q e long).restarting = s.restarting := by
  rw [State.accept_keeps]
@[simp] theorem State.accept_ev (q : Req) (e : Entry) (long : Bool) : (s.accept q e long).ev = s.ev := by
  rw [State.accept_keeps]
@[simp] theorem State.accept_life (q : Req) (e : Entry) (long : Bool) : (s.accept q e long).life = s.life := by
  rw [State.accept_keeps]
@[simp] theorem State.accept_die (q : Req) (e : Entry) (long : Bool) : (s.accept q e long).die = s.die := by
  rw [State.accept_keeps]
@[simp] theorem State.accept_frm (q : Req) (e : Entry) (long : Bool) : (s.accept q e long).frm = s.frm := by
  rw [State.accept_keeps]
@[simp] theorem State.accept_quads (q : Req) (e : Entry) (long : Bool) : (s.accept q e long).quads = s.quads := by
  rw [State.accept_keeps]
@[simp] theorem State.accept_em (q : Req) (e : Entry) (long : Bool) : (s.accept q e long).em = s.em := by
  rw [State.accept_keeps]
@[simp] theorem State.accept_steer (q : Req) (e : Entry) (long : Bool) : (s.accept q e long).steer = s.steer := by
  rw [State.accept_keeps]
@[simp] theorem State.accept_forge (q : Req) (e : Entry) (long : Bool) : (s.accept q e long).forge = s.forge := by
  rw [State.accept_keeps]
@[simp] theorem State.accept_ana (q : Req) (e : Entry) (long : Bool) : (s.accept q e long).ana = s.ana := by
  rw [State.accept_keeps]
@[simp] theorem State.accept_gov (q : Req) (e : Entry) (long : Bool) : (s.accept q e long).gov = s.gov := by
  rw [State.accept_keeps]
@[simp] theorem State.accept_queues (q : Req) (e : Entry) (long : Bool) : (s.accept q e long).queues = s.queues := by
  rw [State.accept_keeps]
@[simp] theorem State.accept_dma (q : Req) (e : Entry) (long : Bool) : (s.accept q e long).dma = s.dma := by
  rw [State.accept_keeps]
@[simp] theorem State.accept_links (q : Req) (e : Entry) (long : Bool) : (s.accept q e long).links = s.links := by
  rw [State.accept_keeps]
@[simp] theorem State.accept_recTok (q : Req) (e : Entry) (long : Bool) : (s.accept q e long).recTok = s.recTok := by
  rw [State.accept_keeps]
@[simp] theorem State.accept_recAt (q : Req) (e : Entry) (long : Bool) : (s.accept q e long).recAt = s.recAt := by
  rw [State.accept_keeps]
@[simp] theorem State.accept_tap (q : Req) (e : Entry) (long : Bool) : (s.accept q e long).tap = s.tap := by
  rw [State.accept_keeps]
@[simp] theorem State.accept_isl (q : Req) (e : Entry) (long : Bool) : (s.accept q e long).isl = s.isl := by
  rw [State.accept_keeps]
@[simp] theorem State.accept_cap (q : Req) (e : Entry) (long : Bool) : (s.accept q e long).cap = s.cap := by
  rw [State.accept_keeps]
@[simp] theorem State.accept_time (q : Req) (e : Entry) (long : Bool) : (s.accept q e long).time = s.time := by
  rw [State.accept_keeps]
@[simp] theorem State.accept_wof (q : Req) (e : Entry) (long : Bool) : (s.accept q e long).wof = s.wof := by
  rw [State.accept_keeps]
@[simp] theorem State.accept_fleet (q : Req) (e : Entry) (long : Bool) : (s.accept q e long).fleet = s.fleet := by
  rw [State.accept_keeps]
@[simp] theorem State.accept_plv (q : Req) (e : Entry) (long : Bool) : (s.accept q e long).plv = s.plv := by
  rw [State.accept_keeps]
@[simp] theorem State.accept_sens (q : Req) (e : Entry) (long : Bool) : (s.accept q e long).sens = s.sens := by
  rw [State.accept_keeps]
@[simp] theorem State.accept_pilot (q : Req) (e : Entry) (long : Bool) : (s.accept q e long).pilot = s.pilot := by
  rw [State.accept_keeps]
@[simp] theorem State.accept_nv (q : Req) (e : Entry) (long : Bool) : (s.accept q e long).nv = s.nv := by
  rw [State.accept_keeps]
@[simp] theorem State.accept_blobs (q : Req) (e : Entry) (long : Bool) : (s.accept q e long).blobs = s.blobs := by
  rw [State.accept_keeps]
@[simp] theorem State.accept_jtag (q : Req) (e : Entry) (long : Bool) : (s.accept q e long).jtag = s.jtag := by
  rw [State.accept_keeps]

/-! ### answerRead -/

theorem State.answerRead_keeps (q : Req) (obj el ty : Nat) (val : Octets) : s.answerRead q obj el ty val =
    { s with dict := (s.answerRead q obj el ty val).dict, free := (s.answerRead q obj el ty val).free, out := (s.answerRead q obj el ty val).out, sideTx := (s.answerRead q obj el ty val).sideTx, tv := (s.answerRead q obj el ty val).tv } := by
  unfold State.answerRead
  rw [State.respond_keeps]
@[simp] theorem State.answerRead_now (q : Req) (obj el ty : Nat) (val : Octets) : (s.answerRead q obj el ty val).now = s.now := by
  rw [State.answerRead_keeps]
@[simp] theorem State.answerRead_scale (q : Req) (obj el ty : Nat) (val : Octets) : (s.answerRead q obj el ty val).scale = s.scale := by
  rw [State.answerRead_keeps]
@[simp] theorem State.answerRead_pending (q : Req) (obj el ty : Nat) (val : Octets) : (s.answerRead q obj el ty val).pending = s.pending := by
  rw [State.answerRead_keeps]
@[simp] theorem State.answerRead_restarting (q : Req) (obj el ty : Nat) (val : Octets) : (s.answerRead q obj el ty val).restarting = s.restarting := by
  rw [State.answerRead_keeps]
@[simp] theorem State.answerRead_ev (q : Req) (obj el ty : Nat) (val : Octets) : (s.answerRead q obj el ty val).ev = s.ev := by
  rw [State.answerRead_keeps]
@[simp] theorem State.answerRead_life (q : Req) (obj el ty : Nat) (val : Octets) : (s.answerRead q obj el ty val).life = s.life := by
  rw [State.answerRead_keeps]
@[simp] theorem State.answerRead_die (q : Req) (obj el ty : Nat) (val : Octets) : (s.answerRead q obj el ty val).die = s.die := by
  rw [State.answerRead_keeps]
@[simp] theorem State.answerRead_frm (q : Req) (obj el ty : Nat) (val : Octets) : (s.answerRead q obj el ty val).frm = s.frm := by
  rw [State.answerRead_keeps]
@[simp] theorem State.answerRead_quads (q : Req) (obj el ty : Nat) (val : Octets) : (s.answerRead q obj el ty val).quads = s.quads := by
  rw [State.answerRead_keeps]
@[simp] theorem State.answerRead_em (q : Req) (obj el ty : Nat) (val : Octets) : (s.answerRead q obj el ty val).em = s.em := by
  rw [State.answerRead_keeps]
@[simp] theorem State.answerRead_steer (q : Req) (obj el ty : Nat) (val : Octets) : (s.answerRead q obj el ty val).steer = s.steer := by
  rw [State.answerRead_keeps]
@[simp] theorem State.answerRead_forge (q : Req) (obj el ty : Nat) (val : Octets) : (s.answerRead q obj el ty val).forge = s.forge := by
  rw [State.answerRead_keeps]
@[simp] theorem State.answerRead_ana (q : Req) (obj el ty : Nat) (val : Octets) : (s.answerRead q obj el ty val).ana = s.ana := by
  rw [State.answerRead_keeps]
@[simp] theorem State.answerRead_gov (q : Req) (obj el ty : Nat) (val : Octets) : (s.answerRead q obj el ty val).gov = s.gov := by
  rw [State.answerRead_keeps]
@[simp] theorem State.answerRead_queues (q : Req) (obj el ty : Nat) (val : Octets) : (s.answerRead q obj el ty val).queues = s.queues := by
  rw [State.answerRead_keeps]
@[simp] theorem State.answerRead_dma (q : Req) (obj el ty : Nat) (val : Octets) : (s.answerRead q obj el ty val).dma = s.dma := by
  rw [State.answerRead_keeps]
@[simp] theorem State.answerRead_links (q : Req) (obj el ty : Nat) (val : Octets) : (s.answerRead q obj el ty val).links = s.links := by
  rw [State.answerRead_keeps]
@[simp] theorem State.answerRead_recTok (q : Req) (obj el ty : Nat) (val : Octets) : (s.answerRead q obj el ty val).recTok = s.recTok := by
  rw [State.answerRead_keeps]
@[simp] theorem State.answerRead_recAt (q : Req) (obj el ty : Nat) (val : Octets) : (s.answerRead q obj el ty val).recAt = s.recAt := by
  rw [State.answerRead_keeps]
@[simp] theorem State.answerRead_tap (q : Req) (obj el ty : Nat) (val : Octets) : (s.answerRead q obj el ty val).tap = s.tap := by
  rw [State.answerRead_keeps]
@[simp] theorem State.answerRead_isl (q : Req) (obj el ty : Nat) (val : Octets) : (s.answerRead q obj el ty val).isl = s.isl := by
  rw [State.answerRead_keeps]
@[simp] theorem State.answerRead_cap (q : Req) (obj el ty : Nat) (val : Octets) : (s.answerRead q obj el ty val).cap = s.cap := by
  rw [State.answerRead_keeps]
@[simp] theorem State.answerRead_time (q : Req) (obj el ty : Nat) (val : Octets) : (s.answerRead q obj el ty val).time = s.time := by
  rw [State.answerRead_keeps]
@[simp] theorem State.answerRead_wof (q : Req) (obj el ty : Nat) (val : Octets) : (s.answerRead q obj el ty val).wof = s.wof := by
  rw [State.answerRead_keeps]
@[simp] theorem State.answerRead_fleet (q : Req) (obj el ty : Nat) (val : Octets) : (s.answerRead q obj el ty val).fleet = s.fleet := by
  rw [State.answerRead_keeps]
@[simp] theorem State.answerRead_plv (q : Req) (obj el ty : Nat) (val : Octets) : (s.answerRead q obj el ty val).plv = s.plv := by
  rw [State.answerRead_keeps]
@[simp] theorem State.answerRead_sens (q : Req) (obj el ty : Nat) (val : Octets) : (s.answerRead q obj el ty val).sens = s.sens := by
  rw [State.answerRead_keeps]
@[simp] theorem State.answerRead_pilot (q : Req) (obj el ty : Nat) (val : Octets) : (s.answerRead q obj el ty val).pilot = s.pilot := by
  rw [State.answerRead_keeps]
@[simp] theorem State.answerRead_nv (q : Req) (obj el ty : Nat) (val : Octets) : (s.answerRead q obj el ty val).nv = s.nv := by
  rw [State.answerRead_keeps]
@[simp] theorem State.answerRead_blobs (q : Req) (obj el ty : Nat) (val : Octets) : (s.answerRead q obj el ty val).blobs = s.blobs := by
  rw [State.answerRead_keeps]
@[simp] theorem State.answerRead_jtag (q : Req) (obj el ty : Nat) (val : Octets) : (s.answerRead q obj el ty val).jtag = s.jtag := by
  rw [State.answerRead_keeps]

/-! ### commandDone -/

theorem State.commandDone_keeps (obj : Nat) : s.commandDone obj =
    { s with dict := (s.commandDone obj).dict, free := (s.commandDone obj).free, out := (s.commandDone obj).out, sideTx := (s.commandDone obj).sideTx, tv := (s.commandDone obj).tv } := by
  unfold State.commandDone
  split
  · rfl
  · dsimp only
    split
    · rfl
    · rw [State.respondLate_keeps]
@[simp] theorem State.commandDone_now (obj : Nat) : (s.commandDone obj).now = s.now := by
  rw [State.commandDone_keeps]
@[simp] theorem State.commandDone_scale (obj : Nat) : (s.commandDone obj).scale = s.scale := by
  rw [State.commandDone_keeps]
@[simp] theorem State.commandDone_pending (obj : Nat) : (s.commandDone obj).pending = s.pending := by
  rw [State.commandDone_keeps]
@[simp] theorem State.commandDone_restarting (obj : Nat) : (s.commandDone obj).restarting = s.restarting := by
  rw [State.commandDone_keeps]
@[simp] theorem State.commandDone_ev (obj : Nat) : (s.commandDone obj).ev = s.ev := by
  rw [State.commandDone_keeps]
@[simp] theorem State.commandDone_life (obj : Nat) : (s.commandDone obj).life = s.life := by
  rw [State.commandDone_keeps]
@[simp] theorem State.commandDone_die (obj : Nat) : (s.commandDone obj).die = s.die := by
  rw [State.commandDone_keeps]
@[simp] theorem State.commandDone_frm (obj : Nat) : (s.commandDone obj).frm = s.frm := by
  rw [State.commandDone_keeps]
@[simp] theorem State.commandDone_quads (obj : Nat) : (s.commandDone obj).quads = s.quads := by
  rw [State.commandDone_keeps]
@[simp] theorem State.commandDone_em (obj : Nat) : (s.commandDone obj).em = s.em := by
  rw [State.commandDone_keeps]
@[simp] theorem State.commandDone_steer (obj : Nat) : (s.commandDone obj).steer = s.steer := by
  rw [State.commandDone_keeps]
@[simp] theorem State.commandDone_forge (obj : Nat) : (s.commandDone obj).forge = s.forge := by
  rw [State.commandDone_keeps]
@[simp] theorem State.commandDone_ana (obj : Nat) : (s.commandDone obj).ana = s.ana := by
  rw [State.commandDone_keeps]
@[simp] theorem State.commandDone_gov (obj : Nat) : (s.commandDone obj).gov = s.gov := by
  rw [State.commandDone_keeps]
@[simp] theorem State.commandDone_queues (obj : Nat) : (s.commandDone obj).queues = s.queues := by
  rw [State.commandDone_keeps]
@[simp] theorem State.commandDone_dma (obj : Nat) : (s.commandDone obj).dma = s.dma := by
  rw [State.commandDone_keeps]
@[simp] theorem State.commandDone_links (obj : Nat) : (s.commandDone obj).links = s.links := by
  rw [State.commandDone_keeps]
@[simp] theorem State.commandDone_recTok (obj : Nat) : (s.commandDone obj).recTok = s.recTok := by
  rw [State.commandDone_keeps]
@[simp] theorem State.commandDone_recAt (obj : Nat) : (s.commandDone obj).recAt = s.recAt := by
  rw [State.commandDone_keeps]
@[simp] theorem State.commandDone_tap (obj : Nat) : (s.commandDone obj).tap = s.tap := by
  rw [State.commandDone_keeps]
@[simp] theorem State.commandDone_isl (obj : Nat) : (s.commandDone obj).isl = s.isl := by
  rw [State.commandDone_keeps]
@[simp] theorem State.commandDone_cap (obj : Nat) : (s.commandDone obj).cap = s.cap := by
  rw [State.commandDone_keeps]
@[simp] theorem State.commandDone_time (obj : Nat) : (s.commandDone obj).time = s.time := by
  rw [State.commandDone_keeps]
@[simp] theorem State.commandDone_wof (obj : Nat) : (s.commandDone obj).wof = s.wof := by
  rw [State.commandDone_keeps]
@[simp] theorem State.commandDone_fleet (obj : Nat) : (s.commandDone obj).fleet = s.fleet := by
  rw [State.commandDone_keeps]
@[simp] theorem State.commandDone_plv (obj : Nat) : (s.commandDone obj).plv = s.plv := by
  rw [State.commandDone_keeps]
@[simp] theorem State.commandDone_sens (obj : Nat) : (s.commandDone obj).sens = s.sens := by
  rw [State.commandDone_keeps]
@[simp] theorem State.commandDone_pilot (obj : Nat) : (s.commandDone obj).pilot = s.pilot := by
  rw [State.commandDone_keeps]
@[simp] theorem State.commandDone_nv (obj : Nat) : (s.commandDone obj).nv = s.nv := by
  rw [State.commandDone_keeps]
@[simp] theorem State.commandDone_blobs (obj : Nat) : (s.commandDone obj).blobs = s.blobs := by
  rw [State.commandDone_keeps]
@[simp] theorem State.commandDone_jtag (obj : Nat) : (s.commandDone obj).jtag = s.jtag := by
  rw [State.commandDone_keeps]

/-! ### requestDone -/

theorem State.requestDone_keeps (obj arg : Nat) : s.requestDone obj arg =
    { s with dict := (s.requestDone obj arg).dict, free := (s.requestDone obj arg).free, out := (s.requestDone obj arg).out, sideTx := (s.requestDone obj arg).sideTx, tv := (s.requestDone obj arg).tv } := by
  unfold State.requestDone
  split
  · rfl
  · split
    · rfl
    · dsimp only
      split
      · rfl
      · rw [State.respondLate_keeps]
@[simp] theorem State.requestDone_now (obj arg : Nat) : (s.requestDone obj arg).now = s.now := by
  rw [State.requestDone_keeps]
@[simp] theorem State.requestDone_scale (obj arg : Nat) : (s.requestDone obj arg).scale = s.scale := by
  rw [State.requestDone_keeps]
@[simp] theorem State.requestDone_pending (obj arg : Nat) : (s.requestDone obj arg).pending = s.pending := by
  rw [State.requestDone_keeps]
@[simp] theorem State.requestDone_restarting (obj arg : Nat) : (s.requestDone obj arg).restarting = s.restarting := by
  rw [State.requestDone_keeps]
@[simp] theorem State.requestDone_ev (obj arg : Nat) : (s.requestDone obj arg).ev = s.ev := by
  rw [State.requestDone_keeps]
@[simp] theorem State.requestDone_life (obj arg : Nat) : (s.requestDone obj arg).life = s.life := by
  rw [State.requestDone_keeps]
@[simp] theorem State.requestDone_die (obj arg : Nat) : (s.requestDone obj arg).die = s.die := by
  rw [State.requestDone_keeps]
@[simp] theorem State.requestDone_frm (obj arg : Nat) : (s.requestDone obj arg).frm = s.frm := by
  rw [State.requestDone_keeps]
@[simp] theorem State.requestDone_quads (obj arg : Nat) : (s.requestDone obj arg).quads = s.quads := by
  rw [State.requestDone_keeps]
@[simp] theorem State.requestDone_em (obj arg : Nat) : (s.requestDone obj arg).em = s.em := by
  rw [State.requestDone_keeps]
@[simp] theorem State.requestDone_steer (obj arg : Nat) : (s.requestDone obj arg).steer = s.steer := by
  rw [State.requestDone_keeps]
@[simp] theorem State.requestDone_forge (obj arg : Nat) : (s.requestDone obj arg).forge = s.forge := by
  rw [State.requestDone_keeps]
@[simp] theorem State.requestDone_ana (obj arg : Nat) : (s.requestDone obj arg).ana = s.ana := by
  rw [State.requestDone_keeps]
@[simp] theorem State.requestDone_gov (obj arg : Nat) : (s.requestDone obj arg).gov = s.gov := by
  rw [State.requestDone_keeps]
@[simp] theorem State.requestDone_queues (obj arg : Nat) : (s.requestDone obj arg).queues = s.queues := by
  rw [State.requestDone_keeps]
@[simp] theorem State.requestDone_dma (obj arg : Nat) : (s.requestDone obj arg).dma = s.dma := by
  rw [State.requestDone_keeps]
@[simp] theorem State.requestDone_links (obj arg : Nat) : (s.requestDone obj arg).links = s.links := by
  rw [State.requestDone_keeps]
@[simp] theorem State.requestDone_recTok (obj arg : Nat) : (s.requestDone obj arg).recTok = s.recTok := by
  rw [State.requestDone_keeps]
@[simp] theorem State.requestDone_recAt (obj arg : Nat) : (s.requestDone obj arg).recAt = s.recAt := by
  rw [State.requestDone_keeps]
@[simp] theorem State.requestDone_tap (obj arg : Nat) : (s.requestDone obj arg).tap = s.tap := by
  rw [State.requestDone_keeps]
@[simp] theorem State.requestDone_isl (obj arg : Nat) : (s.requestDone obj arg).isl = s.isl := by
  rw [State.requestDone_keeps]
@[simp] theorem State.requestDone_cap (obj arg : Nat) : (s.requestDone obj arg).cap = s.cap := by
  rw [State.requestDone_keeps]
@[simp] theorem State.requestDone_time (obj arg : Nat) : (s.requestDone obj arg).time = s.time := by
  rw [State.requestDone_keeps]
@[simp] theorem State.requestDone_wof (obj arg : Nat) : (s.requestDone obj arg).wof = s.wof := by
  rw [State.requestDone_keeps]
@[simp] theorem State.requestDone_fleet (obj arg : Nat) : (s.requestDone obj arg).fleet = s.fleet := by
  rw [State.requestDone_keeps]
@[simp] theorem State.requestDone_plv (obj arg : Nat) : (s.requestDone obj arg).plv = s.plv := by
  rw [State.requestDone_keeps]
@[simp] theorem State.requestDone_sens (obj arg : Nat) : (s.requestDone obj arg).sens = s.sens := by
  rw [State.requestDone_keeps]
@[simp] theorem State.requestDone_pilot (obj arg : Nat) : (s.requestDone obj arg).pilot = s.pilot := by
  rw [State.requestDone_keeps]
@[simp] theorem State.requestDone_nv (obj arg : Nat) : (s.requestDone obj arg).nv = s.nv := by
  rw [State.requestDone_keeps]
@[simp] theorem State.requestDone_blobs (obj arg : Nat) : (s.requestDone obj arg).blobs = s.blobs := by
  rw [State.requestDone_keeps]
@[simp] theorem State.requestDone_jtag (obj arg : Nat) : (s.requestDone obj arg).jtag = s.jtag := by
  rw [State.requestDone_keeps]

/-! ### sendEvents -/

theorem State.sendEvents_keeps (port master src : Nat) (recs : List EvRec) : s.sendEvents port master src recs =
    { s with out := (s.sendEvents port master src recs).out, sideTx := (s.sendEvents port master src recs).sideTx, tv := (s.sendEvents port master src recs).tv } := by
  unfold State.sendEvents
  split
  · rfl
  · dsimp only
    rw [State.sendMsg_keeps]
@[simp] theorem State.sendEvents_now (port master src : Nat) (recs : List EvRec) : (s.sendEvents port master src recs).now = s.now := by
  rw [State.sendEvents_keeps]
@[simp] theorem State.sendEvents_scale (port master src : Nat) (recs : List EvRec) : (s.sendEvents port master src recs).scale = s.scale := by
  rw [State.sendEvents_keeps]
@[simp] theorem State.sendEvents_free (port master src : Nat) (recs : List EvRec) : (s.sendEvents port master src recs).free = s.free := by
  rw [State.sendEvents_keeps]
@[simp] theorem State.sendEvents_pending (port master src : Nat) (recs : List EvRec) : (s.sendEvents port master src recs).pending = s.pending := by
  rw [State.sendEvents_keeps]
@[simp] theorem State.sendEvents_dict (port master src : Nat) (recs : List EvRec) : (s.sendEvents port master src recs).dict = s.dict := by
  rw [State.sendEvents_keeps]
@[simp] theorem State.sendEvents_restarting (port master src : Nat) (recs : List EvRec) : (s.sendEvents port master src recs).restarting = s.restarting := by
  rw [State.sendEvents_keeps]
@[simp] theorem State.sendEvents_ev (port master src : Nat) (recs : List EvRec) : (s.sendEvents port master src recs).ev = s.ev := by
  rw [State.sendEvents_keeps]
@[simp] theorem State.sendEvents_life (port master src : Nat) (recs : List EvRec) : (s.sendEvents port master src recs).life = s.life := by
  rw [State.sendEvents_keeps]
@[simp] theorem State.sendEvents_die (port master src : Nat) (recs : List EvRec) : (s.sendEvents port master src recs).die = s.die := by
  rw [State.sendEvents_keeps]
@[simp] theorem State.sendEvents_frm (port master src : Nat) (recs : List EvRec) : (s.sendEvents port master src recs).frm = s.frm := by
  rw [State.sendEvents_keeps]
@[simp] theorem State.sendEvents_quads (port master src : Nat) (recs : List EvRec) : (s.sendEvents port master src recs).quads = s.quads := by
  rw [State.sendEvents_keeps]
@[simp] theorem State.sendEvents_em (port master src : Nat) (recs : List EvRec) : (s.sendEvents port master src recs).em = s.em := by
  rw [State.sendEvents_keeps]
@[simp] theorem State.sendEvents_steer (port master src : Nat) (recs : List EvRec) : (s.sendEvents port master src recs).steer = s.steer := by
  rw [State.sendEvents_keeps]
@[simp] theorem State.sendEvents_forge (port master src : Nat) (recs : List EvRec) : (s.sendEvents port master src recs).forge = s.forge := by
  rw [State.sendEvents_keeps]
@[simp] theorem State.sendEvents_ana (port master src : Nat) (recs : List EvRec) : (s.sendEvents port master src recs).ana = s.ana := by
  rw [State.sendEvents_keeps]
@[simp] theorem State.sendEvents_gov (port master src : Nat) (recs : List EvRec) : (s.sendEvents port master src recs).gov = s.gov := by
  rw [State.sendEvents_keeps]
@[simp] theorem State.sendEvents_queues (port master src : Nat) (recs : List EvRec) : (s.sendEvents port master src recs).queues = s.queues := by
  rw [State.sendEvents_keeps]
@[simp] theorem State.sendEvents_dma (port master src : Nat) (recs : List EvRec) : (s.sendEvents port master src recs).dma = s.dma := by
  rw [State.sendEvents_keeps]
@[simp] theorem State.sendEvents_links (port master src : Nat) (recs : List EvRec) : (s.sendEvents port master src recs).links = s.links := by
  rw [State.sendEvents_keeps]
@[simp] theorem State.sendEvents_recTok (port master src : Nat) (recs : List EvRec) : (s.sendEvents port master src recs).recTok = s.recTok := by
  rw [State.sendEvents_keeps]
@[simp] theorem State.sendEvents_recAt (port master src : Nat) (recs : List EvRec) : (s.sendEvents port master src recs).recAt = s.recAt := by
  rw [State.sendEvents_keeps]
@[simp] theorem State.sendEvents_tap (port master src : Nat) (recs : List EvRec) : (s.sendEvents port master src recs).tap = s.tap := by
  rw [State.sendEvents_keeps]
@[simp] theorem State.sendEvents_isl (port master src : Nat) (recs : List EvRec) : (s.sendEvents port master src recs).isl = s.isl := by
  rw [State.sendEvents_keeps]
@[simp] theorem State.sendEvents_cap (port master src : Nat) (recs : List EvRec) : (s.sendEvents port master src recs).cap = s.cap := by
  rw [State.sendEvents_keeps]
@[simp] theorem State.sendEvents_time (port master src : Nat) (recs : List EvRec) : (s.sendEvents port master src recs).time = s.time := by
  rw [State.sendEvents_keeps]
@[simp] theorem State.sendEvents_wof (port master src : Nat) (recs : List EvRec) : (s.sendEvents port master src recs).wof = s.wof := by
  rw [State.sendEvents_keeps]
@[simp] theorem State.sendEvents_fleet (port master src : Nat) (recs : List EvRec) : (s.sendEvents port master src recs).fleet = s.fleet := by
  rw [State.sendEvents_keeps]
@[simp] theorem State.sendEvents_plv (port master src : Nat) (recs : List EvRec) : (s.sendEvents port master src recs).plv = s.plv := by
  rw [State.sendEvents_keeps]
@[simp] theorem State.sendEvents_sens (port master src : Nat) (recs : List EvRec) : (s.sendEvents port master src recs).sens = s.sens := by
  rw [State.sendEvents_keeps]
@[simp] theorem State.sendEvents_pilot (port master src : Nat) (recs : List EvRec) : (s.sendEvents port master src recs).pilot = s.pilot := by
  rw [State.sendEvents_keeps]
@[simp] theorem State.sendEvents_nv (port master src : Nat) (recs : List EvRec) : (s.sendEvents port master src recs).nv = s.nv := by
  rw [State.sendEvents_keeps]
@[simp] theorem State.sendEvents_blobs (port master src : Nat) (recs : List EvRec) : (s.sendEvents port master src recs).blobs = s.blobs := by
  rw [State.sendEvents_keeps]
@[simp] theorem State.sendEvents_jtag (port master src : Nat) (recs : List EvRec) : (s.sendEvents port master src recs).jtag = s.jtag := by
  rw [State.sendEvents_keeps]

/-! ### tellConflict -/

theorem State.tellConflict_keeps (gone : List Pend) (ms : List (Nat × Nat)) : s.tellConflict gone ms =
    { s with out := (s.tellConflict gone ms).out, sideTx := (s.tellConflict gone ms).sideTx, tv := (s.tellConflict gone ms).tv } := by
  induction ms generalizing s with
  | nil => rfl
  | cons m ms ih => unfold State.tellConflict; rw [ih, State.sendEvents_keeps]
@[simp] theorem State.tellConflict_now (gone : List Pend) (ms : List (Nat × Nat)) : (s.tellConflict gone ms).now = s.now := by
  rw [State.tellConflict_keeps]
@[simp] theorem State.tellConflict_scale (gone : List Pend) (ms : List (Nat × Nat)) : (s.tellConflict gone ms).scale = s.scale := by
  rw [State.tellConflict_keeps]
@[simp] theorem State.tellConflict_free (gone : List Pend) (ms : List (Nat × Nat)) : (s.tellConflict gone ms).free = s.free := by
  rw [State.tellConflict_keeps]
@[simp] theorem State.tellConflict_pending (gone : List Pend) (ms : List (Nat × Nat)) : (s.tellConflict gone ms).pending = s.pending := by
  rw [State.tellConflict_keeps]
@[simp] theorem State.tellConflict_dict (gone : List Pend) (ms : List (Nat × Nat)) : (s.tellConflict gone ms).dict = s.dict := by
  rw [State.tellConflict_keeps]
@[simp] theorem State.tellConflict_restarting (gone : List Pend) (ms : List (Nat × Nat)) : (s.tellConflict gone ms).restarting = s.restarting := by
  rw [State.tellConflict_keeps]
@[simp] theorem State.tellConflict_ev (gone : List Pend) (ms : List (Nat × Nat)) : (s.tellConflict gone ms).ev = s.ev := by
  rw [State.tellConflict_keeps]
@[simp] theorem State.tellConflict_life (gone : List Pend) (ms : List (Nat × Nat)) : (s.tellConflict gone ms).life = s.life := by
  rw [State.tellConflict_keeps]
@[simp] theorem State.tellConflict_die (gone : List Pend) (ms : List (Nat × Nat)) : (s.tellConflict gone ms).die = s.die := by
  rw [State.tellConflict_keeps]
@[simp] theorem State.tellConflict_frm (gone : List Pend) (ms : List (Nat × Nat)) : (s.tellConflict gone ms).frm = s.frm := by
  rw [State.tellConflict_keeps]
@[simp] theorem State.tellConflict_quads (gone : List Pend) (ms : List (Nat × Nat)) : (s.tellConflict gone ms).quads = s.quads := by
  rw [State.tellConflict_keeps]
@[simp] theorem State.tellConflict_em (gone : List Pend) (ms : List (Nat × Nat)) : (s.tellConflict gone ms).em = s.em := by
  rw [State.tellConflict_keeps]
@[simp] theorem State.tellConflict_steer (gone : List Pend) (ms : List (Nat × Nat)) : (s.tellConflict gone ms).steer = s.steer := by
  rw [State.tellConflict_keeps]
@[simp] theorem State.tellConflict_forge (gone : List Pend) (ms : List (Nat × Nat)) : (s.tellConflict gone ms).forge = s.forge := by
  rw [State.tellConflict_keeps]
@[simp] theorem State.tellConflict_ana (gone : List Pend) (ms : List (Nat × Nat)) : (s.tellConflict gone ms).ana = s.ana := by
  rw [State.tellConflict_keeps]
@[simp] theorem State.tellConflict_gov (gone : List Pend) (ms : List (Nat × Nat)) : (s.tellConflict gone ms).gov = s.gov := by
  rw [State.tellConflict_keeps]
@[simp] theorem State.tellConflict_queues (gone : List Pend) (ms : List (Nat × Nat)) : (s.tellConflict gone ms).queues = s.queues := by
  rw [State.tellConflict_keeps]
@[simp] theorem State.tellConflict_dma (gone : List Pend) (ms : List (Nat × Nat)) : (s.tellConflict gone ms).dma = s.dma := by
  rw [State.tellConflict_keeps]
@[simp] theorem State.tellConflict_links (gone : List Pend) (ms : List (Nat × Nat)) : (s.tellConflict gone ms).links = s.links := by
  rw [State.tellConflict_keeps]
@[simp] theorem State.tellConflict_recTok (gone : List Pend) (ms : List (Nat × Nat)) : (s.tellConflict gone ms).recTok = s.recTok := by
  rw [State.tellConflict_keeps]
@[simp] theorem State.tellConflict_recAt (gone : List Pend) (ms : List (Nat × Nat)) : (s.tellConflict gone ms).recAt = s.recAt := by
  rw [State.tellConflict_keeps]
@[simp] theorem State.tellConflict_tap (gone : List Pend) (ms : List (Nat × Nat)) : (s.tellConflict gone ms).tap = s.tap := by
  rw [State.tellConflict_keeps]
@[simp] theorem State.tellConflict_isl (gone : List Pend) (ms : List (Nat × Nat)) : (s.tellConflict gone ms).isl = s.isl := by
  rw [State.tellConflict_keeps]
@[simp] theorem State.tellConflict_cap (gone : List Pend) (ms : List (Nat × Nat)) : (s.tellConflict gone ms).cap = s.cap := by
  rw [State.tellConflict_keeps]
@[simp] theorem State.tellConflict_time (gone : List Pend) (ms : List (Nat × Nat)) : (s.tellConflict gone ms).time = s.time := by
  rw [State.tellConflict_keeps]
@[simp] theorem State.tellConflict_wof (gone : List Pend) (ms : List (Nat × Nat)) : (s.tellConflict gone ms).wof = s.wof := by
  rw [State.tellConflict_keeps]
@[simp] theorem State.tellConflict_fleet (gone : List Pend) (ms : List (Nat × Nat)) : (s.tellConflict gone ms).fleet = s.fleet := by
  rw [State.tellConflict_keeps]
@[simp] theorem State.tellConflict_plv (gone : List Pend) (ms : List (Nat × Nat)) : (s.tellConflict gone ms).plv = s.plv := by
  rw [State.tellConflict_keeps]
@[simp] theorem State.tellConflict_sens (gone : List Pend) (ms : List (Nat × Nat)) : (s.tellConflict gone ms).sens = s.sens := by
  rw [State.tellConflict_keeps]
@[simp] theorem State.tellConflict_pilot (gone : List Pend) (ms : List (Nat × Nat)) : (s.tellConflict gone ms).pilot = s.pilot := by
  rw [State.tellConflict_keeps]
@[simp] theorem State.tellConflict_nv (gone : List Pend) (ms : List (Nat × Nat)) : (s.tellConflict gone ms).nv = s.nv := by
  rw [State.tellConflict_keeps]
@[simp] theorem State.tellConflict_blobs (gone : List Pend) (ms : List (Nat × Nat)) : (s.tellConflict gone ms).blobs = s.blobs := by
  rw [State.tellConflict_keeps]
@[simp] theorem State.tellConflict_jtag (gone : List Pend) (ms : List (Nat × Nat)) : (s.tellConflict gone ms).jtag = s.jtag := by
  rw [State.tellConflict_keeps]

/-! ### lndConflict -/

theorem State.lndConflict_keeps (q : Req) (e : Entry) : s.lndConflict q e =
    { s with dict := (s.lndConflict q e).dict, free := (s.lndConflict q e).free, out := (s.lndConflict q e).out, sideTx := (s.lndConflict q e).sideTx, tv := (s.lndConflict q e).tv, ev := (s.lndConflict q e).ev } := by
  unfold State.lndConflict
  split
  · rfl
  · dsimp only
    split
    · rfl
    · rw [State.tellConflict_keeps, State.evt_keeps]
@[simp] theorem State.lndConflict_now (q : Req) (e : Entry) : (s.lndConflict q e).now = s.now := by
  rw [State.lndConflict_keeps]
@[simp] theorem State.lndConflict_scale (q : Req) (e : Entry) : (s.lndConflict q e).scale = s.scale := by
  rw [State.lndConflict_keeps]
@[simp] theorem State.lndConflict_pending (q : Req) (e : Entry) : (s.lndConflict q e).pending = s.pending := by
  rw [State.lndConflict_keeps]
@[simp] theorem State.lndConflict_restarting (q : Req) (e : Entry) : (s.lndConflict q e).restarting = s.restarting := by
  rw [State.lndConflict_keeps]
@[simp] theorem State.lndConflict_life (q : Req) (e : Entry) : (s.lndConflict q e).life = s.life := by
  rw [State.lndConflict_keeps]
@[simp] theorem State.lndConflict_die (q : Req) (e : Entry) : (s.lndConflict q e).die = s.die := by
  rw [State.lndConflict_keeps]
@[simp] theorem State.lndConflict_frm (q : Req) (e : Entry) : (s.lndConflict q e).frm = s.frm := by
  rw [State.lndConflict_keeps]
@[simp] theorem State.lndConflict_quads (q : Req) (e : Entry) : (s.lndConflict q e).quads = s.quads := by
  rw [State.lndConflict_keeps]
@[simp] theorem State.lndConflict_em (q : Req) (e : Entry) : (s.lndConflict q e).em = s.em := by
  rw [State.lndConflict_keeps]
@[simp] theorem State.lndConflict_steer (q : Req) (e : Entry) : (s.lndConflict q e).steer = s.steer := by
  rw [State.lndConflict_keeps]
@[simp] theorem State.lndConflict_forge (q : Req) (e : Entry) : (s.lndConflict q e).forge = s.forge := by
  rw [State.lndConflict_keeps]
@[simp] theorem State.lndConflict_ana (q : Req) (e : Entry) : (s.lndConflict q e).ana = s.ana := by
  rw [State.lndConflict_keeps]
@[simp] theorem State.lndConflict_gov (q : Req) (e : Entry) : (s.lndConflict q e).gov = s.gov := by
  rw [State.lndConflict_keeps]
@[simp] theorem State.lndConflict_queues (q : Req) (e : Entry) : (s.lndConflict q e).queues = s.queues := by
  rw [State.lndConflict_keeps]
@[simp] theorem State.lndConflict_dma (q : Req) (e : Entry) : (s.lndConflict q e).dma = s.dma := by
  rw [State.lndConflict_keeps]
@[simp] theorem State.lndConflict_links (q : Req) (e : Entry) : (s.lndConflict q e).links = s.links := by
  rw [State.lndConflict_keeps]
@[simp] theorem State.lndConflict_recTok (q : Req) (e : Entry) : (s.lndConflict q e).recTok = s.recTok := by
  rw [State.lndConflict_keeps]
@[simp] theorem State.lndConflict_recAt (q : Req) (e : Entry) : (s.lndConflict q e).recAt = s.recAt := by
  rw [State.lndConflict_keeps]
@[simp] theorem State.lndConflict_tap (q : Req) (e : Entry) : (s.lndConflict q e).tap = s.tap := by
  rw [State.lndConflict_keeps]
@[simp] theorem State.lndConflict_isl (q : Req) (e : Entry) : (s.lndConflict q e).isl = s.isl := by
  rw [State.lndConflict_keeps]
@[simp] theorem State.lndConflict_cap (q : Req) (e : Entry) : (s.lndConflict q e).cap = s.cap := by
  rw [State.lndConflict_keeps]
@[simp] theorem State.lndConflict_time (q : Req) (e : Entry) : (s.lndConflict q e).time = s.time := by
  rw [State.lndConflict_keeps]
@[simp] theorem State.lndConflict_wof (q : Req) (e : Entry) : (s.lndConflict q e).wof = s.wof := by
  rw [State.lndConflict_keeps]
@[simp] theorem State.lndConflict_fleet (q : Req) (e : Entry) : (s.lndConflict q e).fleet = s.fleet := by
  rw [State.lndConflict_keeps]
@[simp] theorem State.lndConflict_plv (q : Req) (e : Entry) : (s.lndConflict q e).plv = s.plv := by
  rw [State.lndConflict_keeps]
@[simp] theorem State.lndConflict_sens (q : Req) (e : Entry) : (s.lndConflict q e).sens = s.sens := by
  rw [State.lndConflict_keeps]
@[simp] theorem State.lndConflict_pilot (q : Req) (e : Entry) : (s.lndConflict q e).pilot = s.pilot := by
  rw [State.lndConflict_keeps]
@[simp] theorem State.lndConflict_nv (q : Req) (e : Entry) : (s.lndConflict q e).nv = s.nv := by
  rw [State.lndConflict_keeps]
@[simp] theorem State.lndConflict_blobs (q : Req) (e : Entry) : (s.lndConflict q e).blobs = s.blobs := by
  rw [State.lndConflict_keeps]
@[simp] theorem State.lndConflict_jtag (q : Req) (e : Entry) : (s.lndConflict q e).jtag = s.jtag := by
  rw [State.lndConflict_keeps]

/-! ### refuse -/

theorem State.refuse_keeps (q : Req) (e : Entry) (ab : Nat) : s.refuse q e ab =
    { s with dict := (s.refuse q e ab).dict, free := (s.refuse q e ab).free, out := (s.refuse q e ab).out, sideTx := (s.refuse q e ab).sideTx, tv := (s.refuse q e ab).tv, ev := (s.refuse q e ab).ev } := by
  unfold State.refuse
  dsimp only
  rw [State.respond_keeps]
  split
  · split
    · split
      · rw [State.lndConflict_keeps]
      · rw [State.bump_keeps]
    · rfl
  · rfl
@[simp] theorem State.refuse_now (q : Req) (e : Entry) (ab : Nat) : (s.refuse q e ab).now = s.now := by
  rw [State.refuse_keeps]
@[simp] theorem State.refuse_scale (q : Req) (e : Entry) (ab : Nat) : (s.refuse q e ab).scale = s.scale := by
  rw [State.refuse_keeps]
@[simp] theorem State.refuse_pending (q : Req) (e : Entry) (ab : Nat) : (s.refuse q e ab).pending = s.pending := by
  rw [State.refuse_keeps]
@[simp] theorem State.refuse_restarting (q : Req) (e : Entry) (ab : Nat) : (s.refuse q e ab).restarting = s.restarting := by
  rw [State.refuse_keeps]
@[simp] theorem State.refuse_life (q : Req) (e : Entry) (ab : Nat) : (s.refuse q e ab).life = s.life := by
  rw [State.refuse_keeps]
@[simp] theorem State.refuse_die (q : Req) (e : Entry) (ab : Nat) : (s.refuse q e ab).die = s.die := by
  rw [State.refuse_keeps]
@[simp] theorem State.refuse_frm (q : Req) (e : Entry) (ab : Nat) : (s.refuse q e ab).frm = s.frm := by
  rw [State.refuse_keeps]
@[simp] theorem State.refuse_quads (q : Req) (e : Entry) (ab : Nat) : (s.refuse q e ab).quads = s.quads := by
  rw [State.refuse_keeps]
@[simp] theorem State.refuse_em (q : Req) (e : Entry) (ab : Nat) : (s.refuse q e ab).em = s.em := by
  rw [State.refuse_keeps]
@[simp] theorem State.refuse_steer (q : Req) (e : Entry) (ab : Nat) : (s.refuse q e ab).steer = s.steer := by
  rw [State.refuse_keeps]
@[simp] theorem State.refuse_forge (q : Req) (e : Entry) (ab : Nat) : (s.refuse q e ab).forge = s.forge := by
  rw [State.refuse_keeps]
@[simp] theorem State.refuse_ana (q : Req) (e : Entry) (ab : Nat) : (s.refuse q e ab).ana = s.ana := by
  rw [State.refuse_keeps]
@[simp] theorem State.refuse_gov (q : Req) (e : Entry) (ab : Nat) : (s.refuse q e ab).gov = s.gov := by
  rw [State.refuse_keeps]
@[simp] theorem State.refuse_queues (q : Req) (e : Entry) (ab : Nat) : (s.refuse q e ab).queues = s.queues := by
  rw [State.refuse_keeps]
@[simp] theorem State.refuse_dma (q : Req) (e : Entry) (ab : Nat) : (s.refuse q e ab).dma = s.dma := by
  rw [State.refuse_keeps]
@[simp] theorem State.refuse_links (q : Req) (e : Entry) (ab : Nat) : (s.refuse q e ab).links = s.links := by
  rw [State.refuse_keeps]
@[simp] theorem State.refuse_recTok (q : Req) (e : Entry) (ab : Nat) : (s.refuse q e ab).recTok = s.recTok := by
  rw [State.refuse_keeps]
@[simp] theorem State.refuse_recAt (q : Req) (e : Entry) (ab : Nat) : (s.refuse q e ab).recAt = s.recAt := by
  rw [State.refuse_keeps]
@[simp] theorem State.refuse_tap (q : Req) (e : Entry) (ab : Nat) : (s.refuse q e ab).tap = s.tap := by
  rw [State.refuse_keeps]
@[simp] theorem State.refuse_isl (q : Req) (e : Entry) (ab : Nat) : (s.refuse q e ab).isl = s.isl := by
  rw [State.refuse_keeps]
@[simp] theorem State.refuse_cap (q : Req) (e : Entry) (ab : Nat) : (s.refuse q e ab).cap = s.cap := by
  rw [State.refuse_keeps]
@[simp] theorem State.refuse_time (q : Req) (e : Entry) (ab : Nat) : (s.refuse q e ab).time = s.time := by
  rw [State.refuse_keeps]
@[simp] theorem State.refuse_wof (q : Req) (e : Entry) (ab : Nat) : (s.refuse q e ab).wof = s.wof := by
  rw [State.refuse_keeps]
@[simp] theorem State.refuse_fleet (q : Req) (e : Entry) (ab : Nat) : (s.refuse q e ab).fleet = s.fleet := by
  rw [State.refuse_keeps]
@[simp] theorem State.refuse_plv (q : Req) (e : Entry) (ab : Nat) : (s.refuse q e ab).plv = s.plv := by
  rw [State.refuse_keeps]
@[simp] theorem State.refuse_sens (q : Req) (e : Entry) (ab : Nat) : (s.refuse q e ab).sens = s.sens := by
  rw [State.refuse_keeps]
@[simp] theorem State.refuse_pilot (q : Req) (e : Entry) (ab : Nat) : (s.refuse q e ab).pilot = s.pilot := by
  rw [State.refuse_keeps]
@[simp] theorem State.refuse_nv (q : Req) (e : Entry) (ab : Nat) : (s.refuse q e ab).nv = s.nv := by
  rw [State.refuse_keeps]
@[simp] theorem State.refuse_blobs (q : Req) (e : Entry) (ab : Nat) : (s.refuse q e ab).blobs = s.blobs := by
  rw [State.refuse_keeps]
@[simp] theorem State.refuse_jtag (q : Req) (e : Entry) (ab : Nat) : (s.refuse q e ab).jtag = s.jtag := by
  rw [State.refuse_keeps]

/-! ### setMembers -/

theorem State.setMembers_keeps (obj : Nat) (w : List (Nat × Int)) : s.setMembers obj w =
    { s with dict := (s.setMembers obj w).dict } := by
  unfold State.setMembers
  induction w generalizing s with
  | nil => rfl
  | cons x w ih => rw [List.foldl_cons, ih]; rfl
@[simp] theorem State.setMembers_now (obj : Nat) (w : List (Nat × Int)) : (s.setMembers obj w).now = s.now := by
  rw [State.setMembers_keeps]
@[simp] theorem State.setMembers_scale (obj : Nat) (w : List (Nat × Int)) : (s.setMembers obj w).scale = s.scale := by
  rw [State.setMembers_keeps]
@[simp] theorem State.setMembers_free (obj : Nat) (w : List (Nat × Int)) : (s.setMembers obj w).free = s.free := by
  rw [State.setMembers_keeps]
@[simp] theorem State.setMembers_pending (obj : Nat) (w : List (Nat × Int)) : (s.setMembers obj w).pending = s.pending := by
  rw [State.setMembers_keeps]
@[simp] theorem State.setMembers_out (obj : Nat) (w : List (Nat × Int)) : (s.setMembers obj w).out = s.out := by
  rw [State.setMembers_keeps]
@[simp] theorem State.setMembers_tv (obj : Nat) (w : List (Nat × Int)) : (s.setMembers obj w).tv = s.tv := by
  rw [State.setMembers_keeps]
@[simp] theorem State.setMembers_sideTx (obj : Nat) (w : List (Nat × Int)) : (s.setMembers obj w).sideTx = s.sideTx := by
  rw [State.setMembers_keeps]
@[simp] theorem State.setMembers_restarting (obj : Nat) (w : List (Nat × Int)) : (s.setMembers obj w).restarting = s.restarting := by
  rw [State.setMembers_keeps]
@[simp] theorem State.setMembers_ev (obj : Nat) (w : List (Nat × Int)) : (s.setMembers obj w).ev = s.ev := by
  rw [State.setMembers_keeps]
@[simp] theorem State.setMembers_life (obj : Nat) (w : List (Nat × Int)) : (s.setMembers obj w).life = s.life := by
  rw [State.setMembers_keeps]
@[simp] theorem State.setMembers_die (obj : Nat) (w : List (Nat × Int)) : (s.setMembers obj w).die = s.die := by
  rw [State.setMembers_keeps]
@[simp] theorem State.setMembers_frm (obj : Nat) (w : List (Nat × Int)) : (s.setMembers obj w).frm = s.frm := by
  rw [State.setMembers_keeps]
@[simp] theorem State.setMembers_quads (obj : Nat) (w : List (Nat × Int)) : (s.setMembers obj w).quads = s.quads := by
  rw [State.setMembers_keeps]
@[simp] theorem State.setMembers_em (obj : Nat) (w : List (Nat × Int)) : (s.setMembers obj w).em = s.em := by
  rw [State.setMembers_keeps]
@[simp] theorem State.setMembers_steer (obj : Nat) (w : List (Nat × Int)) : (s.setMembers obj w).steer = s.steer := by
  rw [State.setMembers_keeps]
@[simp] theorem State.setMembers_forge (obj : Nat) (w : List (Nat × Int)) : (s.setMembers obj w).forge = s.forge := by
  rw [State.setMembers_keeps]
@[simp] theorem State.setMembers_ana (obj : Nat) (w : List (Nat × Int)) : (s.setMembers obj w).ana = s.ana := by
  rw [State.setMembers_keeps]
@[simp] theorem State.setMembers_gov (obj : Nat) (w : List (Nat × Int)) : (s.setMembers obj w).gov = s.gov := by
  rw [State.setMembers_keeps]
@[simp] theorem State.setMembers_queues (obj : Nat) (w : List (Nat × Int)) : (s.setMembers obj w).queues = s.queues := by
  rw [State.setMembers_keeps]
@[simp] theorem State.setMembers_dma (obj : Nat) (w : List (Nat × Int)) : (s.setMembers obj w).dma = s.dma := by
  rw [State.setMembers_keeps]
@[simp] theorem State.setMembers_links (obj : Nat) (w : List (Nat × Int)) : (s.setMembers obj w).links = s.links := by
  rw [State.setMembers_keeps]
@[simp] theorem State.setMembers_recTok (obj : Nat) (w : List (Nat × Int)) : (s.setMembers obj w).recTok = s.recTok := by
  rw [State.setMembers_keeps]
@[simp] theorem State.setMembers_recAt (obj : Nat) (w : List (Nat × Int)) : (s.setMembers obj w).recAt = s.recAt := by
  rw [State.setMembers_keeps]
@[simp] theorem State.setMembers_tap (obj : Nat) (w : List (Nat × Int)) : (s.setMembers obj w).tap = s.tap := by
  rw [State.setMembers_keeps]
@[simp] theorem State.setMembers_isl (obj : Nat) (w : List (Nat × Int)) : (s.setMembers obj w).isl = s.isl := by
  rw [State.setMembers_keeps]
@[simp] theorem State.setMembers_cap (obj : Nat) (w : List (Nat × Int)) : (s.setMembers obj w).cap = s.cap := by
  rw [State.setMembers_keeps]
@[simp] theorem State.setMembers_time (obj : Nat) (w : List (Nat × Int)) : (s.setMembers obj w).time = s.time := by
  rw [State.setMembers_keeps]
@[simp] theorem State.setMembers_wof (obj : Nat) (w : List (Nat × Int)) : (s.setMembers obj w).wof = s.wof := by
  rw [State.setMembers_keeps]
@[simp] theorem State.setMembers_fleet (obj : Nat) (w : List (Nat × Int)) : (s.setMembers obj w).fleet = s.fleet := by
  rw [State.setMembers_keeps]
@[simp] theorem State.setMembers_plv (obj : Nat) (w : List (Nat × Int)) : (s.setMembers obj w).plv = s.plv := by
  rw [State.setMembers_keeps]
@[simp] theorem State.setMembers_sens (obj : Nat) (w : List (Nat × Int)) : (s.setMembers obj w).sens = s.sens := by
  rw [State.setMembers_keeps]
@[simp] theorem State.setMembers_pilot (obj : Nat) (w : List (Nat × Int)) : (s.setMembers obj w).pilot = s.pilot := by
  rw [State.setMembers_keeps]
@[simp] theorem State.setMembers_nv (obj : Nat) (w : List (Nat × Int)) : (s.setMembers obj w).nv = s.nv := by
  rw [State.setMembers_keeps]
@[simp] theorem State.setMembers_blobs (obj : Nat) (w : List (Nat × Int)) : (s.setMembers obj w).blobs = s.blobs := by
  rw [State.setMembers_keeps]
@[simp] theorem State.setMembers_jtag (obj : Nat) (w : List (Nat × Int)) : (s.setMembers obj w).jtag = s.jtag := by
  rw [State.setMembers_keeps]

/-! ### noteImm -/

theorem State.noteImm_keeps (q : Req) (r : Row) (e : Entry) : s.noteImm q r e =
    { s with tv := (s.noteImm q r e).tv } := by
  unfold State.noteImm
  split <;> rfl
@[simp] theorem State.noteImm_now (q : Req) (r : Row) (e : Entry) : (s.noteImm q r e).now = s.now := by
  rw [State.noteImm_keeps]
@[simp] theorem State.noteImm_scale (q : Req) (r : Row) (e : Entry) : (s.noteImm q r e).scale = s.scale := by
  rw [State.noteImm_keeps]
@[simp] theorem State.noteImm_free (q : Req) (r : Row) (e : Entry) : (s.noteImm q r e).free = s.free := by
  rw [State.noteImm_keeps]
@[simp] theorem State.noteImm_pending (q : Req) (r : Row) (e : Entry) : (s.noteImm q r e).pending = s.pending := by
  rw [State.noteImm_keeps]
@[simp] theorem State.noteImm_out (q : Req) (r : Row) (e : Entry) : (s.noteImm q r e).out = s.out := by
  rw [State.noteImm_keeps]
@[simp] theorem State.noteImm_dict (q : Req) (r : Row) (e : Entry) : (s.noteImm q r e).dict = s.dict := by
  rw [State.noteImm_keeps]
@[simp] theorem State.noteImm_sideTx (q : Req) (r : Row) (e : Entry) : (s.noteImm q r e).sideTx = s.sideTx := by
  rw [State.noteImm_keeps]
@[simp] theorem State.noteImm_restarting (q : Req) (r : Row) (e : Entry) : (s.noteImm q r e).restarting = s.restarting := by
  rw [State.noteImm_keeps]
@[simp] theorem State.noteImm_ev (q : Req) (r : Row) (e : Entry) : (s.noteImm q r e).ev = s.ev := by
  rw [State.noteImm_keeps]
@[simp] theorem State.noteImm_life (q : Req) (r : Row) (e : Entry) : (s.noteImm q r e).life = s.life := by
  rw [State.noteImm_keeps]
@[simp] theorem State.noteImm_die (q : Req) (r : Row) (e : Entry) : (s.noteImm q r e).die = s.die := by
  rw [State.noteImm_keeps]
@[simp] theorem State.noteImm_frm (q : Req) (r : Row) (e : Entry) : (s.noteImm q r e).frm = s.frm := by
  rw [State.noteImm_keeps]
@[simp] theorem State.noteImm_quads (q : Req) (r : Row) (e : Entry) : (s.noteImm q r e).quads = s.quads := by
  rw [State.noteImm_keeps]
@[simp] theorem State.noteImm_em (q : Req) (r : Row) (e : Entry) : (s.noteImm q r e).em = s.em := by
  rw [State.noteImm_keeps]
@[simp] theorem State.noteImm_steer (q : Req) (r : Row) (e : Entry) : (s.noteImm q r e).steer = s.steer := by
  rw [State.noteImm_keeps]
@[simp] theorem State.noteImm_forge (q : Req) (r : Row) (e : Entry) : (s.noteImm q r e).forge = s.forge := by
  rw [State.noteImm_keeps]
@[simp] theorem State.noteImm_ana (q : Req) (r : Row) (e : Entry) : (s.noteImm q r e).ana = s.ana := by
  rw [State.noteImm_keeps]
@[simp] theorem State.noteImm_gov (q : Req) (r : Row) (e : Entry) : (s.noteImm q r e).gov = s.gov := by
  rw [State.noteImm_keeps]
@[simp] theorem State.noteImm_queues (q : Req) (r : Row) (e : Entry) : (s.noteImm q r e).queues = s.queues := by
  rw [State.noteImm_keeps]
@[simp] theorem State.noteImm_dma (q : Req) (r : Row) (e : Entry) : (s.noteImm q r e).dma = s.dma := by
  rw [State.noteImm_keeps]
@[simp] theorem State.noteImm_links (q : Req) (r : Row) (e : Entry) : (s.noteImm q r e).links = s.links := by
  rw [State.noteImm_keeps]
@[simp] theorem State.noteImm_recTok (q : Req) (r : Row) (e : Entry) : (s.noteImm q r e).recTok = s.recTok := by
  rw [State.noteImm_keeps]
@[simp] theorem State.noteImm_recAt (q : Req) (r : Row) (e : Entry) : (s.noteImm q r e).recAt = s.recAt := by
  rw [State.noteImm_keeps]
@[simp] theorem State.noteImm_tap (q : Req) (r : Row) (e : Entry) : (s.noteImm q r e).tap = s.tap := by
  rw [State.noteImm_keeps]
@[simp] theorem State.noteImm_isl (q : Req) (r : Row) (e : Entry) : (s.noteImm q r e).isl = s.isl := by
  rw [State.noteImm_keeps]
@[simp] theorem State.noteImm_cap (q : Req) (r : Row) (e : Entry) : (s.noteImm q r e).cap = s.cap := by
  rw [State.noteImm_keeps]
@[simp] theorem State.noteImm_time (q : Req) (r : Row) (e : Entry) : (s.noteImm q r e).time = s.time := by
  rw [State.noteImm_keeps]
@[simp] theorem State.noteImm_wof (q : Req) (r : Row) (e : Entry) : (s.noteImm q r e).wof = s.wof := by
  rw [State.noteImm_keeps]
@[simp] theorem State.noteImm_fleet (q : Req) (r : Row) (e : Entry) : (s.noteImm q r e).fleet = s.fleet := by
  rw [State.noteImm_keeps]
@[simp] theorem State.noteImm_plv (q : Req) (r : Row) (e : Entry) : (s.noteImm q r e).plv = s.plv := by
  rw [State.noteImm_keeps]
@[simp] theorem State.noteImm_sens (q : Req) (r : Row) (e : Entry) : (s.noteImm q r e).sens = s.sens := by
  rw [State.noteImm_keeps]
@[simp] theorem State.noteImm_pilot (q : Req) (r : Row) (e : Entry) : (s.noteImm q r e).pilot = s.pilot := by
  rw [State.noteImm_keeps]
@[simp] theorem State.noteImm_nv (q : Req) (r : Row) (e : Entry) : (s.noteImm q r e).nv = s.nv := by
  rw [State.noteImm_keeps]
@[simp] theorem State.noteImm_blobs (q : Req) (r : Row) (e : Entry) : (s.noteImm q r e).blobs = s.blobs := by
  rw [State.noteImm_keeps]
@[simp] theorem State.noteImm_jtag (q : Req) (r : Row) (e : Entry) : (s.noteImm q r e).jtag = s.jtag := by
  rw [State.noteImm_keeps]

/-! ### addPend -/

theorem State.addPend_keeps (q : Req) (obj group : Nat) (w : List (Nat × Int)) : s.addPend q obj group w =
    { s with tv := (s.addPend q obj group w).tv } := rfl
@[simp] theorem State.addPend_now (q : Req) (obj group : Nat) (w : List (Nat × Int)) : (s.addPend q obj group w).now = s.now := by
  rw [State.addPend_keeps]
@[simp] theorem State.addPend_scale (q : Req) (obj group : Nat) (w : List (Nat × Int)) : (s.addPend q obj group w).scale = s.scale := by
  rw [State.addPend_keeps]
@[simp] theorem State.addPend_free (q : Req) (obj group : Nat) (w : List (Nat × Int)) : (s.addPend q obj group w).free = s.free := by
  rw [State.addPend_keeps]
@[simp] theorem State.addPend_pending (q : Req) (obj group : Nat) (w : List (Nat × Int)) : (s.addPend q obj group w).pending = s.pending := by
  rw [State.addPend_keeps]
@[simp] theorem State.addPend_out (q : Req) (obj group : Nat) (w : List (Nat × Int)) : (s.addPend q obj group w).out = s.out := by
  rw [State.addPend_keeps]
@[simp] theorem State.addPend_dict (q : Req) (obj group : Nat) (w : List (Nat × Int)) : (s.addPend q obj group w).dict = s.dict := by
  rw [State.addPend_keeps]
@[simp] theorem State.addPend_sideTx (q : Req) (obj group : Nat) (w : List (Nat × Int)) : (s.addPend q obj group w).sideTx = s.sideTx := by
  rw [State.addPend_keeps]
@[simp] theorem State.addPend_restarting (q : Req) (obj group : Nat) (w : List (Nat × Int)) : (s.addPend q obj group w).restarting = s.restarting := by
  rw [State.addPend_keeps]
@[simp] theorem State.addPend_ev (q : Req) (obj group : Nat) (w : List (Nat × Int)) : (s.addPend q obj group w).ev = s.ev := by
  rw [State.addPend_keeps]
@[simp] theorem State.addPend_life (q : Req) (obj group : Nat) (w : List (Nat × Int)) : (s.addPend q obj group w).life = s.life := by
  rw [State.addPend_keeps]
@[simp] theorem State.addPend_die (q : Req) (obj group : Nat) (w : List (Nat × Int)) : (s.addPend q obj group w).die = s.die := by
  rw [State.addPend_keeps]
@[simp] theorem State.addPend_frm (q : Req) (obj group : Nat) (w : List (Nat × Int)) : (s.addPend q obj group w).frm = s.frm := by
  rw [State.addPend_keeps]
@[simp] theorem State.addPend_quads (q : Req) (obj group : Nat) (w : List (Nat × Int)) : (s.addPend q obj group w).quads = s.quads := by
  rw [State.addPend_keeps]
@[simp] theorem State.addPend_em (q : Req) (obj group : Nat) (w : List (Nat × Int)) : (s.addPend q obj group w).em = s.em := by
  rw [State.addPend_keeps]
@[simp] theorem State.addPend_steer (q : Req) (obj group : Nat) (w : List (Nat × Int)) : (s.addPend q obj group w).steer = s.steer := by
  rw [State.addPend_keeps]
@[simp] theorem State.addPend_forge (q : Req) (obj group : Nat) (w : List (Nat × Int)) : (s.addPend q obj group w).forge = s.forge := by
  rw [State.addPend_keeps]
@[simp] theorem State.addPend_ana (q : Req) (obj group : Nat) (w : List (Nat × Int)) : (s.addPend q obj group w).ana = s.ana := by
  rw [State.addPend_keeps]
@[simp] theorem State.addPend_gov (q : Req) (obj group : Nat) (w : List (Nat × Int)) : (s.addPend q obj group w).gov = s.gov := by
  rw [State.addPend_keeps]
@[simp] theorem State.addPend_queues (q : Req) (obj group : Nat) (w : List (Nat × Int)) : (s.addPend q obj group w).queues = s.queues := by
  rw [State.addPend_keeps]
@[simp] theorem State.addPend_dma (q : Req) (obj group : Nat) (w : List (Nat × Int)) : (s.addPend q obj group w).dma = s.dma := by
  rw [State.addPend_keeps]
@[simp] theorem State.addPend_links (q : Req) (obj group : Nat) (w : List (Nat × Int)) : (s.addPend q obj group w).links = s.links := by
  rw [State.addPend_keeps]
@[simp] theorem State.addPend_recTok (q : Req) (obj group : Nat) (w : List (Nat × Int)) : (s.addPend q obj group w).recTok = s.recTok := by
  rw [State.addPend_keeps]
@[simp] theorem State.addPend_recAt (q : Req) (obj group : Nat) (w : List (Nat × Int)) : (s.addPend q obj group w).recAt = s.recAt := by
  rw [State.addPend_keeps]
@[simp] theorem State.addPend_tap (q : Req) (obj group : Nat) (w : List (Nat × Int)) : (s.addPend q obj group w).tap = s.tap := by
  rw [State.addPend_keeps]
@[simp] theorem State.addPend_isl (q : Req) (obj group : Nat) (w : List (Nat × Int)) : (s.addPend q obj group w).isl = s.isl := by
  rw [State.addPend_keeps]
@[simp] theorem State.addPend_cap (q : Req) (obj group : Nat) (w : List (Nat × Int)) : (s.addPend q obj group w).cap = s.cap := by
  rw [State.addPend_keeps]
@[simp] theorem State.addPend_time (q : Req) (obj group : Nat) (w : List (Nat × Int)) : (s.addPend q obj group w).time = s.time := by
  rw [State.addPend_keeps]
@[simp] theorem State.addPend_wof (q : Req) (obj group : Nat) (w : List (Nat × Int)) : (s.addPend q obj group w).wof = s.wof := by
  rw [State.addPend_keeps]
@[simp] theorem State.addPend_fleet (q : Req) (obj group : Nat) (w : List (Nat × Int)) : (s.addPend q obj group w).fleet = s.fleet := by
  rw [State.addPend_keeps]
@[simp] theorem State.addPend_plv (q : Req) (obj group : Nat) (w : List (Nat × Int)) : (s.addPend q obj group w).plv = s.plv := by
  rw [State.addPend_keeps]
@[simp] theorem State.addPend_sens (q : Req) (obj group : Nat) (w : List (Nat × Int)) : (s.addPend q obj group w).sens = s.sens := by
  rw [State.addPend_keeps]
@[simp] theorem State.addPend_pilot (q : Req) (obj group : Nat) (w : List (Nat × Int)) : (s.addPend q obj group w).pilot = s.pilot := by
  rw [State.addPend_keeps]
@[simp] theorem State.addPend_nv (q : Req) (obj group : Nat) (w : List (Nat × Int)) : (s.addPend q obj group w).nv = s.nv := by
  rw [State.addPend_keeps]
@[simp] theorem State.addPend_blobs (q : Req) (obj group : Nat) (w : List (Nat × Int)) : (s.addPend q obj group w).blobs = s.blobs := by
  rw [State.addPend_keeps]
@[simp] theorem State.addPend_jtag (q : Req) (obj group : Nat) (w : List (Nat × Int)) : (s.addPend q obj group w).jtag = s.jtag := by
  rw [State.addPend_keeps]

/-! ### storeWrite -/

theorem State.storeWrite_keeps (q : Req) (e : Entry) (group : Nat) : s.storeWrite q e group =
    { s with dict := (s.storeWrite q e group).dict, tv := (s.storeWrite q e group).tv } := by
  unfold State.storeWrite
  split
  · rfl
  · split
    · rw [State.noteImm_keeps]
    · rfl
    · rw [State.addPend_keeps]
    · rw [State.noteImm_keeps, State.setMembers_keeps]
@[simp] theorem State.storeWrite_now (q : Req) (e : Entry) (group : Nat) : (s.storeWrite q e group).now = s.now := by
  rw [State.storeWrite_keeps]
@[simp] theorem State.storeWrite_scale (q : Req) (e : Entry) (group : Nat) : (s.storeWrite q e group).scale = s.scale := by
  rw [State.storeWrite_keeps]
@[simp] theorem State.storeWrite_free (q : Req) (e : Entry) (group : Nat) : (s.storeWrite q e group).free = s.free := by
  rw [State.storeWrite_keeps]
@[simp] theorem State.storeWrite_pending (q : Req) (e : Entry) (group : Nat) : (s.storeWrite q e group).pending = s.pending := by
  rw [State.storeWrite_keeps]
@[simp] theorem State.storeWrite_out (q : Req) (e : Entry) (group : Nat) : (s.storeWrite q e group).out = s.out := by
  rw [State.storeWrite_keeps]
@[simp] theorem State.storeWrite_sideTx (q : Req) (e : Entry) (group : Nat) : (s.storeWrite q e group).sideTx = s.sideTx := by
  rw [State.storeWrite_keeps]
@[simp] theorem State.storeWrite_restarting (q : Req) (e : Entry) (group : Nat) : (s.storeWrite q e group).restarting = s.restarting := by
  rw [State.storeWrite_keeps]
@[simp] theorem State.storeWrite_ev (q : Req) (e : Entry) (group : Nat) : (s.storeWrite q e group).ev = s.ev := by
  rw [State.storeWrite_keeps]
@[simp] theorem State.storeWrite_life (q : Req) (e : Entry) (group : Nat) : (s.storeWrite q e group).life = s.life := by
  rw [State.storeWrite_keeps]
@[simp] theorem State.storeWrite_die (q : Req) (e : Entry) (group : Nat) : (s.storeWrite q e group).die = s.die := by
  rw [State.storeWrite_keeps]
@[simp] theorem State.storeWrite_frm (q : Req) (e : Entry) (group : Nat) : (s.storeWrite q e group).frm = s.frm := by
  rw [State.storeWrite_keeps]
@[simp] theorem State.storeWrite_quads (q : Req) (e : Entry) (group : Nat) : (s.storeWrite q e group).quads = s.quads := by
  rw [State.storeWrite_keeps]
@[simp] theorem State.storeWrite_em (q : Req) (e : Entry) (group : Nat) : (s.storeWrite q e group).em = s.em := by
  rw [State.storeWrite_keeps]
@[simp] theorem State.storeWrite_steer (q : Req) (e : Entry) (group : Nat) : (s.storeWrite q e group).steer = s.steer := by
  rw [State.storeWrite_keeps]
@[simp] theorem State.storeWrite_forge (q : Req) (e : Entry) (group : Nat) : (s.storeWrite q e group).forge = s.forge := by
  rw [State.storeWrite_keeps]
@[simp] theorem State.storeWrite_ana (q : Req) (e : Entry) (group : Nat) : (s.storeWrite q e group).ana = s.ana := by
  rw [State.storeWrite_keeps]
@[simp] theorem State.storeWrite_gov (q : Req) (e : Entry) (group : Nat) : (s.storeWrite q e group).gov = s.gov := by
  rw [State.storeWrite_keeps]
@[simp] theorem State.storeWrite_queues (q : Req) (e : Entry) (group : Nat) : (s.storeWrite q e group).queues = s.queues := by
  rw [State.storeWrite_keeps]
@[simp] theorem State.storeWrite_dma (q : Req) (e : Entry) (group : Nat) : (s.storeWrite q e group).dma = s.dma := by
  rw [State.storeWrite_keeps]
@[simp] theorem State.storeWrite_links (q : Req) (e : Entry) (group : Nat) : (s.storeWrite q e group).links = s.links := by
  rw [State.storeWrite_keeps]
@[simp] theorem State.storeWrite_recTok (q : Req) (e : Entry) (group : Nat) : (s.storeWrite q e group).recTok = s.recTok := by
  rw [State.storeWrite_keeps]
@[simp] theorem State.storeWrite_recAt (q : Req) (e : Entry) (group : Nat) : (s.storeWrite q e group).recAt = s.recAt := by
  rw [State.storeWrite_keeps]
@[simp] theorem State.storeWrite_tap (q : Req) (e : Entry) (group : Nat) : (s.storeWrite q e group).tap = s.tap := by
  rw [State.storeWrite_keeps]
@[simp] theorem State.storeWrite_isl (q : Req) (e : Entry) (group : Nat) : (s.storeWrite q e group).isl = s.isl := by
  rw [State.storeWrite_keeps]
@[simp] theorem State.storeWrite_cap (q : Req) (e : Entry) (group : Nat) : (s.storeWrite q e group).cap = s.cap := by
  rw [State.storeWrite_keeps]
@[simp] theorem State.storeWrite_time (q : Req) (e : Entry) (group : Nat) : (s.storeWrite q e group).time = s.time := by
  rw [State.storeWrite_keeps]
@[simp] theorem State.storeWrite_wof (q : Req) (e : Entry) (group : Nat) : (s.storeWrite q e group).wof = s.wof := by
  rw [State.storeWrite_keeps]
@[simp] theorem State.storeWrite_fleet (q : Req) (e : Entry) (group : Nat) : (s.storeWrite q e group).fleet = s.fleet := by
  rw [State.storeWrite_keeps]
@[simp] theorem State.storeWrite_plv (q : Req) (e : Entry) (group : Nat) : (s.storeWrite q e group).plv = s.plv := by
  rw [State.storeWrite_keeps]
@[simp] theorem State.storeWrite_sens (q : Req) (e : Entry) (group : Nat) : (s.storeWrite q e group).sens = s.sens := by
  rw [State.storeWrite_keeps]
@[simp] theorem State.storeWrite_pilot (q : Req) (e : Entry) (group : Nat) : (s.storeWrite q e group).pilot = s.pilot := by
  rw [State.storeWrite_keeps]
@[simp] theorem State.storeWrite_nv (q : Req) (e : Entry) (group : Nat) : (s.storeWrite q e group).nv = s.nv := by
  rw [State.storeWrite_keeps]
@[simp] theorem State.storeWrite_blobs (q : Req) (e : Entry) (group : Nat) : (s.storeWrite q e group).blobs = s.blobs := by
  rw [State.storeWrite_keeps]
@[simp] theorem State.storeWrite_jtag (q : Req) (e : Entry) (group : Nat) : (s.storeWrite q e group).jtag = s.jtag := by
  rw [State.storeWrite_keeps]

/-! ### What they do to the rest -/

/-- A counter below FFFFFFFFh counts. -/
theorem State.bump_counts {o el k : Nat} (h : s.objN o el + k < 2 ^ 32) : s.bump o el k = s.setObj o el ((s.objN o el + k : Nat) : Int) := by
  unfold State.bump
  exact if_pos h

/-- A counter changes no other value in effect. -/
theorem State.bump_obj_ne (o el k : Nat) {o' el' : Nat} (h : o' ≠ o ∨ el' % 65536 ≠ el % 65536) : (s.bump o el k).obj o' el' = s.obj o' el' := by
  unfold State.bump
  dsimp only
  split
  · exact State.obj_setObj_ne s _ h
  · exact State.obj_setObj_ne s _ h

/-- An event with a place in the queue is its last, and is all that changes (R388). -/
theorem State.evt_queued {code param : Nat} (h : s.ev.queue.length < 256) :
    s.evt code param = { s with ev := { s.ev with queue := s.ev.queue ++ [s.evRec code param] } } := by
  unfold State.evt
  simp [h]

/-- The queue never grows past its 256 places. -/
theorem State.evt_bound (code param : Nat) (h : s.ev.queue.length ≤ 256) : (s.evt code param).ev.queue.length ≤ 256 := by
  unfold State.evt
  split
  · simp; omega
  · simpa using h

/-- An event changes no value in effect but its own count of drops. -/
theorem State.evt_obj_ne (code param : Nat) {o el : Nat} (h : o ≠ 0x9000 ∨ el % 65536 ≠ 3) : (s.evt code param).obj o el = s.obj o el := by
  unfold State.evt
  split
  · rfl
  · exact State.bump_obj_ne _ _ _ _ h

@[simp] theorem State.goto_st (st : DevState) : (s.goto st).life = { s.life with st := st, since := s.now } := by
  unfold State.goto
  simp

/-- A request that is served reaches its body. -/
theorem State.through_served {r : Req} {kind obj : Nat} {body : State → State} (h : s.gate r = .served) : s.through r kind obj body = body s := by
  unfold State.through
  rw [h]

/-- A response that is not a busy one is kept for a repeat of its request (R66). -/
theorem State.respond_stored (r : Req) (kind abort : Nat) (body : Octets) (h : abort ≠ 0x0701) :
    ({ req := r, kind := kind, at_ := s.now, abort := abort, body := body } : Stored) ∈ (s.respond r kind abort body).tv.stored := by
  unfold State.respond State.respondTo
  dsimp only
  rw [if_neg h]
  refine List.mem_append_right _ ?_
  have e : ∀ l : List Stored, l.filter (fun y => decide (s.now < y.at_) && decide (y.at_ ≤ s.now)) = [] := fun l =>
    List.filter_eq_nil_iff.mpr fun y _ => by simp
  simp only [e, List.append_nil]
  rw [List.drop_append_of_le_length (by simp)]
  simp

/-- A write that passes every check stores its value, has its effect and is answered (R50, R71). -/
theorem State.hostWrite_accepted {r : Req} {e : Entry} {codes : State → List Nat} {eff : State → State} {long : Bool}
    (h : s.accepts r e (codes s)) : s.hostWrite r e codes eff long = (eff (s.storeWrite r e 0)).accept r e long := by
  unfold State.hostWrite
  rw [State.through_served s h.1]
  simp [h.2]

/-- A write that fails a check is refused with the code of the first that fails. -/
theorem State.hostWrite_refused {r : Req} {e : Entry} {codes : State → List Nat} {eff : State → State} {long : Bool}
    (g : s.gate r = .served) (h : firstAbort (s.writeCodes r e ++ codes s) ≠ 0) :
    s.hostWrite r e codes eff long = s.refuse r e (firstAbort (s.writeCodes r e ++ codes s)) := by
  unfold State.hostWrite
  rw [State.through_served s g]
  simp [h]

/-- The same for a write whose answer waits. -/
theorem State.hostWriteHeld_accepted {r : Req} {e : Entry} {arg : Nat} {codes : State → List Nat} {eff : State → State}
    (h : s.accepts r e (codes s)) : s.hostWriteHeld r e arg codes eff =
      eff ((s.storeWrite r e 0).owe r (if r.asCommand then kCommand else kWrite) e.obj [arg]) := by
  unfold State.hostWriteHeld
  rw [State.through_served s h.1]
  simp [h.2]

/-- What is owed stands last among the running requests, with the rest of its arguments. -/
theorem State.owe_running (r : Req) (kind obj a : Nat) (rest : List Nat) : (s.owe r kind obj (a :: rest)).tv.running =
    s.tv.running ++ [{ req := r, kind := kind, obj := obj, arg := a, more := rest, started := s.now, answered := false }] := rfl

/-- A request that owes its answer is taken. -/
theorem State.owe_took (r : Req) (kind obj a : Nat) (rest : List Nat) : (s.owe r kind obj (a :: rest)).took r :=
  Or.inr ⟨_, List.mem_append_right _ (List.mem_singleton_self _), rfl, rfl⟩

/-- An accepted request has its answer, or owes it. -/
theorem State.accept_took (r : Req) (e : Entry) (long : Bool) : (s.accept r e long).took r := by
  unfold State.accept
  split
  · split
    · exact Or.inr ⟨_, List.mem_append_right _ (List.mem_singleton_self _), rfl, rfl⟩
    · exact Or.inl ⟨_, State.respond_stored s r kCommand 0 [0] (by decide), rfl, rfl⟩
  · exact Or.inl ⟨_, State.respond_stored s r kWrite 0 [] (by decide), rfl, rfl⟩

/-- A refused request has its code for an answer, but for a busy one, which is not kept. -/
theorem State.refuse_refused (r : Req) (e : Entry) (ab : Nat) (h : ab ≠ 0x0701) : (s.refuse r e ab).refused r ab := by
  unfold State.refuse
  exact ⟨_, State.respond_stored _ r _ ab [] h, rfl, rfl⟩

/-- A row that is a write to one object takes effect and is answered (R50). -/
theorem State.hostWrite_took {r : Req} {e : Entry} {codes : State → List Nat} {eff : State → State} {long : Bool}
    (h : s.accepts r e (codes s)) : (s.hostWrite r e codes eff long).took r := by
  rw [State.hostWrite_accepted s h]
  exact State.accept_took _ r e long

end Sys2Proof.Machine
end

