-- ==== Sys2Proof/Tests/Slice0.lean ====
section
/-! SUPPORT. Tests: for every statement a witness that its premises can be met, with what the command then does, the worked examples of
the spec, and the well-formedness checks. A name that begins wit_ names the row or the clause it is a witness of. -/

namespace Sys2Proof.Tests

open Sys2Proof Sys2Proof.Machine

-- each of these proofs is one kernel evaluation: one after the other, they share one thread
set_option Elab.async false

/-! ### Helpers: small states and what an answer must be -/

/-- The outcome is a next state of which a test holds. -/
def yields (o : Host.Outcome State Fault Refusal) (p : State → Bool) : Bool :=
  match o with
  | .next t => p t
  | _ => false

/-- CONFIG, ten seconds after the power-up. -/
def base : State := { State.reset with now := 4000000000, life := { Reset.life with st := .config, phase := .done } }

/-- SERVICE. -/
def svc : State := { base with life := { base.life with st := .service } }

/-- RUN with a frame that began 10 ms ago. -/
def run : State :=
  { base with life := { base.life with st := .run }, frm := { base.frm with active := true, running := true, no := 5, start := 3996000000 } }

/-- A request from master 7 on UART_MNT. -/
def rq : Req := { port := 4, master := 7, txn := 1, asCommand := false, src := 0 }

/-! ### The die-to-die interface -/

theorem wit_flit_timeout : base.dieUp = true ∧ assocD 0 base.die.flits 9 < 3 ∧
    yields (exec (.flitAckTimeout 9) base) (fun t => assocD 0 t.die.flits 9 == 1) = true := by decide
theorem wit_flit_lost : ∃ s : State, s.dieUp = true ∧ 3 ≤ assocD 0 s.die.flits 9 ∧
    yields (exec (.flitAckTimeout 9) s) (fun t => t.die.failed && !t.die.sinksOn && decide t.lockedOut) = true :=
  ⟨base.modDie fun d => { d with flits := [(9, 3)], sinksOn := true }, by decide⟩
theorem wit_flit_good : yields (exec (.flitReceived 9 true) (base.modDie fun d => { d with flits := [(9, 2)] }))
    (fun t => t.die.validAt == base.now && t.die.flits.isEmpty) = true := by decide
theorem wit_flit_bad : yields (exec (.flitReceived 9 false) base) (fun t => assocD 0 t.die.flits 9 == 1 && t.objN 0xF010 2 == 1) = true := by decide
theorem wit_flit_bad_lost : ∃ s : State, s.dieUp = true ∧ 3 ≤ assocD 0 s.die.flits 9 ∧
    yields (exec (.flitReceived 9 false) s) (fun t => t.die.failed && !t.die.sinksOn && decide t.lockedOut) = true :=
  ⟨base.modDie fun d => { d with flits := [(9, 3)], sinksOn := true }, by decide⟩
theorem wit_silence : base.dieUp = true ∧ base.die.validAt + 100 * usP ≤ base.now ∧
    yields (exec .dieLinkSilence base) (fun t => t.die.failed && decide t.lockedOut && t.isl.cause == 6 && t.life.st == .halted) = true := by decide
theorem wit_retry_second : base.dieUp = true ∧ base.die.secNo < base.now / secP ∧
    yields (exec .flitRetryRateSecond (base.modDie fun d => { d with retriedSec := 1001 }))
      (fun t => t.die.retriedSec == 0 && t.die.secNo == 10 && t.obj 0xF010 3 == 1 && t.ev.queue.length == 1) = true := by decide
theorem wit_lane_stopped : yields (exec (.enableLaneStopped 1) (base.modIsl fun i => { i with outA := true, st := .enabled }))
    (fun t => bit t.die.stopped 1 && !t.isl.outA) = true := by decide
theorem wit_anchor_on : ∃ s : State, s.dieUp = true ∧ bit s.die.onCmd 0 = true ∧ s.laneToggles 0 = true ∧
    yields (exec (.anchorOnCommand 0) s) (fun t => !bit t.die.stopped 0 && t.die.sinksOn) = true :=
  ⟨{ (base.modDie fun d => { d with onCmd := 1 }) with gov := { base.gov with enable := true } }, by decide⟩
theorem wit_anchor_outputs : ∃ s : State, s.dieUp = true ∧ bit s.die.onCmd 2 = true ∧ s.laneToggles 2 = true ∧ bit s.die.stopped 1 = false ∧
    s.isl.lanes = 6 ∧ s.die.hvLow = false ∧ yields (exec (.anchorOnCommand 2) s) (fun t => t.isl.outA && t.isl.outB) = true :=
  ⟨(base.modDie fun d => { d with onCmd := 6, stopped := 4 }).modIsl fun i => { i with st := .enabled, lanes := 6 }, by decide⟩
theorem wit_anchor_idle : ∃ s : State, s.dieUp = true ∧ bit s.die.onCmd 1 = true ∧ s.laneToggles 1 = false ∧
    yields (exec (.anchorOnCommand 1) s) (fun t => t.die.stopped == s.die.stopped && decide (t.isl = s.isl)) = true :=
  ⟨base.modDie fun d => { d with onCmd := 2 }, by decide⟩

/-! ### The safety island -/

/-- The island in ENABLED with its outputs on. -/
def enabled : State := base.modIsl fun i => { i with st := .enabled, outA := true, outB := true, lanes := 6 }

/-- A frame of the clean monitoring case that ended. -/
def ended (no at_ : Nat) : FrameEnd :=
  { no := no, start := 0, at_ := at_, aborted := false, set := some 0, before := none, late := false, differ := false }

/-- Inputs 1 of the set type in pair 0. -/
def paired (ty : Nat) : State := base.setObj 0xC020 1 (ty * 4096 + 500)

theorem wit_outputs_safe : enabled.outputsSafe = true ∧ yields (step { enabled with pending := [.outputCurrentLimit] })
    (fun t => t.outputsSafe && !t.isl.outA && !t.isl.outB) = true := by decide
theorem wit_tap_watchdog : yields (exec (.safetyTapWatchdog 0) enabled) (fun t => decide t.lockedOut && t.isl.cause == 2) = true := by decide
theorem wit_verdict_watchdog : yields (exec (.verdictWatchdog 1) (enabled.modIsl fun i => { i with ended := [ended 4 3999400000] }))
    (fun t => decide t.lockedOut && t.isl.cause == 3) = true := by decide
theorem wit_discrepancy : ∃ s : State, (s.setPair 0 ((s.pair 0).settle s.now)).pairDiffers 0 = true ∧
    yields (exec (.safeInputDiscrepancy 0) s) (fun t => decide t.lockedOut && t.isl.cause == 8) = true :=
  ⟨(paired 1).setPair 0 { Reset.pair with a := { Reset.safeCh with ball := true }, differ := some 3800000000 }, by decide⟩
theorem wit_speed_differ : yields (exec .speedDiscrepancyTimeout (enabled.modIsl fun i => { i with disagree := some 3959999999 }))
    (fun t => decide t.lockedOut && t.isl.cause == 10) = true := by decide
theorem wit_readback : enabled.outputsDue = true ∧ yields (exec .outputReadbackTimeout enabled) (fun t => decide t.lockedOut && t.isl.cause == 11) = true := by decide
theorem wit_current : yields (exec .outputCurrentLimit enabled) (fun t => decide t.lockedOut && t.isl.cause == 13) = true := by decide
theorem wit_safety_supply : yields (exec (.safetySupplyFault 0) enabled) (fun t => decide t.lockedOut && t.isl.cause == 5) = true := by decide
theorem wit_test_pulse_a : base.die.hvLow = false ∧ base.tpDue false = true ∧ yields (exec (.testPulse false []) base)
    (fun t => t.tpLow false && t.isl.tpA == some t.now && t.out == [.testPulse 0]) = true := by decide
/-- The pulse at TP_B, 10 ms after the one at TP_A. -/
theorem wit_test_pulse_b : (base.modIsl fun i => { i with tpA := some 3996000000 }).tpDue true = true ∧
    yields (exec (.testPulse true []) (base.modIsl fun i => { i with tpA := some 3996000000 }))
      (fun t => t.tpLow true && t.isl.tpB == some t.now && t.out == [.testPulse 1]) = true := by decide
theorem wit_test_pulse_bad : (paired 2).pairType 0 ≠ 0 ∧ (paired 2).tpDue false = true ∧ yields (exec (.testPulse false [0]) (paired 2))
    (fun t => decide t.lockedOut && t.isl.cause == 9) = true := by decide
/-- A clean test of the first switch, which is open in it. -/
theorem wit_switch_test : enabled.swDue = true ∧ (enabled.modDie fun d => { d with stopped := 0 }).switchClosed 0 = true ∧
    yields (exec (.outputSwitchTest 0) (enabled.modDie fun d => { d with stopped := 0 }))
      (fun t => t.isl.swTest == 1 && t.isl.outA && !t.switchClosed 0 && t.switchClosed 1) = true := by decide
theorem wit_switch_off : ∃ s : State, s.outputsDue = false ∧ s.isl.st = .off ∧
    yields (exec (.outputSwitchTest 12) s) (fun t => decide t.lockedOut && t.isl.cause == 12) = true :=
  ⟨base.modIsl fun i => { i with st := .off }, by decide⟩
theorem wit_switch_start_test : ∃ s : State, s.outputsDue = false ∧ s.isl.st = .startTest ∧
    yields (exec (.outputSwitchTest 12) s) (fun t => decide t.lockedOut && t.isl.cause == 12) = true :=
  ⟨base.modIsl fun i => { i with st := .startTest }, by decide⟩
theorem wit_switch_fault : yields (exec (.outputSwitchTest 14) enabled) (fun t => decide t.lockedOut && t.isl.cause == 14) = true := by decide
theorem wit_start_up : ∃ s : State, s.isl.st = .startTest ∧ s.die.hvLow = false ∧ s.swDue = true ∧ s.isl.testStep = 3 ∧
    yields (exec (.startUpOutputTest 0) s) (fun t => t.isl.testStep == 0 && t.isl.testDone && t.isl.st == .off) = true :=
  ⟨base.modIsl fun i => { i with st := .startTest, testStep := 3, synthDone := true }, by decide⟩
theorem wit_start_up_fault : yields (exec (.startUpOutputTest 12) (base.modIsl fun i => { i with st := .startTest }))
    (fun t => decide t.lockedOut && t.isl.cause == 12) = true := by decide
theorem wit_edge_a : yields (exec (.safeInputEdge 3 false true) base) (fun t => (t.pair 3).a.ball && decide ((t.pair 3).a.changed = some 4000000000 ∧ (t.pair 3).b = (base.pair 3).b.settle base.now)) = true := by
  decide
/-- An edge inside a test-pulse window is no change until the window's end. -/
theorem wit_edge_window : ∃ s : State, s.tpWindow = some 4000060000 ∧
    yields (exec (.safeInputEdge 3 false true) s) (fun t => (t.pair 3).a.ball && decide ((t.pair 3).differ = none ∧
      (t.pair 3).a.pend = some 4000060000 ∧ ((t.pair 3).a.settle 4000060000).changed = some 4000060000)) = true :=
  ⟨base.modIsl fun i => { i with tpB := some 3999900000 }, by decide⟩
theorem wit_edge_b : yields (exec (.safeInputEdge 3 true true) base)
    (fun t => (t.pair 3).b.ball && decide ((t.pair 3).differ = some 4000000000)) = true := by decide
theorem wit_debounced_a : (base.pair 0).a.changed = some 0 ∧ (base.pair 0).a.pend = none ∧ 0 + 3 * msP ≤ base.now ∧ yields (exec (.safeInputDebounced 0 false) base)
    (fun t => !(t.pair 0).a.closed && (t.pair 0).a.sawOpen && (t.pair 0).a.changed.isNone) = true := by decide
theorem wit_debounced_b : yields (exec (.safeInputDebounced 0 true) (base.setPair 0 { Reset.pair with b := { Reset.safeCh with ball := true } }))
    (fun t => (t.pair 0).b.closed && (t.pair 0).b.changed.isNone) = true := by decide
theorem wit_long_press : ∃ s : State, (s.pair 0).since = some 1999999999 ∧ s.pairType 0 = 3 ∧ (s.pair 0).long = false ∧
    1999999999 + 5 * secP < s.now ∧ yields (exec (.resetPairLongPress 0) s) (fun t => (t.pair 0).long && t.ev.queue.length == 1) = true :=
  ⟨(paired 3).setPair 0 { Reset.pair with since := some 1999999999 }, by decide⟩
theorem wit_encoder_a : yields (exec (.speedEncoderEdge false) base) (fun t => t.isl.edgeA == (1, 0) && t.isl.edgeB == (0, 0)) = true := by decide
theorem wit_encoder_b : yields (exec (.speedEncoderEdge true) base) (fun t => t.isl.edgeB == (1, 0) && t.isl.edgeA == (0, 0)) = true := by decide
theorem wit_speed_update : yields (exec .speedUpdate ((base.setObj 0xC030 2 1000).modIsl fun i => { i with edgeA := (3, 5) }))
    (fun t => t.isl.spdA == 400 && t.isl.edgeA == (0, 3)) = true := by decide
theorem wit_stopping : ∃ s : State, s.isl.st = .stopping ∧ s.rampReason s.isl.ve ≠ 0 ∧
    yields (exec .stoppingCheck s) (fun t => t.isl.st == .off && !t.isl.outA && !t.isl.outB) = true :=
  ⟨enabled.modIsl fun i => { i with st := .stopping, stopAt := 4000000000 }, by decide⟩
theorem wit_restart : ∃ s : State, s.isl.conds = some 3000000000 ∧ s.isl.st = .off ∧ s.objN 0xC010 4 = 0 ∧ s.restartOk = true ∧
    3000000000 + s.objN 0xC010 5 * msP ≤ s.now ∧
    yields (exec .restartDelayExpiry s) (fun t =>
      t.isl.st == .enabled && t.isl.lanes == 6 && bit t.die.onCmd 1 && bit t.die.onCmd 2 && t.out == [.anchor 1 1, .anchor 1 2]) = true :=
  ⟨(base.setObj 0xC010 4 0).modIsl fun i => { i with st := .off, conds := some 3000000000, clean := 100, setNow := some 0 }, by decide⟩
theorem wit_hv_low : yields (exec .vddHvUndervoltage base) (fun t => t.die.hvLow) = true := by decide
theorem wit_hv_back : yields (exec .vddHvRestored (base.modDie fun d => { d with hvLow := true })) (fun t => !t.die.hvLow) = true := by decide
theorem wit_verdict : yields (exec (.verdict false false) (enabled.modIsl fun i => { i with ended := [ended 4 3999900000] }))
    (fun t => t.isl.ended.isEmpty && t.isl.lastVerdict == 4) = true := by decide
theorem wit_frame_missing : enabled.isl.st ≠ .init ∧ enabled.isl.lastEnd + (enabled.isl.missed + 1) * (enabled.objN 0xC010 9 * msP) ≤ enabled.now ∧
    yields (exec .frameMissingTimeout enabled) (fun t => t.isl.missed == 1 && t.isl.counter == 1 && t.isl.clean == 0 && t.isl.viol) = true := by
  decide
theorem wit_selection_late : ∃ s : State, s.selectionLate = true ∧ yields (exec .selectionInvalidTimeout s) (fun t => t.isl.selViol) = true :=
  ⟨enabled.modIsl fun i => { i with selBad := some 0 }, by decide⟩
theorem wit_contamination : yields (exec .contaminationJudgement (base.setObj 0xC040 1 2)) (fun t => t.isl.zones.length == 2) = true := by decide
theorem wit_booted : base.isl.st = .init ∧ base.life.st ≠ .off ∧ base.die.failed = false ∧
    (base.loadSet.modIsl fun i => { i with setOk := true }).standingCause = none ∧
    yields (exec (.evaluatorsBooted true) base) (fun t => t.isl.st == .startTest && t.isl.setOk) = true := by decide
theorem wit_booted_bad : yields (exec (.evaluatorsBooted false) base) (fun t => decide t.lockedOut && t.isl.cause == 7) = true := by decide

/-! ### Plovivo -/

/-- A PDU of R361 with its CRC. -/
def pdu (conn e ptime : Nat) (p : Octets) : Octets :=
  toBE 4 conn ++ toBE 2 e ++ oct [0, p.length] ++ toBE 4 ptime ++ p
    ++ toBE 4 (pduCrc conn e (toBE 4 conn ++ toBE 2 e ++ oct [0, p.length] ++ toBE 4 ptime ++ p) p.length)

/-- Safety address 9 with slots 1 (port 0, peer 123h) and 2 (port 15, peer FFFh) running at counter 5. -/
def connected : State :=
  let s := [(0xC401, 0, 9), (0xC400, 5, 2 ^ 27 + 0x123), (0xC400, 6, 100), (0xC400, 9, 15 * 2 ^ 28 + 2 ^ 27 + 0xFFF), (0xC400, 10, 100),
    (0xC400, 1, 2 ^ 27 + 0x321), (0xC400, 2, 20 * 65536), (0xC400, 3, 77)].foldl (fun s x => s.setObj x.1 x.2.1 x.2.2) base
  let run (x : PlvSlot) : PlvSlot := { x with cond := 0, e := 5, tau := 1000 }
  ((s.modSlot 1 run).modSlot 2 run).modSlot 0 fun x => { x with cond := 0 }

/-- To the part's own node on CAN FD with priority 0, and to the Plovivo port over IPv4. -/
def fromCan : PlvFrom := .can 0 (1023 * 1024)
def fromUdp : PlvFrom := .udp 1 false 52741

def cmdPdu : Octets := pdu 0x92123 5 2000 (oct [3, 252, 0, 0, 0, 0, 0, 0, 0, 0])

theorem wit_command_pdu : connected.slotFor fromCan (fieldAt cmdPdu 0 4) = some 1 ∧ (connected.plvAccept 1 (fieldAt cmdPdu 0 4) cmdPdu).2 = true ∧
    yields (exec (.commandPdu fromCan cmdPdu) connected) (fun t => t.isl.selCase == some 3) = true := by decide +kernel

/-- A download that has come so far. -/
def download (k : Nat) (image : Octets) (len : Nat) : State :=
  connected.modPlv fun p => { p with psess := k, image := image, len := len, crc := crc32c (oct [1, 2, 3]), seg := 1 }

def dataPdu : Octets := pdu 0x93055 5 2000 (oct [2, 0, 0, 2, 0, 0, 0, 1, 9])
theorem wit_param_data : connected.slotFor fromUdp (fieldAt dataPdu 0 4) = some 2 ∧
    ((download 1 (oct [1]) 3).plvAccept 2 (fieldAt dataPdu 0 4) dataPdu).2 = true ∧
    yields (exec (.paramData fromUdp dataPdu) (download 1 (oct [1]) 3)) (fun t => t.plv.psess == 1 && t.plv.image == oct [1, 9]) = true := by decide +kernel
theorem wit_param_data_end : yields (exec (.paramData fromUdp (pdu 0x93055 5 2000 (oct [2, 0, 0, 2, 0, 0, 0, 2, 3]))) (download 1 (oct [1, 2]) 3))
    (fun t => t.plv.psess == 2) = true := by decide +kernel
theorem wit_param_verify : yields (exec (.paramVerify fromUdp (pdu 0x93055 5 2000 (oct [3, 0, 0, 0]))) (download 2 (oct [1, 2, 3]) 3))
    (fun t => t.plv.psess == 4 && t.plv.reason == 5) = true := by decide +kernel
theorem wit_param_abandon : yields (exec (.paramAbandon fromUdp (pdu 0x93055 5 2000 (oct [5, 0, 0, 0]))) (download 2 (oct [1, 2, 3]) 3))
    (fun t => t.plv.psess == 0 && t.plv.image.isEmpty && t.plv.crc == 0) = true := by decide +kernel
theorem wit_param_form : paramForm (oct [3, 0]) = false ∧ yields (exec (.paramData fromUdp (pdu 0x93055 5 2000 (oct [3, 0]))) (download 2 (oct [1, 2, 3]) 3))
    (fun t => t.plv.psess == 4 && t.plv.reason == 8) = true := by decide +kernel
theorem wit_plv_watchdog : connected.slotOn 1 = true ∧ (connected.plvSlot 1).cond = 0 ∧
    (connected.plvSlot 1).wdAt + bits (connected.cfg400 1 2) 0 16 * msP ≤ connected.now ∧
    yields (exec (.plovivoWatchdog 1) connected) (fun t => (t.plvSlot 1).cond == 1 && (t.plvSlot 1).cause == 4) = true := by decide +kernel
theorem wit_status_cycle : connected.slotOn 0 = true ∧ (connected.plvSlot 0).sentAt + bits (connected.cfg400 0 2) 16 16 * msP ≤ connected.now ∧
    yields (exec (.statusPduCycle false false) connected)
      (fun t => (t.plvSlot 0).sentAt == t.now && (t.plvSlot 0).e == 1 && t.out.length == 1) = true := by decide +kernel
theorem wit_hostfs : yields (exec .hostfsSessionTimer (connected.modPlv fun p => { p with hostfs := true, hostfsAt := 4000000000 }))
    (fun t => t.plv.hostfsAt == 4400000000 && (t.plvSlot 0).e == 0 && (t.plvSlot 0).fresh) = true := by decide +kernel
theorem wit_unmatched_port : connected.plvHears (.udp 1 true 52741) = false ∧ connected.plvHears (.udp 1 false 52740) = false ∧
    connected.plvHears (.can 0 (1022 * 1024)) = false ∧ connected.plvHears (.can 0 (1023 * 1024 + 2 ^ 21)) = false ∧
    yields (exec (.plovivoPduUnmatched (.udp 1 false 52740) 0x92124) connected)
    (fun t => t.dict == connected.dict && t.plv == connected.plv) = true := by decide +kernel
theorem wit_unmatched : connected.plvHears fromCan = true ∧ connected.slotFor fromCan 0x92124 = none ∧ yields (exec (.plovivoPduUnmatched fromCan 0x92124) connected)
    (fun t => t.objN 0xC410 7 == 1) = true := by decide +kernel

/-! ### Patterns, slots and emitters -/

/-- The entry of the worked example after R87. -/
def entry1 : Nat := 0x0000000000F000C0A2580B0001902056

theorem wit_pattern_write : ∃ s : State, s.patPtr = (0, 0, 0) ∧
    s.accepts rq (entBlob 0x3202 (toBE 16 entry1)) (s.patCodes (toBE 16 entry1)) ∧ (s.quad 0).ready = true ∧
    yields (exec (.patternDataWrite rq (toBE 16 entry1)) s)
      (fun t => decide (t.took rq) && t.objN 0x3201 3 == 1 && (t.quad 0).shd.entry 0 == entry1 && (t.quad 0).act.entry 0 == 0) = true :=
  ⟨base, by decide⟩
theorem wit_pattern_queue : ∃ s : State, (s.quad 0).ready = false ∧
    yields (exec (.patternDataWrite rq (toBE 16 entry1)) s)
      (fun t => decide (t.took rq) && (t.quad 0).wq == [(0, 0, toBE 16 entry1)] && (t.quad 0).shd.entries.isEmpty) = true :=
  ⟨base.modQuad 0 fun q => { q with ready := false }, by decide⟩

/-- Quadrant 0 with a pattern of one entry, an angle in place of a time when asked. -/
def patterned (angle : Bool) : State :=
  let e := 332 * 65536 + 1 + (if angle then 2 ^ 32 else 0)
  let s := run.modQuad 0 fun q => { q with
    act := { q.act with entries := [(0, e)] }, shd := { q.shd with entries := [(0, e)] }, seq := { q.seq with done := false, prevNom := 3996000000, jit := 1 } }
  { s with steer := { s.steer with period := 1000 } }

theorem wit_commit : (patterned false).accepts rq (entArg 0x3210 .u8 1) ((patterned false).commitCodes 1) ∧
    yields (exec (.patternCommit rq 1) (patterned false)) (fun t => decide (t.took rq) && t.tv.pend.any fun p => p.obj == 0x3210 && p.val == 1) = true := by
  decide
theorem wit_commit_weight : ∃ s : State, s.accepts rq (entArg 0x3210 .u8 1) (s.commitCodes 1) ∧ ((s.quad 0).shd.zoomEntries.map fun e => entWeight e * (entRep e + 1)).sum = 10 ∧
    yields (exec (.patternCommit rq 1) s) (fun t => (t.quad 0).shd.weight == 10) = true :=
  ⟨(patterned false).modQuad 0 fun q => { q with shd := { q.shd with entries := [(0, 332 * 65536 + 9 * 16), (1, 332 * 65536 + 8 * 16), (2, 5 * 2 ^ 33 + 332 * 65536 + 9 * 16 + 3)] } },
    by decide +kernel⟩
theorem wit_refreshed : ∃ s : State, (s.quad 0).ready = false ∧
    yields (exec (.shadowRefreshDone 0) s) (fun t => (t.quad 0).ready && (t.quad 0).shd.entries == [(0, 5), (1, 6)]) = true :=
  ⟨base.modQuad 0 fun q => { q with ready := false, act := { q.act with entries := [(0, 5)] }, wq := [(0, 1, toBE 16 6)] }, by decide⟩
theorem wit_duration_cut : ∃ s : State, s.sequences 0 = true ∧ (s.quad 0).act.dur ≠ 0 ∧ s.frm.start + (s.quad 0).act.dur * usP ≤ s.now ∧
    yields (exec (.patternDurationCut 0) s) (fun t => (t.quad 0).seq.done && (t.quad 0).seq.cut) = true :=
  ⟨(patterned false).modQuad 0 fun q => { q with act := { q.act with dur := 10000 } }, by decide⟩
theorem wit_slot : (patterned false).sequences 0 = true ∧ (patterned false).timePlaced 0 = some 3996000332 ∧ (patterned false).slotAt 0 3996000332 ≤ (patterned false).now2 ∧
    (patterned false).beforeCut 0 3996000332 = true ∧
    yields (exec (.slot 0 false) (patterned false)) (fun t => (t.quad 0).seq.prevNom == 3996000332 && (t.quad 0).seq.jit == jitNext 1 && (t.quad 0).seq.done) = true := by
  decide
/-- The fast-axis angle runs along the line of two outputs, value and instant, newest first. -/
def angled (s : State) (l : List (Int × Int)) : State :=
  s.setFilt (s.objN 0x7602 1) { s.stampCh true with outs := l.map fun x => { y := x.1, at_ := x.2, tk := 0, flag := 0, prod := 3995990000 } }

/-- The angle 332 has been passed before the frame began, or is reached 1,000 periods after it. -/
def anglePast : State := angled ((patterned true).modQuad 0 fun q => { q with seq := { q.seq with prevNom := 3995990000 } }) [(400, 3995999000), (0, 3995991000)]
def angleNow : State := angled { patterned true with now := 3996001000 } [(332, 3996001000), (0, 3996000000)]

theorem wit_angle_late : anglePast.angleFrom 0 = some 3996000000 ∧ anglePast.anglePassed 0 3996000000 = true ∧ anglePast.beforeCut 0 3996000000 = true ∧
    yields (exec (.angleTrigger 0 0 false) anglePast) (fun t => (t.quad 0).seq.prevNom == 3996000000 && (t.quad 0).seq.jit == jitNext 1) = true := by decide +kernel
/-- The row may come later than the angle: the slot lies at the instant of the angle. -/
theorem wit_angle : angleNow.angleFrom 0 = some 3996000000 ∧ angleNow.anglePassed 0 3996000000 = false ∧ angleNow.angleReach 0 3996000000 = some 3996001000 ∧
    angleNow.beforeCut 0 3996001000 = true ∧
    yields (exec (.angleTrigger 0 0 false) { angleNow with now := 3996001200 }) (fun t => (t.quad 0).seq.prevNom == 3996001000) = true := by decide +kernel
theorem wit_angle_missed : (patterned true).angleFrom 0 = some 3996000000 ∧ (patterned true).anglePassed 0 3996000000 = false ∧
    (patterned true).angleReach 0 3996000000 = none ∧ (patterned true).beforeCut 0 3996001000 = true ∧
    yields (exec (.angleMissed 0) (patterned true)) (fun t => (t.quad 0).seq.prevNom == 3996001000 && (t.quad 0).shots.isEmpty && t.out.isEmpty) = true := by
  decide +kernel
theorem wit_no_slot : base.sequences 2 = false := by decide +kernel
theorem wit_strike : (base.setObj 0x3310 2 77).accepts rq (entArg 0x3320 .u8 1) [] ∧
    yields (exec (.strike rq 1) (base.setObj 0x3310 2 77)) (fun t => decide (t.took rq) && t.obj 0x3311 2 == 77) = true := by decide +kernel
theorem wit_peak : ∃ s : State, s.peakKind 3 200 = 2 ∧ 1 ≤ (s.emitter 195).above ∧ (s.emitter 195).retired = 0 ∧
    yields (exec (.hpcPeakReading 3 200) s) (fun t => (t.emitter 195).peak == 2 && (t.emitter 195).suspended) = true :=
  ⟨(base.setObj 0x3311 196 (10 * 256 + 100)).modEm 195 fun x => { x with above := 1 }, by decide⟩
theorem wit_retest : base.accepts rq (entArg 0x3352 .u8 199) [] ∧
    yields (exec (.emitterRetest rq 199) base) (fun t => decide (t.took rq) && (t.emitter 199).retest == 4) = true := by decide +kernel
theorem wit_governor : base.gov.shortNo < base.now / max 1 (base.govLen false) ∧
    yields (exec (.governorSubinterval false) { base with gov := { base.gov with short := [(0, [3, 4])] } })
      (fun t => t.gov.short == [(0, [0, 3, 4])] && t.gov.shortNo == 1) = true := by decide +kernel
theorem wit_governor_long : yields (exec (.governorSubinterval true) { base with gov := { base.gov with long := [(0, List.replicate 16 1)] } })
    (fun t => t.gov.long == [(0, 0 :: List.replicate 15 1)] && t.gov.longNo == 1) = true := by decide +kernel
/-- The pattern entry of the worked example of R87. -/
theorem test_entry_fields : entEmit entry1 = 0xF0 ∧ entHpc entry1 = 0 ∧ entGset entry1 = 3 ∧ entGain entry1 = 0 ∧ entWstart entry1 = 40 ∧
    entWend entry1 = 1200 ∧ entCode entry1 = 5 ∧ entWeight entry1 = 128 ∧ entAngle entry1 = false ∧ entTrig entry1 = 400 ∧
    entCell entry1 = 517 ∧ entRep entry1 = 3 ∧ entLast entry1 = false ∧
    ({ Reset.bank with entries := [(0, entry1 + 1)] }).computed = 1600 + 1920 := by decide +kernel

/-! ### Return channels, contexts and calibration -/

/-- A coarse shot of slot 2 of the running frame, at the frame's 2.5 ms, with gates open or not on channel 3. -/
def shot (opened : Nat) : Shot :=
  { slot := 2, frame := 5, at2 := 19985000000, nom := 3997000000, cell := 9, pass := 0, visit := 0, gmask := 8, gain := 0, wstart := 40, wend := 1200
    pulses := [0], listening := false, angleTrig := false, late := false, early := false, opened := opened, closedM := 0, blindEm := false
    stamp := none, closed := false }

/-- RUN with that shot and channel 3 as given, all channels of Quadrant 0 enabled, delays known. -/
def shooting (opened : Nat) (f : Chan → Chan) : State :=
  ((run.modQuad 0 fun q => { q with shots := [shot opened] }).setObj 0x3400 4 (2 ^ 31)).setChan 0 3
    (f { chan0 with calAt := 3999000000, table := some [0, 100, 200], d0 := some 0, d1 := some 0 })

/-- A hit waiting in the buffer. -/
def hit0 : Hit :=
  { at_ := 3997000100, fine := 0, d := 0, w := 0, tot := 50, rng := false, gain := 0, clamp := false, settle := false, held := false, frame := 5, slot := 2
    stamp := 0, idx := 0, gen := 0, relief := false, t := 0, done := false }

theorem wit_gate_open : (shooting 0 id).shotNow 0 2 = some (shot 0) ∧ bit (shot 0).gmask 3 = true ∧ bit (shot 0).opened 3 = false ∧
    (shot 0).open2 ≤ (shooting 0 id).now2 + 4 ∧ (shooting 0 id).chanGates 0 3 = true ∧
    yields (exec (.gateOpen 0 2 3) (shooting 0 id)) (fun t => (t.chan 0 3).gates == 1 && ((t.shotNow 0 2).map fun y => bit y.opened 3) == some true
      && (t.ctx 0 5 9 3 false).isSome) = true := by decide +kernel
theorem wit_gate_close : (shot 8).openOn 3 = true ∧ (shot 8).close2 ≤ (shooting 8 id).now2 + 4 ∧
    yields (exec (.gateClose 0 2 3) (shooting 8 id)) (fun t => ((t.shotNow 0 2).map fun y => y.openOn 3) == some false) = true := by decide +kernel
/-- Now moved to 100 periods after the shot's nominal instant. -/
def atHit (f : Chan → Chan) : State := { shooting 8 f with now := 3997000100 }
theorem wit_leading : yields (exec (.hitLeadingEdge 0 3 2 50 false false 0 0) (atHit id)) (fun t => decide ((t.chan 0 3).compAt = some 3997000100) &&
    (t.chan 0 3).inHit && ((t.chan 0 3).buf.map fun h => (h.at_, h.fine, h.frame, h.slot)) == [(3997000100, 200, 5, 2)]) = true := by decide +kernel
theorem wit_leading_outside : yields (exec (.hitLeadingEdge 0 3 2 50 false false 0 0) (shooting 0 id)) (fun t => (t.chan 0 3).buf.isEmpty && !(t.chan 0 3).inHit) = true := by
  decide +kernel
theorem wit_trailing : yields (exec (.hitTrailingEdge 0 3 1) (shooting 8 fun c => { c with compAt := some 3999999990, inHit := true }))
    (fun t => (t.chan 0 3).compAt.isNone && !(t.chan 0 3).inHit && decide ((t.chan 0 3).trail80 = some (4000000000 * 20480 + 500))) = true := by decide +kernel
theorem wit_late_pulse : yields (exec (.missingPulseDeadline 0 3) (shooting 8 fun c => { c with late := [{ frame := 5, slot := 2, at_ := 3997000100, fine := 0, due := 3997000900 }] }))
    (fun t => (t.chan 0 3).late.isEmpty) = true := by decide +kernel
theorem wit_unmatched_hit : yields (exec (.hitUnmatched 0 3) (shooting 8 fun c => { c with buf := [hit0] }))
    (fun t => (t.chan 0 3).buf == [{ hit0 with done := true }] && t.tap.cands.length == 1) = true := by decide +kernel
theorem wit_clamp_on : yields (exec (.clampOn 0 3) base) (fun t => decide ((t.chan 0 3).clampAt = some base.now) && (t.chan 0 3).clamps == 1) = true := by decide
theorem wit_clamp_off : yields (exec (.clampOff 0 3) (shooting 8 fun c => { c with clampAt := some 5 })) (fun t => (t.chan 0 3).clampAt.isNone
    && (t.chan 0 3).clampEnd2 == 20000000040) = true := by decide +kernel
theorem wit_clamp_event : ∃ s : State, (s.chan 0 3).clampEvt = false ∧ 2 * s.objN 0x3430 1 < s.clampLen (s.chan 0 3) ∧
    yields (exec (.clampEvent 0 3) s) (fun t => (t.chan 0 3).clampEvt && (t.chan 0 3).st == 2 && (t.chan 0 3).check == 1) = true :=
  ⟨shooting 8 fun c => { c with clampAt := some 5 }, by decide +kernel⟩
/-- An episode of 981 ns of current and 20 ns after it: the event comes in the last 20 ns. -/
theorem wit_clamp_tail : yields (exec (.clampEvent 0 3) (shooting 8 fun c => { c with clampWas := 3999999000, clampEnd2 := 19999997002 }))
    (fun t => (t.chan 0 3).clampEvt) = true := by decide +kernel
theorem wit_stuck : yields (exec (.stuckOnDetected 0 3) (shooting 8 fun c => { c with compAt := some 3999979999 }))
    (fun t => (t.chan 0 3).st == 3 && (t.chan 0 3).sus == 2 && t.tap.chans.length == 1) = true := by decide +kernel
theorem wit_stuck_edge : yields (exec (.stuckOnDetected 0 3) (shooting 8 fun c => { c with compAt := some 3999980000 }))
    (fun t => (t.chan 0 3).st == 0) = true := by decide +kernel
theorem wit_stuck_readmit : yields (exec (.stuckOnDetected 0 3) (shooting 8 fun c => { c with st := 4, readmit := 3, compAt := some 3999979999 }))
    (fun t => (t.chan 0 3).st == 4 && (t.chan 0 3).readBad) = true := by decide +kernel
theorem wit_overdue : yields (exec (.calibrationOverdue 0 3) (shooting 8 fun c => { c with calAt := 3939999999 })) (fun t => (t.chan 0 3).st == 3
    && (t.chan 0 3).sus == 3) = true := by decide +kernel
theorem wit_cal_due : yields (exec (.converterCalibrationDue 0 263) base) (fun t => (t.chan 0 263).due && (t.chan 0 263).calStart == t.now) = true := by decide
theorem wit_cal_due_wtb : (base.wof.convs.get 1).due = false ∧ (base.wof.convs.get 1).calAt + 25 * msP ≤ base.now ∧
    yields (exec (.converterCalibrationDue 0 265) base) (fun t => (t.wof.convs.get 1).due && (t.wof.convs.get 1).calStart == t.now) = true := by
  decide +kernel
/-- Channel 3 has waited for more than 10 ms for its calibration, with or without a gate open. -/
def waiting (opened : Nat) : State := { shooting opened (fun c => { c with due := true, calStart := 0 }) with now := 5000000 }
theorem wit_relief : ((waiting 0).chan 0 3).wantsRelief 5000000 = true ∧ (waiting 0).oldestWaiting 0 3 = true ∧ (waiting 0).openShots 0 3 = [] ∧
    (waiting 0).reliefFree 0 = 256 :: ((List.range 7).map (· + 257)) ∧
    yields (exec (.reliefHandover 0 ⟨3, []⟩) (waiting 0)) (fun t => decide ((t.chan 0 3).relief = some 256)) = true := by decide +kernel
theorem wit_relief_boundary : (waiting 8).openShots 0 3 ≠ [] ∧ (waiting 8).oldestWaiting 0 3 = true ∧ ((waiting 8).chan 0 3).calNext = none ∧
    yields (exec (.reliefHandover 0 ⟨3, []⟩) (waiting 8)) (fun t => decide ((t.chan 0 3).relNext = some (some 256) ∧ (t.chan 0 3).relief = none)) = true := by
  decide +kernel
/-- Two hundred equal bins. -/
def flat : List Nat := List.replicate 200 10
/-- Channel 3 is served by a relief converter while its own calibrates, with or without a gate open. -/
def relieved (opened : Nat) : State := shooting opened fun c => { c with due := true, relief := some 256, table := none, offset := some 2060 }
theorem wit_cal_done : ((relieved 0).chan 0 3).due = true ∧ (relieved 0).canCalibrate 0 3 = true ∧ (calResult ((relieved 0).prevOffset 0 3) flat [100, 101] 0).isSome = true ∧
    yields (exec (.converterCalibrationDone 0 3 flat [100, 101] 0) (relieved 0)) (fun t => (t.chan 0 3).gen == 1 && (t.chan 0 3).calAt == t.now
      && !(t.chan 0 3).due && (t.chan 0 3).relief.isNone
      && decide ((t.chan 0 3).offset = some (meanOffset (densityTable (flat.take 384)).1 [100, 101]))) = true := by decide +kernel
theorem wit_cal_done_boundary : (relieved 8).openShots 0 3 ≠ [] ∧
    yields (exec (.converterCalibrationDone 0 3 flat [100, 101] 0) (relieved 8)) (fun t => (t.chan 0 3).gen == 0 && (t.chan 0 3).calAt == t.now
      && decide ((t.chan 0 3).table = none ∧ (t.chan 0 3).relief = some 256)) = true := by decide +kernel
theorem wit_cal_bad : calResult ((relieved 0).prevOffset 0 3) (flat ++ [0] ++ flat) [100] 0 = none ∧ yields (exec (.converterCalibrationDone 0 3 (flat ++ [0] ++ flat) [100] 0) (relieved 0))
    (fun t => (t.chan 0 3).gen == 0 && (t.chan 0 3).calAt == 3999000000) = true := by decide +kernel
/-- Both converters of the Wofen pairs calibrate. -/
def pairsDue : State := { base with wof := { base.wof with convs := base.wof.convs.map fun v => { v with due := true, offset := some 2060 } } }
theorem wit_cal_done_wtb : (calResult (pairsDue.pairOffset 0) flat [100, 101] 0).isSome = true ∧
    yields (exec (.converterCalibrationDone 0 264 flat [100, 101] 0) pairsDue)
      (fun t => (t.wof.convs.get 0).gen == 1 && (t.wof.convs.get 0).calAt == t.now && (t.wof.convs.get 0).table.isSome) = true := by decide +kernel

/-- A coarse context of channel 3 and cell 9 that is closed, with a peak in its bins, and a pattern that visits the cell twice. -/
def searching : State :=
  let k : Ctx := { ctx0 (shot 8) 3 false 200 [0, 1, 2, 3] 0 with bins := [(99, 2), (100, 30), (101, 8)], sCoarse := 8, closed := true }
  let e (c l : Nat) : Nat := 332 * 65536 + c * 16 + l
  (run.modQuad 0 fun q => { q with act := { q.act with entries := [(0, e 9 0), (1, e 8 0), (2, e 9 1)] } }).modCru 0 fun c =>
    { c with ctxs := [k], cells := [{ cell0 5 9 with visits := 2, coarseClosed := true, coarseFired := true }] }

theorem wit_visit_close : ∃ s : State, s.visitCloseDue 0 9 0 = true ∧
    yields (exec (.visitClose 0 9 0) s) (fun t => (t.cellRec 0 5 9).coarseClosed) = true :=
  ⟨searching.setCell 0 { cell0 5 9 with visits := 1 }, by decide +kernel⟩
theorem wit_visit_close_zoom : ∃ s : State, s.visitCloseDue 0 9 1 = true ∧
    yields (exec (.visitClose 0 9 1) s) (fun t => (t.cellRec 0 5 9).zoomClosed && (t.cellRec 0 5 9).finished) = true := ⟨searching, by decide +kernel⟩
theorem wit_peak_search : searching.searchFrame 0 9 3 = some 5 ∧ searching.hasZoom 0 9 = true ∧
    yields (exec (.peakSearchDone 0 9 3) searching) (fun t => ((t.ctx 0 5 9 3 false).map fun k => (k.searched, k.wins.length)) == some (true, 1)) = true := by
  decide +kernel
theorem wit_stamp : ∃ s : State, s.stampDue (shot 8) = true ∧ (s.quad 0).shots.find? (fun x => x.slot == 2 && x.stamp.isNone) = some (shot 8) ∧
    yields (exec (.angleStampReady 0 2) s) (fun t => t.ana.stamped == 1 && ((t.findShot 0 5 2).map fun y => y.stamp.isSome) == some true) = true :=
  ⟨shooting 8 id, by decide +kernel⟩
theorem wit_bank_select : base.accepts rq (entMember 0x4201 1 .u8 0) (base.mcSelCodes [(1, 0)]) ∧
    yields (exec (.microcodeBankSelect rq 0 0) base) (fun t => decide (t.took rq) && t.tv.pend.any fun p => p.obj == 0x4201 && p.el == 1 && p.val == 0) = true := by
  decide +kernel

/-! ### Beam steering and the control engine -/

/-- Steering with Helm A active at claim 254 and Helm B ready at 253. -/
def steered : State :=
  { run with steer := { run.steer with running := true, helmA := { Reset.helm with st := 0, claim := 254 }, helmB := { Reset.helm with st := 1, claim := 253 }
                                       lastClaim := 254, zeros := 4, lastZero := 3999990000, period := 20000, driving := true
                                       fast := { Reset.axis with valid := true, causes := 0 } } }

theorem wit_crossing : yields (exec (.fastAxisZeroCrossing ⟨true, 77⟩) steered)
    (fun t => t.steer.lastZero == t.now && t.steer.zeros == 5 && t.steer.halfAmp == 77 && t.steer.period == 10000) = true := by decide +kernel
theorem wit_crossing_falling : yields (exec (.fastAxisZeroCrossing ⟨false, 78⟩) steered)
    (fun t => t.steer.lastZero == 3999990000 && t.steer.zeros == 4 && t.steer.halves == 1 && t.steer.halfAmp == 78 && t.steer.period == 20000) = true := by decide +kernel
theorem wit_crossing_timeout : ∃ s : State, s.steer.running = true ∧ 3 * s.steer.period ≤ 2 * (s.now - s.steer.lastZero) ∧ s.steer.fast.valid = true ∧
    yields (exec .fastAxisCrossingTimeout s) (fun t => bit t.steer.fast.causes 3 && !t.steer.fast.valid && t.steer.fast.invalidAt == t.now) = true :=
  ⟨{ steered with steer := { steered.steer with lastZero := 3999970000 } }, by decide +kernel⟩
theorem wit_revalidation : ∃ s : State, (s.axis false).valid = false ∧ (s.axis false).causes = 0 ∧ (s.axis false).clearAt + msP ≤ s.now ∧ 2 ≤ (s.axis false).clearPeriods ∧
    yields (exec (.positionRevalidation 1) s) (fun t => (t.axis false).valid && (t.axis false).validAt == t.now) = true :=
  ⟨steered.setAxis false { Reset.axis with causes := 0, clearPeriods := 2, clearAt := 3999600000 }, by decide +kernel⟩
theorem wit_control_period : steered.pick (steered.steer.helmA.sends true) (steered.steer.helmB.sends true) = some false ∧ (steered.helm false).st = 0 ∧
    yields (exec (.controlPeriod .good .good true) steered) (fun t => t.steer.held == 0 && t.steer.driving && t.steer.lastClaim == 254 && t.steer.lastSrc == 0) = true := by
  decide +kernel
/-- R109's example: A fails at claim FEh, B takes over with FFh. -/
theorem test_hand_over : yields (exec (.controlPeriod .lanesFail .good true) steered) (fun t => t.steer.helmB.claim == 0xFF && t.steer.helmA.st == 3) = true := by
  decide +kernel
/-- A command whose check code is bad is no command (R107): the last command is held. -/
theorem wit_bad_code : steered.pick (steered.steer.helmA.sends true && HelmOut.badCode.codeOk) (steered.steer.helmB.sends true && HelmOut.good.codeOk) ≠ some false ∧
    yields (exec (.controlPeriod .badCode .good true) steered) (fun t => t.steer.held == 1 && t.steer.lastClaim == 254) = true := by decide +kernel
theorem wit_no_helm : ∃ s : State, s.pick (s.steer.helmA.sends true) (s.steer.helmB.sends true) = none ∧ 3 ≤ s.steer.held ∧
    yields (exec (.controlPeriod .good .good true) s) (fun t => t.steer.held == 4 && !t.steer.driving && bit t.steer.fast.causes 4 && bit t.steer.slow.causes 4) = true :=
  ⟨{ steered with steer := { steered.steer with helmA := { Reset.helm with st := 3 }, helmB := { Reset.helm with st := 4 }, held := 3 } }, by decide +kernel⟩
theorem wit_reinit : yields (exec (.helmReinitDone 0) { steered with steer := { steered.steer with helmA := { Reset.helm with st := 3 } } })
    (fun t => t.steer.helmA.st == 2 && t.steer.helmB.st == 1) = true := by decide +kernel
theorem wit_ready : yields (exec (.helmStandbyReady 1) { steered with steer := { steered.steer with helmB := { Reset.helm with st := 2, syncPeriods := 2, syncLanding := true } } })
    (fun t => t.steer.helmB.st == 1 && t.steer.helmB.claim == 253) = true := by decide +kernel
theorem wit_ferry : steered.accepts rq (entArg 0x6110 .u8 1) (when (!steered.standbyReady) 0x0601) ∧
    yields (exec (.ferryCommand rq 1) steered) (fun t => decide (t.took rq) && t.steer.ferryOrdered) = true := by decide +kernel

/-- Slot 3 runs on input 5 with target 0, kind 0, reference member 13 and step; `seen` is the last sample used. -/
def looping (seq : Nat) (f : LoopInst → LoopInst) : State :=
  let s := (((base.setObj 0x6200 4 (5 * 65536)).setObj 0x6210 4 1).setObj 0x6201 13 500)
  let s1 := s.setLoopInst 3 0 (f { loopInit 0 with u := 1, seen := 7 })
  { s1 with ana := { s1.ana with newest := [(5, { cal := 100, lin := 100, cls := 0, seq := seq, at_ := 0, tk := 0, void := false })] } }

theorem wit_loop_sample : (looping 8 id).loopRuns 3 = true ∧ ((looping 8 id).loopInst 3 0).faulted = false ∧
    ((looping 8 id).loopInput (lwIn ((looping 8 id).loopWord 3)) 0).2 ≠ ((looping 8 id).loopInst 3 0).seen ∧ (looping 8 id).inputVoid (lwIn ((looping 8 id).loopWord 3)) 0 = false ∧
    yields (exec (.loopSample 3 0 true) (looping 8 id)) (fun t => (t.loopInst 3 0).appl == 1 && (t.loopInst 3 0).seen == 8 && (t.loopInst 3 0).err == 400) = true := by
  decide +kernel
theorem wit_loop_missing : ((looping 7 id).loopInput (lwIn ((looping 7 id).loopWord 3)) 0).2 = ((looping 7 id).loopInst 3 0).seen ∧
    yields (exec (.loopSample 3 0 true) (looping 7 id)) (fun t => (t.loopInst 3 0).missedNow == 1 && (t.loopInst 3 0).missedAll == 1 && (t.loopInst 3 0).appl == 1) = true := by
  decide +kernel
/-- A sample of a pass in which its converter faulted is missing too (R203). -/
theorem wit_loop_void : ∃ s : State, s.inputVoid (lwIn (s.loopWord 3)) 0 = true ∧ (s.loopInput (lwIn (s.loopWord 3)) 0).2 ≠ (s.loopInst 3 0).seen ∧
    yields (exec (.loopSample 3 0 true) s) (fun t => (t.loopInst 3 0).missedNow == 1 && (t.loopInst 3 0).u == 1) = true :=
  ⟨{ looping 8 id with ana := { (looping 8 id).ana with newest := [(5, { cal := 100, lin := 100, cls := 0, seq := 8, at_ := 0, tk := 0, void := true })] } }, by decide +kernel⟩
theorem wit_loop_late : yields (exec (.loopSample 3 0 false) (looping 8 id)) (fun t => (t.loopInst 3 0).faulted && (t.loopInst 3 0).u == 0 && (t.loopInst 3 0).appl == 0) = true := by
  decide +kernel
/-- Converter 0 passes over selector 5 in one step. -/
def sampled : State := ((base.setObj 0x7001 1 1).setObj 0x7000 1 (5 * 1024)).setObj 0x7003 1 1
theorem wit_loop_start : ∃ s : State, s.accepts rq (ent 0x6210 11 .bool 1) (s.loopStartCodes 10) ∧
    yields (exec (.loopStart rq 10) s) (fun t => decide (t.took rq) && t.loopRuns 10) = true := ⟨sampled.setObj 0x6200 11 (5 * 65536), by decide +kernel⟩
theorem wit_loop_stop : (looping 8 id).accepts rq (ent 0x6210 4 .bool 0) ((looping 8 id).loopStopCodes 3) ∧
    yields (exec (.loopStop rq 3) (looping 8 id)) (fun t => decide (t.took rq) && !t.loopRuns 3 && (t.loopInst 3 0).u == 0) = true := by decide +kernel
/-- Both excitation channels sampled in one-step passes and filtered by the stamping channels. -/
def stampable : State :=
  [(0x7001, 1, 1), (0x7001, 2, 1), (0x7000, 1, 0x18 * 1024), (0x7000, 17, 0x18 * 1024), (0x7602, 1, 0), (0x7602, 2, 1), (0x7600, 1, 2 ^ 25 + 4 * 2 ^ 19),
    (0x7600, 2, 2 ^ 30 + 2 ^ 25 + 4 * 2 ^ 19), (0x7610, 0, 1), (0x7610, 1, 16384), (0x7611, 0, 1), (0x7611, 1, 16384)].foldl (fun s x => s.setObj x.1 x.2.1 x.2.2) base
theorem wit_steering_start : stampable.accepts rq (ent 0x6001 0 .bool 1) stampable.steerStartCodes ∧
    yields (exec (.steeringStart rq) stampable) (fun t => decide (t.took rq) && t.steer.running && t.obj 0x6001 0 == 1) = true := by decide +kernel
theorem wit_steering_stop : ∃ s : State, s.steer.running = true ∧ s.accepts rq (ent 0x6001 0 .bool 0) s.steerStopCodes ∧
    yields (exec (.steeringStop rq) s) (fun t => decide (t.took rq) && !t.steer.running && !t.steer.fast.valid && !t.steer.driving) = true :=
  ⟨{ base with steer := steered.steer }, by decide +kernel⟩
theorem wit_comp_clear : ∃ s : State, s.accepts rq (entArg 0x6403 .u8 3) [] ∧
    yields (exec (.compensatorClear rq 3) s) (fun t => decide (t.took rq) && (assocD comp0 t.forge.comps 3).tab.isEmpty) = true :=
  ⟨base.setComp 0 3 { comp0 with tab := [(1, 5)], term := 4 }, by decide +kernel⟩
/-- The bias record of Quadrant 2 as given. -/
def biased (b : Bias) : State := { base with forge := { base.forge with bias := base.forge.bias.set 2 b } }
theorem wit_bias_settled : yields (exec (.biasSettled 2) (biased { Reset.bias with inBand := some 3999600000 })) (fun t => (t.forge.bias.get 2).settled) = true := by
  decide +kernel
theorem wit_bias_fallback : ∃ s : State, 0 ≤ s.obj 0x6500 12 ∧ yields (exec (.detectorTempFallback 2) s)
    (fun t => (t.forge.bias.get 2).fallback && t.ev.queue.length == 1) = true :=
  ⟨(biased { Reset.bias with lostAt := some 3960000000 }).setObj 0x6500 12 0, by decide +kernel⟩

/-! ### Analogue sensing -/

/-- A sample of ANA_05 taken 1 µs ago. -/
def taken1 : Taken := { step := 0, pass := 3999999600, sel := 5, at_ := 3999999600, tk := 0, fine := false, trans := false }
def converting (f : Adc → Adc) : State := (sampled.setObj 0x7500 1 0).setAdc 0 (f (sampled.adc 0))
/-- A system trim of offset 0 and gain 2^30, in place of the factory's. -/
def trimmed : State :=
  let s := converting fun a => { a with taken := [taken1] }
  { s with ana := { s.ana with trims := [(10, { off16 := 0, gain := 2 ^ 30, sys := true })] } }

theorem wit_adc_sample : sampled.adcRuns 0 = true ∧ (sampled.adc 0).step < sampled.objN 0x7001 1 ∧
    yields (exec (.adcSample 0) sampled) (fun t => (t.adc 0).step == 1 && ((t.adc 0).taken.map fun x => (x.step, x.sel, x.at_)) == [(0, 5, 0)]) = true := by
  decide +kernel
theorem wit_adc_done : (trimmed.adc 0).taken = [taken1] ∧ isPosition 0 5 = false ∧ trimmed.lineariseIn 0 5 1234 = (0, 0) ∧
    yields (exec (.adcConversionDone 0 1234 false false 0 0) trimmed)
      (fun t => (t.adc 0).taken.isEmpty && (t.newestOf 5).at_ == 3999999600 && (t.newestOf 5).cls == 0 && (t.newestOf 5).cal == 1234) = true := by decide +kernel
theorem wit_adc_timeout : yields (exec (.adcConversionTimeout 0) (converting fun a => { a with taken := [taken1], faults := [3999999990, 3999999999] }))
    (fun t => (t.adc 0).taken.isEmpty && (t.adc 0).passAt == 4000008000 && (t.adc 0).stopped) = true := by decide +kernel
/-- Accumulator 2 on ANA_05 with windows of one sample, on command, and its sum so far. -/
def accumulating (win len : Nat) : State :=
  (base.setObj 0x7100 3 (2 ^ 31 + win * 2 ^ 28 + 5 * 2 ^ 20 + len)).setWindow false 2 { window0 with sum := 9, count := 1, offered := 1 }
/-- A sample of the pass that faults leaves the window it had entered; the one before that pass stays. -/
theorem wit_adc_timeout_window :
    let s := (accumulating 3 0).setWindow false 2 { window0 with pend := [(3999999000, 5, 0), (3999999600, 7, 0)] }
    yields (exec (.adcConversionTimeout 0) ((s.setObj 0x7001 1 1).setAdc 0 { s.adc 0 with taken := [taken1] }))
      (fun t => (t.window false 2).all.sum == 5 && (t.window false 2).all.count == 1 && (t.window false 2).flags == 4) = true := by decide +kernel
theorem wit_pass_end : yields (exec (.sequencerPassEnd 0) (converting fun a => { a with step := 1, passAt := 3999999920 }))
    (fun t => (t.adc 0).step == 0 && (t.adc 0).passAt == 4000000000) = true := by decide +kernel
theorem wit_seq_start : ∃ s : State, s.accepts rq (ent 0x7003 1 .bool 1) (s.seqCodes 0 true) ∧ s.seqRuns 0 = false ∧
    yields (exec (.sequencerStart rq 0) s) (fun t => decide (t.took rq) && t.seqRuns 0 && (t.adc 0).passAt == t.now) = true :=
  ⟨base.setObj 0x7003 1 0, by decide +kernel⟩
theorem wit_seq_stop : ∃ s : State, s.accepts rq (ent 0x7003 1 .bool 0) (s.seqCodes 0 false) ∧ s.seqRuns 0 = true ∧
    yields (exec (.sequencerStop rq 0) s) (fun t => decide (t.took rq) && !t.seqRuns 0) = true := ⟨sampled.setObj 0x7601 1 0, by decide +kernel⟩
/-- The calibration target is ANA_05. -/
def calibrating : State := (sampled.setObj 0x7300 1 0).setObj 0x7300 2 5
theorem wit_capture_zero : calibrating.accepts rq (ent 0x7301 0 .u8 1) calibrating.captCodes ∧
    yields (exec (.calCaptureZero rq) calibrating) (fun t => decide (t.took rq) && decide (t.ana.capt = some { full := false, key := 10, n := 0, sum := 0, bad := 0, pend := [] })) = true := by
  decide +kernel
theorem wit_capture_full : yields (exec (.calCaptureFullScale rq) calibrating) (fun t => decide (t.took rq) && (t.ana.capt.map (·.full)) == some true) = true := by
  decide +kernel
theorem wit_capture_complete : yields (exec .calCaptureComplete { calibrating with ana := { calibrating.ana with capt := some { full := false, key := 10, n := 4096, sum := 4096 * 300, bad := 0, pend := [] } } })
    (fun t => t.ana.capt.isNone && decide (t.ana.m0 = some (10, 4800)) && t.obj 0x7302 2 == 4800) = true := by decide +kernel
theorem wit_capture_bad : yields (exec .calCaptureComplete { calibrating with ana := { calibrating.ana with capt := some { full := true, key := 10, n := 4095, sum := 0, bad := 2, pend := [(3999999000, 7, 0)] } } })
    (fun t => t.obj 0x7302 1 == 5 && t.obj 0x7302 7 == 2) = true := by decide +kernel
/-- The worked example after R217: zero at 16 × 152.4 and full scale that give a gain of 2^30·1,048,560 over the difference. -/
theorem wit_cal_store : ∃ s : State, s.accepts rq (ent 0x7301 0 .u8 3) s.calStoreCodes ∧ s.calOf s.ana.m0 = some 2400 ∧ s.calOf s.ana.mfs = some 1050960 ∧
    1030792152 ≤ calGain (1050960 - 2400) ∧ calGain (1050960 - 2400) ≤ 1234803097 ∧
    yields (exec (.calComputeStore rq) s) (fun t => decide (t.took rq) && t.obj 0x7302 1 == 4 && (t.ana.trimPend.map fun p => (p.1, p.2.off16, p.2.gain)) == [(10, 2400, 2 ^ 30)]) = true :=
  ⟨{ calibrating with ana := { calibrating.ana with m0 := some (10, 2400), mfs := some (10, 1050960) } }, by decide +kernel⟩
theorem wit_cal_restore : yields (exec (.calRestoreFactory rq) calibrating) (fun t => decide (t.took rq) && (t.ana.trimPend.map fun p => (p.1, p.2.sys)) == [(10, false)]) = true := by
  decide +kernel
theorem wit_cal_abandon : yields (exec (.calAbandon rq) { calibrating with ana := { calibrating.ana with m0 := some (10, 1) } })
    (fun t => decide (t.took rq) && t.ana.m0.isNone && t.obj 0x7302 1 == 0) = true := by decide +kernel
theorem wit_window_end : (accumulating 0 1).windowDue false 2 = true ∧ yields (exec (.accumulatorWindowEnd false 2) (accumulating 0 1))
    (fun t => decide (t.window false 2 = t.clearWindow false 2) && t.objN 0x7142 4 == 1 && t.objN 0x7142 1 == 9) = true := by decide +kernel
theorem wit_acc_config : base.accepts rq (ent 0x7100 64 .u32 (2 ^ 31 + 5)) (winCodes [(64, 2 ^ 31 + 5)]) ∧
    yields (exec (.accumulatorConfigWrite rq 63 (2 ^ 31 + 5)) base) (fun t => decide (t.took rq) && t.objN 0x7100 64 == 2 ^ 31 + 5) = true := by decide +kernel
theorem wit_acc_latch : yields (exec (.accumulatorLatch rq 1) (accumulating 3 0)) (fun t => decide (t.took rq) && decide (t.window false 2 = t.clearWindow false 2)) = true := by
  decide +kernel
theorem wit_minmax_config : yields (exec (.minmaxConfigWrite rq 0 (2 ^ 31 + 5)) base) (fun t => decide (t.took rq) && t.objN 0x7200 1 == 2 ^ 31 + 5) = true := by
  decide +kernel
theorem wit_minmax_latch : yields (exec (.minmaxLatch rq 1) ((base.setObj 0x7200 3 (2 ^ 31 + 3 * 2 ^ 28)).setWindow true 2 { window0 with hi := 4 }))
    (fun t => decide (t.took rq) && decide (t.window true 2 = t.clearWindow true 2)) = true := by decide +kernel
theorem wit_filter_round : base.ana.filtStopped = false ∧ yields (exec .filterRound base) (fun t => t.ana.rounds == 1) = true := by decide +kernel
/-- Faults of the filter engine before. -/
def overrun (l : List Nat) : State := { base with ana := { base.ana with filtFaults := l } }
theorem wit_filter_overrun : yields (exec .filterRoundOverrun (overrun [3999999999, 0])) (fun t => t.ana.filt.isEmpty && !t.ana.filtStopped) = true ∧
    yields (exec .filterRoundOverrun (overrun [3999999999, 1])) (fun t => t.ana.filtStopped) = true := by decide +kernel
theorem wit_filter_start : ∃ s : State, s.filtRuns 0 = false ∧ s.accepts rq (ent 0x7601 1 .bool 1) (s.filtStartCodes 0) ∧
    yields (exec (.filterChannelStart rq 0) s) (fun t => decide (t.took rq) && t.obj 0x7601 1 == 1 && decide (t.filtCh 0 = filt0)) = true :=
  ⟨stampable.setObj 0x7601 1 0, by decide +kernel⟩
theorem wit_filter_stop : stampable.accepts rq (ent 0x7601 1 .bool 0) (stampable.filtStopCodes 0) ∧
    yields (exec (.filterChannelStop rq 0) (stampable.setObj 0x7601 1 1)) (fun t => decide (t.took rq) && t.obj 0x7601 1 == 0) = true := by decide +kernel

/-! ### The Time Keeper -/

/-- A last good pulse 1 s ago with `n` good ones, on the timescale of ten seconds. -/
def pulsed (n : Nat) : State :=
  { base with
    scale := 10000000000 * 2 ^ 33
    time := { base.time with ppsAt := some (3600000000 * 256), ppsNs := 9000000000, ppsInt := 400000000 * 256, ppsGood := n } }
theorem wit_pps_first : base.timeRuns = true ∧ true = (base.obj 0x2011 1 == 0) ∧ base.time.ppsAt = none ∧
    yields (exec (.ppsInEdge true 5) base) (fun t => decide (t.time.ppsAt = some (4000000000 * 256 + 5)) && t.time.ppsGood == 0) = true := by decide +kernel
/-- A follow-only part whose port 1 hears a master. -/
def follows (s : State) : State :=
  (((s.setObj 0x2000 1 2).setObj 0x2000 7 1).setObj 0x2011 3 0).modPort 1 fun p =>
    { p with best := some { p1 := 1, cls := 6, acc := 0x21, var := 0, p2 := 0, rank := 1, ident := 77 } }
theorem wit_pps_good : (((pulsed 7).steps 5 - 3600000000 * 256) + (pulsed 7).time.ppsInt / 2) / (pulsed 7).time.ppsInt = 1 ∧
    yields (exec (.ppsInEdge true 5) (follows (pulsed 7))) (fun t => t.time.ppsGood == 8 && t.time.gnss && t.time.src == 1) = true := by decide +kernel
theorem wit_pps_not_yet : yields (exec (.ppsInEdge true 5) (follows (pulsed 6))) (fun t => t.time.ppsGood == 7 && !t.time.gnss) = true := by decide +kernel
theorem wit_pps_missing : ∃ s : State, s.time.ppsAt = some 0 ∧ s.time.gnss = true ∧ 0 + 3 * s.time.ppsInt + us256 < s.steps 0 ∧
    yields (exec .ppsMissing s) (fun t => !t.time.gnss && t.time.ppsAt.isNone) = true :=
  ⟨(follows base).modTime fun t => { t with ppsAt := some 0, ppsInt := 400000000 * 256, gnss := true }, by decide +kernel⟩
theorem wit_zda : ∃ s : State, s.time.ppsAt = some (3800000000 * 256) ∧ s.timeRuns = true ∧ s.obj 0x2011 3 = 1 ∧ 100 * msP * 256 ≤ s.steps 0 - 3800000000 * 256 ∧
    s.steps 0 - 3800000000 * 256 ≤ 900 * msP * 256 ∧ ((s.time.ppsNs : Int) - ((9 : Int) + s.obj 0x2011 5) * 1000000000).natAbs ≤ 1000 ∧
    yields (exec (.zdaSentence true 9) s) (fun t => t.time.tod && t.time.zda.isNone) = true :=
  ⟨{ (base.setObj 0x2011 5 37) with time := { base.time with ppsAt := some (3800000000 * 256), ppsNs := 46000001000 } }, by decide +kernel⟩

/-- PTP port 0 in a state. -/
def ported (st : Nat) : State := base.modPort 0 fun p => { p with st := st, seqSync := 65535 }
def ds1 : PtpDs := { p1 := 1, cls := 6, acc := 0x21, var := 0, p2 := 0, rank := 1, ident := 77 }
/-- The domain of port 0 with its default configuration. -/
def dom0 : Nat := base.ptpDom 0
theorem wit_announce : base.ptpOn 0 = true ∧ base.obj 0x2000 1 ≠ 1 ∧ (base.time.ports.get 0).best = none ∧
    yields (exec (.ptpMessageReceived 0 ⟨dom0, .announce ds1 true []⟩) base) (fun t => decide ((t.time.ports.get 0).best = some ds1) && (t.time.ports.get 0).annAt == t.now) = true := by
  decide +kernel
theorem wit_announce_bare : yields (exec (.ptpMessageReceived 0 ⟨dom0, .announce ds1 false []⟩) base)
    (fun t => decide ((t.time.ports.get 0).best = some { ds1 with rank := 0xFFFF })) = true := by decide +kernel
theorem wit_other_domain : dom0 ≠ dom0 + 1 ∧ yields (exec (.ptpMessageReceived 0 ⟨(dom0 + 1), .announce ds1 true []⟩) base) (fun t => decide (t = base)) = true := by
  decide +kernel
theorem wit_sync : yields (exec (.ptpMessageReceived 0 ⟨dom0, .sync 9 none⟩) (ported 3))
    (fun t => decide ((t.time.ports.get 0).sync2 = some (9, (ported 3).rxStamp 0, (ported 3).steps 0)) && (t.time.ports.get 0).syncAt == t.now) = true := by decide +kernel
theorem wit_delay_req : (ported 2).ptpProf 0 ≠ 3 ∧ yields (exec (.ptpMessageReceived 0 ⟨dom0, .delayReq 9⟩) (ported 2)) (fun t => t.out.length == 1) = true := by decide +kernel
theorem wit_management : yields (exec (.ptpMessageReceived 0 ⟨dom0, .management⟩) base) (fun t => t.time.mgmt == 1) = true := by decide +kernel
theorem wit_ptp_sync : yields (exec (.ptpTransmitInterval 0) (ported 2))
    (fun t => (t.time.ports.get 0).seqSync == 0 && t.out.contains (.ptp 0 ((ported 2).ptpProf 0) dom0 0 (toBE 2 65535))) = true := by decide +kernel
theorem wit_announce_timeout : yields (exec (.announceTimeout 0) ((follows base).modPort 0 fun p => { p with best := some ds1, locked := true }))
    (fun t => (t.time.ports.get 0).best.isNone && !(t.time.ports.get 0).locked) = true := by decide +kernel
theorem wit_holdover : ∃ s : State, s.time.st = 3 ∧ s.objN 0x2030 1 ≤ s.holdBound ∧ s.topSource = 0 ∧
    yields (exec .holdoverBudgetExceeded s) (fun t => t.time.st == 0) = true :=
  ⟨(((follows base).setObj 0x2000 5 1).setObj 0x2030 1 2000).modTime fun t => { t with st := 3, holdAt := 0 }, by decide +kernel⟩
theorem wit_ref10 : yields (exec (.ref10InChange (some 70)) (base.setObj 0x2011 6 1)) (fun t => t.time.ref10 && t.time.y == 70) = true ∧
    base.time.st = 0 ∧ base.timeRuns = true := by decide +kernel
theorem wit_set_time : base.accepts rq (entArg 0x2005 .u64 5000000001) (when (base.inRun || base.time.st == 2) 0x0601) ∧
    yields (exec (.setTime rq 5000000001) base) (fun t => decide (t.took rq) && t.timeNs == 5000000001 && t.time.tod && t.time.nextSec == 6) = true := by decide +kernel
/-- Both network ports off, and the time service with them. -/
def noNet : State := [(0x2000, 6, 0), (0x2000, 7, 0), (0x2001, 0, 0)].foldl (fun s x => s.setObj x.1 x.2.1 x.2.2) base
theorem wit_time_start : noNet.accepts rq (ent 0x2001 0 .bool 1) noNet.timeStartCodes := by decide +kernel
theorem wit_time_stop : base.accepts rq (ent 0x2001 0 .bool 0) (when (base.life.st != .config && base.life.st != .service) 0x0601) := by
  decide +kernel
theorem wit_whole_second : yields (exec .wholeSecond { base with scale := 1000000000 * 2 ^ 33 }) (fun t => t.time.nextSec == 2) = true := by decide +kernel

/-! ### The Wofen bus -/

/-- The bus in a role at address 3. -/
def bussed (role : Nat) : State := (base.setObj 0x2100 2 3).modWof fun w => { w with role := role, cyc := 2 ^ 24 - 1, fseq := 7, silentAt := 3999200000 }
theorem wit_cycle : yields (exec .wofenCycle (bussed 1)) (fun t => t.wof.cyc == 0 && t.wof.nextCyc == 100000 && t.out.contains (.wofen 0 (wofenPkt 2 0 3 0) (wofenLine (wofenPkt 2 0 3 0)))) = true ∧
    (bussed 1).wof.queue = [] ∧ (bussed 1).wof.calRun = none ∧ (bussed 1).wof.lineFree ≤ (bussed 1).now ∧ (bussed 1).wtbFree = true := by decide +kernel
theorem wit_frame_event : ((bussed 1).setObj 0x2100 4 1).sendsFrames = true ∧ yields (exec .wofenFrameEventSend ((bussed 1).setObj 0x2100 4 1))
    (fun t => t.wof.fseq == 8 && t.wof.nextFrame == 8000000 && t.out.contains (.wofen 0 (wofenPkt 1 0 3 8) (wofenLine (wofenPkt 1 0 3 8)))) = true := by decide +kernel
theorem wit_bus_cal : (bussed 1).accepts rq (entArg 0x2102 .u8 1) (when ((bussed 1).wof.role != 1) 0x0601 ++ when (bussed 1).wof.calRun.isSome 0x0701) ∧
    yields (exec (.busCalibration rq 1) (bussed 1)) (fun t => decide (t.took rq) && decide (t.wof.calRun = some t.now) && t.wof.answers.isEmpty) = true := by
  decide +kernel
theorem wit_recal : yields (exec .busRecalibrationTimer ((bussed 1).modWof fun w => { w with recalAt := some 4000000000 }))
    (fun t => decide (t.wof.calRun = some t.now) && t.wof.recalAt.isNone) = true := by decide +kernel
theorem wit_cal_end : yields (exec .busCalibrationDone ((bussed 1).modWof fun w => { w with calRun := some 3920000000, answers := [5] }))
    (fun t => t.wof.calRun.isNone && t.wof.calOk && t.wof.calAt == t.now && t.objN 0x2111 6 == 2 ^ 31) = true := by decide +kernel
theorem wit_bus_start : yields (exec (.triggerBusStart rq) (base.setObj 0x2100 1 2)) (fun t => decide (t.took rq) && t.obj 0x2101 0 == 1 && t.wof.role == 2) = true := by
  decide +kernel
theorem wit_bus_stop : (bussed 2).accepts rq (ent 0x2101 0 .bool 0) (when ((bussed 2).inRun && (bussed 2).obj 0x3020 1 == 2) 0x0601) ∧
    yields (exec (.triggerBusStop rq) (follows (bussed 2))) (fun t => decide (t.took rq) && t.obj 0x2101 0 == 0 && t.wof.role == 0) = true := by decide +kernel
theorem wit_bad_packet : wofenGood [] = false ∧ yields (exec (.wofenPacketReceived true [] 0) (bussed 2)) (fun t => t.objN 0x2110 6 == 1) = true := by decide +kernel
theorem wit_cycle_packet : wofenGood (wofenPkt 2 0 1 5) = true ∧ yields (exec (.wofenPacketReceived false (wofenPkt 2 0 1 5) 0) (bussed 2))
    (fun t => t.wof.silentAt == t.now && decide (t.wof.winAt = some t.now)) = true := by decide +kernel
theorem wit_calibration_cycle : yields (exec (.wofenPacketReceived false (wofenPkt 2 1 1 5) 0) ((bussed 2).modWof fun w => { w with winAt := some 1 }))
    (fun t => t.wof.winAt.isNone) = true := by decide +kernel
theorem wit_roll_answer : yields (exec (.wofenPacketReceived true (wofenPkt 10 0 9 5) 0) ((bussed 1).modWof fun w => { w with calRun := some 1 }))
    (fun t => t.wof.answers == [9]) = true := by decide +kernel
theorem wit_window_sends : ∃ s : State, s.wof.winAt = some (4000000000 - 20 * usP - 3 * 1400) ∧ 2 ≤ s.wof.role ∧ s.wof.reqs = [77] ∧
    yields (exec .wofenWindow s) (fun t => t.wof.reqs.isEmpty && t.wof.winAt.isNone && t.out == [.wofen 1 (wofenPkt 8 0 3 77) (wofenLine (wofenPkt 8 0 3 77))]) = true :=
  ⟨(bussed 2).modWof fun w => { w with winAt := some (4000000000 - 20 * usP - 3 * 1400), reqs := [77] }, by decide +kernel⟩
theorem wit_event_loss : yields (exec .wofenFrameEventLoss { (run.setObj 0x3020 1 2) with frm := { run.frm with start := 3984000000 } })
    (fun t => t.wof.onTimer && t.frm.nextTimer == t.now) = true := by decide +kernel
theorem wit_mark_loss : yields (exec .wofenSecondMarkLoss ((follows base).modTime fun t => { t with markAt := some 0, wofen := true }))
    (fun t => !t.time.wofen && t.time.markAt.isNone) = true := by decide +kernel
theorem wit_silence_standby : yields (exec .wtbSilence (bussed 3)) (fun t => t.wof.role == 1 && decide (t.wof.calRun = some t.now)) = true := by decide +kernel
theorem wit_silence_member : yields (exec .wtbSilence ((bussed 2).modWof fun w => { w with delay := 9 })) (fun t => t.wof.role == 2 && t.wof.delay == 0 && !t.wof.calOk) = true := by
  decide +kernel

/-! ### Fleet code domains -/

/-- The reference of domain 5 with seed 1,000,000,007 and leases of 24 h; identity 111 holds index 40. -/
def reference : State :=
  let s := [(0x2210, 1, 5), (0x2210, 2, 1), (0x2210, 6, 24), (0x2210, 7, 0x3B9ACA07), (0x2210, 8, 0)].foldl (fun s x => s.setObj x.1 x.2.1 x.2.2) base
  s.setRows [{ index := 40, ident := 111, lease := 0, held := true, released := false }]
theorem wit_join : reference.portSends (2 + reference.macFor (rq.src / 65536)) = true ∧ reference.assign 222 40 false = some (0, 0) ∧
    reference.accepts rq (entBlob 0x2220 (joinOctets 5 222 40 0)) (when (!reference.isReference) 0x0601) ∧
    yields (exec (.fleetJoin rq 5 222 40) reference)
      (fun t => decide (t.took rq) && (t.nv.fleetRows.map fun x => (x.index, x.ident, x.held)) == [(0, 222, true), (40, 111, true)]) = true := by decide +kernel
/-- The worked example after R250: the grant of index 137 in domain 180. -/
theorem test_grant : reference.fleetSeed 137 = 0x004007470585 ∧
    grantOctets 180 0x4C1F0A279E3B5D80 137 0x004007470585 1440 0 =
      [0, 0, 0, 0xB4, 0x4C, 0x1F, 0x0A, 0x27, 0x9E, 0x3B, 0x5D, 0x80, 0, 0x89, 0, 0x40, 7, 0x47, 5, 0x85, 5, 0xA0, 0, 0] := by decide +kernel
theorem wit_renew : reference.portSends (2 + reference.macFor (rq.src / 65536)) = true ∧ reference.assign 111 40 true = some (40, 1) ∧
    yields (exec (.fleetRenew rq 5 111 40) reference)
    (fun t => decide (t.took rq) && (t.nv.fleetRows.map fun x => (x.index, x.lease)) == [(40, 4000000000 + 24 * 3600 * secP)]) = true := by decide +kernel
theorem wit_release : reference.portSends (2 + reference.macFor (rq.src / 65536)) = true ∧ (reference.heldBy 111).isSome = true ∧
    yields (exec (.fleetRelease rq 5 111 40) reference)
    (fun t => decide (t.took rq) && (t.nv.fleetRows.map fun x => (x.held, x.released)) == [(false, true)]) = true := by decide +kernel
theorem wit_expiry : yields (exec (.fleetIndexExpiry 40) { reference with now := 3600 * secP }) (fun t => (t.nv.fleetRows.map fun x => x.held) == [false]) = true := by
  decide +kernel
/-- A member of domain 5 with its reference at address C0A80101h. -/
def member : State := [(0x2210, 1, 5), (0x2210, 3, 0xC0A80101), (0x2210, 5, 9)].foldl (fun s x => s.setObj x.1 x.2.1 x.2.2) base
theorem wit_join_retry : ∃ s : State, s.obj 0x2210 1 ≠ 0 ∧ s.fromConfig = true ∧ s.fleet.lease = none ∧ s.fleet.st = 1 ∧ s.fleet.askAt + secP ≤ s.now ∧
    s.isReference = false ∧ s.portSends (2 + s.macFor (s.objN 0x2210 3)) = true ∧
    yields (exec .fleetJoinRetry s) (fun t => t.fleet.askAt == t.now && t.fleet.asked && t.out.length == 1) = true :=
  ⟨member.modFleet fun f => { f with st := 1 }, by decide +kernel⟩
theorem wit_renew_timer : member.portSends (2 + member.macFor (member.objN 0x2210 3)) = true ∧ yields (exec .fleetRenewTimer (member.modFleet fun f => { f with st := 2, lease := some 1 }))
    (fun t => t.fleet.renewAt == 4000000000 + 60 * secP && t.out.length == 1) = true := by decide +kernel
theorem wit_domain_write : base.accepts rq { obj := 0x2210, el := 6, ty := Ty.u32.code, val := toBE 4 48 } (base.domainCodes [(6, 48)]) ∧
    yields (exec (.fleetDomainWrite rq 6 Ty.u32.code (toBE 4 48)) base) (fun t => decide (t.took rq) && t.obj 0x2210 6 == 48) = true := by decide +kernel


/-! ### Subscriptions -/

/-- A subscription of master 7 to `8.010` element 1 on change, its last publication one second ago. -/
def sub0 : Sub :=
  { handle := 9, port := 4, master := 7, src := 0, obj := 0x8010, el := 1, trig := 1, interval := 1000, mask := 0, expiry := 4000000000, seq := 65535
    last := 3600000000, lastVal := none }
def subbed : State := base.modTv fun t => { t with subs := [sub0] }
theorem wit_subscribe : base.gate rq = .served ∧ firstAbort (base.subCodes rq 0x3010 0 2 500 60) = 0 ∧ base.subOf rq 0x3010 0 2 = none ∧
    yields (exec (.subscribe rq 0x3010 0 2 500 60 0) base) (fun t => (t.tv.subs.map fun x => (x.obj, x.trig, x.interval, x.expiry)) == [(0x3010, 2, 500, 28000000000)]) = true := by
  decide +kernel
theorem wit_resubscribe : firstAbort (subbed.subCodes rq 0x8010 1 1 50 6) = 0 ∧ subbed.subOf rq 0x8010 1 1 = some sub0 ∧
    yields (exec (.subscribe rq 0x8010 1 1 50 6 0) subbed) (fun t => t.tv.subs == [{ sub0 with interval := 50, expiry := 6400000000 }]) = true ∧
    yields (exec (.subscribe rq 0x8010 1 1 0 0 0) subbed) (fun t => t.tv.subs.isEmpty) = true := by decide +kernel
/-- An event subscription covers 0000h whatever the request names; a trigger of 5 is refused. -/
theorem wit_subscribe_events : firstAbort (base.subCodes rq 0 0 4 0 60) = 0 ∧ base.subOf rq 0 0 4 = none ∧
    yields (exec (.subscribe rq 0x3010 3 4 0 60 7) base) (fun t => (t.tv.subs.map fun x => (x.obj, x.el, x.trig)) == [(0, 0, 4)]) = true ∧
    firstAbort (base.subCodes rq 0x3010 0 5 500 60) ≠ 0 ∧
    yields (exec (.subscribe rq 0x3010 0 5 500 60 0) base) (fun t => t.tv.subs.isEmpty && decide (t.refused rq (firstAbort (base.subCodes rq 0x3010 0 5 500 60)))) = true := by
  decide +kernel
/-- A value published before counts as changed only where it differs. -/
theorem wit_publication_again : ∃ s : State, s.tv.subs = [{ sub0 with lastVal := some [1] }] ∧ (s.pubValue sub0).2 ≠ [1] ∧ s.portSends 4 = true ∧
    yields (exec (.publicationInterval 9) s) (fun t => (t.tv.subs.map fun x => x.lastVal) == [some (s.pubValue sub0).2]) = true :=
  ⟨base.modTv fun t => { t with subs := [{ sub0 with lastVal := some [1] }] }, by decide +kernel⟩
theorem wit_publication : subbed.fromConfig = true ∧ sub0.last + sub0.interval * msP ≤ subbed.now ∧ (subbed.pubValue sub0).2.length ≤ 1444 ∧
    yields (exec (.publicationInterval 9) subbed) (fun t => (t.tv.subs.map fun x => (x.seq, x.last)) == [(0, 4000000000)] && t.out.length == 1) = true := by decide +kernel
theorem wit_sub_lapse : yields (exec (.subscriptionLapse 9) subbed) (fun t => t.tv.subs.isEmpty) = true := by decide +kernel

/-! ### The capture engine -/

/-- A record of an automatic second. -/
def second0 : CapRec := capRec 8 0 0 1
/-- Capture in a state with the segment in use filling, its trigger long ago, and the timescale at 10 s. -/
def capturing (st : Nat) : State :=
  { base with
    scale := 10000000000 * 2 ^ 33
    cap := { base.cap with st := st, last := some 0, seqNo := 1, segs := [(0, { seg0 with st := st, recs := [second0], trig := some (5, 6) })] } }
theorem wit_capture_start : base.accepts rq (ent 0xA001 0 .bool 1) base.capStartCodes ∧ base.capRuns = false ∧
    yields (exec (.captureStart rq) base) (fun t => decide (t.took rq) && t.cap.st == 1 && (t.seg 0).st == 1 && t.obj 0xA001 0 == 1) = true := by decide +kernel
theorem wit_capture_stop : yields (exec (.captureStop rq) (capturing 2)) (fun t => decide (t.took rq) && !t.capRuns && (t.seg 0).st == 3 && (t.seg 0).flags == 4) = true := by
  decide +kernel
theorem wit_segment_select : (capturing 3).accepts rq (entArg 0xA300 .u16 0) (when (capturing 3).capOff 0x0601 ++ when (((capturing 3).seg 0).st != 3) 0x0401) ∧
    yields (exec (.segmentSelect rq 0) (capturing 3)) (fun t => decide (t.took rq) && decide (t.cap.lock = some 0) && t.cap.readAt == t.now) = true := by decide +kernel
theorem wit_lock_expiry : yields (exec .segmentLockExpiry { capturing 3 with now := 60 * secP, cap := { (capturing 3).cap with lock := some 0 } })
    (fun t => t.cap.lock.isNone) = true := by decide +kernel
/-- Channel 1 of the DMA engine reads the capture memory: the source is lost with the lock. -/
theorem wit_lock_dma : ∃ s : State, (s.dmaCh 1).st = 1 ∧ srcRegion (dSrc (s.dmaCh 1).image) (dLen (s.dmaCh 1).image) = .capture ∧
    yields (exec .segmentLockExpiry s) (fun t => (t.dmaCh 1).st == 3 && (t.dmaCh 1).last == 7 && t.cap.lock.isNone) = true :=
  ⟨({ capturing 3 with now := 60 * secP, cap := { (capturing 3).cap with lock := some 0 } } : State).setDmaCh 1
    { Reset.dmaCh with st := 1, image := toBE 4 0x10000000 ++ toBE 4 0x20000000 ++ toBE 4 64 ++ toBE 2 0xFFFF ++ toBE 2 0 ++ toBE 4 0 ++ zeros 12 }, by decide +kernel⟩
theorem wit_segment_release : yields (exec (.segmentRelease rq 0) { capturing 3 with cap := { (capturing 3).cap with lock := some 0 } })
    (fun t => decide (t.took rq) && (t.seg 0).st == 0 && t.cap.lock.isNone) = true := by decide +kernel
theorem wit_capture_clear : yields (exec (.captureClear rq 1) { capturing 3 with cap := { (capturing 3).cap with st := 0 } })
    (fun t => decide (t.took rq) && t.cap.segs.isEmpty) = true := by decide +kernel
/-- Records of the scheduler (source 3) are selected, and two are on their way: the older one is taken, whatever the row gives. -/
def onBus (r : Nat × Nat × Nat × Nat) : State :=
  let s := (capturing 2).setObj 0xA012 1 8
  { s with cap := { s.cap with bus := [(3, 0, (0x123456789A * 256 + 0xBD) * 256, 78), r] } }
def front0 : Nat × Nat × Nat × Nat := (3, 0, (0x123456789A * 256 + 0xBC) * 256, 77)
theorem wit_capture_record : (capturing 2).capSelected 3 0 77 = false ∧ (onBus front0).capFront 3 0 = some front0 ∧ (∀ r ∈ (onBus front0).cap.bus, r.1 = 3 → front0.2.2.1 ≤ r.2.2.1) ∧
    ((onBus front0).seg 0).size + 1 < (onBus front0).segRecs ∧ (onBus front0).capSelected 3 0 77 = true ∧
    yields (exec (.captureRecord 3 0 1 ⟨2, false⟩) (onBus front0)) (fun t => (t.seg 0).recs == [capRec 3 0 front0.2.2.1 77, second0] && t.cap.bus.length == 1) = true := by
  decide +kernel
/-- A record of edge 3 of channel 5 comes with its time and data. -/
theorem wit_edge_record : ∃ s : State, s.capSelected 2 0 (5 * 2 ^ 56 + 3) = true ∧ (∀ r ∈ s.cap.bus, r.1 = 2 → 9 * 256 ≤ r.2.2.1) ∧
    yields (exec (.captureRecord 2 0 9 ⟨5 * 2 ^ 56 + 3, true⟩) s)
    (fun t => (t.seg 0).recs == [capRec 2 0 (9 * 256) (5 * 2 ^ 56 + 3) true, second0]) = true :=
  ⟨((capturing 2).setObj 0xA012 1 4).setObj 0xA011 1 5, by decide +kernel⟩
/-- The layout of R257: source, unit, 40 bits of ns, 8 bits of fraction, data. -/
theorem test_record_octets : (capRec 3 0 ((0x123456789A * 256 + 0xBC) * 256) 77).o = [3, 0, 0x12, 0x34, 0x56, 0x78, 0x9A, 0xBC, 0, 0, 0, 0, 0, 0, 0, 77] := by decide
/-- State 0 of the sequencer counts seconds, two of them making transition 1 to state 3, and its timer of 10 µs transition 2 to state 5. -/
def sequencing (n lim : Nat) : State :=
  let s := [(1, 11 * 2 ^ 24), (2, n), (3, lim), (4, 3 * 2 ^ 13 + 5 * 2 ^ 5)].foldl (fun s x => s.setObj 0xA100 x.1 ((x.2 : Nat) : Int)) (capturing 2)
  { s with cap := { s.cap with occs := [(9 * 256, .second)] } }
theorem wit_occurrence : occMatches .second ((sequencing 2 0).seqWord 1) (fun _ => 0) (fun _ => 0) = true ∧ (sequencing 2 0).timerDue = none ∧
    (sequencing 2 0).occAhead (9 * 256) = false ∧
    yields (exec (.triggerConditionOccurrence 9 .second) (sequencing 2 0)) (fun t => t.cap.counter == 1 && t.cap.state == 0) = true := by decide +kernel
theorem wit_transition : (sequencing 1 0).occAhead (9 * 256) = false ∧ yields (exec (.triggerConditionOccurrence 9 .second) (sequencing 1 0))
    (fun t => t.cap.counter == 0 && t.cap.state == 3 && t.cap.entered == 9 * 256) = true := by decide +kernel
/-- Edges 3 of channel 5 count at their own time. -/
def edging (n : Nat) : State := ((sequencing n 0).setObj 0xA100 1 (4 * 2 ^ 24 + 3)).setObj 0xA011 1 5
theorem wit_edge_occurrence : occMatches (.edge 5 3) ((edging 2).seqWord 1) (fun i => (edging 2).obj 0xA010 (i + 1)) (fun i => (edging 2).obj 0xA011 (i + 1)) = true ∧
    (edging 2).occAhead (9 * 256) = false ∧ (edging 1).occAhead (9 * 256) = false ∧
    yields (exec (.triggerConditionOccurrence 9 (.edge 5 3)) (edging 2)) (fun t => t.cap.counter == 1 && t.cap.state == 0) = true ∧
    yields (exec (.triggerConditionOccurrence 9 (.edge 5 3)) (edging 1)) (fun t => t.cap.state == 3 && t.cap.entered == 9 * 256) = true := by decide +kernel
theorem wit_host_trigger : (sequencing 1 0).occAhead (sequencing 1 0).capNow = false ∧
    ((sequencing 1 0).setObj 0xA100 1 (10 * 2 ^ 24)).seqWord 1 / 2 ^ 24 = 10 ∧
    yields (exec (.hostTrigger rq 1) ((sequencing 1 0).setObj 0xA100 1 (10 * 2 ^ 24))) (fun t => decide (t.took rq) && t.cap.state == 3) = true := by decide +kernel
theorem wit_sequencer_timer : (sequencing 2 1000).timerDue = some (1000 * 10 * 65536) ∧
    yields (exec .triggerSequencerTimer (sequencing 2 1000)) (fun t => t.cap.state == 5 && t.cap.entered == 1000 * 10 * 65536) = true := by decide +kernel
theorem wit_segment_limit : 6 + (capturing 2).objN 0xA000 6 * msP ≤ (capturing 2).now ∧
    yields (exec .segmentTimeLimit (capturing 2)) (fun t => (t.seg 0).st == 3 && (t.seg 0).recs == [second0] && bit (t.seg 0).flags 4) = true := by decide +kernel

/-! ### The DMA engine -/

/-- A descriptor: source, destination, length, next, control, tag. -/
def desc (src dst len next ctl tag : Nat) : Octets := toBE 4 src ++ toBE 4 dst ++ toBE 4 len ++ toBE 2 next ++ toBE 2 ctl ++ toBE 4 tag ++ zeros 12
theorem wit_descriptor_write : (base.setObj 0x5201 0 1023).accepts rq (entBlob 0x5202 (desc 1 2 3 4 0 5)) ((base.setObj 0x5201 0 1023).descCodes (desc 1 2 3 4 0 5)) ∧
    yields (exec (.descriptorWrite rq (desc 1 2 3 4 0 5)) (base.setObj 0x5201 0 1023))
      (fun t => decide (t.took rq) && t.obj 0x5201 0 == 0 && memGet t.dma.desc (32 * 1023) 32 == desc 1 2 3 4 0 5) = true := by decide +kernel
theorem wit_buffer_write : base.accepts rq (entBlob 0x5221 [1, 0, 3]) (base.bufCodes [1, 0, 3]) ∧
    yields (exec (.dmaBufferWrite rq [1, 0, 3]) base) (fun t => decide (t.took rq) && t.obj 0x5220 0 == 3 && t.dma.buf == [(0, 1), (2, 3)]) = true := by decide +kernel
/-- Channel 4 with a descriptor that copies `len` octets within the buffer from 40h, where octets 1, 2, 3 stand, to 2000h. -/
def copying (len : Nat) : State :=
  { base with dma := { base.dma with desc := memPut [] 0 (desc 0x20000040 0x20002000 len 0xFFFF 1 0xABCD), buf := memPut [] 0x40 [1, 2, 3] } }
/-- The same under way in a state of the channel. -/
def underWay (st len : Nat) : State :=
  (copying len).setDmaCh 4 { Reset.dmaCh with st := st, image := desc 0x20000040 0x20002000 len 0xFFFF 1 0xABCD }
theorem wit_dma_start : (copying 64).accepts rq { ent 0x5200 5 .u32 (goWord 2 0) with val := toBE 4 (goWord 2 0) } ((copying 64).dmaWordCodes 4 (goWord 2 0)) ∧
    yields (exec (.dmaChannelStart rq 4 2 0) (copying 64)) (fun t => decide (t.took rq) && (t.dmaCh 4).st == 1) = true ∧
    yields (exec (.dmaChannelStart rq 4 2 1) (copying 64)) (fun t => (t.dmaCh 4).st == 3 && (t.dmaCh 4).last == 2) = true := by decide +kernel
theorem wit_dma_disable : (underWay 2 64).accepts rq (ent 0x5200 5 .u32 0) ((underWay 2 64).dmaWordCodes 4 0) := by decide +kernel
theorem wit_records_read : yields (exec (.completionQueueRead rq) { base with dma := { base.dma with recs := [[1, 2], [3]] } })
    (fun t => decide (t.took rq) && t.dma.recs.isEmpty && t.obj 0x5211 2 == 2 && (t.tv.stored.map (·.body)) == [[0x52, 0x10, 0, 0x0C, 1, 2, 3]]) = true := by decide +kernel
theorem wit_burst : (underWay 1 64).dmaNext = some 4 ∧ yields (exec (.dmaBurst false) (underWay 1 64))
    (fun t => (t.dmaCh 4).moved == 32 && t.dma.next == 5 && t.dma.tok == 1008 && memGet t.dma.buf 0x2000 4 == [1, 2, 3, 0]) = true := by decide +kernel
/-- The record of R293 at 10 s. -/
theorem test_dma_record : yields (exec (.dmaBurst false) { underWay 1 32 with scale := 10000000000 * 2 ^ 33 })
    (fun t => (t.dmaCh 4).st == 0 && t.dma.recs == [[4, 0, 0, 0, 0, 0, 0, 32, 0, 0, 0xAB, 0xCD, 0, 0x98, 0x96, 0x80]]) = true := by decide +kernel
theorem wit_bus_error : yields (exec (.dmaBurst true) ((underWay 1 64).setObj 0x5200 5 0)) (fun t => (t.dmaCh 4).st == 3 && (t.dmaCh 4).last == 3) = true := by decide +kernel
theorem wit_xspi : ∃ s : State, s.dmaActive 4 = true ∧ srcRegion (dSrc (s.dmaCh 4).image) (dLen (s.dmaCh 4).image) = .nor ∧
    yields (exec (.xspiReadTimeout 4) s) (fun t => (t.dmaCh 4).retries == 1 && (t.dmaCh 4).st == 1) = true :=
  ⟨(base.setObj 0x5200 5 (2 ^ 16)).setDmaCh 4 { Reset.dmaCh with st := 1, image := desc 0x40000000 0x20000000 64 0xFFFF 0 0 }, by decide +kernel⟩
theorem wit_reservation : yields (exec (.dmaReservationTimeout 4) (underWay 2 64)) (fun t => (t.dmaCh 4).st == 3 && (t.dmaCh 4).last == 6) = true := by decide +kernel
theorem wit_hold : yields (exec (.dmaHoldLimit 4) { base.setObj 0x8101 6 1 with dma := { base.dma with holds := [(4, 5)] } })
    (fun t => t.obj 0x8101 6 == 0 && t.dma.holds.isEmpty && t.cap.st == 5) = true := by decide +kernel

/-! ### The serial links -/

/-- Link A in a state with all four lanes in a state; the back lane locked. -/
def linked (st : Nat) (pll : Bool) (ln : LinkLane) : State :=
  base.modLink 0 fun k => { k with st := st, pll := pll, bkLocked := true, epoch := 65535, lanes := Vector.replicate 4 ln, mask := 15, width := 4 }
/-- A lane in training, and one that is good. -/
def training : LinkLane := { Reset.lane with st := 2, tstate := 1, pre := 4, main := 40, post := 8 }
def good : LinkLane := { Reset.lane with st := 0, good := true }
theorem wit_link_start : base.accepts rq (ent 0x5301 0 .bool 1) (base.linkStartCodes 0) ∧
    yields (exec (.linkStart rq 0) base) (fun t => decide (t.took rq) && (t.link 0).st == 1 && t.obj 0x5301 0 == 1 && (t.link 1).st == 0) = true := by decide +kernel
theorem wit_link_stop : yields (exec (.linkStop rq 0) (linked 2 true good)) (fun t => decide (t.took rq) && (t.link 0).st == 0) = true := by decide +kernel
theorem wit_pll : yields (exec (.linkPllLocked 0) (linked 1 false Reset.lane)) (fun t => (t.link 0).pll && (t.link 0).trainAt == t.now && ((t.link 0).lane 3).st == 2) = true := by
  decide +kernel
theorem wit_training_none : yields (exec (.trainingTimeout 0) (linked 1 true training)) (fun t => (t.link 0).st == 1 && (t.link 0).trainAt == t.now) = true := by decide +kernel
theorem wit_training_up : yields (exec (.trainingTimeout 0) (linked 1 true good)) (fun t => (t.link 0).st == 2 && (t.link 0).epoch == 0 && (t.link 0).width == 4) = true := by
  decide +kernel
theorem wit_clock_lane : yields (exec (.clockLaneDriverFault 0 true) ((linked 2 true good).setObj 0x5300 3 0)) (fun t => (t.link 0).st == 3 && (t.link 0).common) = true := by
  decide +kernel
theorem wit_back_silent : yields (exec (.backLaneSilent 0) (linked 2 true good)) (fun t => (t.link 0).st == 3 && (t.link 0).width == 0) = true := by decide +kernel
theorem wit_deskew : 2 * 16384 * 6600 ≤ (4000000000 - 0) * 5 * laneRate (base.objN (lkCfg 0) 1) ∧
    yields (exec (.deskewRound 0) (linked 2 true good)) (fun t => (t.link 0).deskew == 1 && (t.link 0).rounds == t.now && t.out.length == 4) = true := by decide +kernel
/-- An Ingot of frame 5 in hand with one record. -/
def hand : InHand :=
  { frame := 5, ftime := 9, live := 15, reserved := true, recs := [zeros 16], quads := 1, firstAt := some 0, iseq := 2, total := 7, dump := [], ended := false }
theorem wit_flush : (base.objN (lkCfg 0) 5 ≠ 0 ∨ (base.setObj 0x5300 5 10).objN (lkCfg 0) 5 ≠ 0) ∧
    yields (exec (.ingotFlush 0) (((linked 2 true good).setObj 0x5300 5 10).modLink 0 fun k => { k with inHand := [hand] }))
      (fun t => ((t.link 0).inHand.map fun h => (h.iseq, h.recs.length, h.total)) == [(3, 0, 8)] && (t.queue 0).pkts.length == 1) = true := by decide +kernel
theorem wit_retrain_timeout : yields (exec (.laneRetrainTimeout 0 2) (linked 2 true training)) (fun t => ((t.link 0).lane 2).retrains == [4000000000]) = true := by decide +kernel
theorem wit_retired_lane : yields (exec (.laneRetrainTimeout 0 2) (linked 2 true { training with retrains := [4000000000, 4000000000, 4000000000, 4000000000] }))
    (fun t => ((t.link 0).lane 2).st == 3) = true := by decide +kernel
theorem wit_idle : (linked 2 true good).backLocked 0 = true ∧ yields (exec (.backLaneIdle 0) (linked 2 true good)) (fun t => (t.link 0).bkLast == t.now) = true := by decide +kernel
theorem wit_lane_lock : yields (exec (.laneLock 0 1) (linked 1 true training)) (fun t => ((t.link 0).lane 1).locked) = true := by decide +kernel
theorem wit_adjust : training.canStep 1 true = true ∧ tapsOk 4 41 8 = true ∧
    yields (exec (.laneAdjust 0 1 1 true) (linked 1 true training)) (fun t => ((t.link 0).lane 1).main == 41 && ((t.link 0).lane 1).tstate == 2) = true := by decide +kernel
theorem wit_adjust_limit : ({ training with pre := 0 } : LinkLane).canStep 0 false = false ∧
    yields (exec (.laneAdjust 0 1 0 false) (linked 1 true { training with pre := 0 })) (fun t => ((t.link 0).lane 1).pre == 0 && ((t.link 0).lane 1).tstate == 3) = true := by
  decide +kernel
theorem wit_done : yields (exec (.laneDone 0 1) (linked 1 true training)) (fun t => ((t.link 0).lane 1).good && (t.link 0).st == 1) = true := by decide +kernel
theorem wit_retrain : ((linked 2 true good).link 0).pll = true ∧ yields (exec (.laneRetrain 0 1) (linked 2 true good)) (fun t => !((t.link 0).lane 1).good && (t.link 0).width == 2 && (t.link 0).mask == 5) = true := by
  decide +kernel
theorem wit_status : yields (exec (.backLaneStatus 0 false true [0, 4096]) (linked 2 true good)) (fun t => (t.link 0).st == 2 && (t.link 0).bkLast == t.now) = true := by
  decide +kernel
theorem wit_side : yields (exec (.backLaneSide 0 [3, 4, 5, 6]) (linked 2 true good)) (fun t => (t.link 0).sideRx == [3, 4, 5, 6]) = true := by decide +kernel
/-- The frame of a write of 1 octet that is too short for a header: counted as malformed (R66); with a changed octet, as a bad CRC (R76). -/
theorem test_side_frame : uartFrame [0x7E] = [0x7E, 0x7D, 0x5E, 0x7D, 0x5E, 0xA9, 0x7E] ∧ unescape [0x7D, 0x5E, 0x7D, 0x5E, 0xA9] = [0x7E, 0x7E, 0xA9] ∧
    yields (exec (.backLaneSide 0 [0x7D, 0x5E, 0x7D, 0x5E, 0xA9, 0x7E]) (linked 2 true good))
      (fun t => t.obj 0x1030 1 == 1 && t.obj 0x1030 2 == 0 && (t.link 0).sideRx.isEmpty) = true := by decide +kernel
theorem wit_side_crc : yields (exec (.backLaneSide 0 [0x7E, 0x11, 0x11, 0x11, 0x7E]) (linked 2 true good))
    (fun t => t.obj 0x1030 2 == 1 && (t.link 0).sideRx.isEmpty) = true ∧
    crc16 ((unescape [0x11, 0x11, 0x11]).take 1) ≠ fieldAt (unescape [0x11, 0x11, 0x11]) 1 2 := by decide +kernel
/-- Four writes of 64 bits fill a read word, and the last word is padded with 00h (R277). -/
theorem test_read_words : ((readWords (writeWords 5 (oct (List.range 33)))).map fun w => (w.o.take 2, w.last, w.vb)) =
    [([0, 1], false, 32), ([32, 0], true, 1)] := by decide +kernel
theorem wit_invalid_block : yields (exec (.backLaneInvalidBlock 0) (linked 2 true good)) (fun t => t.obj 0x5304 8 == 1) = true := by decide +kernel
theorem wit_sync_header : yields (exec (.backLaneInvalidSyncHeader 0) ((linked 2 true good).modLink 0 fun k => { k with bkBits := List.replicate 15 false }))
    (fun t => !(t.link 0).bkLocked) = true := by decide +kernel
theorem test_sync_header_fifteen : yields (exec (.backLaneInvalidSyncHeader 0) ((linked 2 true good).modLink 0 fun k => { k with bkBits := List.replicate 14 false }))
    (fun t => (t.link 0).bkLocked) = true := by decide +kernel

/-- Link A up with one packet committed in a queue and credit of one unit. -/
def loaded (n : Fin 4) : State :=
  ((linked 2 true good).setQueue n { Reset.queue 24 with c := 1, pkts := [{ pos := 0, words := readWords (writeWords 9 (zeros 64)), frame := 5, damaged := false, evt := false }] }).modLink 0
    fun k => { k with grant := 1 }
/-- A packet sent and not acknowledged. -/
def sent0 : Sent := { seq := 65535, bulk := false, pos := 0, units := 1 }
theorem wit_stream_packet : (loaded 0).front 0 false = some { sent0 with seq := 0 } ∧ (loaded 0).front 0 true = none ∧ ((loaded 0).link 0).allows 1 = true ∧
    yields (exec (.linkPacketSend 0 0) (loaded 0)) (fun t => (t.link 0).sent == [{ sent0 with seq := 0 }] && (t.link 0).nextSeq == 1 && (t.queue 0).r == 1
      && t.out.length == 3) = true := by decide +kernel
theorem wit_bulk_packet : yields (exec (.linkPacketSend 0 0) (loaded 2)) (fun t => ((t.link 0).sent.map (·.bulk)) == [true] && (t.queue 2).r == 1) = true := by decide +kernel
theorem test_no_credit : yields (exec (.linkPacketSend 0 0) ((loaded 0).modLink 0 fun k => { k with grant := 0 })) (fun t => (t.link 0).sent.isEmpty && t.out == [.block 0 [0x1E, 0, 0, 0, 0, 0, 0, 0]]) = true := by
  decide +kernel
/-- The packet has left and waits for its acknowledgement. -/
def unacked : State := ((loaded 0).setQueue 0 { (loaded 0).queue 0 with r := 1 }).modLink 0 fun k => { k with sent := [sent0] }
theorem wit_replayed : yields (exec (.linkPacketSend 0 0) ((loaded 0).modLink 0 fun k => { k with sent := [sent0], replay := [sent0] }))
    (fun t => (t.link 0).replay.isEmpty && (t.link 0).sent == [sent0]) = true := by decide +kernel
theorem wit_ack : yields (exec (.backLaneAck 0 65535 7) unacked) (fun t => (t.link 0).sent.isEmpty && (t.link 0).grant == 7 && (t.queue 0).o == 1) = true := by decide +kernel
theorem wit_nak : yields (exec (.backLaneNak 0 65535 7) unacked) (fun t => (t.link 0).replay == [sent0] && (t.queue 0).r == 0) = true := by decide +kernel
theorem wit_replay_timeout : 0 + unacked.objN (lkCfg 0) 6 * usP ≤ unacked.now ∧
    yields (exec (.replayTimeout 0) unacked) (fun t => (t.link 0).timeouts == 1 && (t.link 0).replay == [sent0]) = true ∧
    yields (exec (.replayTimeout 0) (unacked.modLink 0 fun k => { k with timeouts := 3 })) (fun t => (t.link 0).st == 3 && (t.link 0).sent.isEmpty) = true := by decide +kernel
/-- R298: bits of the scrambler come back through the descrambler. -/
theorem test_scrambler : descramble (List.replicate 58 true) (scramble (List.replicate 58 true) (payloadBits [0x1B, 0, 0xFF])).1 = payloadBits [0x1B, 0, 0xFF] := by decide +kernel

/-! ### Reads, writes, transactions and leases -/

/-- Requests over UDP at MAC 0, and a command message. -/
def rqU : Req := { rq with port := 2, src := 5 }
def rqC : Req := { rq with asCommand := true }
theorem wit_read : base.gate rq = .served ∧ firstAbort (base.readCodes 0x3010 0) = 0 ∧
    yields (exec (.read rq 0x3010 0 false) base) (fun t => (t.tv.stored.map fun x => (x.abort, x.body)) == [(0, [0x30, 0x10, 0, 4, 0, 0, 0x4E, 0x20])]) = true := by
  decide +kernel
theorem wit_read_half : ∃ s : State, s.gate rq = .served ∧ latches 0x3012 = true ∧ firstAbort (s.readCodes 0x3012 2) = 0 ∧ s.snapOf rq 0x3012 = some 9 ∧
    yields (exec (.read rq 0x3012 2 false) s) (fun t => (t.tv.stored.map fun x => (x.abort, x.body)) == [(0, [0x30, 0x12, 2, 4, 0, 0, 0, 9])]) = true :=
  ⟨base.modTv fun t => { t with snaps := [{ port := 4, master := 7, obj := 0x3012, hi := 9, at_ := 3999000000 }] }, by decide +kernel⟩
theorem wit_read_refused : firstAbort (base.readCodes 0x3010 1) ≠ 0 ∧ yields (exec (.read rq 0x3010 1 false) base) (fun t => (t.tv.stored.map (·.abort)) == [0x0102]) = true := by
  decide +kernel
/-- A plain setting that applies at once, and one that waits for a Landing. -/
def immEntry : Entry := ent 0x9210 0 .u32 5
def lndEntry : Entry := ent 0x3010 0 .u32 20001
theorem wit_write_lnd : plainSetting lndEntry.obj = true ∧ base.accepts rq lndEntry (base.ownCodes rq lndEntry) ∧
    yields (exec (.write rq lndEntry) base) (fun t => decide (t.took rq) && t.obj 0x3010 0 == 20000 && (t.tv.pend.map fun p => (p.obj, p.el, p.val)) == [(0x3010, 0, 20001)]) = true := by
  decide +kernel
theorem wit_write_imm : plainSetting immEntry.obj = true ∧ base.accepts rq immEntry (base.ownCodes rq immEntry) ∧
    yields (exec (.write rq immEntry) base) (fun t => decide (t.took rq) && t.obj 0x9210 0 == 5 && t.tv.pend.isEmpty) = true := by decide +kernel
theorem wit_write_refused : firstAbort (base.writeCodes rq (ent 0x3010 0 .u32 9999) ++ base.ownCodes rq (ent 0x3010 0 .u32 9999)) = 0x0301 ∧
    yields (exec (.write rq (ent 0x3010 0 .u32 9999)) base) (fun t => decide (t.refused rq 0x0301) && t.tv.pend.isEmpty) = true := by decide +kernel
theorem wit_transaction : base.firstBad rq 0 [lndEntry] = none ∧ base.setBad rq [lndEntry] 0 = none ∧ base.setBad rq [lndEntry] 1 = none ∧ bodyOf [lndEntry] ≤ 1456 ∧
    yields (exec (.multiObjectTransaction rq [lndEntry]) base) (fun t => decide (t.refused rq 0) && (t.tv.pend.map fun p => (p.obj, p.val)) == [(0x3010, 20001)]) = true := by
  decide +kernel
theorem wit_transaction_refused : base.firstBad rq 0 [lndEntry, ent 0x3010 1 .u32 7] = some (1, 0x0102, ent 0x3010 1 .u32 7) ∧
    yields (exec (.multiObjectTransaction rq [lndEntry, ent 0x3010 1 .u32 7]) base)
      (fun t => (t.tv.stored.map fun x => (x.abort, x.body)) == [(0x0102, [1])] && t.tv.pend.isEmpty) = true := by decide +kernel
/-- Area 3 leased to master 7, until now or for longer. -/
def leased (until_ : Nat) : State := base.modTv fun t => { t with leases := [{ area := 3, port := 4, master := 7, expiry := until_ }] }
theorem wit_lease : base.gate rq = .served ∧ firstAbort (base.leaseCodes rq 3 1 60000) = 0 ∧ yields (exec (.leaseAcquire rq 3 60000) base)
    (fun t => decide (t.refused rq 0) && t.tv.leases == [{ area := 3, port := 4, master := 7, expiry := 28000000000 }]) = true := by decide +kernel
theorem wit_lease_renew : firstAbort ((leased 5000000000).leaseCodes rq 3 2 100) = 0 ∧ yields (exec (.leaseRenew rq 3 100) (leased 5000000000))
    (fun t => decide (t.refused rq 0) && t.tv.leases == [{ area := 3, port := 4, master := 7, expiry := 4040000000 }]) = true := by decide +kernel
theorem wit_lease_release : firstAbort ((leased 5000000000).leaseCodes rq 3 3 0) = 0 ∧ yields (exec (.leaseRelease rq 3 0) (leased 5000000000))
    (fun t => decide (t.refused rq 0) && t.tv.leases.isEmpty) = true := by decide +kernel
theorem wit_lease_expiry : yields (exec (.leaseExpiry 3) (leased 4000000000)) (fun t => t.tv.leases.isEmpty && (t.ev.queue.map fun e => (e.code, e.param)) == [(0x1101, 67)]) = true := by
  decide +kernel

/-! ### Ports, pending sets, messages -/

theorem wit_can_start : base.accepts rq (ent 0x1011 2 .bool 1) [] ∧ yields (exec (.canPortStart rq 1) base) (fun t => decide (t.took rq) && t.obj 0x1011 2 == 1) = true := by decide +kernel
theorem wit_can_stop : yields (exec (.canPortStop rq 1) (base.setObj 0x1011 2 1)) (fun t => decide (t.took rq) && t.obj 0x1011 2 == 0) = true := by decide +kernel
theorem wit_eth_start : yields (exec (.ethernetPortStart rq 1) ((base.setObj 0x2001 0 0).setObj 0x1022 2 0)) (fun t => decide (t.took rq) && t.obj 0x1022 2 == 1) = true := by decide +kernel
theorem wit_eth_stop : yields (exec (.ethernetPortStop rq 1) (base.setObj 0x2001 0 0)) (fun t => decide (t.took rq) && t.obj 0x1022 2 == 0) = true := by decide +kernel
theorem wit_fast_rate : base.accepts rq (entArg 0x1040 .u8 1) [] ∧ yields (exec (.uartMntFastRate rq 1) base) (fun t => decide (t.took rq) && t.tv.uartFast) = true := by decide +kernel
/-- A pending member of agreement set 1. -/
def agreed : State := base.modTv fun t => { t with pend := [{ obj := 0x4000, el := 1, val := 5, port := 4, master := 7, group := 0, wno := 0 }] }
theorem wit_discard : agreeSet 0x4000 1 = some 1 ∧ agreed.accepts rq (entArg 0x1310 .u8 1) [] ∧
    yields (exec (.discardPendingSet rq 1) agreed) (fun t => decide (t.took rq) && t.tv.pend.isEmpty) = true := by decide +kernel
/-- R64, R65: a message shorter than its header at MAC 0 is dropped and counted; its answer is none. -/
theorem wit_malformed_served : base.gate { port := 2, master := 7, txn := 1, asCommand := false, src := 9 } = .served := by decide +kernel
theorem wit_malformed : base.portUp 2 = true ∧ base.life.phase = .done ∧
    yields (exec (.torvipMalformedMessage 2 9 [0x54, 0x56]) base) (fun t => t.obj 0x1030 1 == 1 && t.out.isEmpty) = true := by decide +kernel
theorem test_malformed_answered : yields (exec (.torvipMalformedMessage 2 9 ([0x54, 0x56, 1, 9, 0, 7, 0, 0, 0, 1, 0, 0, 0, 0, 0, 0])) base)
    (fun t => (t.tv.stored.map (·.abort)) == [0x0302]) = true := by decide +kernel
/-- A CAN FD frame for another node. -/
theorem wit_not_ours : bits (fieldAt (toBE 4 (2 ^ 10 * 900)) 0 4) 10 10 ≠ base.canNode 0 ∧
    yields (exec (.torvipMalformedMessage 0 0 (toBE 4 (2 ^ 10 * 900))) base) (fun t => decide (t = base)) = true := by decide +kernel
theorem wit_uart_crc : yields (exec .uartMntCrcError base) (fun t => t.obj 0x1030 2 == 1) = true := by decide +kernel
theorem wit_can_ignored : yields (exec (.canFrameIgnored 0) (base.setObj 0x1011 1 1)) (fun t => t.obj 0x1030 3 == 1) = true := by decide +kernel
theorem wit_segment : yields (exec (.canSegment 0 7 2 9 0 63 [1, 2]) (base.setObj 0x1011 1 1))
    (fun t => (t.tv.canRx.map fun x => (x.port, x.master, x.next, x.got.length, x.last)) == [(0, 7, 1, 60, 4000000000)]) = true := by decide +kernel
theorem wit_segment_timeout : yields (exec (.canSegmentTimeout 0 7) (base.modTv fun t => { t with
      canRx := [{ port := 0, master := 7, tag := 9, kind := 2, total := 63, next := 1, got := [], last := 3979999999 }] }))
    (fun t => (t.canXferOf 0 7).isNone && t.out.length == 1) = true := by decide +kernel
theorem wit_arp : base.ownAddress 0 false (toBE 4 (base.objN 0x1021 1)) = true ∧ base.ownAddress 0 false [1, 2, 3, 4] = false ∧
    yields (exec (.arpNdpRequest 0 false (toBE 4 (base.objN 0x1021 1))) base) (fun t => t.out.length == 1) = true := by decide +kernel
theorem wit_interim : base.tv.stored.length < 16 ∧ yields (exec (.commandRunningResponse 4 7 1) (base.modTv fun t => { t with
      running := [{ req := rqC, kind := kCommand, obj := 0x9400, arg := 0, more := [], started := 3600000000, answered := false }] }))
    (fun t => (t.tv.running.map (·.answered)) == [true] && (t.tv.stored.map fun x => (x.abort, x.body)) == [(0, [1])]) = true := by decide +kernel
/-- R76: the flag and the escape octet are sent escaped. -/
theorem test_escape : uartFrame [0x7E, 0x7D] = [0x7E, 0x7D, 0x5E, 0x7D, 0x5D] ++ escape (toBE 2 (crc16 [0x7E, 0x7D])) ++ [0x7E] := by decide +kernel

/-! ### Frames and Landings -/

/-- RUN without a frame in progress; the last began 50 ms ago. -/
def idle : State := { run with frm := { run.frm with running := false, start := 3980000000, nextTimer := 4000000000 } }
theorem wit_timer : idle.timerRuns = true ∧ yields (exec .frameTimerExpiry idle)
    (fun t => t.frm.running && t.frm.start == t.now && t.frm.nextTimer == 4008000000) = true := by decide +kernel
theorem wit_edge : yields (exec (.frameTrigInEdge true) (idle.setObj 0x3020 1 1)) (fun t => t.frm.running && t.frm.start == t.now + usP) = true := by decide +kernel
theorem wit_edge_ignored : yields (exec (.frameTrigInEdge true) (run.setObj 0x3020 1 1)) (fun t => t.obj 0x3021 1 == 1 && t.frm == run.frm) = true := by decide +kernel
theorem wit_held_release : yields (exec .heldTriggerRelease { idle with frm := { idle.frm with want := some 3999999999, wantHeld := true } })
    (fun t => t.frm.running && t.frm.start == t.now && t.frm.want.isNone && t.obj 0x3021 4 == 1) = true := by decide +kernel
/-- A frame that is over: no Quadrant issues slots and the period has passed. -/
def frameDone : State := { run with frm := { run.frm with start := 3992000000 } }
/-- A Landing of 4 µs with nothing found. -/
def clean : LandingIn := { dur := 4000, vemLow := 0, shorts := [], noHeadroom := [], peaks := [], inject := [] }
theorem wit_frame_over : frameDone.frameOver = true := by decide +kernel
theorem wit_idle_landing : yields (exec .idleLanding base) (fun t => t.steer.phase0 == t.now && t.tv.withdrawn.isEmpty) = true := by decide +kernel

/-! ### Echo lanes -/

/-- Cell 9 of frame 5 finished with channel 3 to decompose; lane 0 at work on channel 2 of it. -/
def finished : State :=
  (run.setCell 0 { run.cellRec 0 5 9 with finished := true, todo := [3] }).modCru 0 fun k => { k with
    fin := [(5, 9)], lanes := [(0, { frame := 5, cell := 9, chan := 2, bg := 0, since := 0 })] }
theorem wit_take_up : finished.nextTodo 0 = some (5, 9, 3) ∧ finished.cellStamped 0 5 9 = true ∧
    yields (exec (.laneTakeUp 0) finished) (fun t => ((t.cru 0).lanes.map fun l => (l.1, l.2.chan)) == [(0, 2), (1, 3)]) = true := by decide +kernel
theorem wit_lane_done : yields (exec (.decompositionDone 0 0 false 0 0) finished) (fun t => (t.cru 0).lanes.isEmpty) = true := by decide +kernel
theorem wit_pipeline : (run.quad 0).fires = true ∧ yields (exec (.quadrantPipelineWatchdog 0) run) (fun t => !(t.quad 0).fires && t.tap.quads.any fun x => x.1 == 0) = true := by
  decide +kernel
/-- Its lane has held the context since the power-up. -/
theorem wit_context : (finished.quad 0).fires = true ∧ finished.lanesDue 0 ≠ [] ∧ yields (exec (.quadrantContextWatchdog 0) finished)
    (fun t => !(t.quad 0).fires && t.objN 0xF020 1 == 1 && t.tap.quads.any fun x => x.1 == 0) = true := by decide +kernel
/-- A decomposition taken up now is none of them. -/
theorem test_context_young : yields (exec (.quadrantContextWatchdog 0) (finished.modCru 0 fun k => { k with lanes := [] })) (fun t => (t.quad 0).fires) = true := by
  decide +kernel

/-! ### Signatures and images -/

/-- The public key, message and signature of test 1 of RFC 8032, section 7.1. -/
def key1 : Octets := toBE 32 0xd75a980182b10ab7d54bfed3c964073a0ee172f3daa62325af021a68f707511a
theorem test_ed25519 : ed25519Ok key1 []
    (toBE 64 0xe5564300c360ac729086e2cc806e828a84877f1eb8e5d974d873e065224901555fb8821590a33bacc61e39701cf9b46bd25bf5f0595bbe24655141438e7a100b) = true := by
  decide +kernel
/-- The example of FIPS 180-4 for "abc". -/
theorem test_sha512 : sha512 [0x61, 0x62, 0x63] =
    toBE 64 0xddaf35a193617abacc417349ae20413112e6fa4e89a97ea20a9eeee64b55d39a2192992a274fc1a836ba3c23a3feebbd454d4423643ce80e2a9ac94fa54ca49f := by decide +kernel
/-- Microcode of identity 7 with a body of three octets, signed under the key above; and firmware that names key 0 of the ROM. -/
def mcImage : Octets :=
  toBE 88 0x465a494d020002000000000700001000000000030000000027864cc5219a951a7a6e52b8c8dddf6981d098da1658d96258c870b2c88dfbcb51841aea172a28bafa6a79731165584677066045c959ed0f9929688d04defc29
    ++ toBE 64 0xa5fca5a020f4aeba60c03858b006dd50ba91eca39c1b096bdacb822ebda92333bda76a7090a1dbe7aa69c977a9154d48cbafbf729d24da9686f1314438d1d802
    ++ zeros 104 ++ [1, 2, 3]
def fwImage : Octets :=
  toBE 88 0x465a494d010500000000000900000000000000030001000027864cc5219a951a7a6e52b8c8dddf6981d098da1658d96258c870b2c88dfbcb51841aea172a28bafa6a79731165584677066045c959ed0f9929688d04defc29
    ++ toBE 64 0x64e5793243396dc263a1c0eccf0ea1a06795087476ef7e84c1f2f13e76f603aac916f247f607d0c0d3200a0f146815e4f96e9a86d7168c04ee2c30084db41e05
    ++ zeros 104 ++ [1, 2, 3]
/-- The NOR with octets at the start of a region. -/
def norOf (i : Nat) (o : Octets) : AMap Byte := (o.zipIdx.filter fun x => x.1 != 0).map fun x => (norBase i + x.2, x.1)
/-- An image in a region of the NOR, with the integrator key written. -/
def flashed (i : Nat) (o : Octets) : State := { base with nv := { base.nv with nor := norOf i o, key := some key1 } }
/-- Firmware in slot B, which is preferred. -/
def slotB : State := { base with nv := { base.nv with nor := norOf 1 fwImage, preferred := 1 } }
/-- No concrete part shows a slot that boots, since its ROM keys are not the spec's; one whose key 0 is the key above does. -/
theorem wit_slot_boots (h : Config.romKey 0 = key1) : slotB.slotBoots 1 = true := by
  have e : slotB.imgHeader 1 = fwImage.take 256 := by decide +kernel
  have g : ed25519Ok key1 ((fwImage.take 256).take 88) (hSig (fwImage.take 256)) = true := by decide +kernel
  have d : slotB.digestOk 1 (fwImage.take 256) = true := by decide +kernel
  have k : hKey (fwImage.take 256) = 0 := by decide +kernel
  have m : magicOk (fwImage.take 256) = true ∧ hKind (fwImage.take 256) = 1 := by decide +kernel
  have f : slotB.nv.fuse ≤ hRbi (fwImage.take 256) := by decide +kernel
  have s : slotB.sigOk (fwImage.take 256) = true := by
    unfold State.sigOk State.imgKey
    rw [k, h]
    exact g
  unfold State.slotBoots
  rw [e]
  show (magicOk (fwImage.take 256) && slotB.sigOk (fwImage.take 256) && slotB.digestOk 1 (fwImage.take 256) && hKind (fwImage.take 256) == 1
    && decide (slotB.nv.fuse ≤ hRbi (fwImage.take 256))) = true
  rw [s, d, m.1, m.2, decide_eq_true f]
  rfl
theorem wit_boot_slot (h : Config.romKey 0 = key1) : slotB.bootSlot = some 1 := by
  have b := wit_slot_boots h
  have p : slotB.nv.preferred = 1 := rfl
  simp only [State.bootSlot, p, b]; rfl
/-- With that key, slot B can be activated. -/
theorem wit_slip_activate (h : Config.romKey 0 = key1) : slotB.accepts rq (entArg 0x9212 .u8 4) (slotB.slipCodes 4) := by
  have b : slotB.slotBoots (1 - slotB.pilot.slot) = true := wit_slot_boots h
  have c : slotB.slipCodes 4 = [] := by
    simp only [State.slipCodes, b]; decide +kernel
  rw [c]; decide +kernel

/-! ### Power, boot and the run state -/

/-- Phase and state of the life cycle. -/
def living (st : DevState) (ph : BootPhase) : State := { base with life := { base.life with st := st, phase := ph } }
theorem test_reset : State.reset.life.st = .off ∧ State.reset.life.phase = .held ∧ State.reset.obj 0x3010 0 = 20000 ∧ State.reset.pending = [] := by decide +kernel
theorem wit_por : yields (exec (.powerOnResetRelease true) State.reset) (fun t => t.life.st == .boot && t.life.phase == .loading) = true ∧
    yields (exec (.powerOnResetRelease false) State.reset) (fun t => t.life.phase == .waitXo && t.life.nextAuto == 4000000) = true := by decide +kernel
theorem wit_xo : yields (exec (.xoCheckRetry true) (living .off .waitXo)) (fun t => t.life.st == .boot) = true ∧
    yields (exec (.xoCheckRetry false) (living .off .waitXo)) (fun t => t.life.phase == .waitXo && t.life.nextAuto == 4004000000) = true := by decide +kernel
theorem wit_boot : (living .boot .loading).bootSlot = none ∧ yields (exec .bootComplete (living .boot .loading)) (fun t => t.life.phase == .recovery) = true := by decide +kernel
/-- Self-tests without a finding, or with a fault of memory. -/
def tested (mem : Bool) : SelfTestIn :=
  { dieLinkOk := true, memoryOk := mem, badBlocks := [], captureOk := true, calFailed := [], injFailed := [], badSites := [] }
theorem wit_selftest_fatal : yields (exec (.selftestComplete (tested false)) (living .selftest .selfTest))
    (fun t => t.life.st == .halted && t.life.phase == .done && t.obj 0x9500 4 == 2) = true := by decide +kernel
theorem wit_reset_asserted : base.pilot.save = none ∧ base.pilot.blow = none ∧ yields (exec .powerOnResetAssert { base with nv := { base.nv with fuse := 3 } })
    (fun t => t.life.st == .off && t.nv.fuse == 3 && t.dict.isEmpty && t.now == 4000000000) = true := by decide +kernel
/-- CONFIG with steering running. -/
def ready : State := { base with steer := { base.steer with running := true } }
theorem wit_run : ready.accepts rq (ent 0x3000 0 .u8 2) ready.runCodes ∧ ready.runCodes = [] ∧
    yields (exec (.runCommand rq) ready) (fun t => t.life.st == .run && t.frm.running && t.frm.no == 0 && t.frm.start == t.now) = true := by decide +kernel
theorem wit_run_refused : yields (exec (.runCommand rq) base) (fun t => decide (t.refused rq 0x0601) && t.life.st == .config) = true := by decide +kernel
/-- A frame that began less than 10 ms ago holds the first one of the run back (R98). -/
theorem test_run_held : yields (exec (.runCommand rq) { ready with frm := { ready.frm with start := 3999000000 } })
    (fun t => t.life.st == .run && !t.frm.running && t.frm.want.isSome) = true := by decide +kernel
theorem wit_stop : run.accepts rq (ent 0x3000 0 .u8 1) run.stopCodes ∧ yields (exec (.stopCommand rq) run) (fun t => t.life.stopReq && t.life.st == .run) = true ∧
    yields (exec (.stopCommand rq) svc) (fun t => decide (t.took rq) && t.life.st == .config) = true := by decide +kernel
theorem wit_service : base.accepts rq (ent 0x3000 0 .u8 3) (when (base.life.st != .config) 0x0601) ∧
    yields (exec (.serviceCommand rq) base) (fun t => decide (t.took rq) && t.life.st == .service) = true := by decide +kernel
theorem wit_prepare : base.accepts rq (ent 0x3000 0 .u8 4) base.prepareCodes ∧
    yields (exec (.preparePowerRemoval rq) base) (fun t => t.life.prepReq && t.life.prepEl.isSome) = true := by decide +kernel
theorem wit_auto_run : yields (exec .autoRunRetry { ready with life := { ready.life with autoRun := true } }) (fun t => t.life.st == .run && !t.life.autoRun) = true ∧
    base.runCodes ≠ [] ∧ yields (exec .autoRunRetry { base with life := { base.life with autoRun := true } }) (fun t => t.life.nextAuto == 4040000000) = true := by
  decide +kernel
theorem wit_step : step { base with pending := [.uartMntCrcError] } = exec .uartMntCrcError { base with pending := [] } := rfl
theorem wit_tick : yields (step base) (fun t => t.now == 4000000001) = true := by decide

/-! ### Services, restarts, the Slip, temperatures and the store -/

theorem wit_log : yields (exec .eventLogCommit (base.evt 0x0B01 3)) (fun t => (t.nv.log.map fun e => (e.code, e.param)) == [(0x0B01, 3)] && t.nv.logNext == 1 && t.ev.queue.isEmpty) = true := by
  decide +kernel
theorem wit_quench_restart : (living .quenched .done).accepts rq (entArg 0x8015 .u8 1) (when ((living .quenched .done).life.st != .quenched || decide (2080 ≤ (living .quenched .done).sens.tj)) 0x0601) ∧
    yields (exec (.quenchRestart rq 1) (living .quenched .done)) (fun t => decide (t.took rq) && t.life.st == .config) = true := by decide +kernel
theorem wit_baseline : run.accepts rq (entArg 0x9300 .u8 1) (run.serviceCodes run.pilot.base.isSome) ∧
    yields (exec (.windowBaseline rq 1) run) (fun t => decide (t.took rq) && decide (t.pilot.base = some 1000)) = true := by decide +kernel
theorem wit_baseline_done : yields (exec .windowBaselineDone { run.setObj 0xC040 1 1 with pilot := { run.pilot with base := some 0, baseCnt := [(0, (3, 4))] } })
    (fun t => t.pilot.base.isNone && t.obj 0x9301 1 == 192) = true := by decide +kernel
theorem wit_report : yields (exec (.commissioningReport rq 1) run) (fun t => decide (t.took rq) && decide (t.pilot.report = some 100)) = true := by decide +kernel
theorem wit_report_done : ({ run with pilot := { run.pilot with report := some 0 } } : State).pilot.report = some 0 := rfl
theorem wit_converters : base.accepts rq (entArg 0x9330 .u8 1) (when base.pilot.conv.isSome 0x0701) := by decide +kernel
theorem wit_emitters : yields (exec (.emitterCampaign rq 1) base) (fun t => decide (t.took rq) && t.pilot.emit == 2) = true := by decide +kernel
theorem wit_domain_on : yields (exec (.powerDomainOn rq 5) (base.setObj 0x8101 7 0)) (fun t => decide (t.took rq) && t.obj 0x8101 7 == 1) = true := by decide +kernel
theorem wit_domain_off : base.accepts rq (ent 0x8100 6 .u8 0) (base.domOffCodes 5) ∧ base.domTouched 5 = false ∧
    yields (exec (.powerDomainOff rq 5) base) (fun t => decide (t.took rq) && t.obj 0x8101 7 == 0 && (t.link 0).st == 5) = true := by decide +kernel
theorem wit_watchdog : base.pilotOn = true ∧ yields (exec .pilotWatchdog { base with pilot := { base.pilot with wdogs := [3999999999, 3999999998, 3999999997] } })
    (fun t => t.restarting && decide (t.pilot.restart = some (4, 4000000000, 8000000000))) = true := by decide +kernel
theorem wit_sram : yields (exec .pilotSramError base) (fun t => t.restarting && decide (t.pilot.restart = some (5, 4000000000, 4000000000))) = true := by decide +kernel
/-- A restart under way since 5 s, under a trial that began at the power-up. -/
def restarted : State := { base with restarting := true, pilot := { base.pilot with restart := some (3, 2000000000, 2000000000), trial := some 0, former := 1 } }
theorem wit_pilot_restart : restarted.bootSlot = none ∧ yields (exec .pilotRestartComplete restarted) (fun t => !t.restarting && t.life.phase == .recovery) = true := by decide +kernel
theorem wit_trial_expiry : yields (exec .trialWindowExpiry { (base.setObj 0x9201 0 10) with pilot := { base.pilot with trial := some 0, former := 1 } })
    (fun t => t.pilot.trial.isNone && t.nv.preferred == 1 && decide (t.pilot.restart = some (2, 4000000000, 4000000000))) = true := by decide +kernel
theorem wit_trial_timeout : yields (exec .trialStartTimeout restarted) (fun t => t.pilot.trial.isNone && t.nv.preferred == 1) = true := by decide +kernel
/-- An erased Slip. -/
def erased : State := { base with pilot := { base.pilot with slipErased := true } }
theorem wit_slip_data : erased.accepts rq (entBlob 0x9211 [5, 0, 6]) (erased.slipDataCodes [5, 0, 6]) ∧
    yields (exec (.slipDataWrite rq [5, 0, 6]) erased) (fun t => decide (t.took rq) && t.obj 0x9210 0 == 3 && t.nv.nor == [(norBase 2, 5), (norBase 2 + 2, 6)]
      && t.pilot.slipEnd == 3) = true := by decide +kernel
theorem wit_slip_erase : (flashed 2 mcImage).accepts rq (entArg 0x9212 .u8 1) ((flashed 2 mcImage).slipCodes 1) ∧
    yields (exec (.slipErase rq) (flashed 2 mcImage)) (fun t => decide (t.took rq) && t.nv.nor.isEmpty && decide (t.pilot.busy = some (1, 4000000000))) = true := by decide +kernel
theorem wit_slip_verify : yields (exec (.slipVerify rq) base) (fun t => decide (t.took rq) && decide (t.pilot.busy = some (2, 4000000000))) = true := by decide +kernel
/-- The Slip holds verified firmware. -/
def verified : State := { flashed 2 fwImage with pilot := { base.pilot with slip := 2 } }
theorem wit_slip_install : verified.accepts rq (entArg 0x9212 .u8 3) (verified.slipCodes 3) ∧
    yields (exec (.slipInstall rq) verified) (fun t => decide (t.took rq) && t.pilot.slip == 4 && decide (t.pilot.busy = some (3, 4000000000))) = true := by decide +kernel
theorem wit_slip_confirm : yields (exec (.slipConfirm rq) { flashed 0 fwImage with pilot := { base.pilot with trial := some 0 } })
    (fun t => decide (t.took rq) && t.pilot.trial.isNone && t.nv.fuse == 5) = true := by decide +kernel
theorem wit_slip_revert : yields (exec (.slipRevert rq) { base with pilot := { base.pilot with trial := some 0, former := 1 } })
    (fun t => decide (t.took rq) && t.pilot.trial.isNone && t.nv.preferred == 1) = true := by decide +kernel
theorem wit_slip_restart : yields (exec (.slipRestart rq) base) (fun t => decide (t.took rq) && t.restarting) = true := by decide +kernel
theorem wit_slip_complete : yields (exec .slipCommandComplete { base with pilot := { base.pilot with busy := some (1, 0) } })
    (fun t => t.pilot.busy.isNone && t.pilot.slipErased) = true := by decide +kernel
theorem wit_key : svc.accepts rq (entBlob 0x9240 key1) (when (svc.life.st != .service || svc.nv.key.isSome) 0x0601) ∧
    yields (exec (.integratorKeyWrite rq key1) svc) (fun t => decide (t.took rq) && decide (t.nv.key = some key1)) = true := by decide +kernel
theorem wit_microcode : yields (exec (.microcodeLoad rq 2) { flashed 2 mcImage with pilot := { base.pilot with slip := 2 } })
    (fun t => decide (t.took rq) && (t.cru 1).mcId1 == 7 && (t.cru 0).mcId1 == 0 && (t.cru 1).mcAct == 0) = true := by decide +kernel
theorem wit_housekeeping : base.sensorsRun = true ∧ base.sens.next ≤ base.now := by decide +kernel
/-- A reading within the limits that the part's OTP gives. -/
theorem wit_site (h : Config.siteLow 3 ≤ 500) (h' : 500 ≤ Config.siteHigh 3) : siteReading (List.replicate 20 (some 500)) 3 = some (siteTemp 3 500) := by
  simp [siteReading, h, h']
theorem wit_save : base.accepts rq (entArg 0x9110 .u8 1) base.saveCodes ∧ base.bodyLen ≤ 262128 ∧
    yields (exec (.save rq 1 true) base) (fun t => decide (t.took rq) && (t.pilot.save.map fun x => (x.target, x.copy.seq, x.ok, x.at_)) == some (0, 1, true, 4000000000) && t.nv.copy0 == copyErased) = true := by decide +kernel
/-- A save of a small copy that is running, and its end, whose read-back agrees or not. -/
def copy1 (seq : Nat) : Copy := { seq := seq, len := 1, crc := crc32c [1], gen := 0, body := [1] }
def saving (ok : Bool) : State := base.modPilot fun p => { p with save := some { target := 1, copy := copy1 5, ok := ok, at_ := 3999999999 } }
theorem wit_save_end : yields (step (saving true)) (fun t => t.pilot.lastSave == 1 && t.pilot.save.isNone && t.nv.copy1 == copy1 5) = true := by decide +kernel
theorem wit_save_bad : yields (step (saving false)) (fun t => t.pilot.lastSave == 3 && t.pilot.save.isNone && t.nv.copy1 == Reset.copy) = true := by decide +kernel
theorem test_save_busy : yields (exec (.save rq 1 true) (saving true)) (fun t => t.pilot.save == (saving true).pilot.save && decide (t.nv = base.nv ∧ ¬ t.took rq)) = true := by decide +kernel
theorem wit_erase : yields (exec (.storeErase rq 1) svc) (fun t => decide (t.took rq) && t.nv.copy0 == copyErased) = true := by decide +kernel
/-- The worked example of R391: sequence numbers FFFFFFFEh and 00000001h select Copy 1. -/
theorem test_copy_choice : ({ base with nv := { base.nv with copy0 := copy1 0xFFFFFFFE, copy1 := copy1 1 } } : State).copyChoice = 1 := by
  decide +kernel

/-! ### Re-admission -/

theorem wit_stand_down : base.accepts rq (ent 0x3102 1 .u8 0) [] ∧ yields (exec (.quadrantStandDown rq 2) base)
    (fun t => decide (t.took rq) && (t.tv.pend.map fun p => (p.obj, p.el, p.val)) == [(0x3102, 1, 0)]) = true := by decide +kernel
theorem wit_rejoin : yields (exec (.quadrantRejoin rq 2) base) (fun t => decide (t.took rq) && (t.tv.pend.map (·.val)) == [1]) = true := by decide +kernel
/-- A channel, an emitter, a lane, a Quadrant and a Helm that are retired. -/
def retired : State :=
  ((((run.setChan 1 3 { chan0 with st := 6 }).modEm 12 fun x => { x with retired := 1 }).modLink 1 fun k => { k with st := 2, lanes := k.lanes.set 2 { Reset.lane with st := 3 } }).modQuad 3
    fun q => { q with st := 5 }).setHelm true { Reset.helm with st := 4 }
/-- The same with steering running. -/
def retired1 : State := { retired with steer := { retired.steer with running := true } }
theorem wit_readmit_channel : retired.accepts rq (entArg 0x9400 .u16 0x1103) (retired.readmitCodes 0x1103) ∧
    yields (exec (.readmitChannel rq 0x103) retired) (fun t => decide (t.took rq) && (t.chan 1 3).st == 4 && t.obj 0x9401 1 == 0x1103 && t.obj 0x9401 2 == 1) = true := by decide +kernel
theorem wit_readmit_emitter : retired.readmitCodes 0x200C = [] ∧ yields (exec (.readmitEmitter rq 12) retired) (fun t => decide (t.took rq) && (t.emitter 12).retest == 4) = true := by
  decide +kernel
theorem wit_readmit_lane : retired.readmitCodes 0x3012 = [] ∧ yields (exec (.readmitLane rq 0x12) retired)
    (fun t => decide (t.took rq) && ((t.link 1).lane 2).st == 2 && ((t.link 1).lane 2).readmit) = true := by decide +kernel
theorem wit_readmit_quadrant : retired.readmitCodes 0x4003 = [] ∧ yields (exec (.readmitQuadrant rq 3) retired)
    (fun t => decide (t.took rq) && (t.quad 3).st == 4 && (t.quad 3).step == 2 && t.obj 0x9401 1 == 0x4003) = true := by decide +kernel
theorem wit_readmit_helm : retired1.readmitCodes 0x5001 = [] ∧ yields (exec (.readmitHelm rq 1) retired1) (fun t => decide (t.took rq) && (t.helm true).st == 3) = true := by
  decide +kernel
/-- Quadrant 2 on its way back at a step, with a bias that is settled or not. -/
def returning (step : Nat) : State :=
  { run.modQuad 2 fun q => { q with st := 4, step := step } with
    life := { run.life with readm := [0x4002] }, forge := { run.forge with bias := run.forge.bias.set 2 { Reset.bias with settled := true } } }
theorem wit_quad_step : yields (exec (.quadrantReadmissionStepDone true []) (returning 2)) (fun t => (t.quad 2).step == 3) = true ∧
    yields (exec (.quadrantReadmissionStepDone true []) (returning 4)) (fun t => (t.quad 2).step == 5) = true ∧
    yields (exec (.quadrantReadmissionStepDone false []) (returning 3)) (fun t => (t.quad 2).st == 5 && t.life.readm.isEmpty) = true := by decide +kernel
/-- Channel 3 of Quadrant 1 waits for the calibration of its re-admission. -/
def recalibrating : State :=
  { run.setChan 1 3 { chan0 with st := 4, readmit := 1, due := true, relief := some 256, offset := some 2060 } with life := { run.life with readm := [0x1103] } }
theorem wit_channel_cal : recalibrating.canCalibrate 1 3 = true ∧ (calResult (recalibrating.prevOffset 1 3) (addBins (recalibrating.chan 1 3).hist flat) [100] 0).isSome = true ∧
    yields (exec (.channelReadmissionCalDone 259 ⟨flat, [100], 0, 5, 6⟩) recalibrating)
      (fun t => (t.chan 1 3).readmit == 2 && (t.chan 1 3).calAt == t.now && decide ((t.chan 1 3).d1 = some 6)) = true ∧
    yields (exec (.channelReadmissionCalDone 259 ⟨flat, [100], 65, 5, 6⟩) recalibrating)
      (fun t => (t.chan 1 3).readmit == 0 && (t.chan 1 3).st == 6 && t.life.readm.isEmpty) = true := by decide +kernel

/-! ### Commands that name the device identity -/

/-- A PDU that begins a download of 3 octets for the part 4C1F0A279E3B5D80h. -/
def beginPdu : Octets := pdu 0x93055 5 2000 (oct [1, 0, 0, 0] ++ toBE 8 0x4C1F0A279E3B5D80 ++ toBE 4 3 ++ toBE 4 9)
theorem wit_param_begin (h : Config.deviceId = 0x4C1F0A279E3B5D80) : connected.slotFor fromUdp (fieldAt beginPdu 0 4) = some 2 ∧
    (connected.plvAccept 2 (fieldAt beginPdu 0 4) beginPdu).2 = true ∧ fieldAt ((beginPdu.drop 12).take (octAt beginPdu 7)) 4 8 = Config.deviceId % 2 ^ 64 ∧
    0 < fieldAt ((beginPdu.drop 12).take (octAt beginPdu 7)) 12 4 := by rw [h]; decide +kernel
def activatePdu : Octets := pdu 0x93055 5 2000 (oct [4, 0, 0, 0] ++ toBE 4 (crc32c (oct [1, 2, 3])) ++ toBE 8 0x4C1F0A279E3B5D80)
theorem wit_param_activate (h : Config.deviceId = 0x4C1F0A279E3B5D80) :
    ({ download 3 (oct [1, 2, 3]) 3 with isl := { base.isl with st := .off } } : State).slotFor fromUdp (fieldAt activatePdu 0 4) = some 2 ∧
    (({ download 3 (oct [1, 2, 3]) 3 with isl := { base.isl with st := .off } } : State).plvAccept 2 (fieldAt activatePdu 0 4) activatePdu).2 = true ∧
    fieldAt ((activatePdu.drop 12).take (octAt activatePdu 7)) 8 8 = Config.deviceId % 2 ^ 64 := by rw [h]; decide +kernel
/-- A grant of index 137 to that part from its reference. -/
def grant : Octets := grantOctets 5 0x4C1F0A279E3B5D80 137 0x004007470585 1440 0
def grantRq : Req := { port := 2, master := 9, txn := 1, asCommand := false, src := 0xC0A80101 * 65536 + 5 }
theorem wit_grant (h : Config.deviceId = 0x4C1F0A279E3B5D80) :
    (member.modFleet fun f => { f with asked := true }).accepts grantRq (entBlob 0x2201 grant) ((member.modFleet fun f => { f with asked := true }).grantCodes grantRq grant) ∧
    octAt grant 22 ≤ 1 := by
  have c : (member.modFleet fun f => { f with asked := true }).grantCodes grantRq grant = [] := by
    simp only [State.grantCodes, h]; decide +kernel
  rw [c]; decide +kernel

/-- BYPASS is one cell between TDI and TDO; EXTEST drives what was shifted in and updated (R448). -/
theorem test_jtag : ((((base.jtagSelect .bypass).jtagCapture.jtagShift true).jtagTdo) && !((base.jtagSelect .bypass).jtagCapture.jtagTdo)
    && (((base.jtagSelect .extest).jtagShift true).jtagUpdate.jtagDrives 0 == some true)
    && (((base.jtagSelect .samplePreload).jtagShift true).jtagUpdate.jtagDrives 0 == none)) = true := by decide +kernel

/-! ### Worked examples of the spec -/

def digits : Octets := [0x31, 0x32, 0x33, 0x34, 0x35, 0x36, 0x37, 0x38, 0x39]
/-- The check values of R76 and R362 over "123456789". -/
theorem test_crc : crc16 digits = 0x29B1 ∧ crcPlovivo digits = 0x1697D06A := by decide +kernel
/-- The identifiers of the worked example of the CAN FD binding. -/
theorem test_can_identifiers : canIdent 4 2 0 0 12 5 = 0x10803005 ∧ canIdent 3 2 1 0 12 5 = 0x0CA03005 := by decide
/-- The pattern entry after R87. -/
theorem test_code_book : let s := (base.setObj 0x3240 6 0x020C1E00).setObj 0x2200 1 137
    s.trainOf 5 = [0, 21, 51] ∧ (s.setObj 0x2200 1 138).trainOf 5 = [0, 22, 52] := by decide +kernel
/-- The bale echo of R184: half-sixteenths 8,197,676 make 750,000 units of 0.25 mm, and 48 net hits over 2 a confidence of 109. -/
def bale : Echo :=
  { bin := 0, peak := 0, amp := 0, pos := 0, w50 := 0, edge := false, win := none, fine := true, tau64 := 8197676, hitsN := 48, backB := 2, intensity := 194
    ambG := 0, sat := false }
theorem test_range_word : base.rangeWord bale = 750000 ∧ bale.conf = 109 := by decide +kernel
/-- Its record. -/
theorem test_point_record : pointRecord 0xB71B0 194 1 0 273 0x7A12 0x7E40 12345 109 true false false false false false =
    [0x2D, 0xC6, 0xC0, 0x30, 0x88, 0x44, 0x5E, 0x84, 0x9F, 0x90, 0, 0xC0, 0xE5, 0xB6, 0, 0] := by decide +kernel
/-- Head and trailer of the Ingot after R309. -/
theorem test_ingot : let o := ingot 100000 0xF5 0 254 3 1016 0 []
    o.length = 4096 ∧ o.take 16 = [0, 1, 0x86, 0xA0, 0, 0, 0xF5, 0, 0, 0xFE, 0, 3, 0, 1, 0, 0] ∧ o.drop 4092 = [3, 0xF8, 0x74, 0x66] := by
  decide +kernel
/-- The response of the CAN FD example: node 12, master 5, tag 07h. -/
theorem test_can_response : yields (exec (.write { port := 0, master := 5, txn := 7, asCommand := false, src := 0 } (ent 0x3010 0 .u32 25000))
      ((base.setObj 0x1011 1 1).setObj 0x1010 1 12))
    (fun t => t.out == [.can 0 0x0CA03005 [7, 2, 0, 0]] && (t.tv.pend.map (·.val)) == [25000]) = true := by decide +kernel
theorem wit_keeps_parts : touchesIsland (.housekeepingRound []) = false ∧ touchesDma (.housekeepingRound []) = false ∧
    touchesDie .uartMntCrcError = false ∧ touchesPlovivo (.housekeepingRound []) = false ∧ touchesNv .idleLanding = false ∧
    touchesSensors .idleLanding = false ∧ yields (exec (.housekeepingRound []) base) (fun _ => true) = true ∧ yields (exec .uartMntCrcError base) (fun t => t.obj 0x1030 2 == 1) = true ∧
    yields (exec .idleLanding base) (fun t => t.steer.phase0 == t.now) = true := by decide +kernel

/-! ### Well-formed commands -/

/-- A request from a port that does not exist, and an entry that fits. -/
def badReq : Req := { rq with port := 7 }
def e0 : Entry := { obj := 0x3010, el := 0, ty := 4, val := [] }
/-- One ill-formed command for each check of `Instr.wf`, the others being met. -/
theorem test_ill_formed_1 : ([
   .landingWatchdog false (16) clean, .landingWatchdog false 0 { clean with vemLow := 16 }, .sharedCommitTimeout { clean with vemLow := 16 },
   .frameEnd { clean with vemLow := 16 }, .read badReq 0 0 false, .read rq (2 ^ 16) 0 false, .read rq 0 (2 ^ 16) false, .write badReq e0,
   .write rq { e0 with ty := 256 }, .multiObjectTransaction badReq [], .multiObjectTransaction rq [{ e0 with ty := 256 }],
   .subscribe badReq 0 0 0 0 0 0, .subscribe rq (2 ^ 16) 0 0 0 0 0, .subscribe rq 0 (2 ^ 16) 0 0 0 0, .subscribe rq 0 0 (2 ^ 8) 0 0 0,
   .subscribe rq 0 0 0 (2 ^ 16) 0 0, .subscribe rq 0 0 0 0 (2 ^ 16) 0, .subscribe rq 0 0 0 0 0 (2 ^ 16), .publicationInterval (2 ^ 16),
   .subscriptionLapse (2 ^ 16), .leaseAcquire badReq 0 0, .leaseAcquire rq (16) 0, .leaseAcquire rq 0 (2 ^ 16), .leaseRenew badReq 0 0,
   .leaseRenew rq (16) 0, .leaseRenew rq 0 (2 ^ 16), .leaseRelease badReq 0 0, .leaseRelease rq (16) 0, .leaseRelease rq 0 (2 ^ 16),
   .leaseExpiry (16), .torvipMalformedMessage (7) 0 [], .torvipMalformedMessage 0 (2 ^ 145) [], .torvipMalformedMessage 0 0 (zeros 1473),
   .canSegment (7) 0 0 0 0 0 [], .canSegment 0 (2 ^ 16) 0 0 0 0 [], .canSegment 0 0 (16) 0 0 0 [], .canSegment 0 0 0 (2 ^ 8) 0 0 [],
   .canSegment 0 0 0 0 (2 ^ 8) 0 [], .canSegment 0 0 0 0 0 (2 ^ 16) [], .canSegment 0 0 0 0 0 0 (zeros 61)] : List Instr).all (fun i => !i.wf) = true := by decide +kernel
theorem test_ill_formed_2 : ([
   .canSegmentTimeout (7) 0, .canSegmentTimeout 0 (2 ^ 16), .uartMntFastRate badReq 0, .uartMntFastRate rq (2 ^ 32),
   .discardPendingSet badReq 0, .discardPendingSet rq (2 ^ 8), .canPortStart badReq 0, .canPortStop badReq 0, .ethernetPortStart badReq 0,
   .ethernetPortStop badReq 0, .patternDataWrite badReq [], .patternDataWrite rq (zeros 1441), .patternCommit badReq 0,
   .patternCommit rq (2 ^ 16), .strike badReq 0, .strike rq (2 ^ 32), .hpcPeakReading 0 (4096), .emitterRetest badReq 0,
   .emitterRetest rq (2 ^ 8), .fastAxisZeroCrossing ⟨true, 2 ^ 16⟩, .ferryCommand badReq 0, .ferryCommand rq (2 ^ 32), .loopStart badReq 0,
   .loopStop badReq 0, .steeringStart badReq, .steeringStop badReq, .compensatorClear badReq 0, .compensatorClear rq (2 ^ 8),
   .gateOpen 0 (2 ^ 16) 0, .gateClose 0 (2 ^ 16) 0, .hitLeadingEdge 0 0 (2 ^ 16) 0 false false 0 0,
   .hitLeadingEdge 0 0 0 (4096) false false 0 0, .hitLeadingEdge 0 0 0 0 false false 0 (49152), .hitTrailingEdge 0 0 (2 ^ 16),
   .reliefHandover 0 ⟨0, List.replicate 385 0⟩, .converterCalibrationDone 0 0 (List.replicate 385 0) [] 0,
   .converterCalibrationDone 0 0 [] [384] 0, .decompositionDone 0 0 false 0 (49152), .microcodeLoad badReq 0, .microcodeLoad rq (2 ^ 16)] : List Instr).all (fun i => !i.wf) = true := by decide +kernel
theorem test_ill_formed_3 : ([
   .microcodeBankSelect badReq 0 0, .microcodeBankSelect rq 0 (2 ^ 8), .adcConversionDone 0 (2 ^ 16) false false 0 0,
   .adcConversionDone 0 0 false false (16) 0, .adcConversionDone 0 0 false false 0 (2 ^ 16), .sequencerStart badReq 0,
   .sequencerStop badReq 0, .calCaptureZero badReq, .calCaptureFullScale badReq, .calComputeStore badReq, .calRestoreFactory badReq,
   .calAbandon badReq, .accumulatorConfigWrite badReq 0 0, .accumulatorConfigWrite rq 0 (2 ^ 32), .accumulatorLatch badReq 0,
   .accumulatorLatch rq (2 ^ 32), .minmaxConfigWrite badReq 0 0, .minmaxConfigWrite rq 0 (2 ^ 32), .minmaxLatch badReq 0,
   .minmaxLatch rq (2 ^ 32), .filterChannelStart badReq 0, .filterChannelStop badReq 0, .angleStampReady 0 (2 ^ 16),
   .ptpMessageReceived 0 ⟨2 ^ 8, .management⟩, .setTime badReq 0, .setTime rq (2 ^ 64), .timeServiceStart badReq, .timeServiceStop badReq,
   .wofenPacketReceived false (zeros 65) 0, .wofenPacketReceived false [] (2 ^ 16), .busCalibration badReq 0, .busCalibration rq (2 ^ 32),
   .triggerBusStart badReq, .triggerBusStop badReq, .fleetJoin badReq 0 0 0, .fleetJoin rq (2 ^ 32) 0 0, .fleetJoin rq 0 (2 ^ 64) 0,
   .fleetJoin rq 0 0 (2 ^ 16), .fleetRenew badReq 0 0 0, .fleetRenew rq (2 ^ 32) 0 0] : List Instr).all (fun i => !i.wf) = true := by decide +kernel
theorem test_ill_formed_4 : ([
   .fleetRenew rq 0 (2 ^ 64) 0, .fleetRenew rq 0 0 (2 ^ 16), .fleetRelease badReq 0 0 0, .fleetRelease rq (2 ^ 32) 0 0,
   .fleetRelease rq 0 (2 ^ 64) 0, .fleetRelease rq 0 0 (2 ^ 16), .fleetGrant badReq [], .fleetGrant rq (zeros 1441),
   .fleetDomainWrite badReq 0 0 [], .fleetDomainWrite rq (2 ^ 16) 0 [], .fleetDomainWrite rq 0 (2 ^ 8) [],
   .fleetDomainWrite rq 0 0 (zeros 1441), .captureStart badReq, .captureStop badReq, .captureRecord (2 ^ 8) 0 0 ⟨0, false⟩,
   .captureRecord 0 (2 ^ 8) 0 ⟨0, false⟩, .captureRecord 0 0 0 ⟨2 ^ 64, false⟩, .triggerConditionOccurrence 0 (.crossing 16 0 0),
   .hostTrigger badReq 0, .hostTrigger rq (2 ^ 32), .segmentSelect badReq 0, .segmentSelect rq (2 ^ 16), .segmentRelease badReq 0,
   .segmentRelease rq (2 ^ 16), .captureClear badReq 0, .captureClear rq (2 ^ 32), .descriptorWrite badReq [],
   .descriptorWrite rq (zeros 1473), .dmaChannelStart badReq 0 0 0, .dmaChannelStart rq 0 (2 ^ 16) 0, .dmaChannelStart rq 0 0 (2 ^ 16),
   .dmaChannelDisable badReq 0, .completionQueueRead badReq, .dmaBufferWrite badReq [], .dmaBufferWrite rq (zeros 1473), .linkStart badReq 0,
   .linkStop badReq 0, .backLaneAck 0 (2 ^ 16) 0, .backLaneAck 0 0 (2 ^ 16), .backLaneNak 0 (2 ^ 16) 0] : List Instr).all (fun i => !i.wf) = true := by decide +kernel
theorem test_ill_formed_5 : ([
   .backLaneNak 0 0 (2 ^ 16), .backLaneStatus 0 false false [], .backLaneStatus 0 false false [0, 0, 0, 4096], .backLaneSide 0 (zeros 1473),
   .testPulse false [4], .outputSwitchTest 1, .startUpOutputTest 1, .commandPdu (.udp 0 false 65536) [], .commandPdu (.can 0 0) (zeros 1473),
   .paramBegin (.udp 0 false 65536) [], .paramBegin (.can 0 0) (zeros 1473), .paramData (.udp 0 false 65536) [],
   .paramData (.can 0 0) (zeros 1473), .paramVerify (.udp 0 false 65536) [], .paramVerify (.can 0 0) (zeros 1473),
   .paramActivate (.udp 0 false 65536) [], .paramActivate (.can 0 0) (zeros 1473), .paramAbandon (.udp 0 false 65536) [],
   .paramAbandon (.can 0 0) (zeros 1473), .housekeepingRound [], .quenchRestart badReq 0, .quenchRestart rq (2 ^ 32), .save badReq 0 false,
   .save rq (2 ^ 32) false, .storeErase badReq 0, .storeErase rq (2 ^ 32), .slipDataWrite badReq [], .slipDataWrite rq (zeros 1441),
   .slipErase badReq, .slipVerify badReq, .slipInstall badReq, .slipActivate badReq, .slipConfirm badReq, .slipRevert badReq,
   .slipRestart badReq, .integratorKeyWrite badReq [], .integratorKeyWrite rq (zeros 1441), .windowBaseline badReq 0,
   .windowBaseline rq (2 ^ 32), .commissioningReport badReq 0] : List Instr).all (fun i => !i.wf) = true := by decide +kernel
theorem test_ill_formed_6 : ([
   .commissioningReport rq (2 ^ 32), .converterCampaign badReq 0, .converterCampaign rq (2 ^ 16), .emitterCampaign badReq 0,
   .emitterCampaign rq (2 ^ 32), .powerDomainOff badReq 0, .powerDomainOn badReq 0, .selftestComplete { tested true with badSites := [20] },
   .runCommand badReq, .stopCommand badReq, .serviceCommand badReq, .preparePowerRemoval badReq, .quadrantStandDown badReq 0,
   .quadrantRejoin badReq 0, .readmitChannel badReq 0, .readmitChannel rq (2 ^ 32), .readmitEmitter badReq 0, .readmitEmitter rq (2 ^ 32),
   .readmitLane badReq 0, .readmitLane rq (2 ^ 32), .readmitQuadrant badReq 0, .readmitQuadrant rq (2 ^ 32), .readmitHelm badReq 0,
   .readmitHelm rq (2 ^ 32), .quadrantReadmissionStepDone false [1024], .channelReadmissionCalDone 0 ⟨[], [384], 0, 0, 0⟩,
   .ref10InChange (some (2 ^ 32)), .arpNdpRequest 0 false [1], .plovivoPduUnmatched (.udp 0 false 65536) 0,
   .plovivoPduUnmatched (.can 0 0) (2 ^ 32), .commandRunningResponse (7) 0 0, .commandRunningResponse 0 (2 ^ 16) 0,
   .commandRunningResponse 0 0 (2 ^ 32)] : List Instr).all (fun i => !i.wf) = true := by decide +kernel
/-- The checks of the operands that are structures. -/
theorem test_ill_formed_parts : (!({ rq with master := 65536 } : Req).wf && !({ rq with txn := 2 ^ 32 } : Req).wf && !({ rq with src := 2 ^ 145 } : Req).wf
    && !({ e0 with obj := 65536 } : Entry).wf && !({ e0 with el := 65536 } : Entry).wf && !({ e0 with val := zeros 1453 } : Entry).wf
    && !({ clean with shorts := [192] } : LandingIn).wf && !({ clean with noHeadroom := [192] } : LandingIn).wf && !({ clean with peaks := [(8, 0)] } : LandingIn).wf
    && !({ clean with inject := [(0, 16, none)] } : LandingIn).wf && !({ tested true with badBlocks := [(4, 0)] } : SelfTestIn).wf
    && !({ tested true with calFailed := [1024] } : SelfTestIn).wf && !({ tested true with injFailed := [1024] } : SelfTestIn).wf
    && !(Occ.hit 1024 0).wf && !(Occ.edge 0 7).wf && !(Occ.event 65536).wf && !(PlvFrom.can 0 (2 ^ 29)).wf && !(Occ.train 4 0).wf && !(Occ.relay 65536).wf && !(PtpMsg.sync 65536 none).wf
    && !(PtpMsg.announce ds1 true [2 ^ 64]).wf) = true := by decide +kernel
/-- A well-formed command of every row. -/
theorem test_well_formed_1 : ([
   .flitAckTimeout 0, .flitReceived 0 false, .dieLinkSilence, .flitRetryRateSecond, .enableLaneStopped 0, .anchorOnCommand 0,
   .quadrantPipelineWatchdog 0, .quadrantContextWatchdog 0, .safetyTapWatchdog 0, .verdictWatchdog 0, .landingWatchdog false 0 clean,
   .sharedCommitTimeout clean, .frameTimerExpiry, .frameEnd clean, .idleLanding, .read rq 0 0 false, .write rq e0,
   .multiObjectTransaction rq [], .subscribe rq 0 0 0 0 0 0, .publicationInterval 0, .subscriptionLapse 0, .leaseAcquire rq 0 0,
   .leaseRenew rq 0 0, .leaseRelease rq 0 0, .leaseExpiry 0, .torvipMalformedMessage 0 0 [], .canSegment 0 0 0 0 0 0 [],
   .canSegmentTimeout 0 0, .uartMntFastRate rq 0, .discardPendingSet rq 0, .canPortStart rq 0, .canPortStop rq 0, .ethernetPortStart rq 0,
   .ethernetPortStop rq 0, .patternDataWrite rq [], .patternCommit rq 0, .shadowRefreshDone 0, .patternDurationCut 0, .slot 0 false,
   .angleTrigger 0 0 false, .angleMissed 0, .strike rq 0, .hpcPeakReading 0 0, .emitterRetest rq 0, .frameTrigInEdge false,
   .heldTriggerRelease, .fastAxisZeroCrossing ⟨true, 0⟩, .fastAxisCrossingTimeout, .controlPeriod (.good) (.good) false,
   .positionRevalidation 0, .helmReinitDone 0, .helmStandbyReady 0, .ferryCommand rq 0, .loopSample 0 0 false, .loopStart rq 0,
   .loopStop rq 0, .steeringStart rq, .steeringStop rq, .compensatorClear rq 0, .biasSettled 0, .detectorTempFallback 0, .gateOpen 0 0 0,
   .gateClose 0 0 0, .hitLeadingEdge 0 0 0 0 false false 0 0, .hitTrailingEdge 0 0 0, .missingPulseDeadline 0 0, .hitUnmatched 0 0,
   .clampOn 0 0, .clampOff 0 0, .clampEvent 0 0, .stuckOnDetected 0 0, .converterCalibrationDue 0 0, .reliefHandover 0 ⟨0, []⟩,
   .converterCalibrationDone 0 0 [] [] 0, .calibrationOverdue 0 0, .visitClose 0 0 0, .peakSearchDone 0 0 0, .laneTakeUp 0,
   .decompositionDone 0 0 false 0 0, .microcodeLoad rq 0, .microcodeBankSelect rq 0 0, .adcSample 0, .adcConversionDone 0 0 false false 0 0,
   .adcConversionTimeout 0, .sequencerPassEnd 0, .sequencerStart rq 0, .sequencerStop rq 0, .calCaptureZero rq, .calCaptureFullScale rq,
   .calCaptureComplete] : List Instr).all Instr.wf = true := by decide +kernel
theorem test_well_formed_2 : ([
   .calComputeStore rq, .calRestoreFactory rq, .calAbandon rq, .accumulatorWindowEnd false 0, .accumulatorConfigWrite rq 0 0,
   .accumulatorLatch rq 0, .minmaxConfigWrite rq 0 0, .minmaxLatch rq 0, .filterRound, .filterRoundOverrun, .filterChannelStart rq 0,
   .filterChannelStop rq 0, .angleStampReady 0 0, .ppsInEdge false 0, .ppsMissing, .zdaSentence false 0,
   .ptpMessageReceived 0 ⟨0, .management⟩, .announceTimeout 0, .ptpTransmitInterval 0, .holdoverBudgetExceeded, .wholeSecond, .setTime rq 0,
   .timeServiceStart rq, .timeServiceStop rq, .wofenCycle, .wofenFrameEventSend, .wofenPacketReceived false [] 0, .wofenWindow,
   .wofenFrameEventLoss, .wtbSilence, .busCalibration rq 0, .busRecalibrationTimer, .busCalibrationDone, .triggerBusStart rq,
   .triggerBusStop rq, .fleetJoin rq 0 0 0, .fleetRenew rq 0 0 0, .fleetRelease rq 0 0 0, .fleetGrant rq [], .fleetJoinRetry,
   .fleetRenewTimer, .fleetIndexExpiry 0, .fleetDomainWrite rq 0 0 [], .captureStart rq, .captureStop rq, .captureRecord 0 0 0 ⟨0, false⟩,
   .triggerConditionOccurrence 0 (.host), .triggerSequencerTimer, .hostTrigger rq 0, .segmentTimeLimit, .segmentSelect rq 0,
   .segmentLockExpiry, .segmentRelease rq 0, .captureClear rq 0, .descriptorWrite rq [], .dmaChannelStart rq 0 0 0, .dmaChannelDisable rq 0,
   .dmaBurst false, .xspiReadTimeout 0, .dmaReservationTimeout 0, .dmaHoldLimit 0, .completionQueueRead rq, .dmaBufferWrite rq [],
   .linkStart rq 0, .linkStop rq 0, .linkPllLocked 0, .trainingTimeout 0, .laneLock 0 0, .laneAdjust 0 0 0 false, .laneDone 0 0,
   .laneRetrain 0 0, .backLaneAck 0 0 0, .backLaneNak 0 0 0, .backLaneStatus 0 false false [0, 0, 0, 0], .backLaneSide 0 [],
   .backLaneInvalidBlock 0, .linkPacketSend 0 0, .replayTimeout 0, .backLaneSilent 0, .deskewRound 0, .ingotFlush 0, .verdict false false,
   .frameMissingTimeout, .selectionInvalidTimeout, .contaminationJudgement, .testPulse false [], .safeInputDebounced 0 false,
   .safeInputDiscrepancy 0, .resetPairLongPress 0, .speedUpdate] : List Instr).all Instr.wf = true := by decide +kernel
theorem test_well_formed_3 : ([
   .speedDiscrepancyTimeout, .stoppingCheck, .restartDelayExpiry, .outputSwitchTest 0, .outputReadbackTimeout, .outputCurrentLimit,
   .startUpOutputTest 0, .governorSubinterval false, .safetySupplyFault 0, .vddHvUndervoltage, .commandPdu (.can 0 0) [],
   .paramBegin (.can 0 0) [], .paramData (.can 0 0) [], .paramVerify (.can 0 0) [], .paramActivate (.can 0 0) [],
   .paramAbandon (.can 0 0) [], .plovivoWatchdog 0, .statusPduCycle false false, .hostfsSessionTimer, .pilotWatchdog, .pilotSramError,
   .pilotRestartComplete, .housekeepingRound (List.replicate 20 none), .quenchRestart rq 0, .eventLogCommit, .save rq 0 false,
   .storeErase rq 0, .slipDataWrite rq [], .slipErase rq, .slipVerify rq, .slipInstall rq, .slipActivate rq, .slipConfirm rq, .slipRevert rq,
   .slipRestart rq, .slipCommandComplete, .trialWindowExpiry, .trialStartTimeout, .integratorKeyWrite rq [], .windowBaseline rq 0,
   .windowBaselineDone, .commissioningReport rq 0, .commissioningReportDone, .converterCampaign rq 0, .emitterCampaign rq 0,
   .powerDomainOff rq 0, .powerDomainOn rq 0, .powerOnResetRelease false, .xoCheckRetry false, .bootComplete,
   .selftestComplete (tested true), .powerOnResetAssert, .runCommand rq, .stopCommand rq, .serviceCommand rq, .preparePowerRemoval rq,
   .autoRunRetry, .quadrantStandDown rq 0, .quadrantRejoin rq 0, .readmitChannel rq 0, .readmitEmitter rq 0, .readmitLane rq 0,
   .readmitQuadrant rq 0, .readmitHelm rq 0, .quadrantReadmissionStepDone false [], .channelReadmissionCalDone 0 ⟨[], [], 0, 0, 0⟩,
   .backLaneIdle 0, .backLaneInvalidSyncHeader 0, .clockLaneDriverFault 0 false, .laneRetrainTimeout 0 0, .wofenSecondMarkLoss,
   .ref10InChange none, .vddHvRestored, .speedEncoderEdge false, .safeInputEdge 0 false false, .evaluatorsBooted false, .uartMntCrcError,
   .canFrameIgnored 0, .arpNdpRequest 0 false (zeros 4), .plovivoPduUnmatched (.can 0 0) 0, .commandRunningResponse 0 0 0] : List Instr).all Instr.wf = true := by decide +kernel

end Sys2Proof.Tests
end

section
/-! Writes of settings and transactions (R15, R50, R51, R59, R60): what the members of a write are, what a store and a pending
value leave unchanged, and the two commands on plain settings. -/

namespace Sys2Proof.Machine

/-! ### Octets and check codes -/

theorem beNat_lt (o : Octets) : beNat o < 256 ^ o.length := by
  induction o with
  | nil => simp [beNat]
  | cons b o ih =>
    have hb : b.toNat + 1 ≤ 256 := b.isLt
    calc beNat (b :: o) < (b.toNat + 1) * 256 ^ o.length := by rw [beNat, Nat.succ_mul]; omega
      _ ≤ 256 * 256 ^ o.length := Nat.mul_le_mul_right _ hb
      _ = 256 ^ (b :: o).length := (Nat.pow_succ' ..).symm

theorem fieldAt_lt (o : Octets) (i n : Nat) : fieldAt o i n < 256 ^ n :=
  Nat.lt_of_lt_of_le (beNat_lt _) (Nat.pow_le_pow_right (by decide) (List.length_take_le _ _))

/-- No check of R50 fails exactly when none of its codes is among those raised. -/
theorem firstAbort_eq_zero_iff (codes : List Nat) : firstAbort codes = 0 ↔ ∀ c ∈ abortOrder, c ∉ codes := by
  unfold firstAbort
  cases hf : abortOrder.find? fun c => codes.contains c with
  | none => simpa using hf
  | some c =>
    have hc : c ∈ abortOrder := List.mem_of_find?_eq_some hf
    have hin : c ∈ codes := by simpa using List.find?_some hf
    have hne : c ≠ 0 := fun h => absurd (h ▸ hc) (by decide)
    simpa [hne] using ⟨c, hc, hin⟩

/-- A write that passes every check has the type and the length of its object (R50). -/
theorem typeOk_of_accepts {s : State} {q : Req} {e : Entry} {row : Row} {codes : List Nat} (hf : Catalogue.find e.obj = some row)
    (h : s.accepts q e codes) : typeOk row e.el e.ty e.val = true := by
  have hno := (firstAbort_eq_zero_iff _).1 h.2 0x0302 (by decide)
  cases hbad : typeOk row e.el e.ty e.val with
  | true => rfl
  | false =>
    refine absurd (List.mem_append_left _ ?_) hno
    simp [State.writeCodes, hf, hbad, when]

/-! ### The members of a write (R43) -/

/-- No two members of a write stand at one place of the dictionary. -/
def DistinctMembers (w : List (Nat × Int)) : Prop := ∀ x ∈ w, ∀ y ∈ w, x.1 % 65536 = y.1 % 65536 → x = y

@[simp] theorem decMembers_length (t : Ty) (n : Nat) (o : Octets) : (decMembers t n o).length = n := by
  induction n generalizing o with
  | zero => rfl
  | succ n ih => simp [decMembers, ih]

theorem distinctMembers_singleton (x : Nat × Int) : DistinctMembers [x] := by
  simp [DistinctMembers]

/-- Of members in rising order, each number names one. -/
theorem eq_of_pairwise_lt {w : List (Nat × Int)} (hw : w.Pairwise fun x y => x.1 < y.1) {x y : Nat × Int} (hx : x ∈ w) (hy : y ∈ w)
    (hxy : x.1 = y.1) : x = y := by
  induction hw with
  | nil => cases hx
  | cons hlt _ ih =>
    rcases List.mem_cons.1 hx with rfl | hx' <;> rcases List.mem_cons.1 hy with rfl | hy'
    · rfl
    · exact absurd hxy (Nat.ne_of_lt (hlt y hy'))
    · exact absurd hxy.symm (Nat.ne_of_lt (hlt x hx'))
    · exact ih hx' hy'

/-- Members numbered in a row below 65,536 are distinct. -/
theorem distinctMembers_of_range {w : List (Nat × Int)} {a n : Nat} (hk : w.map (·.1) = List.range' a n) (hn : a + n ≤ 65536) :
    DistinctMembers w := by
  have hlt : ∀ x ∈ w, x.1 < 65536 := fun x hx => by
    have := List.mem_range'_1.1 (hk ▸ List.mem_map_of_mem hx)
    omega
  intro x hx y hy hxy
  rw [Nat.mod_eq_of_lt (hlt x hx), Nat.mod_eq_of_lt (hlt y hy)] at hxy
  have hrise : w.Pairwise fun x y => x.1 < y.1 := List.pairwise_map.1 (hk ▸ List.pairwise_lt_range')
  exact eq_of_pairwise_lt hrise hx hy hxy

theorem map_fst_zipIdx_swap (l : List Int) : ((l.zipIdx 1).map fun p => (p.2, p.1)).map (·.1) = List.range' 1 l.length := by
  rw [List.map_map, ← List.zipIdx_map_snd 1 l]
  rfl

/-- The members of a write of the right type and length are distinct: one alone, or those of a whole array in their order. -/
theorem written_distinct {row : Row} {el ty : Nat} {val : Octets} (h : typeOk row el ty val = true) :
    DistinctMembers (written row el val) := by
  have hcount : fieldAt val 0 2 < 65536 := fieldAt_lt val 0 2
  unfold written
  unfold typeOk at h
  split at h
  case h_1 hs => simpa only [hs] using distinctMembers_singleton _
  case h_4 hs => simp [hs, DistinctMembers]
  case h_2 n hs =>
    simp only [hs]
    split
    · next hel =>
      have hn : fieldAt val 0 2 = n := by simp [hel] at h; exact h.2
      exact distinctMembers_of_range (map_fst_zipIdx_swap _) (by rw [decMembers_length]; omega)
    · exact distinctMembers_singleton _
  case h_3 m d hs =>
    simp only [hs]
    split
    · refine distinctMembers_of_range (a := 0) (n := fieldAt val 0 2 + 1) ?_ (by omega)
      rw [List.map_cons, map_fst_zipIdx_swap, decMembers_length]
      rfl
    · exact distinctMembers_singleton _

/-! ### Storing at once (R15) -/

variable (s : State)

/-- A store changes none but the members written. -/
theorem State.setMembers_obj_ne (obj : Nat) (w : List (Nat × Int)) {o el : Nat} (h : o ≠ obj ∨ ∀ m ∈ w, m.1 % 65536 ≠ el % 65536) :
    (s.setMembers obj w).obj o el = s.obj o el := by
  induction w generalizing s with
  | nil => rfl
  | cons x w ih =>
    show ((s.setObj obj x.1 x.2).setMembers obj w).obj o el = _
    rw [ih _ (h.imp_right fun hw m hm => hw m (List.mem_cons_of_mem _ hm)),
      State.obj_setObj_ne _ _ (h.imp_right fun hw => (hw x List.mem_cons_self).symm)]

/-- Every member of a store is in effect with its value. -/
theorem State.setMembers_obj (obj : Nat) {w : List (Nat × Int)} (hw : DistinctMembers w) {m : Nat × Int} (hm : m ∈ w) :
    (s.setMembers obj w).obj obj m.1 = m.2 := by
  induction w generalizing s with
  | nil => cases hm
  | cons x w ih =>
    show ((s.setObj obj x.1 x.2).setMembers obj w).obj obj m.1 = m.2
    by_cases hin : m ∈ w
    · exact ih _ (fun a ha b hb => hw a (List.mem_cons_of_mem _ ha) b (List.mem_cons_of_mem _ hb)) hin
    · obtain rfl : m = x := (List.mem_cons.1 hm).resolve_right hin
      rw [State.setMembers_obj_ne _ _ _ (Or.inr fun y hy hk => hin (hw y (List.mem_cons_of_mem _ hy) m hm hk ▸ hy)),
        State.obj_setObj_self]

/-! ### Pending values (R51) -/

/-- A value of the member waits for a Landing. -/
def State.hasPend (s : State) (o el : Nat) : Prop := ∃ p ∈ s.tv.pend, p.obj = o ∧ p.el = el

/-- Pending values of other masters that a write of the same value leaves as they stand (R51). -/
def State.heldPend (s : State) (q : Req) (obj : Nat) (w : List (Nat × Int)) : List Pend :=
  s.tv.pend.filter fun p => p.obj == obj && !(q.sameMaster p.port p.master) && w.any fun x => x.1 == p.el && x.2 == p.val

theorem State.obj_and_value_of_mem_heldPend {q : Req} {obj : Nat} {w : List (Nat × Int)} {p : Pend} (h : p ∈ s.heldPend q obj w) :
    p.obj = obj ∧ (p.el, p.val) ∈ w := by
  have hp := (List.mem_filter.1 h).2
  simp only [Bool.and_eq_true, beq_iff_eq, List.any_eq_true] at hp
  obtain ⟨⟨hobj, -⟩, x, hx, hel, hval⟩ := hp
  have hx' : (p.el, p.val) = x := Prod.ext hel.symm hval.symm
  exact ⟨hobj, hx' ▸ hx⟩

/-- What is pending after a write: the members it does not touch, those it leaves as they stand, and its own. -/
theorem State.addPend_pend (q : Req) (obj group : Nat) (w : List (Nat × Int)) : (s.addPend q obj group w).tv.pend =
    (s.tv.pend.filter fun p => !(p.obj == obj && w.any fun x => x.1 == p.el)) ++ s.heldPend q obj w ++
      (w.filter fun x => !((s.heldPend q obj w).any fun p => p.el == x.1)).map fun x =>
        { obj := obj, el := x.1, val := x.2, port := q.port, master := q.master, group := group, wno := s.tv.writeNo } := rfl

/-- Every member of the write is pending with its value: as it stood, where another master had written the same value. -/
theorem State.addPend_written (q : Req) (obj group : Nat) {w : List (Nat × Int)} {m : Nat × Int} (hm : m ∈ w) :
    ∃ p ∈ (s.addPend q obj group w).tv.pend, p.obj = obj ∧ p.el = m.1 ∧ (p.el, p.val) ∈ w := by
  rw [State.addPend_pend]
  by_cases hheld : (s.heldPend q obj w).any (fun p => p.el == m.1) = true
  · obtain ⟨p, hp, hel⟩ := List.any_eq_true.1 hheld
    obtain ⟨hobj, hmem⟩ := s.obj_and_value_of_mem_heldPend hp
    exact ⟨p, List.mem_append_left _ (List.mem_append_right _ hp), hobj, beq_iff_eq.1 hel, hmem⟩
  · refine ⟨_, List.mem_append_right _ (List.mem_map_of_mem (List.mem_filter.2 ⟨hm, ?_⟩)), rfl, rfl, hm⟩
    simpa using hheld

/-- A write leaves no member without a pending value that had one. -/
theorem State.addPend_keeps_hasPend (q : Req) (obj group : Nat) (w : List (Nat × Int)) {o el : Nat} (h : s.hasPend o el) :
    (s.addPend q obj group w).hasPend o el := by
  obtain ⟨p, hp, rfl, rfl⟩ := h
  by_cases hw : (p.obj == obj && w.any fun x => x.1 == p.el) = true
  · obtain ⟨hobj, hany⟩ := Bool.and_eq_true_iff.1 hw
    obtain ⟨x, hx, hel⟩ := List.any_eq_true.1 hany
    rw [beq_iff_eq] at hobj hel
    obtain ⟨p', hp', hobj', hel', -⟩ := s.addPend_written q obj group hx
    exact ⟨p', hp', hobj'.trans hobj.symm, hel'.trans hel⟩
  · refine ⟨p, List.mem_append_left _ (List.mem_append_left _ (List.mem_filter.2 ⟨hp, ?_⟩)), rfl, rfl⟩
    simpa only [Bool.not_eq_true', Bool.not_eq_true] using hw

/-! ### Answers (R46, R66) -/

/-- Values in effect follow the dictionary. -/
theorem State.obj_congr {s t : State} (h : t.dict = s.dict) (o el : Nat) : t.obj o el = s.obj o el := by
  unfold State.obj
  rw [h]

/-- An answer that is not a busy one changes nothing but the service of requests and what is sent. -/
theorem State.respond_sends (q : Req) (kind : Nat) {ab : Nat} (body : Octets) (h : ab ≠ 0x0701) : s.respond q kind ab body =
    { s with tv := (s.respond q kind ab body).tv, out := (s.respond q kind ab body).out, sideTx := (s.respond q kind ab body).sideTx } := by
  unfold State.respond State.respondTo
  dsimp only
  rw [if_neg h, State.sendMsg_keeps]

/-- An answer that is not a busy one withdraws no pending value. -/
theorem State.respond_pend (q : Req) (kind : Nat) {ab : Nat} (body : Octets) (h : ab ≠ 0x0701) :
    (s.respond q kind ab body).tv.pend = s.tv.pend := by
  unfold State.respond State.respondTo
  dsimp only
  rw [if_neg h]
  simp

theorem State.accept_sends (q : Req) (e : Entry) (long : Bool) : s.accept q e long =
    { s with tv := (s.accept q e long).tv, out := (s.accept q e long).out, sideTx := (s.accept q e long).sideTx } := by
  unfold State.accept
  split
  · split
    · rfl
    · exact State.respond_sends s q kCommand [0] (by decide)
  · exact State.respond_sends s q kWrite [] (by decide)

theorem State.accept_dict (q : Req) (e : Entry) (long : Bool) : (s.accept q e long).dict = s.dict := by
  rw [State.accept_sends]

theorem State.accept_pend (q : Req) (e : Entry) (long : Bool) : (s.accept q e long).tv.pend = s.tv.pend := by
  unfold State.accept
  split
  · split
    · rfl
    · exact State.respond_pend s q kCommand [0] (by decide)
  · exact State.respond_pend s q kWrite [] (by decide)

/-- A refusal for no conflict is its answer alone (R50). -/
theorem State.refuse_eq_respond (q : Req) (e : Entry) {ab : Nat} (h : ab ≠ 0x0403) :
    s.refuse q e ab = s.respond q (if q.asCommand then kCommand else kWrite) ab [] := by
  unfold State.refuse
  dsimp only
  rw [if_neg h]

/-! ### Plain settings -/

/-- The write of a plain setting goes the way that most objects share (R50). -/
theorem State.writeAny_plain (q : Req) {e : Entry} (h : plainSetting e.obj = true) : s.writeAny q e =
    s.hostWrite q e (fun s => s.ownCodes q e) (fun t => State.ownEff s t q e) (cmdLong e) := by
  obtain ⟨obj, el, ty, val⟩ := e
  unfold State.writeAny
  dsimp only at h ⊢
  split
  case h_6 => rfl
  all_goals exact absurd h (by decide)

theorem State.settingEff_plain (old : State) {e : Entry} (w : List (Nat × Int)) (h : plainSetting e.obj = true) :
    State.settingEff old s e w = s := by
  obtain ⟨obj, el, ty, val⟩ := e
  have h15 : State.setEff15 old s ⟨obj, el, ty, val⟩ w = s := by
    unfold State.setEff15
    dsimp only at h ⊢
    split
    case h_14 => rfl
    all_goals exact absurd h (by decide)
  unfold State.settingEff
  rw [h15]
  unfold State.setEff6A
  dsimp only at h ⊢
  split
  case h_10 => rfl
  all_goals exact absurd h (by decide)

theorem State.ownEff_plain (old : State) (q : Req) {e : Entry} {row : Row} (hf : Catalogue.find e.obj = some row) (hacc : row.acc ≠ .wo)
    (h : plainSetting e.obj = true) : State.ownEff old s q e = s := by
  unfold State.ownEff
  simp only [hf, if_neg hacc]
  exact State.settingEff_plain s old _ h

/-- A setting of class LND is stored as pending (R15, R51); the shape and the two classes of its row choose the branch. -/
theorem State.storeWrite_lnd (q : Req) {e : Entry} (group : Nat) {row : Row} (hf : Catalogue.find e.obj = some row) (hacc : row.acc ≠ .wo)
    (hshape : ∀ lo hi mult, row.shape ≠ .octets lo hi mult) (happ : row.app = .lnd) :
    s.storeWrite q e group = s.addPend q e.obj group (written row e.el e.val) := by
  unfold State.storeWrite
  simp only [hf, happ]

/-- A setting of another class is in effect at once (R15); the branch is chosen in the same way. -/
theorem State.storeWrite_atOnce (q : Req) {e : Entry} (group : Nat) {row : Row} (hf : Catalogue.find e.obj = some row)
    (hacc : row.acc ≠ .wo) (hshape : ∀ lo hi mult, row.shape ≠ .octets lo hi mult) (happ : row.app ≠ .lnd) :
    s.storeWrite q e group = (s.setMembers e.obj (written row e.el e.val)).noteImm q row e := by
  unfold State.storeWrite
  simp only [hf]

/-- An accepted write of a plain setting stores its value, and is answered. -/
theorem exec_write_accepted (q : Req) {e : Entry} {row : Row} (hf : Catalogue.find e.obj = some row) (hacc : row.acc ≠ .wo)
    (hplain : plainSetting e.obj = true) (h : s.accepts q e (s.ownCodes q e)) :
    exec (.write q e) s = .next ((s.storeWrite q e 0).accept q e (cmdLong e)) := by
  show Host.Outcome.next (s.writeAny q e) = _
  rw [State.writeAny_plain s q hplain, State.hostWrite_accepted s h, State.ownEff_plain _ s q hf hacc hplain]

/-- Of a plain setting that applies at once, the members written are in effect and nothing else changes (R15). -/
theorem exec_write_atOnce {q : Req} {e : Entry} {row : Row} (hf : Catalogue.find e.obj = some row) (hacc : row.acc ≠ .wo)
    (hshape : ∀ lo hi mult, row.shape ≠ .octets lo hi mult) (hplain : plainSetting e.obj = true) (h : s.accepts q e (s.ownCodes q e))
    (happ : row.app ≠ .lnd) :
    ∃ t, exec (.write q e) s = .next t ∧ t.took q ∧ (∀ m ∈ written row e.el e.val, t.obj e.obj m.1 = m.2) ∧
      (∀ o el, (o ≠ e.obj ∨ ∀ m ∈ written row e.el e.val, m.1 % 65536 ≠ el % 65536) → t.obj o el = s.obj o el) ∧
      t = { s with tv := t.tv, out := t.out, sideTx := t.sideTx, dict := t.dict } := by
  refine ⟨_, exec_write_accepted s q hf hacc hplain h, State.accept_took .., ?_⟩
  rw [State.storeWrite_atOnce s q 0 hf hacc hshape happ]
  have hobj : ∀ o el, (((s.setMembers e.obj (written row e.el e.val)).noteImm q row e).accept q e (cmdLong e)).obj o el =
      (s.setMembers e.obj (written row e.el e.val)).obj o el :=
    State.obj_congr (by rw [State.accept_dict, State.noteImm_dict])
  refine ⟨fun m hm => ?_, fun o el hne => ?_, ?_⟩
  · rw [hobj, State.setMembers_obj s e.obj (written_distinct (typeOk_of_accepts hf h)) hm]
  · rw [hobj, State.setMembers_obj_ne s e.obj _ hne]
  · rw [State.accept_sends, State.noteImm_keeps, State.setMembers_keeps]

/-- Of a plain setting of class LND, the members written are pending and nothing else changes (R15, R51). -/
theorem exec_write_lnd {q : Req} {e : Entry} {row : Row} (hf : Catalogue.find e.obj = some row) (hacc : row.acc ≠ .wo)
    (hshape : ∀ lo hi mult, row.shape ≠ .octets lo hi mult) (hplain : plainSetting e.obj = true) (h : s.accepts q e (s.ownCodes q e))
    (happ : row.app = .lnd) :
    ∃ t, exec (.write q e) s = .next t ∧ t.took q ∧
      (∀ m ∈ written row e.el e.val, ∃ p ∈ t.tv.pend, p.obj = e.obj ∧ p.el = m.1 ∧ p.val = m.2) ∧
      t = { s with tv := t.tv, out := t.out, sideTx := t.sideTx } := by
  refine ⟨_, exec_write_accepted s q hf hacc hplain h, State.accept_took .., ?_⟩
  rw [State.storeWrite_lnd s q 0 hf hacc hshape happ]
  refine ⟨fun m hm => ?_, ?_⟩
  · obtain ⟨p, hp, hobj, hel, hmem⟩ := s.addPend_written q e.obj 0 hm
    have heq : (p.el, p.val) = m := written_distinct (typeOk_of_accepts hf h) _ hmem _ hm (congrArg (· % 65536) hel)
    exact ⟨p, by rwa [State.accept_pend], hobj, hel, congrArg Prod.snd heq⟩
  · rw [State.accept_sends, State.addPend_keeps]

/-- A write of a plain setting that fails a check, but no conflict, is answered with the code of the check and does nothing else. -/
theorem exec_write_refused (q : Req) {e : Entry} (hplain : plainSetting e.obj = true) (g : s.gate q = .served) {ab : Nat}
    (hab : ab = firstAbort (s.writeCodes q e ++ s.ownCodes q e)) (h0 : ab ≠ 0) (hconf : ab ≠ 0x0403) :
    exec (.write q e) s = .next (s.respond q (if q.asCommand then kCommand else kWrite) ab []) := by
  subst hab
  show Host.Outcome.next (s.writeAny q e) = _
  rw [State.writeAny_plain s q hplain, State.hostWrite_refused s g h0, State.refuse_eq_respond s q e hconf]

/-! ### Transactions (R59, R60) -/

/-- What the accepted entries of a transaction do, in their order, before it is answered. -/
def State.applyEntries (s : State) (q : Req) (group : Nat) (es : List Entry) : State :=
  es.foldl (fun t e => State.ownEff t (t.storeWrite q e group) q e) s

/-- The transaction has a body that a message can hold (R59, R70). -/
def bodyFits (es : List Entry) : Prop := es ≠ [] ∧ es.length ≤ 32 ∧ bodyOf es ≤ 1456

/-- A transaction whose entries and sets all pass: every entry takes effect (R59). -/
theorem State.transaction_accepted (q : Req) {es : List Entry} (g : s.gate q = .served) (hfits : bodyFits es)
    (hgood : s.firstBad q 0 es = none) (h0 : s.setBad q es 0 = none) (h1 : s.setBad q es 1 = none) :
    s.transaction q es =
      (((s.modTv fun t => { t with groupNo := s.tv.groupNo + 1 }).applyEntries q s.tv.groupNo es).owe q kMulti 0x8100
        (((s.modTv fun t => { t with groupNo := s.tv.groupNo + 1 }).applyEntries q s.tv.groupNo es).domWaits es)) := by
  obtain ⟨hne, hlen, hbody⟩ := hfits
  unfold State.transaction
  dsimp only
  rw [State.through_served s g, if_neg (by simpa using hne), if_neg (by omega)]
  simp only [hgood, h0, h1, Option.or_none]
  rfl

/-- A transaction whose entry fails, but for a conflict: its code and index are the answer (R60). -/
theorem State.transaction_refused (q : Req) {es : List Entry} (g : s.gate q = .served) (hfits : bodyFits es) {i ab : Nat} {e : Entry}
    (hbad : s.firstBad q 0 es = some (i, ab, e)) (hconf : ab ≠ 0x0403) :
    s.transaction q es = (s.mcRefused { q with asCommand := false } e ab).respond q kMulti ab (oct [i]) := by
  obtain ⟨hne, hlen, hbody⟩ := hfits
  unfold State.transaction
  dsimp only
  rw [State.through_served s g, if_neg (by simpa using hne), if_neg (by omega)]
  simp only [hbad, if_neg hconf]

/-- Only a refused load of microcode in the wrong state logs an event (R194). -/
theorem State.mcRefused_silent (q : Req) {e : Entry} {ab : Nat} (h : e.obj ≠ 0x4202 ∨ ab ≠ 0x0601) : s.mcRefused q e ab = s :=
  if_neg fun ⟨hobj, hab, _⟩ => h.elim (· hobj) (· hab)

/-- An entry for a plain setting that waits for a Landing. -/
def LandingEntry (e : Entry) : Prop :=
  plainSetting e.obj = true ∧ ∃ row, Catalogue.find e.obj = some row ∧ row.acc ≠ .wo ∧ row.app = .lnd ∧
    ∀ lo hi mult, row.shape ≠ .octets lo hi mult

/-- Such an entry makes its members pending and does nothing else. -/
theorem LandingEntry.apply_eq_addPend {e : Entry} (h : LandingEntry e) : ∃ w : List (Nat × Int),
    entryWrites e = w.map (fun x => (e.obj, x.1, x.2)) ∧
    ∀ (t : State) (q : Req) (group : Nat), State.ownEff t (t.storeWrite q e group) q e = t.addPend q e.obj group w := by
  obtain ⟨hplain, row, hf, hacc, happ, hshape⟩ := h
  refine ⟨written row e.el e.val, by simp only [entryWrites, hf], fun t q group => ?_⟩
  rw [State.ownEff_plain _ t q hf hacc hplain, State.storeWrite_lnd t q group hf hacc hshape happ]

section
variable (q : Req) (group : Nat) {es : List Entry}

theorem State.applyEntries_cons (e : Entry) (es : List Entry) : s.applyEntries q group (e :: es) =
    (State.ownEff s (s.storeWrite q e group) q e).applyEntries q group es := rfl

theorem State.applyEntries_dict (h : ∀ e ∈ es, LandingEntry e) : (s.applyEntries q group es).dict = s.dict := by
  induction es generalizing s with
  | nil => rfl
  | cons e es ih =>
    obtain ⟨w, -, heff⟩ := (h e List.mem_cons_self).apply_eq_addPend
    rw [State.applyEntries_cons, heff, ih _ fun x hx => h x (List.mem_cons_of_mem _ hx), State.addPend_dict]

theorem State.applyEntries_keeps_hasPend (h : ∀ e ∈ es, LandingEntry e) {o el : Nat} (hp : s.hasPend o el) :
    (s.applyEntries q group es).hasPend o el := by
  induction es generalizing s with
  | nil => exact hp
  | cons e es ih =>
    obtain ⟨w, -, heff⟩ := (h e List.mem_cons_self).apply_eq_addPend
    rw [State.applyEntries_cons, heff]
    exact ih _ (fun x hx => h x (List.mem_cons_of_mem _ hx)) (s.addPend_keeps_hasPend q e.obj group w hp)

/-- Every member that some entry writes is pending in the end. -/
theorem State.applyEntries_hasPend (h : ∀ e ∈ es, LandingEntry e) {e : Entry} (he : e ∈ es) {m : Nat × Nat × Int}
    (hm : m ∈ entryWrites e) : (s.applyEntries q group es).hasPend e.obj m.2.1 := by
  induction es generalizing s with
  | nil => cases he
  | cons x es ih =>
    have htail : ∀ y ∈ es, LandingEntry y := fun y hy => h y (List.mem_cons_of_mem _ hy)
    obtain ⟨w, hwrites, heff⟩ := (h x List.mem_cons_self).apply_eq_addPend
    rw [State.applyEntries_cons, heff]
    rcases List.mem_cons.1 he with rfl | he
    · obtain ⟨y, hy, rfl⟩ := List.mem_map.1 (hwrites ▸ hm)
      obtain ⟨p, hp, hobj, hel, -⟩ := s.addPend_written q e.obj group hy
      exact State.applyEntries_keeps_hasPend _ q group htail ⟨p, hp, hobj, hel⟩
    · exact ih _ htail he

end

theorem entryWrites_obj {e : Entry} {m : Nat × Nat × Int} (hm : m ∈ entryWrites e) : m.1 = e.obj := by
  unfold entryWrites at hm
  split at hm
  · cases hm
  · obtain ⟨x, -, rfl⟩ := List.mem_map.1 hm
    rfl

/-- A transaction that names no power domain waits for none (R387). -/
theorem State.domWaits_plain {es : List Entry} (h : ∀ e ∈ es, plainSetting e.obj = true) : s.domWaits es = [] := by
  have hnone : (es.flatMap entryWrites).filter (fun w => w.1 == 0x8100 && w.2.1 != 0) = [] := by
    refine List.filter_eq_nil_iff.2 fun w hw hdom => ?_
    obtain ⟨e, he, hmem⟩ := List.mem_flatMap.1 hw
    have hobj : e.obj = 0x8100 := (entryWrites_obj hmem).symm.trans (beq_iff_eq.1 (Bool.and_eq_true_iff.1 hdom).1)
    exact absurd (hobj ▸ h e he) (by decide)
  unfold State.domWaits
  rw [hnone]
  rfl

/-- A transaction of plain settings that wait for a Landing: all of them are pending, and no value in effect changes (R59, R60). -/
theorem exec_transaction_lnd {q : Req} {es : List Entry} (g : s.gate q = .served) (hfits : bodyFits es) (hland : ∀ e ∈ es, LandingEntry e)
    (hgood : s.firstBad q 0 es = none) (h0 : s.setBad q es 0 = none) (h1 : s.setBad q es 1 = none) :
    ∃ t, exec (.multiObjectTransaction q es) s = .next t ∧ t.refused q 0 ∧ t.dict = s.dict ∧
      ∀ e ∈ es, ∀ m ∈ entryWrites e, ∃ p ∈ t.tv.pend, p.obj = e.obj ∧ p.el = m.2.1 := by
  refine ⟨_, congrArg Host.Outcome.next (s.transaction_accepted q g hfits hgood h0 h1), ?_⟩
  rw [State.domWaits_plain _ fun e he => (hland e he).1]
  refine ⟨⟨_, State.respond_stored _ q kMulti 0 _ (by decide), rfl, rfl⟩, ?_, fun e he m hm => ?_⟩
  · show (State.respond _ q kMulti 0 _).dict = s.dict
    rw [State.respond_sends _ q kMulti _ (by decide)]
    exact State.applyEntries_dict _ q _ hland
  · show ∃ p ∈ (State.respond _ q kMulti 0 _).tv.pend, _
    rw [State.respond_pend _ q kMulti _ (by decide)]
    exact State.applyEntries_hasPend _ q _ hland he hm

/-! ### The obligation -/

/-- Settles O41: a plain setting is stored at once or made pending, a refused write or transaction leaves its answer alone, and the
entries of a transaction become pending together. -/
theorem writeRows : Obligations.WriteRows := by
  unfold Obligations.WriteRows
  refine ⟨fun s q e row hf hacc hshape => ⟨fun hplain h => ⟨fun happ => ?_, exec_write_lnd s hf hacc hshape hplain h⟩,
      fun ab hab hplain g h0 hconf hbusy => ?_⟩,
    fun s q es g hne hlen hbody => ⟨fun hland => exec_transaction_lnd s g ⟨hne, hlen, hbody⟩ hland, fun i ab e hbad hconf hbusy hmc => ?_⟩⟩
  · obtain ⟨t, hstep, htook, hset, hframe⟩ := exec_write_atOnce s hf hacc hshape hplain h happ
    exact ⟨t, hstep, htook, fun m hm _ => hset m hm, hframe⟩
  · exact ⟨_, exec_write_refused s q hplain g hab h0 hconf, ⟨_, State.respond_stored s q _ ab [] hbusy, rfl, rfl⟩,
      State.respond_sends s q _ [] hbusy⟩
  · refine ⟨_, congrArg Host.Outcome.next (s.transaction_refused q g ⟨hne, hlen, hbody⟩ hbad hconf), ?_⟩
    rw [State.mcRefused_silent s _ hmc]
    exact ⟨⟨_, State.respond_stored s q kMulti ab (oct [i]) hbusy, rfl, rfl, rfl⟩, State.respond_sends s q kMulti (oct [i]) hbusy⟩

end Sys2Proof.Machine
end

section
/-! Octets of object addresses and event records (R63, R68): a number written most significant octet first is read back from its
place. -/

namespace Sys2Proof.Machine

/-! ### Numbers in octets (R64) -/

@[simp] theorem toBE_length (n v : Nat) : (toBE n v).length = n := by
  induction n with
  | zero => rfl
  | succ n ih => simp [toBE, ih]

theorem beNat_toBE (n v : Nat) : beNat (toBE n v) = v % 256 ^ n := by
  induction n with
  | zero => simp [toBE, beNat, Nat.mod_one]
  | succ n ih => rw [toBE, beNat, ih, toBE_length, BitVec.toNat_ofNat, Nat.mod_pow_succ (b := 256), Nat.mul_comm, Nat.add_comm]

/-- A number that its octets can hold is read back behind whatever stands before it. -/
theorem fieldAt_append_toBE (before behind : Octets) {n v : Nat} (hv : v < 256 ^ n) :
    fieldAt (before ++ (toBE n v ++ behind)) before.length n = v := by
  unfold fieldAt
  rw [List.drop_left, List.take_left' (toBE_length n v), beNat_toBE, Nat.mod_eq_of_lt hv]

/-! ### The obligations -/

/-- Settles O55: the octets of an address are those of the object and of the element. -/
theorem addressOctets : Obligations.AddressOctets := by
  unfold Obligations.AddressOctets
  refine ⟨fun obj el hobj hel => ⟨_, _, _, rfl, ?_⟩, by decide, by decide⟩
  simp only [BitVec.toNat_ofNat, Nat.reducePow, Nat.div_one, true_and]
  omega

/-- Settles O56: the four fields of a record stand one behind the other. -/
theorem eventRecordOctets : Obligations.EventRecordOctets := by
  unfold Obligations.EventRecordOctets
  refine ⟨fun s code param => ⟨rfl, rfl, rfl, rfl⟩, fun e hcode htime hframe hparam => ?_⟩
  unfold EvRec.octets
  refine ⟨by simp, ?_, ?_, ?_, ?_⟩
  · simpa using fieldAt_append_toBE [] (toBE 8 e.time ++ (toBE 4 e.frame ++ toBE 2 e.param)) hcode
  · simpa using fieldAt_append_toBE (toBE 2 e.code) (toBE 4 e.frame ++ toBE 2 e.param) htime
  · simpa using fieldAt_append_toBE (toBE 2 e.code ++ toBE 8 e.time) (toBE 2 e.param) hframe
  · simpa using fieldAt_append_toBE (toBE 2 e.code ++ toBE 8 e.time ++ toBE 4 e.frame) [] hparam

end Sys2Proof.Machine
end

section
/-! What the commands of the dictionary share: what an answer leaves as it was (R46, R66), which codes a check can raise (R50), and counts
that rise by one (R81). -/

namespace Sys2Proof.Machine

variable (s : State)

/-! ### Answers (R46, R66) -/

/-- Of the service of requests an answer changes the answers kept for a repeat alone (R66). -/
theorem State.respondTo_tv (q : Req) (at_ kind ab : Nat) (body : Octets) :
    (s.respondTo q at_ kind ab body).tv = { s.tv with stored := (s.respondTo q at_ kind ab body).tv.stored } := by
  unfold State.respondTo
  dsimp only
  split <;> simp

theorem State.respond_tv (q : Req) (kind ab : Nat) (body : Octets) :
    (s.respond q kind ab body).tv = { s.tv with stored := (s.respond q kind ab body).tv.stored } :=
  s.respondTo_tv q s.now kind ab body

@[simp] theorem State.respond_leases (q : Req) (kind ab : Nat) (body : Octets) : (s.respond q kind ab body).tv.leases = s.tv.leases := by
  rw [State.respond_tv]

@[simp] theorem State.respond_subs (q : Req) (kind ab : Nat) (body : Octets) : (s.respond q kind ab body).tv.subs = s.tv.subs := by
  rw [State.respond_tv]

/-- A request answered with a code that is not the busy one is refused with it, and with code 0 it is taken. -/
theorem State.respond_refused (q : Req) (kind : Nat) {ab : Nat} (body : Octets) (h : ab ≠ 0x0701) : (s.respond q kind ab body).refused q ab :=
  ⟨_, s.respond_stored q kind ab body h, rfl, rfl⟩

theorem State.respond_took (q : Req) (kind : Nat) (body : Octets) : (s.respond q kind 0 body).took q :=
  Or.inl (s.respond_refused q kind body (by decide))

/-- An answer that is not a busy one changes no value in effect. -/
theorem State.respond_dict (q : Req) (kind : Nat) {ab : Nat} (body : Octets) (h : ab ≠ 0x0701) : (s.respond q kind ab body).dict = s.dict := by
  rw [s.respond_sends q kind body h]

/-! ### Codes of the checks (R50) -/

theorem firstAbort_mem {codes : List Nat} (h : firstAbort codes ≠ 0) : firstAbort codes ∈ codes := by
  unfold firstAbort at h ⊢
  cases hf : abortOrder.find? fun c => codes.contains c with
  | none => exact absurd (congrArg (·.getD 0) hf) h
  | some c => simpa using List.find?_some hf

theorem mem_when {b : Bool} {c code : Nat} : c ∈ when b code ↔ b = true ∧ c = code := by
  cases b <;> simp [when]

/-- A read is never refused as busy. -/
theorem State.busy_notMem_readCodes (obj el : Nat) : 0x0701 ∉ s.readCodes obj el := by
  unfold State.readCodes
  split
  · decide
  · simp [mem_when]

theorem State.busy_notMem_subCodes (q : Req) (obj el trig iv life : Nat) : 0x0701 ∉ s.subCodes q obj el trig iv life := by
  unfold State.subCodes
  split <;> simp [mem_when, State.busy_notMem_readCodes]

theorem firstAbort_not_busy {codes : List Nat} (h : 0x0701 ∉ codes) : firstAbort codes ≠ 0x0701 := fun hbusy =>
  h (hbusy ▸ firstAbort_mem (by rw [hbusy]; decide))

/-! ### Counted traffic (R81) -/

/-- A count below its last value rises by one, and nothing else changes. -/
theorem State.bump_counted {o el : Nat} (h : s.objN o el + 1 < 2 ^ 32) :
    (s.bump o el 1).objN o el = s.objN o el + 1 ∧ s.bump o el 1 = { s with dict := (s.bump o el 1).dict } := by
  rw [s.bump_counts h]
  refine ⟨?_, rfl⟩
  show ((s.setObj o el _).obj o el).toNat = _
  rw [State.obj_setObj_self, Int.toNat_natCast]

end Sys2Proof.Machine
end

section
/-! Leases and subscriptions (R54 ... R56, R61, R62): what the requests and the timers do to the list of leases and to that of subscriptions. -/

namespace Sys2Proof.Machine

variable (s : State)

/-! ### Leases (R54 ... R56) -/

/-- A lapse takes only leases of its area away. -/
theorem State.leaseLapse_leases {area : Nat} {l : Lease}
    (h : s.tv.leases.find? (fun l => l.area == area && decide (l.expiry ≤ s.now)) = some l) :
    (s.leaseLapse area).tv.leases = s.tv.leases.filter fun x => x.area != area := by
  unfold State.leaseLapse
  simp [h]

@[simp] theorem State.leaseLapse_isl (area : Nat) : (s.leaseLapse area).isl = s.isl := by
  unfold State.leaseLapse
  split
  · simp
  · rfl

/-- A granted request leaves no lease of the area but its own, and a release none. -/
theorem State.leaseApply_leases (q : Req) (area op timeout : Nat) : (s.leaseApply q area op timeout).tv.leases =
    if op = 3 then (s.leaseLapse area).tv.leases.filter fun l => l.area != area
    else ((s.leaseLapse area).tv.leases.filter fun l => l.area != area) ++
      [{ area := area, port := q.port, master := q.master, expiry := s.now + timeout * msP }] := rfl

/-- A lease request that passes its checks has its effect and is answered (R56). -/
theorem State.lease_granted {q : Req} {area op timeout : Nat} (g : s.gate q = .served) (h : firstAbort (s.leaseCodes q area op timeout) = 0) :
    s.lease q area op timeout =
      (s.leaseApply q area op timeout).respond q kLease 0 ((s.leaseApply q area op timeout).leaseBody q area) := by
  unfold State.lease
  rw [State.through_served s g]
  simp only [h, if_true]

/-- An acquisition or a renewal that passes its checks holds the area for its master until its timeout has passed (R54, R55). -/
theorem State.lease_holds {q : Req} {area op timeout : Nat} (g : s.gate q = .served) (h : firstAbort (s.leaseCodes q area op timeout) = 0)
    (hop : op ≠ 3) : (s.lease q area op timeout).refused q 0 ∧
      ({ area := area, port := q.port, master := q.master, expiry := s.now + timeout * msP } : Lease) ∈ (s.lease q area op timeout).tv.leases ∧
      ∀ l ∈ (s.lease q area op timeout).tv.leases, l.area = area → l.port = q.port ∧ l.master = q.master := by
  rw [s.lease_granted g h, State.respond_leases, State.leaseApply_leases, if_neg hop]
  refine ⟨State.respond_refused _ q kLease _ (by decide), List.mem_append_right _ (List.mem_singleton_self _), fun l hl harea => ?_⟩
  rcases List.mem_append.1 hl with hrest | hmine
  · exact absurd harea (by simpa using (List.mem_filter.1 hrest).2)
  · obtain rfl := List.mem_singleton.1 hmine
    exact ⟨rfl, rfl⟩

/-- A release that passes its checks frees the area. -/
theorem State.lease_frees {q : Req} {area timeout : Nat} (g : s.gate q = .served) (h : firstAbort (s.leaseCodes q area 3 timeout) = 0) :
    (s.lease q area 3 timeout).refused q 0 ∧ ∀ l ∈ (s.lease q area 3 timeout).tv.leases, l.area ≠ area := by
  rw [s.lease_granted g h, State.respond_leases, State.leaseApply_leases, if_pos rfl]
  exact ⟨State.respond_refused _ q kLease _ (by decide), fun l hl => by simpa using (List.mem_filter.1 hl).2⟩

/-- Settles O42: a grant leaves the area to its master alone, a release and a lapse leave it to none. -/
theorem leaseRows : Obligations.LeaseRows := by
  unfold Obligations.LeaseRows
  refine fun s area => ⟨fun q timeout g h => ⟨_, rfl, s.lease_holds g h (by decide)⟩, fun q timeout g h => ⟨_, rfl, s.lease_holds g h (by decide)⟩,
    fun q timeout g h => ⟨_, rfl, s.lease_frees g h⟩, fun l hrestart hfind => ⟨s.leaseLapse area, ?_, fun x hx => ?_, s.leaseLapse_isl area⟩⟩
  · show Host.Outcome.next (if s.restarting then s else s.leaseLapse area) = _
    rw [hrestart]
    rfl
  · rw [s.leaseLapse_leases hfind] at hx
    simpa using (List.mem_filter.1 hx).2

/-! ### Subscriptions (R61, R62) -/

/-- A subscription that is changed stands in the list in its new form. -/
theorem State.setSub_mem {x y : Sub} (hy : y ∈ s.tv.subs) (h : y.handle = x.handle) : x ∈ (s.setSub x).tv.subs :=
  List.mem_map.2 ⟨y, hy, if_pos h⟩

theorem State.subOf_mem {q : Req} {obj el trig : Nat} {x : Sub} (h : s.subOf q obj el trig = some x) : x ∈ s.tv.subs :=
  List.mem_of_find?_eq_some h

/-- A publication that fits a message and a port that sends: it leaves with the header of R70, and the subscription counts it. -/
theorem State.publish_sends {x : Sub} (hlen : (s.pubValue x).2.length ≤ 1444) (hport : s.portSends x.port = true) : s.publish x =
    ((s.sendMsg x.port x.src 5 kPublish 0 x.master s.tv.txnNo 0 (toBE 2 x.handle ++ toBE 2 x.seq ++ toBE 4 s.frm.no ++
      addr3 x.obj x.el ++ toBE 1 (s.pubValue x).1 ++ (s.pubValue x).2)).modTv fun t => { t with txnNo := (s.tv.txnNo + 1) % 2 ^ 32 }).setSub
        { x with seq := (x.seq + 1) % 65536, last := s.now, lastVal := some (s.pubValue x).2 } := by
  unfold State.publish
  dsimp only
  refine if_neg ?_
  simp [hport, addr3, toBE_length]
  omega

/-- The interval of a subscription that has something to publish (log entry 21 for a value published never yet). -/
theorem State.pubInterval_publishes {h : Nat} {x : Sub} (hfind : s.tv.subs.find? (fun x => x.handle == h) = some x) (hrestart : s.restarting = false)
    (hconfig : s.fromConfig = true) (hdue : x.last + x.interval * msP ≤ s.now)
    (htrig : x.trig = 2 ∨ (x.trig = 1 ∧ x.lastVal ≠ some (s.pubValue x).2)) : s.pubInterval h = s.publish x := by
  unfold State.pubInterval
  simp only [hfind]
  rw [if_neg (by simp [hrestart, hconfig]; omega)]
  rcases htrig with h2 | h1
  · rw [if_pos h2]
  · rw [if_neg (by omega), if_pos h1]

/-- The handle that the next subscription gets. -/
def State.newHandle (s : State) : Nat := freshHandle (s.tv.subs.map (·.handle)) 65 (s.tv.nextHandle % 65536)

/-- What a subscribe request makes, before anything has been published. -/
def State.newSub (s : State) (q : Req) (obj el trig iv life mask : Nat) : Sub :=
  { handle := s.newHandle, port := q.port, master := q.master, src := q.src, obj := obj, el := el, trig := trig, interval := iv, mask := mask
    expiry := s.now + life * secP, seq := 0, last := s.now, lastVal := none }

section
variable {q : Req} {obj el trig iv life mask o e : Nat} (g : s.gate q = .served) (ho : o = if trig = 4 then 0 else obj)
  (he : e = if trig = 4 then 0 else el)
include g ho he

/-- A subscribe request that passes its checks and names no subscription makes one. -/
theorem State.subscribe_new (h : firstAbort (s.subCodes q o e trig iv life) = 0) (hsub : s.subOf q o e trig = none) (hlife : 0 < life) :
    s.subscribe q obj el trig iv life mask =
      (s.modTv fun t => { t with subs := t.subs ++ [s.newSub q o e trig iv life mask], nextHandle := s.newHandle + 1 }).respond q kSubscribe 0
        (toBE 2 s.newHandle) := by
  subst ho he
  unfold State.subscribe
  rw [State.through_served s g]
  simp only [h, hsub, if_neg (Nat.ne_of_gt hlife), ne_eq, not_true_eq_false, if_false]
  rfl

/-- One that names a subscription renews it, or with life 0 cancels it. -/
theorem State.subscribe_held {x : Sub} (h : firstAbort (s.subCodes q o e trig iv life) = 0) (hsub : s.subOf q o e trig = some x) :
    s.subscribe q obj el trig iv life mask =
      (if life = 0 then s.modTv fun t => { t with subs := t.subs.filter fun y => y.handle != x.handle }
       else s.setSub { x with src := q.src, interval := iv, mask := mask, expiry := s.now + life * secP }).respond q kSubscribe 0
        (toBE 2 x.handle) := by
  subst ho he
  unfold State.subscribe
  rw [State.through_served s g]
  simp only [h, hsub, ne_eq, not_true_eq_false, if_false]

theorem State.subscribe_refused (h : firstAbort (s.subCodes q o e trig iv life) ≠ 0) : s.subscribe q obj el trig iv life mask =
    s.respond q kSubscribe (firstAbort (s.subCodes q o e trig iv life)) [] := by
  subst ho he
  unfold State.subscribe
  rw [State.through_served s g]
  exact if_pos h

end

/-- Settles O32: a request makes, changes or removes its own subscription, an interval publishes, and a lapse removes what has run out. -/
theorem subscriptionRows : Obligations.SubscriptionRows := by
  unfold Obligations.SubscriptionRows
  refine fun s => ⟨fun q obj el trig iv life mask g => ?_, fun h x hfind hrestart hconfig hdue hlen hport htrig => ?_, fun h => ?_⟩
  · intro o e
    refine ⟨fun h hsub hlife => ?_, fun x h hsub hlife => ⟨_, rfl, ?_⟩, fun x h hsub hlife => ⟨_, rfl, ?_⟩, fun h => ⟨_, rfl, ?_⟩⟩
    · refine ⟨_, congrArg Host.Outcome.next (s.subscribe_new g rfl rfl h hsub hlife), State.respond_took .., s.newSub q o e trig iv life mask, ?_,
        rfl, rfl, rfl, rfl, rfl, rfl, rfl⟩
      rw [State.respond_subs]
      exact List.mem_append_right _ (List.mem_singleton_self _)
    · rw [s.subscribe_held g rfl rfl h hsub, if_neg (Nat.ne_of_gt hlife), State.respond_subs]
      exact ⟨State.respond_took .., s.setSub_mem (s.subOf_mem hsub) rfl⟩
    · rw [s.subscribe_held g rfl rfl h hsub, if_pos hlife, State.respond_subs]
      exact ⟨State.respond_took .., fun y => by simp⟩
    · rw [s.subscribe_refused g rfl rfl h, State.respond_subs]
      exact ⟨rfl, State.respond_refused _ q _ _ (firstAbort_not_busy (s.busy_notMem_subCodes q o e trig iv life))⟩
  · have hpub := (s.pubInterval_publishes hfind hrestart hconfig hdue htrig).trans (s.publish_sends hlen hport)
    refine ⟨_, congrArg Host.Outcome.next hpub, State.setSub_mem (y := x) _ ?_ rfl, by simp⟩
    simpa using List.mem_of_find?_eq_some hfind
  · refine ⟨_, rfl, fun x => ?_, rfl⟩
    show x ∈ s.tv.subs.filter (fun x => !(x.handle == h && decide (x.expiry ≤ s.now))) ↔ _
    rw [List.mem_filter, Bool.not_eq_true', ← Bool.not_eq_true, Bool.and_eq_true, beq_iff_eq, decide_eq_true_iff]

end Sys2Proof.Machine
end

section
/-! Reads and ports (R48 ... R50, R58, R81): the answer of a read, the run flags of the CAN FD and Ethernet ports, and the members of an
agreement set. -/

namespace Sys2Proof.Machine

variable (s : State)

/-! ### Reads (R48 ... R50) -/

/-- A read of a segment's header meets no damaged record, so it renews the lock alone (R268, R269). -/
theorem State.segRead_header (i : Nat) : s.segRead i 0 0 = s.modCap fun c => { c with readAt := s.now } := by
  unfold State.segRead
  simp

/-- Beside its answer only a read of segment data can count something (R269). -/
theorem State.readEffect_dict {obj : Nat} (h : obj ≠ 0xA303) : (s.readEffect obj).dict = s.dict := by
  unfold State.readEffect
  simp only [if_neg h, State.segRead_header]
  split <;> rfl

/-- Beside its answer a read latches a high half, and reads a segment (R49, R268). -/
def State.readBeside (s : State) (q : Req) (obj el : Nat) : State :=
  (if latches obj = true ∧ el = 1 then s.snapTake q obj else s).readEffect obj

theorem State.readBeside_dict (q : Req) {obj el : Nat} (h : obj ≠ 0xA303) : (s.readBeside q obj el).dict = s.dict := by
  unfold State.readBeside
  rw [State.readEffect_dict _ h]
  split <;> rfl

section
variable {q : Req} {obj el : Nat} (whole : Bool) (g : s.gate q = .served) (hlog : ¬(obj = 0x5210 ∧ el = 0))
include g hlog

/-- A read that passes its checks and fits a message is answered with the value. -/
theorem State.readObj_answers {row : Row} (hf : Catalogue.find obj = some row) (h : firstAbort (s.readCodes obj el) = 0)
    (hlatch : ¬(latches obj = true ∧ el = 2)) (hlen : (s.readValue row obj el whole).2.length ≤ 1452) : s.readObj q obj el whole =
    (s.readBeside q obj el).answerRead q obj el (s.readValue row obj el whole).1 (s.readValue row obj el whole).2 := by
  unfold State.readObj
  rw [if_neg hlog, State.through_served s g]
  simp only [h, hf, if_neg hlatch, if_neg (Nat.not_lt.2 hlen), ne_eq, not_true_eq_false, if_false]
  rfl

/-- Element 02 of a pair is answered with the half that was latched for the reader (R49). -/
theorem State.readObj_latched {row : Row} (hf : Catalogue.find obj = some row) (h : firstAbort (s.readCodes obj el) = 0) {hi : Nat}
    (hlatch : latches obj = true ∧ el = 2) (hsnap : s.snapOf q obj = some hi) : s.readObj q obj el whole =
    (s.snapDrop q obj).answerRead q obj el Ty.u32.code (toBE 4 hi) := by
  unfold State.readObj
  rw [if_neg hlog, State.through_served s g]
  simp only [h, hf, hsnap, if_pos hlatch, ne_eq, not_true_eq_false, if_false, Option.getD_some]

theorem State.readObj_refused (h : firstAbort (s.readCodes obj el) ≠ 0) :
    s.readObj q obj el whole = s.respond q kRead (firstAbort (s.readCodes obj el)) [] := by
  unfold State.readObj
  rw [if_neg hlog, State.through_served s g]
  exact if_pos h

end

/-- The answer of a read is kept for a repeat. -/
theorem State.answerRead_stored (q : Req) (obj el ty : Nat) (val : Octets) : ∃ x ∈ (s.answerRead q obj el ty val).tv.stored,
    x.req = q ∧ x.abort = 0 ∧ x.body = addr3 obj el ++ toBE 1 ty ++ val :=
  ⟨_, s.respond_stored q kRead 0 _ (by decide), rfl, rfl, rfl⟩

/-- An address that passes the checks of a read is that of an object (R42). -/
theorem State.find_of_readCodes {obj el : Nat} (h : firstAbort (s.readCodes obj el) = 0) : ∃ row, Catalogue.find obj = some row := by
  cases hf : Catalogue.find obj with
  | some row => exact ⟨row, rfl⟩
  | none =>
    simp only [State.readCodes, hf] at h
    exact absurd h (by decide)

/-- Settles O40: a read is answered with its value or the latched half, or refused with the code of its check. -/
theorem readRows : Obligations.ReadRows := by
  unfold Obligations.ReadRows
  refine fun s q obj el whole g hlog => ⟨fun row hf h hlatch hlen => ?_, fun hi hlatch hel h hsnap => ?_, fun h => ?_⟩
  · refine ⟨_, congrArg Host.Outcome.next (s.readObj_answers whole g hlog hf h hlatch hlen), fun hdata => ?_, State.answerRead_stored ..⟩
    exact (State.respond_dict _ q kRead _ (by decide)).trans (s.readBeside_dict q hdata)
  · obtain ⟨row, hf⟩ := s.find_of_readCodes h
    exact ⟨_, congrArg Host.Outcome.next (s.readObj_latched whole g hlog hf h ⟨hlatch, hel⟩ hsnap), State.answerRead_stored ..⟩
  · have hbusy := firstAbort_not_busy (s.busy_notMem_readCodes obj el)
    exact ⟨_, congrArg Host.Outcome.next (s.readObj_refused whole g hlog h), s.respond_refused q kRead [] hbusy, s.respond_sends q kRead [] hbusy⟩

/-! ### The Time Keeper's choice of a source (R230, R234) -/

/-- Objects that a choice of the source leaves as they are: all but the time status and the count of dropped events. -/
def timeKeeps (o : Nat) : Prop := o ≠ 0x2020 ∧ o ≠ 0x2021 ∧ o ≠ 0x9000

theorem State.ref10Rates_obj (o el : Nat) : s.ref10Rates.obj o el = s.obj o el := by
  unfold State.ref10Rates
  split
  · split <;> rfl
  · rfl

theorem State.timeChoose_obj {o : Nat} (h : timeKeeps o) (el : Nat) : s.timeChoose.obj o el = s.obj o el := by
  obtain ⟨-, -, hdrops⟩ := h
  unfold State.timeChoose
  dsimp only
  split
  · split
    · rfl
    · rw [State.evt_obj_ne _ _ _ (Or.inl hdrops)]; rfl
  · split
    · rfl
    · split
      · rfl
      · split
        · rw [State.evt_obj_ne _ _ _ (Or.inl hdrops)]; rfl
        · rfl

theorem State.timeSelect_obj {o : Nat} (h : timeKeeps o) (el : Nat) : s.timeSelect.obj o el = s.obj o el :=
  (State.ref10Rates_obj _ o el).trans (s.timeChoose_obj h el)

theorem State.bmca_obj {o : Nat} (h : timeKeeps o) (el : Nat) : s.bmca.obj o el = s.obj o el := by
  obtain ⟨hstatus, hmaster, hdrops⟩ := h
  unfold State.bmca
  dsimp only
  split
  · rw [State.evt_obj_ne _ _ _ (Or.inl hdrops), State.obj_setObj_ne _ _ (Or.inl hmaster), State.obj_setObj_ne _ _ (Or.inl hstatus),
      State.obj_setObj_ne _ _ (Or.inl hstatus)]
    rfl
  · rw [State.obj_setObj_ne _ _ (Or.inl hmaster), State.obj_setObj_ne _ _ (Or.inl hstatus), State.obj_setObj_ne _ _ (Or.inl hstatus)]
    rfl

theorem State.macTime_obj {o : Nat} (h : timeKeeps o) (el : Nat) : s.macTime.obj o el = s.obj o el := by
  unfold State.macTime State.timeUpdate
  split
  · rw [State.timeSelect_obj _ h, State.bmca_obj _ h, State.timeSelect_obj _ h, State.bmca_obj _ h]
  · rfl

/-! ### Ports (R81) -/

/-- The row of an object with one run flag for each of two ports. -/
def portFlags (obj : Nat) (row : Row) : Prop :=
  Catalogue.find obj = some row ∧ row.shape = .fixed 2 ∧ row.ty = .bool ∧ row.acc = .rw ∧ row.app = .imm

/-- A write of one flag sets it. -/
theorem State.storeWrite_flag {obj : Nat} {row : Row} (hrow : portFlags obj row) (q : Req) (p : Fin 2) {v : Int}
    (hv : Ty.bool.dec (Ty.bool.enc v) = v) : (s.storeWrite q (ent obj (p.val + 1) .bool v) 0).obj obj (p.val + 1) = v := by
  obtain ⟨hf, hshape, hty, hacc, happ⟩ := hrow
  have hwritten : written row (p.val + 1) (Ty.bool.enc v) = [(p.val + 1, v)] := by
    simp [written, hshape, hty, hv]
  rw [s.storeWrite_atOnce q (e := ent obj (p.val + 1) .bool v) 0 hf (by simp [hacc]) (by simp [hshape]) (by simp [happ]),
    State.obj_congr (State.noteImm_dict ..)]
  show (s.setMembers obj (written row (p.val + 1) (Ty.bool.enc v))).obj obj (p.val + 1) = v
  rw [hwritten]
  exact s.setMembers_obj obj (distinctMembers_singleton _) (List.mem_singleton_self (p.val + 1, v))

/-- An accepted start or stop of a port is in effect and answered, whatever else it does. -/
theorem State.flag_written {obj : Nat} {row : Row} (hrow : portFlags obj row) {q : Req} {p : Fin 2} {v : Int}
    (hv : Ty.bool.dec (Ty.bool.enc v) = v) (h : s.accepts q (ent obj (p.val + 1) .bool v) []) {eff : State → State}
    (heff : ∀ t : State, (eff t).obj obj (p.val + 1) = t.obj obj (p.val + 1)) :
    (s.hostWrite q (ent obj (p.val + 1) .bool v) (fun _ => []) eff false).took q ∧
      (s.hostWrite q (ent obj (p.val + 1) .bool v) (fun _ => []) eff false).obj obj (p.val + 1) = v := by
  refine ⟨s.hostWrite_took h, ?_⟩
  rw [s.hostWrite_accepted h, State.obj_congr (State.accept_dict ..), heff, s.storeWrite_flag hrow q p hv]

theorem portFlags_can : ∃ row, portFlags 0x1011 row := ⟨_, rfl, rfl, rfl, rfl, rfl⟩

theorem portFlags_ethernet : ∃ row, portFlags 0x1022 row := ⟨_, rfl, rfl, rfl, rfl, rfl⟩

/-! ### Commands to write-only objects -/

/-- A write-only scalar holds no value: a write stores nothing (R15). -/
theorem State.storeWrite_command {obj : Nat} {row : Row} (hf : Catalogue.find obj = some row) (hacc : row.acc = .wo) (hshape : row.shape = .scalar)
    (q : Req) (t : Ty) (arg : Nat) : s.storeWrite q (entArg obj t arg) 0 = s := by
  have hobj : (entArg obj t arg).obj = obj := by
    unfold entArg
    split <;> rfl
  unfold State.storeWrite
  simp only [hobj, hf, hacc, hshape]

@[simp] theorem State.accept_uartFast (q : Req) (e : Entry) (long : Bool) : (s.accept q e long).tv.uartFast = s.tv.uartFast := by
  unfold State.accept
  split
  · split
    · rfl
    · rw [State.respond_tv]
  · rw [State.respond_tv]

/-- The fast rate is taken, and no value in effect changes (R81). -/
theorem State.fastRate_accepted {q : Req} {arg : Nat} (h : s.accepts q (entArg 0x1040 .u8 arg) []) :
    ∃ t, exec (.uartMntFastRate q arg) s = .next t ∧ t.took q ∧ t.tv.uartFast = true ∧ t.dict = s.dict := by
  refine ⟨_, rfl, s.hostWrite_took h, ?_⟩
  rw [s.hostWrite_accepted h, s.storeWrite_command (obj := 0x1040) rfl rfl rfl, State.accept_uartFast, State.accept_dict]
  exact ⟨rfl, rfl⟩

/-! ### Agreement sets (R58) -/

theorem bit_clrBit_self (n i : Nat) : bit (clrBit n i) i = false := by
  unfold clrBit
  split
  · next h =>
    have hodd : n / 2 ^ i % 2 = 1 := by simpa [bit] using h
    have hpos : 0 < 2 ^ i := Nat.two_pow_pos i
    have hdiv : (n - 2 ^ i) / 2 ^ i = n / 2 ^ i - 1 := by simpa using Nat.sub_mul_div n (2 ^ i) 1
    simp only [bit, hdiv, beq_eq_false_iff_ne]
    omega
  · next h => simpa using h

/-- A discarded set has no member pending, and its bit is clear. -/
theorem State.discardSet_pend (n : Nat) {p : Pend} (hp : p ∈ (s.discardSet n).tv.pend) : agreeSet p.obj p.el ≠ some n := by
  simpa using (List.mem_filter.1 hp).2

theorem State.discardSet_bit (n : Nat) : bit ((s.discardSet n).objN 0x1300 0) n = false := by
  unfold State.discardSet State.objN
  rw [State.obj_setObj_self, Int.toNat_natCast]
  exact bit_clrBit_self _ n

theorem State.discard_accepted {q : Req} {set : Nat} (h : s.accepts q (entArg 0x1310 .u8 set) []) :
    ∃ t, exec (.discardPendingSet q set) s = .next t ∧ t.took q ∧ (∀ p ∈ t.tv.pend, agreeSet p.obj p.el ≠ some set) ∧
      bit (t.objN 0x1300 0) set = false := by
  refine ⟨_, rfl, s.hostWrite_took h, ?_⟩
  rw [s.hostWrite_accepted h, s.storeWrite_command (obj := 0x1310) rfl rfl rfl, State.accept_pend]
  refine ⟨fun p hp => s.discardSet_pend set hp, ?_⟩
  unfold State.objN
  rw [State.obj_congr (State.accept_dict ..)]
  exact s.discardSet_bit set

/-- Settles O43: a run flag takes its value, UART_MNT its rate, and a discarded set loses its members. -/
theorem portRows : Obligations.PortRows := by
  unfold Obligations.PortRows
  obtain ⟨can, hcan⟩ := portFlags_can
  obtain ⟨eth, heth⟩ := portFlags_ethernet
  have hmac : ∀ (p : Fin 2) (t : State), t.macTime.obj 0x1022 (p.val + 1) = t.obj 0x1022 (p.val + 1) := fun p t =>
    t.macTime_obj ⟨by decide, by decide, by decide⟩ _
  exact fun s q => ⟨fun p h => ⟨_, rfl, s.flag_written hcan (by decide) h fun _ => rfl⟩,
    fun p h => ⟨_, rfl, s.flag_written hcan (by decide) h fun _ => rfl⟩,
    fun p h => ⟨_, rfl, s.flag_written heth (by decide) h (hmac p)⟩,
    fun p h => ⟨_, rfl, s.flag_written heth (by decide) h (hmac p)⟩,
    fun arg h => s.fastRate_accepted h, fun set h => s.discard_accepted h⟩

end Sys2Proof.Machine
end

section
/-! Messages, segments and interim answers (R66, R67, R71, R74, R75, R81): what malformed traffic counts or is answered with, the transfers
in progress on CAN FD, neighbour requests, and the answer a second after a command began. -/

namespace Sys2Proof.Machine

variable (s : State)

/-! ### Malformed messages (R66, R67) -/

/-- After the boot a port that is up looks at every message: by its identifier on CAN FD, by its header on the others. -/
theorem State.badMessage_heard {port : Nat} (hup : s.portUp port = true) (hdone : s.life.phase = .done) (src : Nat) (o : Octets) :
    s.badMessage port src o = if port ≤ 1 then s.canMessage port o
      else s.headerMessage { port := port, master := fieldAt o 4 2, txn := fieldAt o 6 4, asCommand := false, src := src } o := by
  unfold State.badMessage
  simp [hup, hdone]

/-- A message too short for a header is counted (R66). -/
theorem State.headerMessage_short (q : Req) {o : Octets} (h : o.length < 16) : s.headerMessage q o = s.bump 0x1030 1 1 :=
  if_pos (Or.inl h)

/-- Types of R67 that are no request. -/
def noRequest (kind : Nat) : Prop := kind = 0 ∨ kind = 5 ∨ 7 < kind

/-- A request of a type that R67 does not give is malformed, whatever its body. -/
theorem State.request_malformed (q : Req) {kind : Nat} (h : noRequest kind) (o : Octets) : s.request q kind o = s.malformed q kind := by
  unfold State.request
  unfold noRequest at h
  split
  case h_7 => rfl
  all_goals omega

/-- A message with a good header, but with a length that is not its own or a type that is no request, is malformed. -/
theorem State.headerMessage_malformed (q : Req) {o : Octets} (hlen : 16 ≤ o.length) (hmagic : fieldAt o 0 2 = 0x5456) (hversion : octAt o 2 = 1)
    (h : fieldAt o 14 2 ≠ o.length - 16 ∨ noRequest (octAt o 3)) : ∃ kind, s.headerMessage q o = s.malformed q kind := by
  unfold State.headerMessage
  dsimp only
  rw [if_neg (by omega)]
  split
  · exact ⟨_, rfl⟩
  · next hgood =>
    have hkind : noRequest (octAt o 3) := h.resolve_left (by omega)
    have hmulti : octAt o 3 ≠ kMulti := by unfold noRequest at hkind; unfold kMulti; omega
    rw [if_neg hmulti, s.request_malformed q hkind, ite_self]
    exact ⟨_, rfl⟩

/-- A malformed request that passes the gate is answered with 0302h, and nothing else is done (R66). -/
theorem State.malformed_refused {q : Req} (g : s.gate q = .served) (kind : Nat) : (s.malformed q kind).refused q 0x0302 ∧
    s.malformed q kind =
      { s with tv := (s.malformed q kind).tv, out := (s.malformed q kind).out, sideTx := (s.malformed q kind).sideTx } := by
  have hanswer : s.malformed q kind = s.respond q kind 0x0302 [] := s.through_served g
  rw [hanswer]
  exact ⟨s.respond_refused q kind [] (by decide), s.respond_sends q kind [] (by decide)⟩

/-- A CAN FD frame with the node number of another is not looked at (R73). -/
theorem State.badMessage_notOurs {port : Nat} (hcan : port ≤ 1) {o : Octets} (h : bits (fieldAt o 0 4) 10 10 ≠ s.canNode port) (src : Nat) :
    s.badMessage port src o = s := by
  have hignored : s.canMessage port o = s := if_pos (Or.inr (Or.inr (Or.inr h)))
  unfold State.badMessage
  dsimp only
  rw [if_pos hcan, hignored, ite_self]

/-! ### Segments (R74, R75) -/

/-- The transfer that the first segment of a request opens. -/
def State.opened (s : State) (port master kind tag total : Nat) (data : Octets) : CanXfer :=
  { port := port, master := master, tag := tag, kind := kind, total := total, next := 1, got := fitTo 60 data, last := s.now }

@[simp] theorem fitTo_length (n : Nat) (o : Octets) : (fitTo n o).length = n := by
  simp [fitTo, zeros]

/-- The first segment of a request that takes two or more of them opens its transfer. -/
theorem State.canSegment_opens {port master : Nat} (kind tag : Nat) {total : Nat} (data : Octets) (hcan : port ≤ 1) (hup : s.portUp port = true)
    (hdone : s.life.phase = .done) (hnone : s.canXferOf port master = none) (hmin : 63 ≤ total) (hmax : total ≤ 1458) :
    s.opened port master kind tag total data ∈ (s.canSegment port master kind tag 0 total data).tv.canRx := by
  unfold State.canSegment
  dsimp only
  rw [if_neg (by simp [hup, hdone]; omega)]
  simp only [hnone]
  rw [if_neg (by simp), if_neg (by omega), if_neg (by omega)]
  unfold State.canTake
  dsimp only
  rw [if_neg (by simp; omega)]
  exact List.mem_append_right _ (List.mem_singleton_self _)

theorem State.canXferOf_place {port master : Nat} {x : CanXfer} (h : s.canXferOf port master = some x) : x.port = port ∧ x.master = master := by
  simpa using List.find?_some h

/-- A transfer given up is in progress no more. -/
theorem State.canXferOf_canDrop (port master : Nat) : (s.canDrop port master).canXferOf port master = none := by
  refine List.find?_eq_none.2 fun x hx hmatch => ?_
  have hother := (List.mem_filter.1 hx).2
  rw [hmatch] at hother
  cases hother

theorem State.answerOnce_tv (q : Req) (kind ab : Nat) : (s.answerOnce q kind ab).tv = s.tv := by
  unfold State.answerOnce
  split
  · rfl
  · exact State.sendMsg_tv ..

/-- 50 ms of silence end a transfer, with an answer that is not kept. -/
theorem State.canTimeout_ends {port master : Nat} {x : CanXfer} (h : s.canXferOf port master = some x) (hlate : x.last + 50 * msP < s.now) :
    (s.canTimeout port master).tv = (s.canDrop port master).tv := by
  obtain ⟨rfl, rfl⟩ := s.canXferOf_place h
  unfold State.canTimeout
  simp only [h, if_pos hlate]
  exact State.answerOnce_tv ..

/-! ### Neighbour requests (R81) -/

/-- After the boot a MAC that is up answers for its own addresses alone. -/
theorem State.neighbour_answers {mac : Fin 2} {v6 : Bool} {target : Octets} (hup : s.portUp (2 + mac.val) = true) (hdone : s.life.phase = .done) :
    s.neighbour mac v6 target =
      if s.ownAddress mac v6 target then s.emit (.neighbour mac.val v6 target (Config.macAddr mac.val)) else s := by
  unfold State.neighbour
  simp [hup, hdone]

/-! ### Interim answers (R71) -/

/-- An answer to an older request is kept while fewer than 16 of its master's follow it (R66). -/
theorem mem_keepStored {now : Nat} {l : List Stored} {x : Stored}
    (h : (l.filter fun y => x.req.sameMaster y.req.port y.req.master && decide (x.at_ < y.at_)).length < 16) : x ∈ keepStored now l x := by
  unfold keepStored
  dsimp only
  refine List.mem_append_right _ ?_
  have hlater : ((l.filter fun y => x.req.sameMaster y.req.port y.req.master).filter
      fun y => decide (x.at_ < y.at_) && decide (y.at_ ≤ now)).length < 16 := by
    refine Nat.lt_of_le_of_lt ?_ h
    rw [List.filter_filter, ← List.countP_eq_length_filter, ← List.countP_eq_length_filter]
    refine List.countP_mono_left fun y _ hy => ?_
    simp only [Bool.and_eq_true] at hy ⊢
    exact ⟨hy.2, hy.1.1⟩
  generalize (l.filter fun y => x.req.sameMaster y.req.port y.req.master).filter _ = later at hlater ⊢
  generalize (l.filter fun y => x.req.sameMaster y.req.port y.req.master).filter _ = earlier
  rw [List.append_assoc, List.drop_append_of_le_length (by simp; omega)]
  simp

/-- A late answer that is not a busy one is kept, whether its port still sends or not; beside it the requests that run stay as they are. -/
theorem State.respondLate_tv (x : Running) (kind : Nat) {ab : Nat} (body : Octets) (h : ab ≠ 0x0701) :
    (s.respondLate x kind ab body).tv =
      { s.tv with stored := keepStored s.now s.tv.stored { req := x.req, kind := kind, at_ := x.started, abort := ab, body := body } } := by
  unfold State.respondLate
  split
  · unfold State.respondTo
    simp [h]
  · rfl

/-- The running requests with one of them marked as answered. -/
def State.markAnswered (s : State) (x : Running) : State :=
  s.modTv fun t => { t with running := t.running.map fun (y : Running) => if y == x then { y with answered := true } else y }

theorem State.mem_markAnswered {x : Running} (h : x ∈ s.tv.running) : { x with answered := true } ∈ (s.markAnswered x).tv.running :=
  List.mem_map.2 ⟨x, h, by simp⟩

/-- A second after its acceptance a command message that still runs is answered with status 01h. -/
theorem State.runningAnswer_due {port master txn : Nat} {x : Running}
    (hfind : s.tv.running.find? (fun x => x.req.port == port && x.req.master == master && x.req.txn == txn && !x.answered) = some x)
    (hcommand : x.req.asCommand = true) (hrestart : s.restarting = false) (hdue : x.started + secP ≤ s.now) :
    s.runningAnswer port master txn = (s.markAnswered x).respondLate x kCommand 0 [1] := by
  unfold State.runningAnswer
  simp only [hfind]
  exact if_neg (by simp [hcommand, hrestart]; omega)

/-! ### The obligation -/

/-- Settles O44: what is malformed is counted or refused, a segment opens its transfer and silence ends it, and requests for an address
and for a state of progress are answered. -/
theorem messageRows : Obligations.MessageRows := by
  unfold Obligations.MessageRows
  refine fun s => ⟨fun port src msg hport hup hdone hlen hcount => ?_, fun port src msg q hport hup hdone hlen hmagic hversion h hq g => ?_,
    fun port src msg hcan h => ⟨_, congrArg Host.Outcome.next (s.badMessage_notOurs hcan h src), rfl⟩, fun hon hcount => ?_, fun port hon hup hcount => ?_,
    fun port master kind tag total data hcan hup hdone hnone hmin hmax => ?_, fun port master x hfind hlate => ?_,
    fun mac v6 target hup hdone => ⟨fun hown => ?_, fun hown => ?_⟩, fun port master txn x hfind hcommand hrestart hdue hkept => ?_⟩
  · have heard := s.badMessage_heard hup hdone src msg
    rw [if_neg (by omega), s.headerMessage_short _ hlen] at heard
    exact ⟨_, congrArg Host.Outcome.next heard, s.bump_counted hcount⟩
  · have heard := s.badMessage_heard hup hdone src msg
    rw [if_neg (by omega), ← hq] at heard
    obtain ⟨kind, hbad⟩ := s.headerMessage_malformed q hlen hmagic hversion h
    exact ⟨_, congrArg Host.Outcome.next (heard.trans hbad), s.malformed_refused g kind⟩
  · exact ⟨_, congrArg Host.Outcome.next (if_neg hon), s.bump_counted hcount⟩
  · exact ⟨_, congrArg Host.Outcome.next (if_neg (by simp [hon, hup])), s.bump_counted hcount⟩
  · exact ⟨_, rfl, _, s.canSegment_opens kind tag data hcan hup hdone hnone hmin hmax, rfl, rfl, rfl, rfl, rfl, rfl, rfl, rfl⟩
  · refine ⟨s.canTimeout port master, rfl, ?_⟩
    have htv := s.canTimeout_ends hfind hlate
    refine ⟨?_, by rw [htv]; rfl⟩
    show (s.canTimeout port master).tv.canRx.find? _ = none
    rw [htv]
    exact s.canXferOf_canDrop port master
  · have hanswer := s.neighbour_answers (v6 := v6) (target := target) hup hdone
    rw [hown] at hanswer
    exact ⟨_, congrArg Host.Outcome.next hanswer, rfl⟩
  · have hanswer := s.neighbour_answers (v6 := v6) (target := target) hup hdone
    rw [hown] at hanswer
    exact congrArg Host.Outcome.next hanswer
  · refine ⟨_, congrArg Host.Outcome.next (s.runningAnswer_due hfind hcommand hrestart hdue), ?_⟩
    rw [State.respondLate_tv _ x kCommand [1] (by decide)]
    exact ⟨s.mem_markAnswered (List.mem_of_find?_eq_some hfind), _, mem_keepStored hkept, rfl, rfl, rfl⟩

end Sys2Proof.Machine
end

section
/-! Patterns in the shadow (R85, R86, R87, R152): read after write for the Quadrants, what a write of octets or of an argument stores, the
recording of the cell table by a commit, and the ends of a refresh and of a pattern. -/

namespace Sys2Proof.Machine

variable (s : State)

/-! ### Quadrants -/

@[simp] theorem State.quad_modQuad_self (q : Fin 4) (f : Quad → Quad) : (s.modQuad q f).quad q = f (s.quad q) :=
  Vector.getElem_set_self q.isLt

theorem State.quad_modQuad_ne {q p : Fin 4} (f : Quad → Quad) (h : p ≠ q) : (s.modQuad q f).quad p = s.quad p :=
  Vector.getElem_set_ne q.isLt p.isLt (Fin.val_ne_of_ne h.symm)

/-- A Quadrant follows the vector of the four. -/
theorem State.quad_congr {s t : State} (h : t.quads = s.quads) (q : Fin 4) : t.quad q = s.quad q := by
  unfold State.quad
  rw [h]

/-! ### What a write stores (R15) -/

/-- A window of octets holds no value: a write to it stores nothing. -/
theorem State.storeWrite_window {obj : Nat} {row : Row} {lo hi mult : Nat} (hf : Catalogue.find obj = some row) (hacc : row.acc = .wo)
    (happ : row.app = .imm) (hshape : row.shape = .octets lo hi mult) (q : Req) (data : Octets) :
    s.storeWrite q (entBlob obj data) 0 = s := by
  unfold State.storeWrite entBlob
  simp only [hf, hshape]
  unfold State.noteImm
  rw [happ, hacc]

/-- An argument that passes the check of its type (R50) fits the type. -/
theorem arg_lt_of_accepts {obj arg : Nat} {row : Row} (hf : Catalogue.find obj = some row) (hshape : row.shape = .scalar) {s : State} {q : Req}
    {codes : List Nat} (h : s.accepts q (entArg obj row.ty arg) codes) : arg < 256 ^ row.ty.width := by
  refine Decidable.byContradiction fun hlarge => ?_
  have harg : entArg obj row.ty arg = { obj := obj, el := 0, ty := row.ty.code, val := toBE (row.ty.width + 1) arg } := if_neg hlarge
  rw [harg] at h
  simpa [typeOk, hshape] using typeOk_of_accepts hf h

/-- An unsigned octet is read back from its encoding (R13). -/
theorem dec_enc_u8 {v : Nat} (h : v < 256) : Ty.u8.dec (Ty.u8.enc (v : Int)) = v := by
  have hv : ofInt 8 (v : Int) = v := by simp only [ofInt]; omega
  show ((beNat (toBE 1 (ofInt 8 (v : Int))) : Nat) : Int) = v
  rw [hv, beNat_toBE, Nat.pow_one, Nat.mod_eq_of_lt h]

/-! ### Writes to the shadow (R85) -/

/-- What a write of entries does to its Quadrant: into the shadow, or into the queue while that is refreshed. -/
def Quad.takePattern (qd : Quad) (reg i : Nat) (data : Octets) : Quad :=
  if qd.ready then { qd with shd := qd.shd.put reg i (units16 data) } else { qd with wq := qd.wq ++ [(reg, i, data)] }

theorem Quad.takePattern_ready {qd : Quad} (h : qd.ready = true) (reg i : Nat) (data : Octets) :
    qd.takePattern reg i data = { qd with shd := qd.shd.put reg i (units16 data) } := if_pos h

theorem Quad.takePattern_refreshing {qd : Quad} (h : qd.ready = false) (reg i : Nat) (data : Octets) :
    qd.takePattern reg i data = { qd with wq := qd.wq ++ [(reg, i, data)] } := if_neg (by simp [h])

/-- A write goes to the pointed place, and the pointer moves past it. -/
theorem State.patWrite_at {q : Fin 4} {reg i : Nat} (hptr : s.patPtr = (q, reg, i)) (data : Octets) : s.patWrite data =
    (s.modQuad q fun qd => qd.takePattern reg i data).setObj 0x3201 3 (min 65535 (i + (units16 data).length) : Nat) := by
  unfold State.patWrite
  rw [hptr]
  rfl

theorem State.patWrite_quad {q : Fin 4} {reg i : Nat} (hptr : s.patPtr = (q, reg, i)) (data : Octets) :
    (s.patWrite data).quad q = (s.quad q).takePattern reg i data := by
  rw [s.patWrite_at hptr, State.quad_congr (State.setObj_quads ..), State.quad_modQuad_self]

theorem State.patWrite_pointer {q : Fin 4} {reg i : Nat} (hptr : s.patPtr = (q, reg, i)) (data : Octets) :
    (s.patWrite data).objN 0x3201 3 = min 65535 (i + (units16 data).length) := by
  rw [State.objN, s.patWrite_at hptr, State.obj_setObj_self, Int.toNat_natCast]

theorem exec_patternDataWrite_accepted {r : Req} {data : Octets} {q : Fin 4} {reg i : Nat} (hptr : s.patPtr = (q, reg, i))
    (h : s.accepts r (entBlob 0x3202 data) (s.patCodes data)) :
    ∃ t, exec (.patternDataWrite r data) s = .next t ∧ t.took r ∧ t.objN 0x3201 3 = min 65535 (i + (units16 data).length) ∧
      ((s.quad q).ready = true → (t.quad q).shd = (s.quad q).shd.put reg i (units16 data) ∧ (t.quad q).wq = (s.quad q).wq) ∧
      ((s.quad q).ready = false → (t.quad q).shd = (s.quad q).shd ∧ (t.quad q).wq = (s.quad q).wq ++ [(reg, i, data)]) := by
  refine ⟨_, rfl, s.hostWrite_took h, ?_⟩
  rw [s.hostWrite_accepted h, s.storeWrite_window (obj := 0x3202) rfl rfl rfl rfl, State.quad_congr (State.accept_quads ..),
    s.patWrite_quad hptr]
  refine ⟨?_, fun hready => by rw [Quad.takePattern_ready hready]; exact ⟨rfl, rfl⟩,
    fun hready => by rw [Quad.takePattern_refreshing hready]; exact ⟨rfl, rfl⟩⟩
  rw [State.objN, State.obj_congr (State.accept_dict ..)]
  exact s.patWrite_pointer hptr data

/-! ### Commits (R86, R152) -/

/-- The validation of a commit for one Quadrant: its cell table is recorded, and surplus visits are reported. -/
def State.commitQuad (s : State) (q : Fin 4) : State :=
  let t := s.modQuad q fun qd => { qd with shd := s.cellTable q qd.shd }
  if (s.quad q).shd.surplus = 0 then t else t.evt 0x1403 q.val

theorem State.commitEvents_eq_foldl (mask : Nat) : s.commitEvents mask = (quadsOf mask).foldl State.commitQuad s := rfl

theorem State.commitQuad_quads (q : Fin 4) :
    (s.commitQuad q).quads = (s.modQuad q fun qd => { qd with shd := s.cellTable q qd.shd }).quads := by
  unfold State.commitQuad
  dsimp only
  split
  · rfl
  · exact State.evt_quads ..

@[simp] theorem State.commitQuad_tv (q : Fin 4) : (s.commitQuad q).tv = s.tv := by
  unfold State.commitQuad
  dsimp only
  split <;> simp

theorem State.commitQuad_self (q : Fin 4) : (s.commitQuad q).quad q = { s.quad q with shd := s.cellTable q (s.quad q).shd } := by
  rw [State.quad_congr (s.commitQuad_quads q), State.quad_modQuad_self]

theorem State.commitQuad_ne {q p : Fin 4} (h : p ≠ q) : (s.commitQuad q).quad p = s.quad p := by
  rw [State.quad_congr (s.commitQuad_quads q), State.quad_modQuad_ne _ _ h]

theorem State.commitQuads_tv (l : List (Fin 4)) : (l.foldl State.commitQuad s).tv = s.tv := by
  induction l generalizing s with
  | nil => rfl
  | cons q l ih => rw [List.foldl_cons, ih, State.commitQuad_tv]

/-- A Quadrant that no commit names stays as it is. -/
theorem State.commitQuads_of_notMem {l : List (Fin 4)} {q : Fin 4} (h : q ∉ l) : (l.foldl State.commitQuad s).quad q = s.quad q := by
  induction l generalizing s with
  | nil => rfl
  | cons p l ih =>
    rw [List.foldl_cons, ih _ (List.not_mem_of_not_mem_cons h), State.commitQuad_ne _ (List.ne_of_not_mem_cons h)]

/-- Of a Quadrant that is named once, the cell table of the shadow is recorded, at the settings of its turn. -/
theorem State.commitQuads_of_mem {l : List (Fin 4)} (hl : l.Nodup) {q : Fin 4} (h : q ∈ l) :
    ∃ u : State, (l.foldl State.commitQuad s).quad q = { s.quad q with shd := u.cellTable q (s.quad q).shd } := by
  induction l generalizing s with
  | nil => cases h
  | cons p l ih =>
    obtain ⟨hp, hl⟩ := List.nodup_cons.1 hl
    rw [List.foldl_cons]
    by_cases hqp : q = p
    · subst hqp
      exact ⟨s, by rw [State.commitQuads_of_notMem _ hp, State.commitQuad_self]⟩
    · obtain ⟨u, hu⟩ := ih (s.commitQuad p) hl ((List.mem_cons.1 h).resolve_left hqp)
      exact ⟨u, by rw [hu, State.commitQuad_ne _ hqp]⟩

theorem quadsOf_nodup (mask : Nat) : (quadsOf mask).Nodup := List.Pairwise.filter _ (by decide : quads4.Nodup)

theorem mem_quadsOf {mask : Nat} {q : Fin 4} : q ∈ quadsOf mask ↔ bit mask q.val = true := by
  have hall : q ∈ quads4 := by revert q; decide
  simp [quadsOf, hall]

/-- A commit changes of the Quadrants nothing but the cell tables of those named, with the weights of their zoom entries (R152, R169). -/
theorem State.commitEvents_quad (mask : Nat) (q : Fin 4) :
    (s.commitEvents mask).quad q = { s.quad q with shd := ((s.commitEvents mask).quad q).shd } ∧
      ((s.commitEvents mask).quad q).shd =
        { (s.quad q).shd with pulses := ((s.commitEvents mask).quad q).shd.pulses, weight := ((s.commitEvents mask).quad q).shd.weight } ∧
      (bit mask q.val = true →
        ((s.commitEvents mask).quad q).shd.weight = ((s.quad q).shd.zoomEntries.map fun e => entWeight e * (entRep e + 1)).sum) := by
  rw [s.commitEvents_eq_foldl mask]
  by_cases hbit : bit mask q.val = true
  · obtain ⟨u, hu⟩ := s.commitQuads_of_mem (quadsOf_nodup mask) (mem_quadsOf.2 hbit)
    rw [hu]
    exact ⟨rfl, rfl, fun _ => rfl⟩
  · rw [s.commitQuads_of_notMem fun hq => hbit (mem_quadsOf.1 hq)]
    exact ⟨rfl, rfl, fun h => absurd h hbit⟩

/-- A commit that passes its checks is pending until a Landing (R15, R86). -/
theorem State.storeWrite_commit {r : Req} {mask : Nat} (hmask : mask < 256) :
    s.storeWrite r (entArg 0x3210 .u8 mask) 0 = s.addPend r 0x3210 0 [(0, (mask : Int))] := by
  have harg : entArg 0x3210 .u8 mask = ent 0x3210 0 .u8 mask := if_pos hmask
  obtain ⟨row, hf, hacc, hshape, hty, happ⟩ : ∃ row : Row, Catalogue.find 0x3210 = some row ∧ row.acc = .rw ∧ row.shape = .scalar ∧
      row.ty = .u8 ∧ row.app = .lnd := ⟨_, rfl, rfl, rfl, rfl, rfl⟩
  have hwritten : written row 0 (Ty.u8.enc mask) = [(0, (mask : Int))] := by simp [written, hshape, hty, dec_enc_u8 hmask]
  rw [harg, ← hwritten]
  exact s.storeWrite_lnd r (e := ent 0x3210 0 .u8 mask) 0 hf (by simp [hacc]) (by simp [hshape]) happ

theorem exec_patternCommit_accepted {r : Req} {mask : Nat} (h : s.accepts r (entArg 0x3210 .u8 mask) (s.commitCodes mask)) :
    ∃ t, exec (.patternCommit r mask) s = .next t ∧ t.took r ∧ (∃ p ∈ t.tv.pend, p.obj = 0x3210 ∧ p.el = 0 ∧ p.val = mask) ∧
      ∀ q, t.quad q = { s.quad q with shd := (t.quad q).shd } ∧
        (t.quad q).shd = { (s.quad q).shd with pulses := (t.quad q).shd.pulses, weight := (t.quad q).shd.weight } ∧
        (bit mask q.val = true → (t.quad q).shd.weight = ((s.quad q).shd.zoomEntries.map fun e => entWeight e * (entRep e + 1)).sum) := by
  refine ⟨_, rfl, s.hostWrite_took h, ?_⟩
  rw [s.hostWrite_accepted h, s.storeWrite_commit (arg_lt_of_accepts (obj := 0x3210) rfl rfl h)]
  refine ⟨?_, fun q => ?_⟩
  · obtain ⟨p, hp, hobj, hel, hval⟩ := s.addPend_written r 0x3210 0 (List.mem_singleton_self (0, (mask : Int)))
    rw [State.accept_pend, State.commitEvents_eq_foldl, State.commitQuads_tv]
    exact ⟨p, hp, hobj, hel, congrArg Prod.snd (List.mem_singleton.1 hval)⟩
  · rw [State.quad_congr (State.accept_quads ..), ← State.quad_congr (s.addPend_quads r 0x3210 0 [(0, (mask : Int))]) q]
    exact State.commitEvents_quad _ mask q

/-! ### The ends of a refresh and of a pattern (R87) -/

theorem exec_shadowRefreshDone {q : Fin 4} (h : (s.quad q).ready = false) : exec (.shadowRefreshDone q) s =
    .next (s.modQuad q fun qd => { qd with shd := qd.act.overlay qd.wq, wq := [], ready := true }) :=
  congrArg Host.Outcome.next (if_neg (by simp [h]))

theorem exec_patternDurationCut {q : Fin 4} (hseq : s.sequences q = true) (hdur : (s.quad q).act.dur ≠ 0)
    (hcut : s.frm.start + (s.quad q).act.dur * usP ≤ s.now) : exec (.patternDurationCut q) s =
    .next ((s.modSeq q fun sq => { sq with done := true, cut := true, lastClose := s.openUntil q }).evt 0x2102 q.val) :=
  congrArg Host.Outcome.next (if_pos ⟨hseq, hdur, hcut⟩)

/-- Settles O11: a write goes to the pointed place or into the queue, a commit is pending and records cell tables, a refresh ends with the
queued writes laid over, and a pattern is cut at its declared duration. -/
theorem patternRows : Obligations.PatternRows := by
  unfold Obligations.PatternRows
  refine fun s => ⟨fun r data q reg i hptr h => exec_patternDataWrite_accepted s hptr h, fun r mask h => exec_patternCommit_accepted s h,
    fun q h => ⟨_, exec_shadowRefreshDone s h, ?_⟩, fun q hseq hdur hcut => ⟨_, exec_patternDurationCut s hseq hdur hcut, ?_⟩⟩
  · rw [State.quad_modQuad_self]
    exact ⟨rfl, rfl, rfl, rfl⟩
  · rw [State.quad_congr (State.evt_quads ..), State.modSeq, State.quad_modQuad_self]
    exact ⟨rfl, rfl, rfl⟩

end Sys2Proof.Machine
end

section
/-! Emitters (R92, R93, R97, R353): the copy of the staged settings by a strike, the peak of a channel, and the windows of the governor. -/

namespace Sys2Proof.Machine

variable (s : State)

/-! ### Strikes (R92) -/

/-- Members of one object copied to members of another, one after the other. -/
def State.copyMembers (s : State) (dst src : Nat) (f g : Nat → Nat) (l : List Nat) : State :=
  l.foldl (fun t i => t.setObj dst (f i) (t.obj src (g i))) s

section
variable {dst src : Nat} {f g : Nat → Nat} {l : List Nat}

theorem State.copyMembers_cons (i : Nat) (l : List Nat) : s.copyMembers dst src f g (i :: l) =
    (s.setObj dst (f i) (s.obj src (g i))).copyMembers dst src f g l := rfl

/-- A copy changes none but the members it copies to. -/
theorem State.copyMembers_obj_ne {o el : Nat} (h : o ≠ dst ∨ ∀ i ∈ l, el % 65536 ≠ f i % 65536) :
    (s.copyMembers dst src f g l).obj o el = s.obj o el := by
  induction l generalizing s with
  | nil => rfl
  | cons i l ih =>
    rw [State.copyMembers_cons, ih _ (h.imp_right fun hl j hj => hl j (List.mem_cons_of_mem _ hj)),
      State.obj_setObj_ne _ _ (h.imp_right fun hl => hl i List.mem_cons_self)]

/-- Where the members copied to are distinct, each takes the value of its own. -/
theorem State.copyMembers_obj (hobj : src ≠ dst) (hf : ∀ i ∈ l, ∀ j ∈ l, f i % 65536 = f j % 65536 → i = j) {i : Nat} (hi : i ∈ l) :
    (s.copyMembers dst src f g l).obj dst (f i) = s.obj src (g i) := by
  induction l generalizing s with
  | nil => cases hi
  | cons k l ih =>
    rw [State.copyMembers_cons]
    by_cases hin : i ∈ l
    · rw [ih _ (fun a ha b hb => hf a (List.mem_cons_of_mem _ ha) b (List.mem_cons_of_mem _ hb)) hin,
        State.obj_setObj_ne _ _ (Or.inl hobj)]
    · obtain rfl : i = k := (List.mem_cons.1 hi).resolve_right hin
      rw [State.copyMembers_obj_ne _ (Or.inr fun j hj hij => hin (hf i hi j (List.mem_cons_of_mem _ hj) hij ▸ hj)),
        State.obj_setObj_self]

end

/-- The sinks' settings as a strike copies them. -/
def State.strikeSinks (s : State) : State := s.copyMembers 0x3311 0x3310 (· + 1) (· + 1) (List.range 192)

/-- Those of the pulse-command channels. -/
def State.strikeChannels (s : State) : State := s.copyMembers 0x3311 0x3330 (193 + ·) (· + 1) (List.range 8)

theorem State.strike_eq_copies : s.strike =
    (s.strikeSinks.strikeChannels.setObj 0x3311 201 (s.strikeSinks.strikeChannels.obj 0x3300 1)).emit (.anchor 0 0) := rfl

theorem State.strikeSinks_obj_ne {o : Nat} (el : Nat) (h : o ≠ 0x3311) : s.strikeSinks.obj o el = s.obj o el :=
  s.copyMembers_obj_ne (Or.inl h)

theorem State.strikeChannels_obj_ne {o el : Nat} (h : o ≠ 0x3311 ∨ el < 193 ∨ el = 201) : s.strikeChannels.obj o el = s.obj o el := by
  refine s.copyMembers_obj_ne (h.imp_right fun hel i hi => ?_)
  have := List.mem_range.1 hi
  omega

theorem State.strike_obj_ne {o el : Nat} (h : o ≠ 0x3311 ∨ el < 201) : s.strike.obj o el = s.strikeSinks.strikeChannels.obj o el := by
  rw [s.strike_eq_copies, State.emit_obj]
  exact State.obj_setObj_ne _ _ (h.imp_right fun hel => by omega)

theorem State.strike_sink {m : Nat} (hm : m < 192) : s.strike.obj 0x3311 (m + 1) = s.obj 0x3310 (m + 1) := by
  rw [s.strike_obj_ne (Or.inr (by omega)), State.strikeChannels_obj_ne _ (Or.inr (Or.inl (by omega)))]
  refine s.copyMembers_obj (f := (· + 1)) (by decide) (fun i hi j hj hij => ?_) (List.mem_range.2 hm)
  have := List.mem_range.1 hi
  have := List.mem_range.1 hj
  omega

theorem State.strike_channel {p : Nat} (hp : p < 8) : s.strike.obj 0x3311 (193 + p) = s.obj 0x3330 (p + 1) := by
  rw [s.strike_obj_ne (Or.inr (by omega)), ← s.strikeSinks_obj_ne (p + 1) (by decide : (0x3330 : Nat) ≠ 0x3311)]
  refine s.strikeSinks.copyMembers_obj (f := (193 + ·)) (by decide) (fun i hi j hj hij => ?_) (List.mem_range.2 hp)
  have := List.mem_range.1 hi
  have := List.mem_range.1 hj
  omega

theorem State.strike_global : s.strike.obj 0x3311 201 = s.obj 0x3300 1 := by
  rw [s.strike_eq_copies, State.emit_obj, State.obj_setObj_self, State.strikeChannels_obj_ne _ (Or.inl (by decide)),
    State.strikeSinks_obj_ne _ _ (by decide)]

theorem exec_strike_accepted {r : Req} {arg : Nat} (h : s.accepts r (entArg 0x3320 .u8 arg) []) :
    ∃ t, exec (.strike r arg) s = .next t ∧ t.took r ∧ (∀ m < 192, t.obj 0x3311 (m + 1) = s.obj 0x3310 (m + 1)) ∧
      (∀ p < 8, t.obj 0x3311 (193 + p) = s.obj 0x3330 (p + 1)) ∧ t.obj 0x3311 201 = s.obj 0x3300 1 := by
  refine ⟨_, rfl, s.hostWrite_took h, ?_⟩
  rw [s.hostWrite_accepted h, s.storeWrite_command (obj := 0x3320) rfl rfl rfl]
  have hobj : ∀ o el, (s.strike.accept r (entArg 0x3320 .u8 arg) false).obj o el = s.strike.obj o el :=
    State.obj_congr (State.accept_dict ..)
  exact ⟨fun m hm => by rw [hobj, s.strike_sink hm], fun p hp => by rw [hobj, s.strike_channel hp], by rw [hobj, s.strike_global]⟩

/-! ### Peaks and re-tests (R93, R97) -/

@[simp] theorem State.emitter_modEm_self (m : Nat) (f : Emitter → Emitter) : (s.modEm m f).emitter m = f (s.emitter m) :=
  assocD_put_self ..

/-- An emitter follows the list of emitters. -/
theorem State.emitter_congr {s t : State} (h : t.em = s.em) (m : Nat) : t.emitter m = s.emitter m := by
  unfold State.emitter
  rw [h]

/-- A record on its way reaches the capture engine alone (R256). -/
theorem State.capNote_keeps (src unit t data : Nat) :
    s.capNote src unit t data = { s with cap := (s.capNote src unit t data).cap } := by
  unfold State.capNote
  split <;> rfl

theorem State.capNote_em (src unit t data : Nat) : (s.capNote src unit t data).em = s.em := by
  rw [State.capNote_keeps]

/-- What a peak of a kind does to its channel: the second in a row above the high limit suspends it. -/
def Emitter.takePeak (k : Nat) (x : Emitter) : Emitter :=
  let n := if k = 2 then x.above + 1 else 0
  let sus := decide (2 ≤ n) && x.retired == 0 && !x.suspended
  { x with peak := k, above := n, suspended := x.suspended || sus, passes := if sus then 0 else x.passes }

theorem Emitter.takePeak_suspends {x : Emitter} (habove : 1 ≤ x.above) (hserv : x.retired = 0) : (x.takePeak 2).suspended = true := by
  cases hsus : x.suspended with
  | true => simp [Emitter.takePeak, hsus]
  | false => simpa [Emitter.takePeak, hsus, hserv] using habove

theorem State.peakReading_eq_modEm (p code : Nat) : s.peakReading p code =
    (s.capNote 6 p (s.capAt2 (s.emitter (192 + p)).at2) (s.peakKind p code * 2 ^ 8 + code % 256)).modEm (192 + p)
      (Emitter.takePeak (s.peakKind p code)) := rfl

theorem State.peakReading_keeps (p code : Nat) :
    s.peakReading p code = { s with em := (s.peakReading p code).em, cap := (s.peakReading p code).cap } := by
  rw [s.peakReading_eq_modEm, State.capNote_keeps]
  rfl

theorem State.peakReading_emitter (p code : Nat) :
    (s.peakReading p code).emitter (192 + p) = (s.emitter (192 + p)).takePeak (s.peakKind p code) := by
  rw [s.peakReading_eq_modEm, State.emitter_modEm_self, State.emitter_congr (State.capNote_em ..)]

theorem exec_emitterRetest_accepted {r : Req} {m : Nat} (h : s.accepts r (entArg 0x3352 .u8 m) []) :
    ∃ t, exec (.emitterRetest r m) s = .next t ∧ t.took r ∧ (t.emitter m).retest = 4 := by
  refine ⟨_, rfl, s.hostWrite_took h, ?_⟩
  rw [s.hostWrite_accepted h, s.storeWrite_command (obj := 0x3352) rfl rfl rfl, State.emitter_congr (State.accept_em ..), State.retest,
    State.emitter_modEm_self]

/-! ### The windows of the governor (R353) -/

theorem State.govInterval_short (h : s.gov.shortNo < s.now / max 1 (s.govLen false)) : s.govInterval false =
    { s with gov := { s.gov with short := govRoll s.gov.short, shortNo := s.gov.shortNo + 1 } } := by
  unfold State.govInterval
  simp [h]

theorem State.govInterval_long (h : s.gov.longNo < s.now / max 1 (s.govLen true)) : s.govInterval true =
    { s with gov := { s.gov with long := govRoll s.gov.long, longNo := s.gov.longNo + 1 } } := by
  unfold State.govInterval
  simp [h]

/-- Settles O13: a strike copies every staged setting, a peak is judged and may suspend its channel, a re-test is begun, and a sub-interval
rolls its window. -/
theorem emitterRows : Obligations.EmitterRows := by
  unfold Obligations.EmitterRows
  refine ⟨fun s => ⟨fun r arg h => exec_strike_accepted s h, fun p code => ?_, fun r m h => exec_emitterRetest_accepted s h⟩,
    fun s => ⟨fun h => ?_, fun h => ?_⟩⟩
  · refine ⟨s.peakReading p code, rfl, ?_, fun hhigh habove hserv => ?_, s.peakReading_keeps p code⟩
    · rw [s.peakReading_emitter]
      rfl
    · rw [s.peakReading_emitter, hhigh]
      exact Emitter.takePeak_suspends habove hserv
  · exact ⟨_, congrArg Host.Outcome.next (s.govInterval_short h), rfl⟩
  · exact ⟨_, congrArg Host.Outcome.next (s.govInterval_long h), rfl⟩

end Sys2Proof.Machine
end

section
/-! The axes (R102, R105, R106): what a cause of R105 and its end do to an axis, and what they leave of steering and of the rest. -/

namespace Sys2Proof.Machine

variable (s : State)

/-! ### Folds and bits -/

/-- A fold keeps what each of its steps keeps. -/
theorem foldl_keeps {α β : Type} (g : State → α) {f : State → β → State} (h : ∀ s x, g (f s x) = g s) (l : List β) (s : State) :
    g (l.foldl f s) = g s := by
  induction l generalizing s with
  | nil => rfl
  | cons x l ih => rw [List.foldl_cons, ih, h]

theorem bit_setBit_self (n i : Nat) : bit (setBit n i) i = true := by
  unfold setBit
  split
  · assumption
  · next h =>
    have heven : n / 2 ^ i % 2 ≠ 1 := by simpa [bit] using h
    simp only [bit, Nat.add_div_right _ (Nat.two_pow_pos i), beq_iff_eq]
    omega

/-! ### The position of an axis -/

/-- What a cause of R105 makes of an axis: from now on it is invalid, unless it was so before. -/
def AxisPos.invalidate (a : AxisPos) (c now : Nat) : AxisPos :=
  if a.valid then { a with causes := setBit a.causes c, valid := false, invalidAt := now } else { a with causes := setBit a.causes c }

@[simp] theorem AxisPos.invalidate_valid (a : AxisPos) (c now : Nat) : (a.invalidate c now).valid = false := by
  unfold AxisPos.invalidate
  split
  · rfl
  · next h => simpa using h

@[simp] theorem AxisPos.invalidate_causes (a : AxisPos) (c now : Nat) : (a.invalidate c now).causes = setBit a.causes c := by
  unfold AxisPos.invalidate
  split <;> rfl

theorem AxisPos.invalidate_invalidAt {a : AxisPos} (h : a.valid = true) (c now : Nat) : (a.invalidate c now).invalidAt = now := by
  rw [AxisPos.invalidate, if_pos h]

/-- What the end of a cause makes of an axis: with the last of them the time of R106 begins. -/
def AxisPos.release (a : AxisPos) (c now : Nat) : AxisPos :=
  if bit a.causes c then
    if clrBit a.causes c = 0 then { a with causes := clrBit a.causes c, clearAt := now, clearPeriods := 0 }
    else { a with causes := clrBit a.causes c }
  else a

/-! ### One axis set -/

/-- Setting an axis changes that axis alone. -/
theorem State.setAxis_eq (f : Bool) (a : AxisPos) : s.setAxis f a =
    { s with steer := { s.steer with fast := if f then a else s.steer.fast, slow := if f then s.steer.slow else a } } := by
  cases f <;> rfl

@[simp] theorem State.setAxis_steer (f : Bool) (a : AxisPos) : (s.setAxis f a).steer =
    { s.steer with fast := if f then a else s.steer.fast, slow := if f then s.steer.slow else a } := by
  rw [State.setAxis_eq]
@[simp] theorem State.setAxis_life (f : Bool) (a : AxisPos) : (s.setAxis f a).life = s.life := by
  rw [State.setAxis_eq]
@[simp] theorem State.setAxis_forge (f : Bool) (a : AxisPos) : (s.setAxis f a).forge = s.forge := by
  rw [State.setAxis_eq]
@[simp] theorem State.setAxis_dict (f : Bool) (a : AxisPos) : (s.setAxis f a).dict = s.dict := by
  rw [State.setAxis_eq]

@[simp] theorem State.axis_setAxis_self (f : Bool) (a : AxisPos) : (s.setAxis f a).axis f = a := by
  cases f <;> rfl

@[simp] theorem State.axis_setAxis_not (f : Bool) (a : AxisPos) : (s.setAxis f a).axis (!f) = s.axis (!f) := by
  cases f <;> rfl

/-! ### A cause of R105 arises -/

/-- What an invalidation does beside the axis: it is counted and logged, and stops emission where that ran (R106). -/
def State.logInvalid (s : State) (f : Bool) (c : Nat) : State :=
  let s1 := (s.bump 0x6030 5 1).setObj 0x6030 6 ((c + 128 * axisNo f : Nat) : Int)
  let s2 := { s1 with gov := { s1.gov with enable := false } }
  (if s.gov.enable then (s2.bump 0xC310 130 1).evt 0x4041 (axisNo f) else s2).evt 0x1202 (c + 128 * axisNo f)

@[simp] theorem State.logInvalid_life (f : Bool) (c : Nat) : (s.logInvalid f c).life = s.life := by
  unfold State.logInvalid
  dsimp only
  split <;> simp
@[simp] theorem State.logInvalid_steer (f : Bool) (c : Nat) : (s.logInvalid f c).steer = s.steer := by
  unfold State.logInvalid
  dsimp only
  split <;> simp
@[simp] theorem State.logInvalid_forge (f : Bool) (c : Nat) : (s.logInvalid f c).forge = s.forge := by
  unfold State.logInvalid
  dsimp only
  split <;> simp
theorem State.logInvalid_enable (f : Bool) (c : Nat) : (s.logInvalid f c).gov.enable = false := by
  unfold State.logInvalid
  dsimp only
  split <;> simp

theorem State.posInvalid_valid {f : Bool} (h : (s.axis f).valid = true) (c : Nat) :
    s.posInvalid f c = (s.setAxis f ((s.axis f).invalidate c s.now)).logInvalid f c := by
  have hgov : (s.setAxis f ((s.axis f).invalidate c s.now)).gov = s.gov := by rw [State.setAxis_eq]
  unfold State.logInvalid
  rw [hgov]
  unfold State.posInvalid AxisPos.invalidate
  dsimp only
  rw [if_pos h, if_pos h]

theorem State.posInvalid_invalid {f : Bool} (h : (s.axis f).valid = false) (c : Nat) :
    s.posInvalid f c = s.setAxis f ((s.axis f).invalidate c s.now) := by
  unfold State.posInvalid AxisPos.invalidate
  dsimp only
  rw [h]
  rfl

/-- A cause makes its axis invalid, and is recorded where it was valid before. -/
theorem State.posInvalid_cases (f : Bool) (c : Nat) :
    s.posInvalid f c = (s.setAxis f ((s.axis f).invalidate c s.now)).logInvalid f c ∨
      s.posInvalid f c = s.setAxis f ((s.axis f).invalidate c s.now) := by
  cases h : (s.axis f).valid with
  | true => exact Or.inl (s.posInvalid_valid h c)
  | false => exact Or.inr (s.posInvalid_invalid h c)

@[simp] theorem State.posInvalid_life (f : Bool) (c : Nat) : (s.posInvalid f c).life = s.life := by
  rcases s.posInvalid_cases f c with h | h <;> simp [h]
@[simp] theorem State.posInvalid_forge (f : Bool) (c : Nat) : (s.posInvalid f c).forge = s.forge := by
  rcases s.posInvalid_cases f c with h | h <;> simp [h]

/-- Of steering a cause changes its axis alone. -/
@[simp] theorem State.posInvalid_steer (f : Bool) (c : Nat) : (s.posInvalid f c).steer =
    (s.setAxis f ((s.axis f).invalidate c s.now)).steer := by
  rcases s.posInvalid_cases f c with h | h <;> simp [h]

/-- A valid axis that becomes invalid stops emission (R41, R106, R354). -/
theorem State.posInvalid_enable {f : Bool} (h : (s.axis f).valid = true) (c : Nat) : (s.posInvalid f c).gov.enable = false := by
  rw [s.posInvalid_valid h, State.logInvalid_enable]

/-! ### A cause of R105 ends -/

theorem State.causeGone_eq_setAxis (f : Bool) (c : Nat) : s.causeGone f c = s.setAxis f ((s.axis f).release c s.now) := by
  unfold State.causeGone AxisPos.release
  dsimp only
  split
  · rfl
  · cases f <;> rfl

/-! ### Zero crossings (R102) -/

/-- A zero crossing begins a half period; the measures of the one before it are taken. -/
def State.halfBegins (s : State) (rising : Bool) (halfAmp : Nat) : State :=
  let s0 := if rising then s.periodEnds else s
  { s0 with steer := { s0.steer with halfAmp := halfAmp, halves := s0.steer.halves + 1 } }

/-- Cause 3 of the fast axis arises, ends or stays as it is. -/
def State.judgeFast (s : State) (bad rising : Bool) : State :=
  if bad then s.posInvalid true 3 else if rising then s.causeGone true 3 else s

theorem State.judgeFast_steer (bad rising : Bool) : ∃ a : AxisPos, (s.judgeFast bad rising).steer = { s.steer with fast := a } := by
  unfold State.judgeFast
  split
  · exact ⟨_, s.posInvalid_steer true 3⟩
  · split
    · exact ⟨_, by rw [State.causeGone_eq_setAxis, State.setAxis_steer, if_pos rfl, if_pos rfl]⟩
    · exact ⟨_, rfl⟩

/-- The half period before a crossing was too weak, or the period that it ends lies outside the window (R102). -/
def State.crossingBad (s : State) (rising : Bool) (halfAmp : Nat) : Bool :=
  decide (2 * (halfAmp : Int) < s.obj 0x6010 0) || (rising && s.steer.zeros != 0 && !s.inWindow (s.halfBegins rising halfAmp).steer.period)

/-- The burst of a half period goes out where target 4h is on and the output stage drives. -/
def State.offerBurst (s : State) (on : Bool) : State :=
  if on && s.steer.driving then s.emit (.burst (s.steer.cmd.burst * s.steer.period / 256) s.steer.cmd.width) else s

theorem State.offerBurst_steer (on : Bool) : (s.offerBurst on).steer = s.steer := by
  unfold State.offerBurst
  split
  · exact State.emit_steer ..
  · rfl

/-- A crossing takes its measures, judges the fast axis, and offers the burst. -/
theorem State.zeroCrossing_running (h : s.steer.running = true) (rising : Bool) (halfAmp : Nat) (burstOn : Bool) :
    s.zeroCrossing rising halfAmp burstOn =
      ((s.halfBegins rising halfAmp).judgeFast (s.crossingBad rising halfAmp) rising).offerBurst burstOn :=
  if_neg (by simp [h])

/-- Beside its measures a crossing changes of steering the validity of the fast axis alone. -/
theorem State.zeroCrossing_steer (h : s.steer.running = true) (rising : Bool) (halfAmp : Nat) (burstOn : Bool) : ∃ a : AxisPos,
    (s.zeroCrossing rising halfAmp burstOn).steer = { (s.halfBegins rising halfAmp).steer with fast := a } := by
  rw [s.zeroCrossing_running h, State.offerBurst_steer]
  exact State.judgeFast_steer ..

/-- The compensators that follow a crossing leave steering as it is (R122). -/
theorem State.compCrossing_steer : s.compCrossing.steer = s.steer := by
  unfold State.compCrossing
  refine foldl_keeps State.steer (fun s kv => ?_) _ s
  dsimp only
  split
  · split
    · rfl
    · split
      · rfl
      · exact State.evt_steer ..
  · rfl

theorem State.crossing_steer (h : s.steer.running = true) (rising : Bool) (halfAmp : Nat) : ∃ a : AxisPos,
    (s.crossing rising halfAmp).steer = { (s.halfBegins rising halfAmp).steer with fast := a } := by
  unfold State.crossing
  dsimp only
  split
  · rw [State.compCrossing_steer]
    exact s.zeroCrossing_steer h ..
  · exact s.zeroCrossing_steer h ..

/-! ### The obligation -/

theorem State.crossingTimeout_due (h : s.steer.running = true) (hlate : 3 * s.steer.period ≤ 2 * (s.now - s.steer.lastZero)) :
    s.crossingTimeout = s.posInvalid true 3 := if_pos (by simp [h, hlate])

theorem State.revalidate_due {f : Bool} (hinv : (s.axis f).valid = false) (hclear : (s.axis f).causes = 0)
    (htime : (s.axis f).clearAt + msP ≤ s.now) (hperiods : 2 ≤ (s.axis f).clearPeriods) :
    s.revalidate f = s.setAxis f { s.axis f with valid := true, validAt := s.now } :=
  if_pos (by simp [hinv, hclear, htime, hperiods])

/-- Settles O18: a crossing takes the measures of its half period, its absence is a cause of the fast axis, and an axis long enough without a
cause is valid again. -/
theorem axisRows : Obligations.AxisRows := by
  unfold Obligations.AxisRows
  refine fun s => ⟨fun amp h => ⟨_, rfl, ?_⟩, fun amp h => ⟨_, rfl, ?_⟩, fun h hlate => ?_, fun a hinv hclear htime hperiods => ?_⟩
  · obtain ⟨a, hsteer⟩ := s.crossing_steer h true amp
    rw [hsteer]
    exact ⟨rfl, rfl, rfl, rfl, fun hzeros => if_neg hzeros⟩
  · obtain ⟨a, hsteer⟩ := s.crossing_steer h false amp
    rw [hsteer]
    exact ⟨rfl, rfl, rfl, rfl, rfl⟩
  · refine ⟨_, congrArg Host.Outcome.next (s.crossingTimeout_due h hlate), ?_,
      fun hvalid => ⟨?_, s.posInvalid_enable (f := true) hvalid 3, ?_⟩⟩
    · simp [bit_setBit_self]
    · simp
    · rw [State.posInvalid_steer, State.setAxis_steer]
      exact AxisPos.invalidate_invalidAt hvalid 3 s.now
  · refine ⟨_, congrArg Host.Outcome.next (s.revalidate_due hinv hclear htime hperiods), ?_, ?_, s.axis_setAxis_not _ _, ?_⟩
    · rw [State.axis_setAxis_self]
    · rw [State.axis_setAxis_self]
    · rw [State.setAxis_eq]

end Sys2Proof.Machine
end

section
/-! Helms and the Ferry (R107 ... R113): a control period in which the lanes agree, with a command picked and without one, and the way of a
Helm back to a ready standby. -/

namespace Sys2Proof.Machine

variable (s : State)

/-! ### What a prepare command sees (R416) -/

/-- A cause of R423 leaves a prepare command as it is. -/
@[simp] theorem State.raiseCause_prepReq (i : Nat) : (s.raiseCause i).life.prepReq = s.life.prepReq := by
  unfold State.raiseCause
  dsimp only
  split
  · rw [State.goto_st]; rfl
  · rfl

theorem State.prepareStep_idle (h : s.life.prepReq = false) : s.prepareStep = s := if_pos (Or.inl (by simp [h]))

/-! ### A command is accepted (R108) -/

/-- The output stage drives a command. -/
def Steer.drive (x : Steer) (c : HelmCmd) (src : Nat) : Steer :=
  { x with cmd := c, lastClaim := c.claim, lastSrc := src, held := 0, driving := true, yield := false, missed := false }

/-- The state once the stage drives the command of a Helm and cause 4 is gone from both axes. -/
def State.stageDrives (s : State) (b : Bool) : State :=
  (({ s with steer := s.steer.drive (s.helmCmd b) (b2n b) } : State).causeGone true 4).causeGone false 4

theorem State.stageDrives_steer (b : Bool) : ∃ fast slow : AxisPos,
    (s.stageDrives b).steer = { s.steer.drive (s.helmCmd b) (b2n b) with fast := fast, slow := slow } := by
  unfold State.stageDrives
  rw [State.causeGone_eq_setAxis, State.causeGone_eq_setAxis]
  exact ⟨_, _, rfl⟩

@[simp] theorem State.stageDrives_life (b : Bool) : (s.stageDrives b).life = s.life := by
  unfold State.stageDrives
  rw [State.causeGone_eq_setAxis, State.causeGone_eq_setAxis, State.setAxis_life, State.setAxis_life]

/-- The command of the active Helm ends no Ferry. -/
theorem State.acceptCmd_active {b : Bool} (h : (s.helm b).st = 0) :
    s.acceptCmd b = if s.steer.noHelm then (s.stageDrives b).helmBack else s.stageDrives b := if_pos h

theorem State.acceptCmd_active_steer {b : Bool} (h : (s.helm b).st = 0) : ∃ (fast slow : AxisPos) (noHelm : Bool),
    (s.acceptCmd b).steer = { s.steer.drive (s.helmCmd b) (b2n b) with fast := fast, slow := slow, noHelm := noHelm } := by
  obtain ⟨fast, slow, hsteer⟩ := s.stageDrives_steer b
  rw [s.acceptCmd_active h]
  split
  · exact ⟨fast, slow, false, by rw [State.helmBack, State.setCause_steer, hsteer]⟩
  · exact ⟨fast, slow, s.steer.noHelm, hsteer⟩

theorem State.acceptCmd_active_prepReq {b : Bool} (h : (s.helm b).st = 0) : (s.acceptCmd b).life.prepReq = s.life.prepReq := by
  rw [s.acceptCmd_active h]
  split
  · rw [State.helmBack, State.setCause_life, State.stageDrives_life]
  · rw [State.stageDrives_life]

/-! ### A period without a command (R108, R110) -/

/-- The stage holds its last command for a further period. -/
def State.holdCmd (s : State) : State := { s with steer := { s.steer with held := s.steer.held + 1, missed := true } }

theorem State.noCmd_held (h : s.steer.held < 3) : s.noCmd = s.holdCmd := if_pos h

/-- The stage drives off, and cause 4 makes both axes invalid. -/
def State.stageOff (s : State) : State :=
  (({ s.holdCmd with steer := { s.holdCmd.steer with driving := false } } : State).posInvalid true 4).posInvalid false 4

/-- Of steering and of a prepare command the blindness of the whole field changes no more than its own mark (R110). -/
theorem State.noCmd_off (h : 3 ≤ s.steer.held) : (s.noCmd.life.prepReq = s.stageOff.life.prepReq) ∧
    ∃ noHelm, s.noCmd.steer = { s.stageOff.steer with noHelm := noHelm } := by
  unfold State.noCmd
  dsimp only
  rw [if_neg (by omega)]
  split
  · exact ⟨rfl, _, rfl⟩
  · exact ⟨by rw [State.raiseCause_prepReq, State.evt_life]; rfl, true, by rw [State.raiseCause_steer]; rfl⟩

theorem State.stageOff_life : s.stageOff.life = s.life := by
  unfold State.stageOff
  rw [State.posInvalid_life, State.posInvalid_life]
  rfl

theorem State.stageOff_steer : ∃ fast slow : AxisPos, bit fast.causes 4 = true ∧ bit slow.causes 4 = true ∧
    s.stageOff.steer = { s.holdCmd.steer with driving := false, fast := fast, slow := slow } := by
  unfold State.stageOff
  rw [State.posInvalid_steer, State.setAxis_steer, State.posInvalid_steer, State.setAxis_steer]
  exact ⟨_, _, by simp [bit_setBit_self], by simp [bit_setBit_self], rfl⟩

/-- A period without a command is a held one, and from the fourth in a row the stage is off. -/
theorem State.noCmd_effect : s.noCmd.life.prepReq = s.life.prepReq ∧ s.noCmd.steer.held = s.steer.held + 1 ∧
    s.noCmd.steer.cmd = s.steer.cmd ∧ (s.steer.held < 3 → s.noCmd.steer.driving = s.steer.driving) ∧
    (3 ≤ s.steer.held → s.noCmd.steer.driving = false ∧ bit s.noCmd.steer.fast.causes 4 = true ∧ bit s.noCmd.steer.slow.causes 4 = true) := by
  by_cases h : s.steer.held < 3
  · rw [s.noCmd_held h]
    exact ⟨rfl, rfl, rfl, fun _ => rfl, fun h3 => absurd h (by omega)⟩
  · obtain ⟨hprep, noHelm, hsteer⟩ := s.noCmd_off (by omega)
    obtain ⟨fast, slow, hfast, hslow, hoff⟩ := s.stageOff_steer
    rw [hprep, hsteer, hoff, s.stageOff_life]
    exact ⟨rfl, rfl, rfl, fun h3 => absurd h3 h, fun _ => ⟨rfl, hfast, hslow⟩⟩

/-! ### The standby takes over (R109) -/

/-- A standby that takes over raises its claim; the stage is left as it is. -/
theorem State.takeOver_keeps : s.takeOver =
    { s with steer := { s.steer with
        helmA := s.takeOver.steer.helmA, helmB := s.takeOver.steer.helmB, ferry := s.takeOver.steer.ferry, yield := s.takeOver.steer.yield } } := by
  unfold State.takeOver
  dsimp only
  split
  · rfl
  · split
    · rfl
    · split <;> rfl

theorem State.takeOver_idle (hyield : s.steer.yield = false) (hmissed : s.steer.missed = false) : s.takeOver = s :=
  if_pos (by simp [hyield, hmissed])

/-! ### A control period (R103, R107, R108) -/

/-- The tracking error of this period. -/
def State.trackErrNow (s : State) : Nat := (s.trajNow.1 - (s.axisNow false).1 * s.trajNow.2.2).natAbs / s.trajNow.2.2.natAbs

/-- The largest tracking error of the frame takes that of this period in. -/
def State.tracked (s : State) : State := { s with steer := { s.steer with trackErr := max s.steer.trackErr s.trackErrNow } }

/-- The output stage takes the command picked, or does without one. -/
def State.stagePicks (s : State) (sendA sendB : Bool) : State :=
  match s.pick sendA sendB with
  | some b => s.acceptCmd b
  | none => s.noCmd

theorem State.stagePicks_some {sendA sendB b : Bool} (h : s.pick sendA sendB = some b) : s.stagePicks sendA sendB = s.acceptCmd b := by
  unfold State.stagePicks
  rw [h]

theorem State.stagePicks_none {sendA sendB : Bool} (h : s.pick sendA sendB = none) : s.stagePicks sendA sendB = s.noCmd := by
  unfold State.stagePicks
  rw [h]

/-- Where the lanes of both Helms agree and no setpoint differs, the period turns on the command picked alone. -/
theorem State.controlPeriod_agreed (h : s.steer.running = true) (goodA goodB : Bool) : s.controlPeriod true true true goodA goodB =
    (s.tracked.stagePicks (s.steer.helmA.sends true && goodA) (s.steer.helmB.sends true && goodB)).takeOver := by
  unfold State.controlPeriod
  dsimp only
  rw [if_neg (by simp [h])]
  simp only [Bool.not_true, Bool.and_false, Bool.false_eq_true, if_false]
  rfl

theorem HelmOut.agrees_of_ne {a : HelmOut} (h : a ≠ .lanesFail) : a.agrees = true := by
  cases a with
  | lanesFail => exact absurd rfl h
  | _ => rfl

/-- Lanes that agree on the same setpoint: the period ends with what the stage does, and with a take-over. -/
theorem exec_controlPeriod_agreed {a b : HelmOut} (ha : a ≠ .lanesFail) (hb : b ≠ .lanesFail) (hrun : s.steer.running = true) {t : State}
    (ht : s.tracked.stagePicks (s.steer.helmA.sends true && a.codeOk) (s.steer.helmB.sends true && b.codeOk) = t)
    (hprep : t.life.prepReq = false) : exec (.controlPeriod a b true) s = .next t.takeOver := by
  have hperiod := s.controlPeriod_agreed hrun a.codeOk b.codeOk
  rw [ht] at hperiod
  have hidle : t.takeOver.life.prepReq = false := by rw [t.takeOver_keeps]; exact hprep
  show Host.Outcome.next (s.controlPeriod a.agrees b.agrees true a.codeOk b.codeOk).prepareStep = _
  rw [HelmOut.agrees_of_ne ha, HelmOut.agrees_of_ne hb, hperiod, State.prepareStep_idle _ hidle]

theorem exec_controlPeriod_picked {a b : HelmOut} (ha : a ≠ .lanesFail) (hb : b ≠ .lanesFail) (hrun : s.steer.running = true)
    (hprep : s.life.prepReq = false) {h : Bool}
    (hpick : s.pick (s.steer.helmA.sends true && a.codeOk) (s.steer.helmB.sends true && b.codeOk) = some h) (hact : (s.helm h).st = 0) :
    ∃ t, exec (.controlPeriod a b true) s = .next t ∧ t.steer.held = 0 ∧ t.steer.driving = true ∧ t.steer.lastClaim = (s.helm h).claim ∧
      t.steer.lastSrc = b2n h ∧ t.steer.cmd = s.helmCmd h := by
  obtain ⟨fast, slow, noHelm, hsteer⟩ := s.tracked.acceptCmd_active_steer (b := h) hact
  have hstep := exec_controlPeriod_agreed s ha hb hrun (s.tracked.stagePicks_some hpick)
    ((s.tracked.acceptCmd_active_prepReq hact).trans hprep)
  refine ⟨_, hstep, ?_⟩
  rw [State.takeOver_idle _ (by rw [hsteer]; rfl) (by rw [hsteer]; rfl), hsteer]
  exact ⟨rfl, rfl, rfl, rfl, rfl⟩

theorem exec_controlPeriod_none {a b : HelmOut} (ha : a ≠ .lanesFail) (hb : b ≠ .lanesFail) (hrun : s.steer.running = true)
    (hprep : s.life.prepReq = false)
    (hpick : s.pick (s.steer.helmA.sends true && a.codeOk) (s.steer.helmB.sends true && b.codeOk) = none) :
    ∃ t, exec (.controlPeriod a b true) s = .next t ∧ t.steer.held = s.steer.held + 1 ∧ t.steer.cmd = s.steer.cmd ∧
      (s.steer.held < 3 → t.steer.driving = s.steer.driving) ∧
      (3 ≤ s.steer.held → t.steer.driving = false ∧ bit t.steer.fast.causes 4 = true ∧ bit t.steer.slow.causes 4 = true) := by
  obtain ⟨hkept, heffect⟩ := s.tracked.noCmd_effect
  refine ⟨_, exec_controlPeriod_agreed s ha hb hrun (s.tracked.stagePicks_none hpick) (hkept.trans hprep), ?_⟩
  rw [State.takeOver_keeps]
  exact heffect

/-! ### Helms (R111) -/

/-- Setting a Helm changes that Helm alone. -/
theorem State.setHelm_eq (b : Bool) (h : Helm) : s.setHelm b h = { s with steer := (s.setHelm b h).steer } := by
  cases b <;> rfl

@[simp] theorem State.helm_setHelm_self (b : Bool) (h : Helm) : (s.setHelm b h).helm b = h := by
  cases b <;> rfl

@[simp] theorem State.helm_setHelm_not (b : Bool) (h : Helm) : (s.setHelm b h).helm (!b) = s.helm (!b) := by
  cases b <;> rfl

/-- A Helm follows steering. -/
theorem State.helm_congr {s t : State} (h : t.steer = s.steer) (b : Bool) : t.helm b = s.helm b := by
  unfold State.helm
  rw [h]

/-- The end of a re-admission changes its record, its status and what is answered. -/
theorem State.readmitEnd_keeps (v state step : Nat) : s.readmitEnd v state step =
    { s with
      dict := (s.readmitEnd v state step).dict, free := (s.readmitEnd v state step).free, out := (s.readmitEnd v state step).out
      sideTx := (s.readmitEnd v state step).sideTx, tv := (s.readmitEnd v state step).tv, life := (s.readmitEnd v state step).life } := by
  unfold State.readmitEnd
  dsimp only
  split
  · rfl
  · rw [State.requestDone_keeps]
    split <;> split <;> rfl

@[simp] theorem State.readmitEnd_steer (v state step : Nat) : (s.readmitEnd v state step).steer = s.steer := by
  rw [State.readmitEnd_keeps]
@[simp] theorem State.readmitEnd_forge (v state step : Nat) : (s.readmitEnd v state step).forge = s.forge := by
  rw [State.readmitEnd_keeps]

@[simp] theorem State.readmitPassed_steer (v : Nat) : (s.readmitPassed v).steer = s.steer := by
  unfold State.readmitPassed
  split
  · rfl
  · rw [State.readmitEnd_steer]
    split
    · exact State.evt_steer ..
    · rfl

theorem State.helmReinit_due {b : Bool} (h : (s.helm b).st = 3) : s.helmReinit b =
    s.setHelm b { s.helm b with st := 2, syncAt := s.now, syncPeriods := 0, syncLanding := false } := if_pos h

/-- A resynchronised Helm is the ready standby, one claim below the last accepted one. -/
theorem State.helmReady_steer {b : Bool} (hst : (s.helm b).st = 2) (hper : 2 ≤ (s.helm b).syncPeriods) (hland : (s.helm b).syncLanding = true) :
    (s.helmReady b).steer =
      (s.setHelm b { s.helm b with st := 1, claim := (s.steer.lastClaim + 255) % 256, failedSync := 0 }).steer := by
  unfold State.helmReady
  dsimp only
  rw [if_pos (by simp [hst, hper, hland]), State.readmitPassed_steer, State.setCause_steer, State.evt_steer]

/-! ### The Ferry (R113) -/

theorem exec_ferryCommand_accepted {r : Req} {arg : Nat} (h : s.accepts r (entArg 0x6110 .u8 arg) (when (!s.standbyReady) 0x0601)) :
    ∃ t, exec (.ferryCommand r arg) s = .next t ∧ t.took r ∧ t.steer = { s.steer with ferryOrdered := true } := by
  refine ⟨_, rfl, s.hostWrite_took h, ?_⟩
  rw [s.hostWrite_accepted h, s.storeWrite_command (obj := 0x6110) rfl rfl rfl, State.accept_steer]
  rfl

/-! ### The obligation -/

/-- Settles O19: a period drives the command picked or does without one, a Helm comes back as the ready standby, and a Ferry is ordered. -/
theorem steeringHelmRows : Obligations.SteeringHelmRows := by
  unfold Obligations.SteeringHelmRows
  refine ⟨fun s hrun hprep => ⟨fun a b h ha hb hpick hact => exec_controlPeriod_picked s ha hb hrun hprep hpick hact,
      fun a b ha hb hpick => exec_controlPeriod_none s ha hb hrun hprep hpick⟩,
    fun s => ⟨fun h hst => ?_, fun h hst hper hland => ⟨s.helmReady (h == 1), rfl, ?_⟩, fun r arg h => exec_ferryCommand_accepted s h⟩⟩
  · refine ⟨_, congrArg Host.Outcome.next (s.helmReinit_due hst), ?_⟩
    rw [State.helm_setHelm_self]
    exact ⟨rfl, rfl, rfl, s.helm_setHelm_not _ _, s.setHelm_eq _ _⟩
  · have hready := s.helmReady_steer hst hper hland
    rw [State.helm_congr hready, State.helm_setHelm_self, State.helm_congr hready]
    exact ⟨rfl, rfl, s.helm_setHelm_not _ _⟩

end Sys2Proof.Machine
end

section
/-! Samples of the control engine (R115, R119): what a sample, a missing one and a fault do to the record of their loop, and that all that
follows a sample leaves the records of the loops as they are. -/

namespace Sys2Proof.Machine

variable (s : State)

/-! ### Records of the loops -/

/-- A record follows the list of records. -/
theorem State.loopInst_congr {s t : State} (h : t.forge.inst = s.forge.inst) (k i : Nat) : t.loopInst k i = s.loopInst k i := by
  unfold State.loopInst
  rw [h]

@[simp] theorem State.loopInst_setLoopInst_self (k i : Nat) (v : LoopInst) : (s.setLoopInst k i v).loopInst k i = v :=
  assocD_put_self ..

/-! ### What leaves the records as they are -/

@[simp] theorem State.readmitFailed_forge (v step : Nat) : (s.readmitFailed v step).forge = s.forge := by
  unfold State.readmitFailed
  split
  · rfl
  · rw [State.readmitEnd_forge, State.evt_forge]

@[simp] theorem State.quadLost_forge (q : Fin 4) : (s.quadLost q).forge = s.forge := by
  unfold State.quadLost State.sourceLost
  split <;> rfl

@[simp] theorem State.tapQuadBlind_forge (q : Fin 4) : (s.tapQuadBlind q).forge = s.forge := by
  unfold State.tapQuadBlind
  split <;> rfl

@[simp] theorem State.notLive_forge (q : Fin 4) (p : Nat → Bool) : (s.notLive q p).forge = s.forge := rfl

@[simp] theorem State.quadRetire_forge (q : Fin 4) (cause : Nat) : (s.quadRetire q cause).forge = s.forge := by
  unfold State.quadRetire
  simp

/-- A fault that counts against a Quadrant leaves the control engine as it is (R420). -/
theorem State.quadMismatch_forge (q : Fin 4) (cause : Nat) : (s.quadMismatch q cause).forge = s.forge := by
  unfold State.quadMismatch
  dsimp only
  split
  · rfl
  · split
    · simp
    · rw [apply_ite State.forge, State.quadRetire_forge, ite_self]
      simp

theorem State.biasLeft_inst (i : Nat) : (s.biasLeft i).forge.inst = s.forge.inst := by
  unfold State.biasLeft
  dsimp only
  split <;> split <;> simp

theorem State.biasSample_inst (k i : Nat) (e b : Int) : (s.biasSample k i e b).forge.inst = s.forge.inst := by
  unfold State.biasSample
  dsimp only
  split
  · split
    · split <;> rfl
    · exact s.biasLeft_inst i
  · rfl

theorem State.compStep_inst (k i : Nat) (e term : Int) : (s.compStep k i e term).forge.inst = s.forge.inst := by
  unfold State.compStep
  dsimp only
  split <;> rfl

/-- The axis of a steering slot stops with a fault of the slot; `l` are the faults that count (R119). -/
def State.axisStops (s : State) (k : Nat) (l : List (Nat × Nat)) : State :=
  let fast := lwOut (s.loopWord k) == 4
  ({ s with
      forge := { s.forge with faults := l }
      steer := { s.steer with fastStopped := s.steer.fastStopped || fast, slowStopped := s.steer.slowStopped || !fast } } : State).posInvalid fast 6

/-- After the third fault in 10 s the slot stays stopped. -/
def State.slotStays (s : State) (k : Nat) : State :=
  ({ s with forge := { s.forge with stoppedSlots := k :: s.forge.stoppedSlots } }.evt 0x3203 k).raiseCause 7

theorem State.axisStops_inst (k : Nat) (l : List (Nat × Nat)) : (s.axisStops k l).forge.inst = s.forge.inst := by
  unfold State.axisStops
  rw [State.posInvalid_forge]

theorem State.slotStays_inst (k : Nat) : (s.slotStays k).forge.inst = s.forge.inst := by
  unfold State.slotStays
  rw [State.raiseCause_forge, State.evt_forge]

/-- A fault of a steering slot stops its axis, and may leave the slot stopped. -/
theorem State.steerSlotFault_cases (k : Nat) : ∃ l, s.steerSlotFault k = (s.axisStops k l).slotStays k ∨ s.steerSlotFault k = s.axisStops k l :=
  ⟨((k, s.now) :: s.forge.faults).filter fun x => s.now < x.2 + 10 * secP,
    (Decidable.em _).imp (fun hthird => if_pos hthird) (fun hfew => if_neg hfew)⟩

theorem State.steerSlotFault_inst (k : Nat) : (s.steerSlotFault k).forge.inst = s.forge.inst := by
  obtain ⟨l, h | h⟩ := s.steerSlotFault_cases k
  · rw [h, State.slotStays_inst, State.axisStops_inst]
  · rw [h, State.axisStops_inst]

theorem State.loopFaultCount_inst (k i : Nat) : (s.loopFaultCount k i).forge.inst = s.forge.inst := by
  unfold State.loopFaultCount
  split
  · exact s.steerSlotFault_inst k
  · split
    · rw [State.quadMismatch_forge]
    · rfl

/-! ### The three outcomes of a sample instant -/

/-- The value computed at the instant before is applied. -/
def LoopInst.apply (x : LoopInst) : LoopInst := { x with running := true, appl := x.u, applDir := x.dir }

/-- One more sample is missing. -/
def LoopInst.miss (x : LoopInst) : LoopInst := { x.apply with missedNow := x.missedNow + 1, missedAll := min 255 (x.missedAll + 1) }

/-- A fault holds the loop off: it applies nothing and keeps nothing to apply. -/
theorem State.loopFault_inst (k i cause : Nat) :
    (s.loopFault k i cause).loopInst k i = { s.loopInst k i with faulted := true, u := 0, appl := 0 } := by
  unfold State.loopFault
  rw [State.loopInst_congr (congrArg Forge.inst (State.evt_forge ..)), State.loopInst_setLoopInst_self]

section
variable {k i : Nat} (hruns : s.loopRuns k = true) (hgood : (s.loopInst k i).faulted = false)
  (hinst : lwInst (s.loopWord k) = true ∨ i = 0)
include hruns hgood hinst

/-- The instant is one of a record that runs and is not held off. -/
theorem State.loopSample_served : ¬ (!s.loopRuns k || (s.loopInst k i).faulted || (!lwInst (s.loopWord k) && i != 0)) = true := by
  rcases hinst with h | rfl
  · simp [hruns, hgood, h]
  · simp [hruns, hgood]

/-- A late result holds the loop off (R119). -/
theorem State.loopStep_late : s.loopStep k i false = (s.loopFault k i 1).loopFaultCount k i := by
  have hsample : s.loopSample k i false = (s.loopFault k i 1, 1) := by
    unfold State.loopSample
    dsimp only
    rw [if_neg (s.loopSample_served hruns hgood hinst), if_pos Bool.not_false]
  unfold State.loopStep
  rw [hsample]
  exact if_neg Nat.one_ne_zero

/-- A single missing sample is counted, and the output computed before is applied. -/
theorem State.loopStep_missing
    (hmiss : (s.loopInput (lwIn (s.loopWord k)) i).2 = (s.loopInst k i).seen ∨ s.inputVoid (lwIn (s.loopWord k)) i = true)
    (hfirst : (s.loopInst k i).missedNow = 0) : s.loopStep k i true = s.setLoopInst k i (s.loopInst k i).miss := by
  have hsample : s.loopSample k i true = (s.setLoopInst k i (s.loopInst k i).miss, 0) := by
    unfold State.loopSample
    dsimp only
    rw [if_neg (s.loopSample_served hruns hgood hinst), if_neg (by decide), if_pos (by simpa using hmiss), if_neg (by simp [hfirst])]
    rfl
  unfold State.loopStep
  rw [hsample]
  exact if_pos rfl

/-- A fresh sample is entered in the record, and what follows it is the learning of the compensator and the settling of the bias. -/
theorem State.loopSample_fresh
    (hfresh : (s.loopInput (lwIn (s.loopWord k)) i).2 ≠ (s.loopInst k i).seen) (hvalid : s.inputVoid (lwIn (s.loopWord k)) i = false) :
    ∃ (t : State) (u : Nat) (dir err e term b : Int), s.loopSample k i true =
      (((t.setLoopInst k i { (s.loopInst k i).apply with
          u := u, dir := dir, err := err, missedNow := 0, seen := (s.loopInput (lwIn (s.loopWord k)) i).2 }).compStep k i e term).biasSample k i e b,
        0) :=
  ⟨_, _, _, _, _, _, _, (if_neg (s.loopSample_served hruns hgood hinst)).trans
    ((if_neg (by decide)).trans (if_neg (by simp [hfresh, hvalid])))⟩

/-- A fresh sample gives the next output, and the one computed before is applied. -/
theorem State.loopStep_fresh
    (hfresh : (s.loopInput (lwIn (s.loopWord k)) i).2 ≠ (s.loopInst k i).seen) (hvalid : s.inputVoid (lwIn (s.loopWord k)) i = false) :
    ∃ u dir err, (s.loopStep k i true).loopInst k i = { (s.loopInst k i).apply with
      u := u, dir := dir, err := err, missedNow := 0, seen := (s.loopInput (lwIn (s.loopWord k)) i).2 } := by
  obtain ⟨t, u, dir, err, e, term, b, hsample⟩ := s.loopSample_fresh hruns hgood hinst hfresh hvalid
  refine ⟨u, dir, err, ?_⟩
  unfold State.loopStep
  rw [hsample]
  dsimp only
  rw [if_pos rfl, State.loopInst_congr ((State.biasSample_inst ..).trans (State.compStep_inst ..)), State.loopInst_setLoopInst_self]

end

/-! ### The obligation -/

/-- Settles O20: a fresh sample, a missing one and a late result, each by what it makes of the record. -/
theorem loopSamples : Obligations.LoopSamples := by
  unfold Obligations.LoopSamples
  refine fun s k i hruns hgood hinst => ?_
  have hone : lwInst (s.loopWord k) = true ∨ i.val = 0 := hinst.imp_right fun h => congrArg Fin.val h
  refine ⟨fun hfresh hvalid => ?_, fun hmiss hfirst => ?_, ?_⟩
  · obtain ⟨u, dir, err, hrec⟩ := s.loopStep_fresh hruns hgood hone hfresh hvalid
    refine ⟨_, rfl, ?_⟩
    rw [hrec]
    exact ⟨rfl, rfl, rfl, rfl, hgood⟩
  · refine ⟨_, congrArg Host.Outcome.next (s.loopStep_missing hruns hgood hone hmiss hfirst), ?_⟩
    rw [State.loopInst_setLoopInst_self]
    exact ⟨congrArg (· + 1) hfirst, rfl, rfl, rfl⟩
  · refine ⟨_, congrArg Host.Outcome.next (s.loopStep_late hruns hgood hone), ?_⟩
    rw [State.loopInst_congr (State.loopFaultCount_inst ..), s.loopFault_inst]
    exact ⟨rfl, rfl, rfl⟩

end Sys2Proof.Machine
end

section
/-! Starts and stops of loops and steering, and the detector bias (R104, R118, R122 ... R124): the run flags that a start or a stop leaves in
effect, and what it leaves of steering. -/

namespace Sys2Proof.Machine

variable (s : State)

/-! ### Writes of one member -/

/-- No code of R50 is raised by the checks of a write that is accepted. -/
theorem State.notMem_codes_of_accepts {q : Req} {e : Entry} {codes : List Nat} (h : s.accepts q e codes) {c : Nat} (hc : c ∈ abortOrder) :
    c ∉ codes := fun hin => (firstAbort_eq_zero_iff _).1 h.2 c hc (List.mem_append_right _ hin)

/-- A write of one member that applies at once sets it (R15). -/
theorem State.storeWrite_member (q : Req) {e : Entry} {row : Row} (hf : Catalogue.find e.obj = some row) (hacc : row.acc ≠ .wo)
    (hshape : ∀ lo hi mult, row.shape ≠ .octets lo hi mult) (happ : row.app ≠ .lnd) {el : Nat} {v : Int}
    (hmember : written row e.el e.val = [(el, v)]) : (s.storeWrite q e 0).dict = (s.setObj e.obj el v).dict := by
  rw [s.storeWrite_atOnce q 0 hf hacc hshape happ, State.noteImm_dict, hmember]
  rfl

/-- The run flag of a loop slot takes the value written. -/
theorem State.storeWrite_loopFlag (q : Req) (k : Nat) {v : Int} (hv : Ty.bool.dec (Ty.bool.enc v) = v) :
    (s.storeWrite q (ent 0x6210 (k + 1) .bool v) 0).dict = (s.setObj 0x6210 (k + 1) v).dict := by
  obtain ⟨row, hf, hacc, hshape, hty, happ⟩ : ∃ row : Row, Catalogue.find 0x6210 = some row ∧ row.acc = .rw ∧ row.shape = .fixed 12 ∧
      row.ty = .bool ∧ row.app = .imm := ⟨_, rfl, rfl, rfl, rfl, rfl⟩
  refine s.storeWrite_member q (e := ent 0x6210 (k + 1) .bool v) hf (by simp [hacc]) (by simp [hshape]) (by simp [happ]) ?_
  simp [ent, written, hshape, hty, hv]

/-- So does that of steering. -/
theorem State.storeWrite_steerFlag (q : Req) {v : Int} (hv : Ty.bool.dec (Ty.bool.enc v) = v) :
    (s.storeWrite q (ent 0x6001 0 .bool v) 0).dict = (s.setObj 0x6001 0 v).dict := by
  obtain ⟨row, hf, hacc, hshape, hty, happ⟩ : ∃ row : Row, Catalogue.find 0x6001 = some row ∧ row.acc = .rw ∧ row.shape = .scalar ∧
      row.ty = .bool ∧ row.app = .imm := ⟨_, rfl, rfl, rfl, rfl, rfl⟩
  refine s.storeWrite_member q (e := ent 0x6001 0 .bool v) hf (by simp [hacc]) (by simp [hshape]) (by simp [happ]) ?_
  simp [ent, written, hshape, hty, hv]

/-! ### Loop slots (R118) -/

/-- Objects that starts and stops leave as they are: all but the run flags, the counts and codes of invalidations, and the drops. -/
def steerKeeps (o : Nat) : Prop := o ≠ 0x6210 ∧ o ≠ 0x6030 ∧ o ≠ 0xC310 ∧ o ≠ 0x9000

theorem State.biasLeft_steer (i : Nat) : (s.biasLeft i).steer = s.steer := by
  unfold State.biasLeft
  dsimp only
  split <;> split <;> simp

theorem State.biasLeft_obj (i : Nat) {o : Nat} (h : o ≠ 0x9000) (el : Nat) : (s.biasLeft i).obj o el = s.obj o el := by
  unfold State.biasLeft
  dsimp only
  split
  · rw [State.evt_obj_ne _ _ _ (Or.inl h)]
    split <;> rfl
  · split <;> rfl

theorem State.loopOn_steer (k : Nat) : (s.loopOn k).steer = s.steer := by
  unfold State.loopOn
  exact foldl_keeps State.steer (fun _ _ => State.setLoopInst_steer ..) _ _

theorem State.loopOn_dict (k : Nat) : (s.loopOn k).dict = (s.setObj 0x6210 (k + 1) 1).dict := by
  unfold State.loopOn
  exact foldl_keeps State.dict (fun _ _ => State.setLoopInst_dict ..) _ _

/-- A stop takes a Quadrant's bias out of settlement where the slot is its voltage loop (R124). -/
def State.biasOff (s : State) (k : Nat) : State := if s.voltageLoop k then (List.range 4).foldl State.biasLeft s else s

theorem State.biasOff_steer (k : Nat) : (s.biasOff k).steer = s.steer := by
  unfold State.biasOff
  split
  · exact foldl_keeps State.steer State.biasLeft_steer _ _
  · rfl

theorem State.biasOff_obj (k : Nat) {o : Nat} (h : o ≠ 0x9000) (el : Nat) : (s.biasOff k).obj o el = s.obj o el := by
  unfold State.biasOff
  split
  · exact foldl_keeps (fun t => t.obj o el) (fun t i => t.biasLeft_obj i h el) _ _
  · rfl

theorem State.loopOff_steer (k : Nat) : (s.loopOff k).steer = s.steer :=
  (foldl_keeps State.steer (fun _ _ => State.setLoopInst_steer ..) _ _).trans (s.biasOff_steer k)

theorem State.loopOff_dict (k : Nat) : (s.loopOff k).dict = ((s.biasOff k).setObj 0x6210 (k + 1) 0).dict :=
  foldl_keeps State.dict (fun _ _ => State.setLoopInst_dict ..) _ _

/-- A slot runs by its flag. -/
theorem State.loopRuns_of_obj {k : Nat} {v : Int} (h : s.obj 0x6210 (k + 1) = v) : s.loopRuns k = (v == 1) := by
  unfold State.loopRuns
  rw [h]

theorem State.loopRuns_congr {s t : State} (h : t.dict = s.dict) (k : Nat) : t.loopRuns k = s.loopRuns k := by
  unfold State.loopRuns
  rw [State.obj_congr h]

/-- A write of 01h that leaves no steering slot without steering makes the slot run. -/
theorem State.loopRunWrite_on {k : Nat} (was : Bool) (hflag : s.obj 0x6210 (k + 1) = 1) (hsteer : s.steerSlot k = true → s.steer.running = true) :
    (s.loopRunWrite k true was).loopRuns k = true := by
  unfold State.loopRunWrite
  split
  · next hslot =>
    rw [hsteer hslot]
    exact State.loopRuns_of_obj _ (State.obj_setObj_self ..)
  · cases was with
    | false => exact State.loopRuns_of_obj _ ((State.obj_congr (s.loopOn_dict k) _ _).trans (State.obj_setObj_self ..))
    | true => exact State.loopRuns_of_obj _ hflag

/-- A write of 00h that stops no steering slot under steering ends the slot. -/
theorem State.loopRunWrite_off {k : Nat} (was : Bool) (hflag : s.obj 0x6210 (k + 1) = 0) (hsteer : s.steerSlot k = true → s.steer.running = false) :
    (s.loopRunWrite k false was).loopRuns k = false := by
  unfold State.loopRunWrite
  split
  · next hslot =>
    rw [hsteer hslot]
    exact State.loopRuns_of_obj _ (State.obj_setObj_self ..)
  · cases was with
    | false => exact State.loopRuns_of_obj _ hflag
    | true => exact State.loopRuns_of_obj _ ((State.obj_congr (s.loopOff_dict k) _ _).trans (State.obj_setObj_self ..))

/-- A steering slot may be started only while steering runs. -/
theorem State.running_of_loopStart {q : Req} {e : Entry} {k : Nat} (h : s.accepts q e (s.loopStartCodes k)) (hslot : s.steerSlot k = true) :
    s.steer.running = true := by
  have hno := s.notMem_codes_of_accepts h (c := 0x0601) (by decide)
  unfold State.loopStartCodes at hno
  rw [if_pos hslot, mem_when] at hno
  simpa using hno

/-- And it may be stopped only while steering does not. -/
theorem State.stopped_of_loopStop {q : Req} {e : Entry} {k : Nat} (h : s.accepts q e (s.loopStopCodes k)) (hslot : s.steerSlot k = true) :
    s.steer.running = false := by
  have hno := s.notMem_codes_of_accepts h (c := 0x0601) (by decide)
  unfold State.loopStopCodes at hno
  unfold State.steerSlot at hslot
  exact Bool.eq_false_iff.2 fun hrun => hno (mem_when.2 ⟨by simp [hslot, hrun], rfl⟩)

/-! ### Steering (R104, R118) -/

theorem State.respondLate_dict (x : Running) (kind : Nat) {ab : Nat} (body : Octets) (h : ab ≠ 0x0701) :
    (s.respondLate x kind ab body).dict = s.dict := by
  unfold State.respondLate
  split
  · unfold State.respondTo
    dsimp only
    rw [if_neg h, State.sendMsg_dict]
  · rfl

theorem State.commandDone_dict (obj : Nat) : (s.commandDone obj).dict = s.dict := by
  unfold State.commandDone
  split
  · rfl
  · dsimp only
    split
    · rfl
    · exact State.respondLate_dict _ _ _ _ (by decide)

theorem State.logInvalid_obj (f : Bool) (c : Nat) {o : Nat} (h : steerKeeps o) (el : Nat) : (s.logInvalid f c).obj o el = s.obj o el := by
  obtain ⟨-, hcount, hstop, hdrops⟩ := h
  have hset : ∀ v, ((s.bump 0x6030 5 1).setObj 0x6030 6 v).obj o el = s.obj o el := fun v => by
    rw [State.obj_setObj_ne _ _ (Or.inl hcount), State.bump_obj_ne _ _ _ _ (Or.inl hcount)]
  unfold State.logInvalid
  dsimp only
  rw [State.evt_obj_ne _ _ _ (Or.inl hdrops)]
  split
  · rw [State.evt_obj_ne _ _ _ (Or.inl hdrops), State.bump_obj_ne _ _ _ _ (Or.inl hstop)]
    exact hset _
  · exact hset _

theorem State.posInvalid_obj (f : Bool) (c : Nat) {o : Nat} (h : steerKeeps o) (el : Nat) : (s.posInvalid f c).obj o el = s.obj o el := by
  have hset : ∀ a, (s.setAxis f a).obj o el = s.obj o el := fun a => State.obj_congr (s.setAxis_dict f a) o el
  rcases s.posInvalid_cases f c with hcase | hcase
  · rw [hcase, State.logInvalid_obj _ f c h, hset]
  · rw [hcase, hset]

theorem State.streamCheck_obj (f : Bool) {o : Nat} (h : steerKeeps o) (el : Nat) : (s.streamCheck f).obj o el = s.obj o el := by
  unfold State.streamCheck
  split
  · rfl
  · exact s.posInvalid_obj f 5 h el

theorem State.streamCheck_running (f : Bool) : (s.streamCheck f).steer.running = s.steer.running := by
  unfold State.streamCheck
  split
  · rfl
  · rw [State.posInvalid_steer, State.setAxis_steer]

theorem State.causeGone_dict (f : Bool) (c : Nat) : (s.causeGone f c).dict = s.dict := by
  rw [State.causeGone_eq_setAxis, State.setAxis_dict]

theorem State.causeGone_running (f : Bool) (c : Nat) : (s.causeGone f c).steer.running = s.steer.running := by
  rw [State.causeGone_eq_setAxis, State.setAxis_steer]

@[simp] theorem State.setHelm_dict (b : Bool) (h : Helm) : (s.setHelm b h).dict = s.dict := by
  rw [State.setHelm_eq]

/-- A Helm that is set unless it is retired changes no value in effect. -/
theorem State.placeHelm_dict (b : Bool) (h : Helm) : (if (s.helm b).st = 4 then s else s.setHelm b h).dict = s.dict := by
  split
  · rfl
  · exact s.setHelm_dict b h

/-- Nor does a Helm that is active again, and steering runs on or not as before. -/
theorem State.helmBack_ite (c : Prop) [Decidable c] :
    (if c then s.helmBack else s).dict = s.dict ∧ (if c then s.helmBack else s).steer.running = s.steer.running := by
  split <;> exact ⟨rfl, rfl⟩

/-- A start puts the Helms and the stage in their places, looks at the streams, and ends cause 6. -/
theorem State.steerStart_stages : ∃ t : State, s.steerStart = (((t.streamCheck true).streamCheck false).causeGone true 6).causeGone false 6 ∧
    t.dict = s.dict ∧ t.steer.running = true := by
  refine ⟨_, rfl, ?_, ?_⟩
  · rw [(State.helmBack_ite _ _).1]
    exact (State.placeHelm_dict _ true _).trans (State.placeHelm_dict s false _)
  · rw [(State.helmBack_ite _ _).2]

theorem State.steerStart_running : s.steerStart.steer.running = true := by
  obtain ⟨t, hstart, -, hrun⟩ := s.steerStart_stages
  rw [hstart, State.causeGone_running, State.causeGone_running, State.streamCheck_running, State.streamCheck_running, hrun]

theorem State.steerStart_obj {o : Nat} (h : steerKeeps o) (el : Nat) : s.steerStart.obj o el = s.obj o el := by
  obtain ⟨t, hstart, hdict, -⟩ := s.steerStart_stages
  rw [hstart, State.obj_congr (State.causeGone_dict ..), State.obj_congr (State.causeGone_dict ..), State.streamCheck_obj _ _ h,
    State.streamCheck_obj _ _ h, State.obj_congr hdict]

/-- An ordered Ferry is answered where it ends: neither a value in effect nor steering changes. -/
theorem State.commandDone_ite (c : Prop) [Decidable c] (obj : Nat) :
    (if c then s.commandDone obj else s).dict = s.dict ∧ (if c then s.commandDone obj else s).steer = s.steer := by
  split
  · exact ⟨s.commandDone_dict obj, s.commandDone_steer obj⟩
  · exact ⟨rfl, rfl⟩

/-- A stop turns the stage off, and gives both axes cause 6. -/
theorem State.steerStop_stages : ∃ t : State, s.steerStop = (t.posInvalid true 6).posInvalid false 6 ∧ t.dict = s.dict ∧
    t.steer.running = false ∧ t.steer.driving = false := by
  refine ⟨_, rfl, ?_, ?_⟩
  · rw [(State.commandDone_ite ..).1]
    exact (State.placeHelm_dict _ true _).trans (State.placeHelm_dict s false _)
  · rw [(State.commandDone_ite ..).2]
    exact ⟨rfl, rfl⟩

theorem State.steerStop_steer : s.steerStop.steer.running = false ∧ s.steerStop.steer.driving = false ∧
    s.steerStop.steer.fast.valid = false ∧ s.steerStop.steer.slow.valid = false := by
  obtain ⟨t, hstop, -, hrun, hdrive⟩ := s.steerStop_stages
  rw [hstop]
  simp [hrun, hdrive]

theorem State.steerStop_obj {o : Nat} (h : steerKeeps o) (el : Nat) : s.steerStop.obj o el = s.obj o el := by
  obtain ⟨t, hstop, hdict, -⟩ := s.steerStop_stages
  rw [hstop, State.posInvalid_obj _ _ _ h, State.posInvalid_obj _ _ _ h, State.obj_congr hdict]

theorem State.loopOn_obj (k : Nat) {o : Nat} (h : steerKeeps o) (el : Nat) : (s.loopOn k).obj o el = s.obj o el :=
  (State.obj_congr (s.loopOn_dict k) o el).trans (State.obj_setObj_ne _ _ (Or.inl h.1))

theorem State.loopOff_obj (k : Nat) {o : Nat} (h : steerKeeps o) (el : Nat) : (s.loopOff k).obj o el = s.obj o el := by
  obtain ⟨hflag, -, -, hdrops⟩ := h
  rw [State.obj_congr (s.loopOff_dict k), State.obj_setObj_ne _ _ (Or.inl hflag), s.biasOff_obj k hdrops]

/-- Steering runs once it has started with its slots. -/
theorem State.steeringOn_running : s.steeringOn.steer.running = true := by
  have hslots := foldl_keeps State.steer State.loopOn_steer s.steerStart.steerSlots s.steerStart
  exact (congrArg Steer.running hslots).trans s.steerStart_running

theorem State.steeringOn_obj {o : Nat} (h : steerKeeps o) (el : Nat) : s.steeringOn.obj o el = s.obj o el :=
  (foldl_keeps (fun t => t.obj o el) (fun t k => t.loopOn_obj k h el) s.steerStart.steerSlots s.steerStart).trans (s.steerStart_obj h el)

theorem State.steeringOff_steer : s.steeringOff.steer = s.steerStop.steer :=
  foldl_keeps State.steer State.loopOff_steer _ _

theorem State.steeringOff_obj {o : Nat} (h : steerKeeps o) (el : Nat) : s.steeringOff.obj o el = s.obj o el :=
  (foldl_keeps (fun t => t.obj o el) (fun t k => t.loopOff_obj k h el) _ _).trans (s.steerStop_obj h el)

theorem steerKeeps_flag : steerKeeps 0x6001 := by
  unfold steerKeeps
  decide

/-! ### The rows of starts and stops -/

/-- A write of the run flag sets it, and moves no slot to another target. -/
theorem State.loopFlag_written (q : Req) (k : Nat) {v : Int} (hv : Ty.bool.dec (Ty.bool.enc v) = v) :
    (s.storeWrite q (ent 0x6210 (k + 1) .bool v) 0).obj 0x6210 (k + 1) = v ∧
      (s.storeWrite q (ent 0x6210 (k + 1) .bool v) 0).steerSlot k = s.steerSlot k := by
  have hdict := State.obj_congr (s.storeWrite_loopFlag q k hv)
  refine ⟨(hdict _ _).trans (State.obj_setObj_self ..), ?_⟩
  unfold State.steerSlot State.loopWord State.objN
  rw [hdict, State.obj_setObj_ne _ _ (Or.inl (by decide))]

theorem exec_loopStart_accepted {r : Req} {k : Fin 12} (h : s.accepts r (ent 0x6210 (k.val + 1) .bool 1) (s.loopStartCodes k)) :
    ∃ t, exec (.loopStart r k) s = .next t ∧ t.took r ∧ t.loopRuns k = true := by
  obtain ⟨hflag, hslot⟩ := s.loopFlag_written r k.val (v := 1) (by decide)
  have heffect := State.loopRunWrite_on _ (s.loopRuns k) hflag fun hs => by
    rw [State.storeWrite_steer]
    exact s.running_of_loopStart h (hslot ▸ hs)
  refine ⟨_, rfl, s.hostWrite_took h, ?_⟩
  rw [s.hostWrite_accepted h]
  exact (State.loopRuns_congr (State.accept_dict ..) k).trans heffect

theorem exec_loopStop_accepted {r : Req} {k : Fin 12} (h : s.accepts r (ent 0x6210 (k.val + 1) .bool 0) (s.loopStopCodes k)) :
    ∃ t, exec (.loopStop r k) s = .next t ∧ t.took r ∧ t.loopRuns k = false := by
  obtain ⟨hflag, hslot⟩ := s.loopFlag_written r k.val (v := 0) (by decide)
  have heffect := State.loopRunWrite_off _ (s.loopRuns k) hflag fun hs => by
    rw [State.storeWrite_steer]
    exact s.stopped_of_loopStop h (hslot ▸ hs)
  refine ⟨_, rfl, s.hostWrite_took h, ?_⟩
  rw [s.hostWrite_accepted h]
  exact (State.loopRuns_congr (State.accept_dict ..) k).trans heffect

theorem exec_steeringStart_accepted {r : Req} (h : s.accepts r (ent 0x6001 0 .bool 1) s.steerStartCodes) :
    ∃ t, exec (.steeringStart r) s = .next t ∧ t.took r ∧ t.steer.running = true ∧ t.obj 0x6001 0 = 1 := by
  refine ⟨_, rfl, s.hostWrite_took h, ?_⟩
  have hflag : (s.storeWrite r (ent 0x6001 0 .bool 1) 0).obj 0x6001 0 = 1 :=
    (State.obj_congr (s.storeWrite_steerFlag r (by decide)) _ _).trans (State.obj_setObj_self ..)
  rw [s.hostWrite_accepted h, State.accept_steer, State.obj_congr (State.accept_dict ..)]
  split
  · next hrun => exact ⟨hrun, hflag⟩
  · exact ⟨State.steeringOn_running _, (State.steeringOn_obj _ steerKeeps_flag 0).trans hflag⟩

theorem exec_steeringStop_accepted {r : Req} (h : s.accepts r (ent 0x6001 0 .bool 0) s.steerStopCodes) :
    ∃ t, exec (.steeringStop r) s = .next t ∧ t.took r ∧ t.steer.running = false ∧ t.obj 0x6001 0 = 0 ∧
      (s.steer.running = true → t.steer.fast.valid = false ∧ t.steer.slow.valid = false ∧ t.steer.driving = false) := by
  refine ⟨_, rfl, s.hostWrite_took h, ?_⟩
  have hflag : (s.storeWrite r (ent 0x6001 0 .bool 0) 0).obj 0x6001 0 = 0 :=
    (State.obj_congr (s.storeWrite_steerFlag r (by decide)) _ _).trans (State.obj_setObj_self ..)
  rw [s.hostWrite_accepted h, State.accept_steer, State.obj_congr (State.accept_dict ..)]
  split
  · obtain ⟨hrun, hdrive, hfast, hslow⟩ := State.steerStop_steer (s.storeWrite r (ent 0x6001 0 .bool 0) 0)
    rw [State.steeringOff_steer]
    exact ⟨hrun, (State.steeringOff_obj _ steerKeeps_flag 0).trans hflag, fun _ => ⟨hfast, hslow, hdrive⟩⟩
  · next hrun =>
    rw [State.storeWrite_steer] at hrun ⊢
    exact ⟨Bool.eq_false_iff.2 hrun, hflag, fun h => absurd h hrun⟩

/-! ### Compensators (R122) -/

/-- A number that an association list does not hold has the value of none. -/
theorem assocD_of_not_any {α : Type} (d : α) {l : List (Nat × α)} {k : Nat} (h : (l.any fun kv => kv.1 == k) = false) : assocD d l k = d := by
  induction l with
  | nil => rfl
  | cons p l ih =>
    obtain ⟨hp, hl⟩ := Bool.or_eq_false_iff.1 ((List.any_cons ..).symm.trans h)
    exact (if_neg (by simpa using hp)).trans (ih hl)

/-- A cleared table holds nothing, whether it had been made or not. -/
theorem State.compClear_comp (n : Nat) :
    (assocD comp0 (s.compClear n).forge.comps n).tab = [] ∧ (assocD comp0 (s.compClear n).forge.comps n).term = 0 := by
  unfold State.compClear
  split
  · rw [assocD_put_self]
    exact ⟨rfl, rfl⟩
  · next h =>
    rw [assocD_of_not_any comp0 (Bool.eq_false_iff.2 h)]
    exact ⟨rfl, rfl⟩

theorem exec_compensatorClear_accepted {r : Req} {n : Nat} (h : s.accepts r (entArg 0x6403 .u8 n) []) :
    ∃ t, exec (.compensatorClear r n) s = .next t ∧ t.took r ∧ (assocD comp0 t.forge.comps n).tab = [] ∧
      (assocD comp0 t.forge.comps n).term = 0 := by
  refine ⟨_, rfl, s.hostWrite_took h, ?_⟩
  rw [s.hostWrite_accepted h, s.storeWrite_command (obj := 0x6403) rfl rfl rfl, State.accept_forge]
  exact s.compClear_comp n

/-! ### Detector bias (R123, R124) -/

/-- The record of a Quadrant's bias, replaced. -/
def State.setBias (s : State) (q : Fin 4) (b : Bias) : State := { s with forge := { s.forge with bias := s.forge.bias.set q b } }

@[simp] theorem State.bias_setBias_self (q : Fin 4) (b : Bias) : (s.setBias q b).forge.bias.get q = b :=
  Vector.getElem_set_self q.isLt

theorem State.biasSettled_due {q : Fin 4} {t : Nat} (hband : (s.forge.bias.get q).inBand = some t) (hdue : t + msP ≤ s.now) :
    s.biasSettled q = s.setBias q { s.forge.bias.get q with settled := true } := by
  unfold State.biasSettled
  simp only [hband]
  exact if_pos hdue

theorem State.tempFallback_due {q : Fin 4} {t : Nat} (hnamed : 0 ≤ s.obj 0x6500 (4 * q + 4)) (hlost : (s.forge.bias.get q).lostAt = some t)
    (hfirst : (s.forge.bias.get q).fallback = false) (hdue : t + 100 * msP ≤ s.now) :
    s.tempFallback q = (s.setBias q { s.forge.bias.get q with fallback := true }).evt 0x1203 q.val := by
  unfold State.tempFallback
  simp only [if_neg (Int.not_lt.2 hnamed), hlost]
  exact if_pos (by simp [hfirst, hdue])

/-! ### The obligation -/

/-- Settles O21: run flags follow their writes, steering with them, a table is cleared, and the bias settles or falls back. -/
theorem loopAndBiasRows : Obligations.LoopAndBiasRows := by
  unfold Obligations.LoopAndBiasRows
  refine ⟨fun s => ⟨fun r k h => exec_loopStart_accepted s h, fun r k h => exec_loopStop_accepted s h,
      fun r h => exec_steeringStart_accepted s h,
      fun r h => exec_steeringStop_accepted s h, fun r n h => exec_compensatorClear_accepted s h⟩,
    fun s q => ⟨fun t hband hdue => ?_, fun t hnamed hlost hfirst hdue => ?_⟩⟩
  · exact ⟨_, congrArg Host.Outcome.next (s.biasSettled_due hband hdue), s.bias_setBias_self q _, rfl⟩
  · refine ⟨_, congrArg Host.Outcome.next (s.tempFallback_due hnamed hlost hfirst hdue), ?_⟩
    rw [State.evt_forge, State.bias_setBias_self]

end Sys2Proof.Machine
end

section
/-! Visits, peak searches, stamps and microcode banks (R150, R153, R165, R191, R195, R225): read after write for the cells, contexts and
shots of a Quadrant, what the export of a finished cell leaves alone, and the four rows. -/

namespace Sys2Proof.Machine

variable (s : State)

/-! ### A list with the elements of a key changed -/

/-- Where a change keeps the key, the first element with the key is the one that was first, changed. -/
theorem find?_map_ite {α : Type} {p : α → Bool} {g : α → α} (hg : ∀ x, p x = true → p (g x) = true) (l : List α) :
    (l.map fun x => if p x then g x else x).find? p = (l.find? p).map g := by
  induction l with
  | nil => rfl
  | cons x l ih =>
    cases hx : p x with
    | true => simp [hx, hg x hx]
    | false => simpa [hx] using ih

/-! ### Cells and contexts of a Quadrant -/

@[simp] theorem State.cru_modCru_self (q : Fin 4) (f : Crucible → Crucible) : (s.modCru q f).cru q = f (s.cru q) :=
  congrArg Quad.cru (s.quad_modQuad_self q _)

/-- The Crucible of a Quadrant follows the vector of the four. -/
theorem State.cru_congr {s t : State} (h : t.quads = s.quads) (q : Fin 4) : t.cru q = s.cru q :=
  congrArg Quad.cru (State.quad_congr h q)

/-- The record of a cell follows the list of cells. -/
theorem State.cellRec_congr {s t : State} {q : Fin 4} (h : (t.cru q).cells = (s.cru q).cells) (frame cell : Nat) :
    t.cellRec q frame cell = s.cellRec q frame cell := by
  unfold State.cellRec
  rw [h]

/-- So it is kept by a change of the Crucible that keeps the cells. -/
theorem State.modCru_cellRec {q : Fin 4} {f : Crucible → Crucible} (hf : ∀ k, (f k).cells = k.cells) (frame cell : Nat) :
    (s.modCru q f).cellRec q frame cell = s.cellRec q frame cell :=
  State.cellRec_congr ((congrArg Crucible.cells (s.cru_modCru_self q f)).trans (hf _)) frame cell

/-- A context follows the list of contexts. -/
theorem State.ctx_congr {s t : State} {q : Fin 4} (h : (t.cru q).ctxs = (s.cru q).ctxs) (frame cell chan : Nat) (zoom : Bool) :
    t.ctx q frame cell chan zoom = s.ctx q frame cell chan zoom := by
  unfold State.ctx
  rw [h]

/-- The record of a cell names the cell and its frame. -/
theorem State.cellRec_names (q : Fin 4) (frame cell : Nat) : (s.cellRec q frame cell).frame = frame ∧ (s.cellRec q frame cell).cell = cell := by
  unfold State.cellRec
  cases hfind : (s.cru q).cells.find? fun x => x.frame == frame && x.cell == cell with
  | none => exact ⟨rfl, rfl⟩
  | some r => simpa using List.find?_some hfind

theorem State.cellRec_setCell_self {q : Fin 4} {r : CellRec} {frame cell : Nat} (hr : r.frame = frame ∧ r.cell = cell) :
    (s.setCell q r).cellRec q frame cell = r := by
  obtain ⟨rfl, rfl⟩ := hr
  unfold State.cellRec State.setCell
  rw [State.cru_modCru_self]
  split
  · next hany =>
    have hkept := find?_map_ite (p := fun x : CellRec => x.frame == r.frame && x.cell == r.cell) (g := fun _ => r) (by simp) (s.cru q).cells
    obtain ⟨x, hx⟩ := Option.isSome_iff_exists.1 (List.find?_isSome.2 (List.any_eq_true.1 hany))
    simp only [hkept, hx, Option.map_some, Option.getD_some]
  · next hnone =>
    have hno : (s.cru q).cells.find? (fun x => x.frame == r.frame && x.cell == r.cell) = none := by
      simpa using hnone
    simp [List.find?_append, hno]

@[simp] theorem State.setCell_ctxs (q : Fin 4) (r : CellRec) : ((s.setCell q r).cru q).ctxs = (s.cru q).ctxs := by
  unfold State.setCell
  rw [State.cru_modCru_self]
  split <;> rfl

/-- A context read after a change that keeps what names it. -/
theorem State.ctx_modCtx_self {q : Fin 4} {frame cell chan : Nat} {zoom : Bool} {f : Ctx → Ctx}
    (hf : ∀ k, (f k).frame = k.frame ∧ (f k).cell = k.cell ∧ (f k).chan = k.chan ∧ (f k).zoom = k.zoom) :
    (s.modCtx q frame cell chan zoom f).ctx q frame cell chan zoom = (s.ctx q frame cell chan zoom).map f := by
  unfold State.ctx State.modCtx
  rw [State.cru_modCru_self]
  refine find?_map_ite (fun k hk => ?_) _
  obtain ⟨hframe, hcell, hchan, hzoom⟩ := hf k
  rwa [hframe, hcell, hchan, hzoom]

/-! ### The export of a finished cell (R173) -/

@[simp] theorem State.reserve_quads (n : Fin 4) (l : Nat) : (s.reserve n l).1.quads = s.quads := by
  unfold State.reserve
  dsimp only
  split
  · rfl
  · exact State.bump_quads ..

@[simp] theorem State.commit_quads (n : Fin 4) (l : Nat) (o : Octets) (frame : Nat) : (s.commit n l o frame).quads = s.quads := rfl

@[simp] theorem State.commitExport_quads (l : Fin 2) (frame : Nat) : (s.commitExport l frame).quads = s.quads := by
  unfold State.commitExport
  split
  · rfl
  · split
    · rfl
    · simp

@[simp] theorem State.putDump_quads (l : Fin 2) (frame : Nat) (o : Octets) : (s.putDump l frame o).quads = s.quads := by
  unfold State.putDump
  split
  · exact State.bump_quads ..
  · split
    · simp
    · dsimp only
      split
      · split <;> simp
      · simp

@[simp] theorem State.shipDump_quads (frame : Nat) (q : Fin 4) (o : Octets) : (s.shipDump frame q o).quads = s.quads := by
  unfold State.shipDump
  split
  · exact State.bump_quads ..
  · exact foldl_keeps State.quads (fun t l => t.putDump_quads l frame o) _ s

/-- Dumps go to the queues and links: no Quadrant changes. -/
@[simp] theorem State.exportCell_quads (q : Fin 4) (frame cell : Nat) : (s.exportCell q frame cell).quads = s.quads := by
  unfold State.exportCell
  split
  · exact foldl_keeps State.quads (fun t k => t.shipDump_quads frame q _) _ s
  · rfl

/-! ### The close of a visit (R150, R153) -/

/-- Which visits of a cell have closed. -/
def CellRec.visitsClosed (r : CellRec) : Bool × Bool := (r.coarseClosed, r.zoomClosed)

/-- The record of a cell once it is finished, once its search has ended, and once a visit of it has closed. -/
def CellRec.finish (r : CellRec) (todo : List Nat) : CellRec := { r with finished := true, todo := todo }
def CellRec.endSearch (r : CellRec) (need : Nat) : CellRec := { r with searched := true, need := need }
def CellRec.closeCoarse (r : CellRec) : CellRec := { r with coarseClosed := true }
def CellRec.closeZoom (r : CellRec) : CellRec := { r with zoomClosed := true }

/-- A cell finishes by its record and its place in line for the echo engine, and is exported. -/
theorem State.cellFinish_stages {q : Fin 4} {frame cell : Nat} (h : (s.cellRec q frame cell).finished = false) :
    ∃ todo, s.cellFinish q frame cell = ((s.setCell q ((s.cellRec q frame cell).finish todo)).modCru q
      fun k => { k with fin := k.fin ++ [(frame, cell)] }).exportCell q frame cell :=
  ⟨_, if_neg (by simp [h])⟩

/-- Finishing a cell opens and closes no visit. -/
theorem State.cellFinish_visitsClosed (q : Fin 4) (frame cell : Nat) :
    ((s.cellFinish q frame cell).cellRec q frame cell).visitsClosed = (s.cellRec q frame cell).visitsClosed := by
  cases hfin : (s.cellRec q frame cell).finished with
  | true => rw [show s.cellFinish q frame cell = s from if_pos hfin]
  | false =>
    obtain ⟨todo, hstages⟩ := s.cellFinish_stages hfin
    rw [hstages, State.cellRec_congr (congrArg Crucible.cells (State.cru_congr (State.exportCell_quads ..) q)),
      State.modCru_cellRec _ (by exact fun _ => rfl), State.cellRec_setCell_self s (by exact s.cellRec_names q frame cell)]
    rfl

/-- The end of a cell's search is noted in its record, or has not come. -/
theorem State.cellSearched_cases (q : Fin 4) (frame cell : Nat) : s.cellSearched q frame cell = s ∨
    ∃ need, s.cellSearched q frame cell = s.setCell q ((s.cellRec q frame cell).endSearch need) := by
  unfold State.cellSearched
  dsimp only
  split
  · exact Or.inr ⟨_, rfl⟩
  · exact Or.inl rfl

/-- The end of a cell's search opens and closes no visit. -/
theorem State.cellSearched_visitsClosed (q : Fin 4) (frame cell : Nat) :
    ((s.cellSearched q frame cell).cellRec q frame cell).visitsClosed = (s.cellRec q frame cell).visitsClosed := by
  rcases s.cellSearched_cases q frame cell with hsame | ⟨need, hnoted⟩
  · rw [hsame]
  · rw [hnoted, State.cellRec_setCell_self s (by exact s.cellRec_names q frame cell)]
    rfl

theorem State.cellSearched_ctxs (q : Fin 4) (frame cell : Nat) : ((s.cellSearched q frame cell).cru q).ctxs = (s.cru q).ctxs := by
  rcases s.cellSearched_cases q frame cell with hsame | ⟨need, hnoted⟩
  · rw [hsame]
  · rw [hnoted, State.setCell_ctxs]

/-- A close is recorded, and the contexts of the cell take no more pours; the coarse close gives them the background of their sector. -/
def State.shutVisit (s : State) (q : Fin 4) (frame cell pass : Nat) (r : CellRec) : State :=
  (s.setCell q r).modCru q fun k => { k with ctxs := k.ctxs.map fun x =>
    if x.frame == frame && x.cell == cell then
      { x with closed := true, bg := if pass = 0 then AMap.get 0 k.bg (16 * x.chan + (s.setCell q r).sectorOf cell) else x.bg }
    else x }

theorem State.shutVisit_cellRec {q : Fin 4} {r : CellRec} {frame cell : Nat} (hr : r.frame = frame ∧ r.cell = cell) (pass : Nat) :
    (s.shutVisit q frame cell pass r).cellRec q frame cell = r := by
  unfold State.shutVisit
  rw [State.modCru_cellRec _ (by exact fun _ => rfl), s.cellRec_setCell_self hr]

theorem State.visitClose_coarse {q : Fin 4} {frame cell : Nat} (h : (s.cellRec q frame cell).coarseClosed = false) :
    s.visitClose q frame cell 0 =
      if s.hasZoom q cell then
        (s.shutVisit q frame cell 0 (s.cellRec q frame cell).closeCoarse).cellSearched q frame cell
      else (s.shutVisit q frame cell 0 (s.cellRec q frame cell).closeCoarse).cellFinish q frame cell :=
  if_neg (by simp [h])

theorem State.visitClose_zoom {q : Fin 4} {frame cell : Nat} (h : (s.cellRec q frame cell).zoomClosed = false) :
    s.visitClose q frame cell 1 = (s.shutVisit q frame cell 1 (s.cellRec q frame cell).closeZoom).cellFinish q frame cell :=
  if_neg (by simp [h])

/-- After its close the coarse visit is closed, whether a search starts or the cell is finished. -/
theorem State.visitClose_coarseClosed (q : Fin 4) (frame cell : Nat) :
    ((s.visitClose q frame cell 0).cellRec q frame cell).coarseClosed = true := by
  cases hopen : (s.cellRec q frame cell).coarseClosed with
  | true => rw [show s.visitClose q frame cell 0 = s from if_pos hopen, hopen]
  | false =>
    have hclosed : ((s.visitClose q frame cell 0).cellRec q frame cell).visitsClosed = (s.cellRec q frame cell).closeCoarse.visitsClosed := by
      rw [s.visitClose_coarse hopen]
      split
      · rw [State.cellSearched_visitsClosed, s.shutVisit_cellRec (by exact s.cellRec_names q frame cell)]
      · rw [State.cellFinish_visitsClosed, s.shutVisit_cellRec (by exact s.cellRec_names q frame cell)]
    exact congrArg Prod.fst hclosed

/-- After its close the zoom visit is closed. -/
theorem State.visitClose_zoomClosed (q : Fin 4) (frame cell : Nat) :
    ((s.visitClose q frame cell 1).cellRec q frame cell).zoomClosed = true := by
  cases hopen : (s.cellRec q frame cell).zoomClosed with
  | true => rw [show s.visitClose q frame cell 1 = s from if_pos hopen, hopen]
  | false =>
    have hclosed : ((s.visitClose q frame cell 1).cellRec q frame cell).visitsClosed = (s.cellRec q frame cell).closeZoom.visitsClosed := by
      rw [s.visitClose_zoom hopen, State.cellFinish_visitsClosed, s.shutVisit_cellRec (by exact s.cellRec_names q frame cell)]
    exact congrArg Prod.snd hclosed

theorem exec_visitClose_due {q : Fin 4} {cell : Fin 4096} {pass : Fin 3} (h : s.visitCloseDue q cell pass = true) :
    exec (.visitClose q cell pass) s = .next ((s.slice q cell pass).visitClose q s.frm.no cell pass) :=
  congrArg Host.Outcome.next (if_pos h)

/-! ### Peak searches (R165) -/

/-- A search runs in the frame of a coarse visit that has closed. -/
theorem State.coarseClosed_of_searchFrame {q : Fin 4} {cell c f : Nat} (h : s.searchFrame q cell c = some f) :
    (s.cellRec q f cell).coarseClosed = true := by
  obtain ⟨k, hk, rfl⟩ := Option.map_eq_some_iff.1 h
  have hkey := List.find?_some hk
  exact (Bool.and_eq_true_iff.1 hkey).2

/-- A context whose search has ended, with its windows and candidates. -/
def Ctx.endSearch (k : Ctx) (wins : List Zoom) (cands : List Int) : Ctx := { k with searched := true, wins := wins, cands := cands }

/-- A search that may run and has not: its context is searched, its cell takes the need and may be searched too. -/
theorem State.peakSearch_stages {q : Fin 4} {frame cell c : Nat} {k : Ctx} (hctx : s.ctx q frame cell c false = some k)
    (hclosed : (s.cellRec q frame cell).coarseClosed = true) (hdone : k.searched = false) (hcoarse : k.zoomFirst = false)
    (hzoom : s.hasZoom q cell = true) : ∃ wins cands r, s.peakSearch q frame cell c =
      ((s.modCtx q frame cell c false fun x => x.endSearch wins cands).setCell q r).cellSearched q frame cell := by
  unfold State.peakSearch
  rw [hctx]
  exact ⟨_, _, _, if_neg (by simp [hclosed, hdone, hcoarse, hzoom])⟩

/-- Once its search has run a context is searched. -/
theorem State.peakSearch_searches {q : Fin 4} {frame cell c : Nat} {k : Ctx} (hctx : s.ctx q frame cell c false = some k)
    (hclosed : (s.cellRec q frame cell).coarseClosed = true) (hcoarse : k.zoomFirst = false) (hzoom : s.hasZoom q cell = true) :
    ∃ k', (s.peakSearch q frame cell c).ctx q frame cell c false = some k' ∧ k'.searched = true := by
  cases hdone : k.searched with
  | true =>
    have hsame : s.peakSearch q frame cell c = s := by
      unfold State.peakSearch
      rw [hctx]
      exact if_pos (by simp [hdone])
    exact ⟨k, hsame.symm ▸ hctx, hdone⟩
  | false =>
    obtain ⟨wins, cands, r, hstages⟩ := s.peakSearch_stages hctx hclosed hdone hcoarse hzoom
    refine ⟨k.endSearch wins cands, ?_, rfl⟩
    rw [hstages, State.ctx_congr ((State.cellSearched_ctxs ..).trans (State.setCell_ctxs ..)),
      State.ctx_modCtx_self s (by exact fun _ => ⟨rfl, rfl, rfl, rfl⟩), hctx]
    rfl

theorem exec_peakSearchDone_found {q : Fin 4} {cell : Fin 4096} {c : Fin 256} {f : Nat} (h : s.searchFrame q cell c = some f) :
    exec (.peakSearchDone q cell c) s = .next (s.peakSearch q f cell c) := by
  show execPeakSearchDone q cell c s = _
  unfold execPeakSearchDone
  rw [h]

/-! ### Stamps (R191, R225) -/

/-- A shot follows the list of shots. -/
theorem State.findShot_congr {s t : State} {q : Fin 4} (h : (t.quad q).shots = (s.quad q).shots) (frame slot : Nat) :
    t.findShot q frame slot = s.findShot q frame slot := by
  unfold State.findShot
  rw [h]

/-- A shot read after another took its place. -/
theorem State.findShot_modShot_self {q : Fin 4} {frame slot : Nat} {y : Shot} (hy : y.frame = frame ∧ y.slot = slot)
    (h : ∃ x ∈ (s.quad q).shots, x.frame = frame ∧ x.slot = slot) : (s.modShot q frame slot fun _ => y).findShot q frame slot = some y := by
  unfold State.findShot State.modShot
  rw [State.quad_modQuad_self]
  dsimp only
  rw [find?_map_ite (fun _ _ => by simp [hy])]
  obtain ⟨x, hx⟩ := Option.isSome_iff_exists.1 (List.find?_isSome.2
    (show ∃ x ∈ (s.quad q).shots, (x.frame == frame && x.slot == slot) = true by simpa using h))
  rw [hx]
  rfl

@[simp] theorem State.modCtx_shots (q : Fin 4) (frame cell chan : Nat) (zoom : Bool) (f : Ctx → Ctx) :
    ((s.modCtx q frame cell chan zoom f).quad q).shots = (s.quad q).shots := by
  unfold State.modCtx State.modCru
  rw [State.quad_modQuad_self]

/-- What the sums and reports that follow a stamp leave alone: the shots of the Quadrant, and the record with the count of stamps. -/
def State.stampPart (q : Fin 4) (s : State) : List Shot × Analogue := ((s.quad q).shots, s.ana)

theorem State.stampChan_keeps (q : Fin 4) (x : Shot) (c : Nat) : (s.stampChan q x c).stampPart q = s.stampPart q := by
  unfold State.stampChan State.stampPart
  split
  · split
    · rfl
    · dsimp only
      split <;> simp
  · rfl

theorem State.blindCells_keeps (q : Fin 4) (cs : List Nat) (cell frame : Nat) : (s.blindCells q cs cell frame).stampPart q = s.stampPart q := by
  refine foldl_keeps (State.stampPart q) (fun t c => ?_) cs s
  unfold State.blindCell
  split <;> rfl

theorem State.tapMarker_keeps (q : Fin 4) (m : Marker) : (s.tapMarker q m).stampPart q = s.stampPart q := by
  unfold State.tapMarker
  split <;> rfl

/-- The state with a stamp given to a shot, and counted. -/
def State.stamped (s : State) (q : Fin 4) (x : Shot) (r : Option (Nat × Nat)) : State :=
  let s1 := s.modShot q x.frame x.slot fun _ => { x with stamp := some r }
  { s1 with ana := { s1.ana with stamped := s1.ana.stamped + 1, badStamps := s1.ana.badStamps + b2n r.isNone } }

/-- The stamp of a shot: both angles, or none. -/
def State.stampOf (s : State) (x : Shot) : Option (Nat × Nat) :=
  match s.stampAt true x.at2, s.stampAt false x.at2 with
  | some a, some e => some (a, e)
  | _, _ => none

/-- The sums of a stamp's contexts, on the channels on which the shot's gate has opened (R191). -/
def State.stampSums (s : State) (q : Fin 4) (x : Shot) : State :=
  ((List.range 256).filter fun c => bit x.opened c).foldl (fun t c => t.stampChan q x c) s

/-- What a stamp tells the tap: the cells that a bad span makes blind, and the marker of a shot that emits (R219, R322). -/
def State.stampTold (s : State) (q : Fin 4) (x : Shot) (bad : Bool) (m : Marker) : State :=
  let t := if bad then s.blindCells q ((List.range 256).filter fun c => bit x.gmask c) x.cell x.frame else s
  if x.listening then t else t.tapMarker q m

theorem State.stampTold_keeps (q : Fin 4) (x : Shot) (bad : Bool) (m : Marker) : (s.stampTold q x bad m).stampPart q = s.stampPart q := by
  unfold State.stampTold
  dsimp only
  rw [apply_ite (State.stampPart q), State.tapMarker_keeps, ite_self, apply_ite (State.stampPart q), State.blindCells_keeps, ite_self]

/-- A stamp that is due is given to its shot, summed and told. -/
theorem State.stampReady_due {q : Fin 4} {slot : Nat} {x : Shot}
    (hfind : (s.quad q).shots.find? (fun x => x.slot == slot && x.stamp.isNone) = some x) (hdue : s.stampDue x = true) :
    ∃ m, s.stampReady q slot = ((s.stamped q x (s.stampOf x)).stampSums q { x with stamp := some (s.stampOf x) }).stampTold q x
      (s.spanBad true x || s.spanBad false x) m := by
  unfold State.stampReady
  rw [hfind]
  exact ⟨_, if_pos hdue⟩

theorem exec_angleStampReady_due {q : Fin 4} {slot : Nat} {x : Shot}
    (hfind : (s.quad q).shots.find? (fun x => x.slot == slot && x.stamp.isNone) = some x) (hdue : s.stampDue x = true) :
    ∃ t y, exec (.angleStampReady q slot) s = .next t ∧ t.findShot q x.frame slot = some y ∧ y.stamp.isSome = true ∧
      t.ana.stamped = s.ana.stamped + 1 := by
  obtain ⟨m, hgiven⟩ := s.stampReady_due hfind hdue
  have hpart : (s.stampReady q slot).stampPart q = (s.stamped q x (s.stampOf x)).stampPart q := by
    rw [hgiven, State.stampTold_keeps]
    exact foldl_keeps (State.stampPart q) (fun t c => t.stampChan_keeps q _ c) _ _
  obtain ⟨hshots, hana⟩ := Prod.mk.inj hpart
  have hkey := List.find?_some hfind
  have hslot : x.slot = slot := beq_iff_eq.1 (Bool.and_eq_true_iff.1 hkey).1
  refine ⟨_, { x with stamp := some (s.stampOf x) }, rfl, ?_, rfl, congrArg Analogue.stamped hana⟩
  rw [State.findShot_congr hshots, ← hslot]
  exact s.findShot_modShot_self ⟨rfl, rfl⟩ ⟨x, List.mem_of_find?_eq_some hfind, rfl, rfl⟩

/-! ### Microcode banks (R195) -/

/-- The row of the bank selections: one octet for each Quadrant, which waits for a Landing. -/
theorem bankSelect_row : ∃ row : Row, Catalogue.find 0x4201 = some row ∧ row.acc ≠ .wo ∧ row.shape = .fixed 4 ∧ row.ty = .u8 ∧
    row.app = .lnd := ⟨_, rfl, by decide, rfl, rfl, rfl⟩

/-- A member that passes the check of its type (R50) fits the type. -/
theorem member_lt_of_accepts {obj el v n : Nat} {row : Row} (hf : Catalogue.find obj = some row) (hshape : row.shape = .fixed n) (hel : el ≠ 0)
    {s : State} {q : Req} {codes : List Nat} (h : s.accepts q (entMember obj el row.ty v) codes) : v < 256 ^ row.ty.width := by
  refine Decidable.byContradiction fun hlarge => ?_
  have harg : entMember obj el row.ty v = { obj := obj, el := el, ty := row.ty.code, val := toBE (row.ty.width + 1) v } :=
    congrArg (fun e : Entry => { e with el := el }) (if_neg hlarge)
  rw [harg] at h
  simpa [typeOk, hshape, hel] using typeOk_of_accepts hf h

/-- The bank written is pending for its Quadrant. -/
theorem State.storeWrite_bankSelect {q : Req} {el bank : Nat} (hel : el ≠ 0) (hbank : bank < 256) :
    s.storeWrite q (entMember 0x4201 el .u8 bank) 0 = s.addPend q 0x4201 0 [(el, (bank : Int))] := by
  obtain ⟨row, hf, hacc, hshape, hty, happ⟩ := bankSelect_row
  have hmember : entMember 0x4201 el .u8 bank = { obj := 0x4201, el := el, ty := Ty.u8.code, val := Ty.u8.enc bank } :=
    congrArg (fun e : Entry => { e with el := el }) (if_pos hbank)
  have hwritten : written row el (Ty.u8.enc bank) = [(el, (bank : Int))] := by
    simp [written, hshape, hel, hty, dec_enc_u8 hbank]
  rw [hmember, s.storeWrite_lnd q 0 hf hacc (by simp [hshape]) happ]
  exact congrArg (s.addPend q 0x4201 0) hwritten

theorem exec_microcodeBankSelect_accepted {r : Req} {q : Fin 4} {bank : Nat}
    (h : s.accepts r (entMember 0x4201 (q.val + 1) .u8 bank) (s.mcSelCodes [(q.val + 1, bank)])) :
    ∃ t, exec (.microcodeBankSelect r q bank) s = .next t ∧ t.took r ∧
      (∃ p ∈ t.tv.pend, p.obj = 0x4201 ∧ p.el = q.val + 1 ∧ p.val = bank) ∧ t.quads = s.quads := by
  have hbank : bank < 256 := by
    obtain ⟨row, hf, -, hshape, hty, -⟩ := bankSelect_row
    rw [← hty] at h
    simpa [hty, Ty.width] using member_lt_of_accepts hf hshape (Nat.succ_ne_zero q.val) h
  obtain ⟨p, hp, hobj, hel, hmem⟩ := s.addPend_written r 0x4201 0 (List.mem_singleton_self (q.val + 1, (bank : Int)))
  refine ⟨_, rfl, s.hostWrite_took h, ⟨p, ?_, hobj, hel, ?_⟩, ?_⟩
  · rw [s.hostWrite_accepted h, State.accept_pend, s.storeWrite_bankSelect (Nat.succ_ne_zero q.val) hbank]
    exact hp
  · exact congrArg Prod.snd (List.mem_singleton.1 hmem)
  · rw [s.hostWrite_accepted h, State.accept_quads]
    exact s.storeWrite_quads ..

/-! ### The obligation -/

/-- Settles O17, from the record of a closed visit, the context of a search, the shot of a stamp and the pending value of a bank. -/
theorem crucibleRows : Obligations.CrucibleRows := by
  unfold Obligations.CrucibleRows
  refine fun s q => ⟨fun cell hdue => ?_, fun cell hdue => ?_, fun cell c f k0 hsearch hctx hcoarse hzoom => ?_,
    fun slot x hfind hdue => exec_angleStampReady_due s hfind hdue, fun r bank h => exec_microcodeBankSelect_accepted s h⟩
  · exact ⟨_, exec_visitClose_due s hdue, State.visitClose_coarseClosed _ q s.frm.no cell⟩
  · exact ⟨_, exec_visitClose_due s hdue, State.visitClose_zoomClosed _ q s.frm.no cell⟩
  · obtain ⟨k, hk, hdone⟩ := s.peakSearch_searches hctx (s.coarseClosed_of_searchFrame hsearch) hcoarse hzoom
    exact ⟨_, k, exec_peakSearchDone_found s hsearch, hk, hdone⟩

end Sys2Proof.Machine
end

section
/-! Restarts of the Pilot (R379, R396, R426): what a restart that is decided puts in the record of restarts, and what its stages leave of the
non-volatile memory and of the trial. -/

namespace Sys2Proof.Machine

variable (s : State)

/-! ### What a restart leaves alone -/

/-- The part that no stage of a restart touches: the time, the non-volatile memory, and the trial with its former slot. -/
def State.trialPart (s : State) : Nat × Nv × Option Nat × Nat := (s.now, s.nv, s.pilot.trial, s.pilot.former)

/-- A change that keeps the time, the memory and the Pilot keeps that part. -/
theorem State.trialPart_congr {s t : State} (hnow : t.now = s.now) (hnv : t.nv = s.nv) (hpilot : t.pilot = s.pilot) :
    t.trialPart = s.trialPart := by
  unfold State.trialPart
  rw [hnow, hnv, hpilot]

theorem State.of_trialPart {s t : State} (h : t.trialPart = s.trialPart) :
    t.now = s.now ∧ t.nv = s.nv ∧ t.pilot.trial = s.pilot.trial ∧ t.pilot.former = s.pilot.former := by
  simpa [State.trialPart] using h

@[simp] theorem State.evt_trialPart (code param : Nat) : (s.evt code param).trialPart = s.trialPart :=
  State.trialPart_congr (s.evt_now ..) (s.evt_nv ..) (s.evt_pilot ..)

@[simp] theorem State.commandDone_trialPart (obj : Nat) : (s.commandDone obj).trialPart = s.trialPart :=
  State.trialPart_congr (s.commandDone_now _) (s.commandDone_nv _) (s.commandDone_pilot _)

@[simp] theorem State.readmitEnd_trialPart (v state step : Nat) : (s.readmitEnd v state step).trialPart = s.trialPart := by
  rw [State.readmitEnd_keeps]
  rfl

@[simp] theorem State.setHelm_trialPart (b : Bool) (h : Helm) : (s.setHelm b h).trialPart = s.trialPart := by
  rw [State.setHelm_eq]
  rfl

@[simp] theorem State.extendLeases_trialPart : s.extendLeases.trialPart = s.trialPart := by
  unfold State.extendLeases
  split <;> rfl

@[simp] theorem State.dropService_trialPart (going : Bool) (n obj : Nat) : (s.dropService going n obj).trialPart = s.trialPart := by
  unfold State.dropService
  split
  · rw [State.commandDone_trialPart, State.evt_trialPart]
  · rfl

@[simp] theorem State.dropServices_trialPart : s.dropServices.trialPart = s.trialPart := by
  unfold State.dropServices
  dsimp only
  split <;> simp only [State.commandDone_trialPart, State.dropService_trialPart] <;> rfl

@[simp] theorem State.readmitDrop_trialPart (v : Nat) : (s.readmitDrop v).trialPart = s.trialPart := by
  unfold State.readmitDrop
  dsimp only
  rw [State.readmitEnd_trialPart]
  split
  case h_5 => exact State.setHelm_trialPart ..
  all_goals rfl

@[simp] theorem State.dropQuadReadmit_trialPart : s.dropQuadReadmit.trialPart = s.trialPart :=
  foldl_keeps State.trialPart (fun _ _ => by rw [State.evt_trialPart, State.readmitDrop_trialPart]) _ s

/-- What is kept by a step for each Quadrant is kept by all four. -/
theorem forQuads_keeps {α : Type} (g : State → α) {f : State → Fin 4 → State} (h : ∀ s q, g (f s q) = g s) : g (forQuads s f) = g s := by
  unfold forQuads
  rw [h, h, h, h]

@[simp] theorem State.holdReturns_trialPart : s.holdReturns.trialPart = s.trialPart :=
  forQuads_keeps s State.trialPart fun t q => by split <;> rfl

/-! ### A restart that is decided (R379) -/

/-- The state in which a restart is recorded. -/
def State.restartStage (s : State) : State := s.extendLeases.dropServices.dropQuadReadmit.holdReturns

@[simp] theorem State.restartStage_trialPart : s.restartStage.trialPart = s.trialPart := by
  simp [State.restartStage]

/-- The record of the restart names its cause, the period of step 1 and that of step 2. -/
theorem State.pilotRestart_pilot (cause wait : Nat) : (s.pilotRestart cause wait).pilot =
    { s.restartStage.pilot with restart := some (cause, s.now, s.now + wait) } := by
  simp only [State.pilotRestart, State.restartStage, State.modPilot_pilot]

@[simp] theorem State.pilotRestart_restart (cause wait : Nat) :
    (s.pilotRestart cause wait).pilot.restart = some (cause, s.now, s.now + wait) := rfl

@[simp] theorem State.pilotRestart_nv (cause wait : Nat) : (s.pilotRestart cause wait).nv = s.nv := by
  obtain ⟨-, hnv, -, -⟩ := State.of_trialPart s.restartStage_trialPart
  simpa only [State.pilotRestart, State.restartStage, State.modPilot_nv] using hnv

@[simp] theorem State.pilotRestart_trial (cause wait : Nat) : (s.pilotRestart cause wait).pilot.trial = s.pilot.trial := by
  obtain ⟨-, -, htrial, -⟩ := State.of_trialPart s.restartStage_trialPart
  rw [State.pilotRestart_pilot, htrial]

@[simp] theorem State.pilotRestart_former (cause wait : Nat) : (s.pilotRestart cause wait).pilot.former = s.pilot.former := by
  obtain ⟨-, -, -, hformer⟩ := State.of_trialPart s.restartStage_trialPart
  rw [State.pilotRestart_pilot, hformer]

@[simp] theorem State.pilotRestart_restarting (cause wait : Nat) : (s.pilotRestart cause wait).restarting = true := rfl

/-! ### The end of a trial (R396) -/

@[simp] theorem State.trialEnd_now (why : Nat) : (s.trialEnd why).now = s.now := State.evt_now ..
@[simp] theorem State.trialEnd_nv (why : Nat) : (s.trialEnd why).nv = { s.nv with preferred := s.pilot.former } := State.evt_nv ..
@[simp] theorem State.trialEnd_pilot (why : Nat) : (s.trialEnd why).pilot = { s.pilot with trial := none } := State.evt_pilot ..

end Sys2Proof.Machine
end

section
/-! The Slip and the microcode of the echo engine (R194, R394 ... R396): what the NOR reads after a clear, what an accepted command on
`9.212` does at once, what the long ones do as they end, and the banks that a load fills. -/

namespace Sys2Proof.Machine

variable (s : State)

/-! ### The NOR -/

/-- A key whose entries are all taken out of a map reads its default. -/
theorem AMap.get_filter_out {α : Type} (d : α) (m : AMap α) {f : Nat × α → Bool} {k : Nat} (h : ∀ v, f (k, v) = false) :
    AMap.get d (m.filter f) k = d := by
  induction m with
  | nil => rfl
  | cons x m ih =>
    obtain ⟨k', v⟩ := x
    rw [List.filter_cons]
    split
    · next hx =>
      have hne : k' ≠ k := fun hk => by rw [hk, h] at hx; cases hx
      rwa [AMap.get, if_neg hne]
    · exact ih

/-- A region that is cleared reads 00h (log entry 7). -/
theorem State.norClear_get {a n j : Nat} (hlo : a ≤ j) (hhi : j < a + n) : AMap.get 0 (s.norClear a n).nv.nor j = 0 :=
  AMap.get_filter_out 0 s.nv.nor fun _ => by simp [hlo, hhi]

/-! ### Windows of octets (R394, R395) -/

/-- Data stands in the NOR at the pointer, which advances and wraps to 0 (log entry 53). -/
theorem exec_slipDataWrite_accepted {r : Req} {o : Octets} (h : s.accepts r (entBlob 0x9211 o) (s.slipDataCodes o)) :
    ∃ t, exec (.slipDataWrite r o) s = .next t ∧ t.took r ∧ t.nv = { s.nv with nor := memPut s.nv.nor (norBase 2 + s.objN 0x9210 0) o } ∧
      t.pilot = { s.pilot with slip := 1, slipEnd := s.objN 0x9210 0 + o.length } ∧
      t.objN 0x9210 0 = (s.objN 0x9210 0 + o.length) % slipSize := by
  refine ⟨_, rfl, s.hostWrite_took h, ?_⟩
  rw [s.hostWrite_accepted h, s.storeWrite_window (obj := 0x9211) rfl rfl rfl rfl, State.accept_nv, State.accept_pilot]
  refine ⟨rfl, rfl, ?_⟩
  rw [State.objN, State.obj_congr (State.accept_dict ..), State.slipData, State.obj_setObj_self, Int.toNat_natCast]

/-- The key that is written is kept (R394, R407). -/
theorem exec_integratorKeyWrite_accepted {r : Req} {key : Octets}
    (h : s.accepts r (entBlob 0x9240 key) (when (s.life.st != .service || s.nv.key.isSome) 0x0601)) :
    ∃ t, exec (.integratorKeyWrite r key) s = .next t ∧ t.took r ∧ t.nv = { s.nv with key := some key } := by
  refine ⟨_, rfl, s.hostWrite_took (codes := fun s => when (s.life.st != .service || s.nv.key.isSome) 0x0601) h, ?_⟩
  rw [s.hostWrite_accepted (codes := fun s => when (s.life.st != .service || s.nv.key.isSome) 0x0601) h,
    s.storeWrite_window (obj := 0x9240) rfl rfl rfl rfl, State.accept_nv]
  rfl

/-! ### Commands on 9.212 (R395, R396) -/

/-- An accepted command has begun and is taken. -/
theorem State.slipCmd_accepted {r : Req} {c : Nat} (h : s.accepts r (entArg 0x9212 .u8 c) (s.slipCodes c)) :
    (s.slipCmd r c).took r ∧ (s.slipCmd r c).pilot = (s.slipBegin c).pilot ∧ (s.slipCmd r c).nv = (s.slipBegin c).nv ∧
      (s.slipCmd r c).restarting = (s.slipBegin c).restarting := by
  unfold State.slipCmd
  refine ⟨s.hostWrite_took h, ?_⟩
  rw [s.hostWrite_accepted h, s.storeWrite_command (obj := 0x9212) rfl rfl rfl]
  exact ⟨State.accept_pilot .., State.accept_nv .., State.accept_restarting ..⟩

/-- An erase clears the Slip at its acceptance (log entry 53). -/
theorem State.slipBegin_erase : (s.slipBegin 1).pilot.busy = some (1, s.now) ∧ (s.slipBegin 1).pilot.slip = 0 ∧
    ∀ a, norBase 2 ≤ a → a < norBase 2 + slipSize → AMap.get 0 (s.slipBegin 1).nv.nor a = 0 :=
  ⟨rfl, rfl, fun _ hlo hhi => s.norClear_get hlo hhi⟩

/-- Activation puts the other slot on trial and restarts into it. -/
theorem State.slipBegin_activate : (s.slipBegin 4).pilot.trial = some s.now ∧ (s.slipBegin 4).pilot.former = s.pilot.slot ∧
    (s.slipBegin 4).nv.preferred = 1 - s.pilot.slot ∧ (s.slipBegin 4).pilot.restart = some (1, s.now, s.now) := by
  simp [State.slipBegin]

/-- Confirmation ends the trial for the running slot, and raises the fuse counter to that of its image (R397, at once by log entry 121). -/
theorem State.slipBegin_confirm : (s.slipBegin 5).pilot.trial = none ∧ (s.slipBegin 5).nv.preferred = s.pilot.slot ∧
    (s.slipBegin 5).nv.fuse = max s.nv.fuse (hRbi (s.imgHeader s.pilot.slot)) := by
  simp [State.slipBegin]

/-- Reversion ends the trial and restarts into the former slot. -/
theorem State.slipBegin_revert : (s.slipBegin 6).pilot.trial = none ∧ (s.slipBegin 6).nv.preferred = s.pilot.former ∧
    (s.slipBegin 6).pilot.restart = some (2, s.now, s.now) := by
  simp [State.slipBegin]

/-- The restart command restarts the Pilot (R379). -/
theorem State.slipBegin_restart : (s.slipBegin 7).restarting = true ∧ (s.slipBegin 7).pilot.restart = some (3, s.now, s.now) := by
  simp [State.slipBegin]

/-! ### The end of a long command (R71, R395) -/

/-- What is logged and answered at the end leaves the Pilot as it is. -/
theorem State.slipEnded_pilot (late : Prop) [Decidable late] (c : Nat) :
    (((if late then s.evt 0x0B02 c else s).evt 0x0B03 9).commandDone 0x9212).pilot = s.pilot := by
  split <;> simp

section
variable {at_ : Nat}

theorem State.slipDone_erase (h : s.pilot.busy = some (1, at_)) : s.slipDone.pilot = { s.pilot with busy := none, slipErased := true } := by
  unfold State.slipDone
  simp only [h, State.slipEnded_pilot]
  rfl

theorem State.slipDone_verify (h : s.pilot.busy = some (2, at_)) :
    s.slipDone.pilot = { s.pilot with busy := none, slip := if s.verifyImg 2 = 0 then 2 else 3 } := by
  unfold State.slipDone
  simp only [h, State.slipEnded_pilot]
  split <;> exact State.evt_pilot ..

/-- An install copies the Slip as it ends, and verifies the slot that it has filled (log entry 53). -/
theorem State.slipDone_install {c : Nat} (h : s.pilot.busy = some (c, at_)) (herase : c ≠ 1) (hverify : c ≠ 2) :
    s.slipDone.pilot = { s.pilot with busy := none, slip :=
      if ((s.modPilot fun p => { p with busy := none }).norCopy (1 - s.pilot.slot)).verifyImg (1 - s.pilot.slot) = 0 then 2 else 3 } := by
  unfold State.slipDone
  simp only [h, State.slipEnded_pilot]
  split
  · rfl
  · exact State.evt_pilot ..

end

/-! ### Loads of microcode (R29, R194) -/

/-- The Crucible of a Quadrant with an image in its inactive bank. -/
def Crucible.loadIdle (id : Nat) (img : Octets) (k : Crucible) : Crucible :=
  if k.idleBank = 0 then { k with mcId0 := id, mcImg0 := img } else { k with mcId1 := id, mcImg1 := img }

@[simp] theorem Crucible.loadIdle_mcAct (id : Nat) (img : Octets) (k : Crucible) : (k.loadIdle id img).mcAct = k.mcAct := by
  unfold Crucible.loadIdle
  split <;> rfl

@[simp] theorem Crucible.loadIdle_mcId (id : Nat) (img : Octets) (k : Crucible) : (k.loadIdle id img).mcId k.idleBank = id := by
  unfold Crucible.loadIdle Crucible.mcId
  split <;> rfl

theorem State.cru_modCru_ne {q p : Fin 4} (f : Crucible → Crucible) (h : p ≠ q) : (s.modCru q f).cru p = s.cru p :=
  congrArg Quad.cru (s.quad_modQuad_ne _ h)

/-- A change of the Crucibles of some Quadrants, each named once. -/
theorem State.cru_foldl_modCru {l : List (Fin 4)} (hl : l.Nodup) (f : Crucible → Crucible) (q : Fin 4) :
    (l.foldl (fun t p => t.modCru p f) s).cru q = if q ∈ l then f (s.cru q) else s.cru q := by
  induction l generalizing s with
  | nil => rfl
  | cons p l ih =>
    obtain ⟨hp, hl⟩ := List.nodup_cons.1 hl
    rw [List.foldl_cons, ih _ hl]
    by_cases hqp : q = p
    · subst hqp
      simp [hp]
    · simp [hqp, s.cru_modCru_ne f hqp]

/-- A load changes the inactive bank of the Quadrants named, and no other. -/
theorem State.mcLoad_cru (mask : Nat) (q : Fin 4) : (s.mcLoad mask).cru q = if bit mask q.val = true then
    (s.cru q).loadIdle (hId (s.imgHeader 2)) (s.norAt (norBase 2 + 256) (hBlen (s.imgHeader 2))) else s.cru q := by
  simp only [← mem_quadsOf]
  exact (State.cru_congr (State.evt_quads ..) q).trans (s.cru_foldl_modCru (quadsOf_nodup mask) (Crucible.loadIdle _ _) q)

theorem beNat_entArg_u8 (obj : Nat) {v : Nat} (h : v < 256) : beNat (entArg obj .u8 v).val = v := by
  have harg : entArg obj .u8 v = ent obj 0 .u8 v := if_pos h
  rw [harg]
  exact Int.ofNat.inj (dec_enc_u8 h)

/-- A load that passes every check is done and answered (R50, R194). -/
theorem exec_microcodeLoad_loads {r : Req} {mask : Nat} (hmask : mask < 256) (h : s.accepts r (entArg 0x4202 .u8 mask) (s.mcLoadCodes mask)) :
    exec (.microcodeLoad r mask) s = .next ((s.mcLoad mask).accept r (entArg 0x4202 .u8 mask) false) := by
  show Host.Outcome.next (s.mcLoadWrite r _) = _
  unfold State.mcLoadWrite
  rw [State.through_served s h.1, beNat_entArg_u8 _ hmask]
  simp only [h.2, if_true]

theorem exec_microcodeLoad_accepted {r : Req} {mask : Nat} (hmask : mask < 256) (h : s.accepts r (entArg 0x4202 .u8 mask) (s.mcLoadCodes mask)) :
    ∃ t, exec (.microcodeLoad r mask) s = .next t ∧ t.took r ∧ (∀ q : Fin 4, (t.cru q).mcAct = (s.cru q).mcAct ∧
      (bit mask q.val = true → (t.cru q).mcId (s.cru q).idleBank = hId (s.imgHeader 2)) ∧
      (bit mask q.val = false → (t.cru q).mcId (s.cru q).idleBank = (s.cru q).mcId (s.cru q).idleBank)) := by
  refine ⟨_, exec_microcodeLoad_loads s hmask h, State.accept_took .., fun q => ?_⟩
  rw [State.cru_congr (State.accept_quads ..), s.mcLoad_cru mask q]
  cases hbit : bit mask q.val <;> simp

/-! ### The obligation -/

/-- Settles O52, from what each command of the Slip begins, how the long ones end, and the banks that a load fills. -/
theorem slipRows : Obligations.SlipRows := by
  unfold Obligations.SlipRows
  refine fun s r => ⟨fun o h => exec_slipDataWrite_accepted s h, fun h => ?erase, fun h => ?verify, fun h => ?install, fun h => ?activate,
    fun h => ?confirm, fun h => ?revert, fun h => ?restart, fun c at_ h => ⟨_, rfl, ?complete⟩,
    fun key h => exec_integratorKeyWrite_accepted s h, fun mask hmask h => exec_microcodeLoad_accepted s (by omega) h⟩
  case complete =>
    by_cases herase : c = 1
    · subst herase
      rw [s.slipDone_erase h]
      simp
    by_cases hverify : c = 2
    · subst hverify
      rw [s.slipDone_verify h]
      simp
    · rw [s.slipDone_install h herase hverify]
      exact ⟨rfl, fun hc => absurd hc herase, fun hc => absurd hc hverify, fun _ _ => rfl⟩
  all_goals
    obtain ⟨htook, hpilot, hnv, hrestarting⟩ := s.slipCmd_accepted h
    refine ⟨_, rfl, htook, ?_⟩
    simp only [hpilot, hnv, hrestarting]
  case erase => exact s.slipBegin_erase
  case verify => exact ⟨rfl, rfl⟩
  case install => rfl
  case activate => exact s.slipBegin_activate
  case confirm => exact s.slipBegin_confirm
  case revert => exact s.slipBegin_revert
  case restart => exact s.slipBegin_restart

end Sys2Proof.Machine
end

section
/-! What the commands of the analogue side share (R105, R222, R256, R260): the write of one member that applies at once or of a
command, and that causes of R105 and the capture engine leave the analogue side as it is. -/

namespace Sys2Proof.Machine

variable (s : State)

/-! ### Writes (R15) -/

/-- The row of an array of settings that a write sets at once. -/
def settingArray (obj n : Nat) (t : Ty) (row : Row) : Prop :=
  Catalogue.find obj = some row ∧ row.shape = .fixed n ∧ row.ty = t ∧ row.acc = .rw ∧ row.app = .imm

/-- A write of one member sets it to the value that its octets spell. -/
theorem State.storeWrite_settingArray {obj n : Nat} {t : Ty} {row : Row} (hrow : settingArray obj n t row) (q : Req) (i : Nat) {v v' : Int}
    (hv : t.dec (t.enc v) = v') : (s.storeWrite q (ent obj (i + 1) t v) 0).dict = (s.setObj obj (i + 1) v').dict := by
  obtain ⟨hf, hshape, hty, hacc, happ⟩ := hrow
  refine s.storeWrite_member q (e := ent obj (i + 1) t v) hf (by simp [hacc]) (by simp [hshape]) (by simp [happ]) ?_
  simp [ent, written, hshape, hty, hv]

/-- That value is then in effect. -/
theorem State.storeWrite_settingArray_obj {obj n : Nat} {t : Ty} {row : Row} (hrow : settingArray obj n t row) (q : Req) (i : Nat) {v v' : Int}
    (hv : t.dec (t.enc v) = v') : (s.storeWrite q (ent obj (i + 1) t v) 0).obj obj (i + 1) = v' :=
  (State.obj_congr (s.storeWrite_settingArray hrow q i hv) _ _).trans (State.obj_setObj_self ..)

theorem settingArray_sequencers : ∃ row, settingArray 0x7003 4 .bool row := ⟨_, rfl, rfl, rfl, rfl, rfl⟩
theorem settingArray_accumulators : ∃ row, settingArray 0x7100 64 .u32 row := ⟨_, rfl, rfl, rfl, rfl, rfl⟩
theorem settingArray_trackers : ∃ row, settingArray 0x7200 64 .u32 row := ⟨_, rfl, rfl, rfl, rfl, rfl⟩
theorem settingArray_filters : ∃ row, settingArray 0x7601 16 .bool row := ⟨_, rfl, rfl, rfl, rfl, rfl⟩

/-! ### What leaves the analogue side as it is -/

@[simp] theorem State.setAxis_ana (f : Bool) (a : AxisPos) : (s.setAxis f a).ana = s.ana := by
  rw [State.setAxis_eq]

@[simp] theorem State.logInvalid_ana (f : Bool) (c : Nat) : (s.logInvalid f c).ana = s.ana := by
  unfold State.logInvalid
  dsimp only
  split <;> simp

@[simp] theorem State.posInvalid_ana (f : Bool) (c : Nat) : (s.posInvalid f c).ana = s.ana := by
  rcases s.posInvalid_cases f c with h | h <;> simp [h]

@[simp] theorem State.causeGone_ana (f : Bool) (c : Nat) : (s.causeGone f c).ana = s.ana := by
  rw [State.causeGone_eq_setAxis, State.setAxis_ana]

theorem State.sourceLost_keeps (selected : Bool) : s.sourceLost selected = { s with cap := (s.sourceLost selected).cap } := by
  unfold State.sourceLost
  split <;> rfl

@[simp] theorem State.sourceLost_ana (selected : Bool) : (s.sourceLost selected).ana = s.ana := by
  rw [State.sourceLost_keeps]

@[simp] theorem State.sourceLost_dict (selected : Bool) : (s.sourceLost selected).dict = s.dict := by
  rw [State.sourceLost_keeps]

@[simp] theorem State.capNote_ana (src unit t data : Nat) : (s.capNote src unit t data).ana = s.ana := by
  rw [State.capNote_keeps]

@[simp] theorem State.occNote_ana (t : Nat) (o : Occ) : (s.occNote t o).ana = s.ana := by
  unfold State.occNote
  split <;> rfl

end Sys2Proof.Machine
end

section
/-! The filter engine (R220, R222): what a round keeps, what an overrun leaves, and the starts and stops of channels. -/

namespace Sys2Proof.Machine

variable (s : State)

/-! ### Rounds (R220) -/

@[simp] theorem State.noteOutput_ana (k : Nat) (o : FiltOut) (prev : Option Int) : (s.noteOutput k o prev).ana = s.ana := by
  unfold State.noteOutput
  cases prev <;> simp

/-- A good output of a stamping channel ends cause 5 of its axis, and nothing of the analogue side changes. -/
theorem State.causeGone_ite_ana (c : Prop) [Decidable c] (f : Bool) (n : Nat) : (if c then s.causeGone f n else s).ana = s.ana := by
  split
  · exact s.causeGone_ana f n
  · rfl

/-- A channel's part of a round counts no round. -/
theorem State.filtOne_rounds (k : Nat) : (s.filtOne k).ana.rounds = s.ana.rounds := by
  unfold State.filtOne
  split
  · rfl
  · dsimp only
    split
    · rw [State.causeGone_ite_ana, State.causeGone_ite_ana, State.noteOutput_ana, State.setObj_ana, State.setFilt_ana]
    · rfl

theorem State.filterRound_rounds (h : s.ana.filtStopped = false) : s.filterRound.ana.rounds = s.ana.rounds + 1 := by
  unfold State.filterRound
  rw [if_neg (by simp [h])]
  exact congrArg (· + 1) (foldl_keeps (fun t => t.ana.rounds) State.filtOne_rounds _ s)

/-! ### Overruns (R222) -/

/-- Faults of the engine that count after one more now: those of the last 10 s. -/
def State.filtFaultsNow (s : State) : List Nat := (s.now :: s.ana.filtFaults).filter fun t => s.now < t + 10 * secP

/-- The engine restarts with cleared state: the fault is counted and logged, and the steering streams stop. -/
def State.filtRestart (s : State) : State :=
  let t : State := { s with ana := { s.ana with filt := [], filtFaults := s.filtFaultsNow } }
  (((t.bump 0x7640 0x11 1).evt 0x2701 (s.ana.rounds % 65536)).posInvalid true 5).posInvalid false 5

/-- The engine stays stopped. -/
def State.filtStays (s : State) : State :=
  (({ s with ana := { s.ana with filtStopped := true } }.evt 0x3702 0).raiseCause 9).sourceLost (s.capWants 7)

@[simp] theorem State.filtRestart_ana : s.filtRestart.ana = { s.ana with filt := [], filtFaults := s.filtFaultsNow } := by
  unfold State.filtRestart
  simp only [State.posInvalid_ana, State.evt_ana, State.bump_ana]

@[simp] theorem State.filtStays_ana : s.filtStays.ana = { s.ana with filtStopped := true } := by
  unfold State.filtStays
  simp only [State.sourceLost_ana, State.raiseCause_ana, State.evt_ana]

/-- An overrun restarts the engine; the third in 10 s leaves it stopped. -/
theorem State.filterOverrun_running (h : s.ana.filtStopped = false) :
    s.filterOverrun = if 3 ≤ s.filtFaultsNow.length then s.filtRestart.filtStays else s.filtRestart :=
  if_neg (by simp [h])

/-- It clears every channel in either case. -/
theorem State.filterOverrun_clears (h : s.ana.filtStopped = false) : s.filterOverrun.ana.filt = [] ∧
    (3 ≤ s.filtFaultsNow.length → s.filterOverrun.ana.filtStopped = true) := by
  rw [s.filterOverrun_running h]
  split
  · rw [State.filtStays_ana, State.filtRestart_ana]
    exact ⟨rfl, fun _ => rfl⟩
  · next hfew =>
    rw [State.filtRestart_ana]
    exact ⟨rfl, fun hthird => absurd hthird hfew⟩

/-! ### Channels -/

@[simp] theorem State.filtCh_setFilt_self (k : Nat) (c : FiltCh) : (s.setFilt k c).filtCh k = c := assocD_put_self ..

theorem State.filtCh_congr {s t : State} (h : t.ana = s.ana) (k : Nat) : t.filtCh k = s.filtCh k := by
  unfold State.filtCh
  rw [h]

/-- The steering stream of an axis stops with its stamping channel: no other setting than the counts of invalidations changes, and nothing
of the analogue side. -/
theorem State.posInvalid_ite (c : Prop) [Decidable c] (f : Bool) (n : Nat) : (if c then s.posInvalid f n else s).ana = s.ana ∧
    ∀ {o : Nat}, steerKeeps o → ∀ el, (if c then s.posInvalid f n else s).obj o el = s.obj o el := by
  split
  · exact ⟨s.posInvalid_ana f n, fun h el => s.posInvalid_obj f n h el⟩
  · exact ⟨rfl, fun _ _ => rfl⟩

theorem State.filtOff_ana (k : Nat) : (s.filtOff k).ana = s.ana := by
  unfold State.filtOff
  dsimp only
  rw [State.sourceLost_ana, (State.posInvalid_ite ..).1, (State.posInvalid_ite ..).1]

theorem State.filtOff_obj (k : Nat) {o : Nat} (h : steerKeeps o) (el : Nat) : (s.filtOff k).obj o el = s.obj o el := by
  unfold State.filtOff
  dsimp only
  rw [State.obj_congr (State.sourceLost_dict ..), (State.posInvalid_ite ..).2 h, (State.posInvalid_ite ..).2 h]

theorem steerKeeps_filtFlag : steerKeeps 0x7601 := by
  unfold steerKeeps
  decide

theorem exec_filterChannelStart_accepted {r : Req} {k : Fin 16}
    (h : s.accepts r (ent 0x7601 (k.val + 1) .bool 1) (if s.filtRuns k then [] else s.filtStartCodes k)) :
    ∃ t, exec (.filterChannelStart r k) s = .next t ∧ t.took r ∧ t.obj 0x7601 (k.val + 1) = 1 ∧ (s.filtRuns k = false → t.filtCh k = filt0) := by
  obtain ⟨row, hrow⟩ := settingArray_filters
  have hflag := s.storeWrite_settingArray_obj hrow r k.val (v := 1) (v' := 1) (by decide)
  refine ⟨_, rfl, s.hostWrite_took h, ?_⟩
  rw [s.hostWrite_accepted h, State.obj_congr (State.accept_dict ..), State.filtCh_congr (State.accept_ana ..)]
  split
  · next hruns => exact ⟨hflag, fun hoff => absurd hruns (by simp [hoff])⟩
  · exact ⟨hflag, fun _ => State.filtCh_setFilt_self ..⟩

theorem exec_filterChannelStop_accepted {r : Req} {k : Fin 16} (h : s.accepts r (ent 0x7601 (k.val + 1) .bool 0) (s.filtStopCodes k)) :
    ∃ t, exec (.filterChannelStop r k) s = .next t ∧ t.took r ∧ t.obj 0x7601 (k.val + 1) = 0 ∧ t.ana = s.ana := by
  obtain ⟨row, hrow⟩ := settingArray_filters
  have hflag := s.storeWrite_settingArray_obj hrow r k.val (v := 0) (v' := 0) (by decide)
  refine ⟨_, rfl, s.hostWrite_took h, ?_⟩
  rw [s.hostWrite_accepted h, State.obj_congr (State.accept_dict ..), State.accept_ana]
  split
  · rw [State.filtOff_obj _ k steerKeeps_filtFlag, State.filtOff_ana, State.storeWrite_ana]
    exact ⟨hflag, rfl⟩
  · exact ⟨hflag, State.storeWrite_ana ..⟩

/-! ### The obligation -/

/-- Settles O25: a round is counted, an overrun clears the channels and may stop the engine, and a run flag follows its write. -/
theorem filterRows : Obligations.FilterRows := by
  unfold Obligations.FilterRows
  exact fun s => ⟨fun h => ⟨_, rfl, s.filterRound_rounds h⟩, fun h => ⟨_, rfl, s.filterOverrun_clears h⟩,
    fun r k hk => exec_filterChannelStart_accepted s hk, fun r k hk => exec_filterChannelStop_accepted s hk⟩

end Sys2Proof.Machine
end

section
/-! Windows of accumulators and trackers (R211, R212, R214): read after write for the windows, what a publication sets and clears, and that a
latch clears every window of its kind. -/

namespace Sys2Proof.Machine

variable (s : State)

/-! ### Numbers of 32 bits (R13) -/

/-- A number is read back from a U32 modulo 2^32. -/
theorem dec_enc_u32 (v : Nat) : Ty.u32.dec (Ty.u32.enc (v : Int)) = (v % 2 ^ 32 : Nat) := by
  have hv : ofInt 32 (v : Int) = v % 2 ^ 32 := by simp only [ofInt]; omega
  show ((beNat (toBE 4 (ofInt 32 (v : Int))) : Nat) : Int) = _
  rw [hv, beNat_toBE]
  exact congrArg Int.ofNat (Nat.mod_mod v (2 ^ 32))

/-! ### Windows -/

@[simp] theorem State.window_setWindow_self (mm : Bool) (n : Nat) (v : Window) : (s.setWindow mm n v).window mm n = v := by
  cases mm <;> exact assocD_put_self ..

theorem State.window_setWindow_ne (mm : Bool) {n m : Nat} (v : Window) (h : m ≠ n) : (s.setWindow mm n v).window mm m = s.window mm m := by
  cases mm <;> exact assocD_put_ne _ _ _ h

theorem State.window_congr {s t : State} (h : t.ana = s.ana) (mm : Bool) (n : Nat) : t.window mm n = s.window mm n := by
  unfold State.window
  rw [h]

@[simp] theorem State.setWindow_dict (mm : Bool) (n : Nat) (v : Window) : (s.setWindow mm n v).dict = s.dict := by
  cases mm <;> rfl
@[simp] theorem State.setWindow_life (mm : Bool) (n : Nat) (v : Window) : (s.setWindow mm n v).life = s.life := by
  cases mm <;> rfl
@[simp] theorem State.setWindow_now (mm : Bool) (n : Nat) (v : Window) : (s.setWindow mm n v).now = s.now := by
  cases mm <;> rfl
@[simp] theorem State.setWindow_adcs (mm : Bool) (n : Nat) (v : Window) : (s.setWindow mm n v).ana.adcs = s.ana.adcs := by
  cases mm <;> rfl

/-! ### Cleared windows (R203, R212) -/

/-- What decides how windows start: their configuration words, and what tells whether the sequencers run. -/
structure SameWindowStart (t s : State) : Prop where
  word : ∀ mm n, t.winWord mm n = s.winWord mm n
  flag : ∀ c, t.seqRuns c = s.seqRuns c
  life : t.life = s.life
  now : t.now = s.now
  adcs : t.ana.adcs = s.ana.adcs

theorem SameWindowStart.of_dict {t s : State} (hdict : t.dict = s.dict) (hlife : t.life = s.life) (hnow : t.now = s.now)
    (hadcs : t.ana.adcs = s.ana.adcs) : SameWindowStart t s where
  word mm n := by simp only [State.winWord, State.objN, State.obj_congr hdict]
  flag c := by simp only [State.seqRuns, State.obj_congr hdict]
  life := hlife
  now := hnow
  adcs := hadcs

theorem SameWindowStart.trans {u t s : State} (h : SameWindowStart u t) (h' : SameWindowStart t s) : SameWindowStart u s where
  word mm n := (h.word mm n).trans (h'.word mm n)
  flag c := (h.flag c).trans (h'.flag c)
  life := h.life.trans h'.life
  now := h.now.trans h'.now
  adcs := h.adcs.trans h'.adcs

/-- A window starts alike where these are the same. -/
theorem SameWindowStart.clearWindow {t s : State} (h : SameWindowStart t s) (mm : Bool) (n : Nat) : t.clearWindow mm n = s.clearWindow mm n := by
  unfold State.clearWindow State.seqStopped State.adcRuns State.fromConfig State.adc
  simp only [h.word, h.flag, h.life, h.now, h.adcs]

theorem State.setWindow_sameStart (mm : Bool) (n : Nat) (v : Window) : SameWindowStart (s.setWindow mm n v) s :=
  .of_dict (s.setWindow_dict ..) (s.setWindow_life ..) (s.setWindow_now ..) (s.setWindow_adcs ..)

theorem State.accept_sameStart (q : Req) (e : Entry) (long : Bool) : SameWindowStart (s.accept q e long) s :=
  .of_dict (s.accept_dict ..) (s.accept_life ..) (s.accept_now ..) (congrArg Analogue.adcs (s.accept_ana ..))

/-- A window is cleared. -/
def State.cleared (s : State) (mm : Bool) (n : Nat) : Prop := s.window mm n = s.clearWindow mm n

theorem State.cleared_setWindow (mm : Bool) (n : Nat) : (s.setWindow mm n (s.clearWindow mm n)).cleared mm n :=
  (s.window_setWindow_self ..).trans ((s.setWindow_sameStart ..).clearWindow mm n).symm

/-- An answer leaves a cleared window cleared. -/
theorem State.accept_cleared {mm : Bool} {n : Nat} (h : s.cleared mm n) (q : Req) (e : Entry) (long : Bool) : (s.accept q e long).cleared mm n :=
  ((State.window_congr (s.accept_ana ..) mm n).trans h).trans ((s.accept_sameStart q e long).clearWindow mm n).symm

/-! ### Publications (R212, R214) -/

/-- Object under which a window is published. -/
def winObj (mm : Bool) (n : Nat) : Nat := (if mm then 0x7240 else 0x7140) + n

theorem winObj_ne {o : Nat} (h : o < 0x7140 ∨ o = 0x7200) (mm : Bool) {n : Nat} (hn : n < 64) : o ≠ winObj mm n := by
  unfold winObj
  split <;> omega

/-- A publication sets members of the window's object, the next generation among them, and clears the window. -/
theorem State.publishWin_sets (mm : Bool) (n flag : Nat) : ∃ w : List (Nat × Int), DistinctMembers w ∧
    (4, (((s.objN (winObj mm n) 4 + 1) % 65536 : Nat) : Int)) ∈ w ∧ s.publishWin mm n flag =
      (s.setMembers (winObj mm n) w).setWindow mm n ((s.setMembers (winObj mm n) w).clearWindow mm n) := by
  cases mm
  · exact ⟨[(1, _), (2, _), (3, _), (4, _), (5, _), (6, _), (7, _), (8, _)], distinctMembers_of_range (a := 1) (n := 8) rfl (by decide),
      by simp [winObj], rfl⟩
  · exact ⟨[(1, _), (2, _), (3, _), (4, _), (5, _)], distinctMembers_of_range (a := 1) (n := 5) rfl (by decide), by simp [winObj], rfl⟩

/-- A store outside the configuration words and the run flags changes nothing of how windows start. -/
theorem State.setMembers_sameStart {obj : Nat} (hacc : 0x7100 ≠ obj) (hmm : 0x7200 ≠ obj) (hflag : 0x7003 ≠ obj) (w : List (Nat × Int)) :
    SameWindowStart (s.setMembers obj w) s where
  word mm n := by cases mm <;> simp [State.winWord, State.objN, State.setMembers_obj_ne, hacc, hmm]
  flag c := by simp [State.seqRuns, State.setMembers_obj_ne, hflag]
  life := s.setMembers_life ..
  now := s.setMembers_now ..
  adcs := congrArg Analogue.adcs (s.setMembers_ana ..)

/-- Neither does a publication. -/
theorem State.publishWin_sameStart (mm : Bool) {n : Nat} (hn : n < 64) (flag : Nat) : SameWindowStart (s.publishWin mm n flag) s := by
  obtain ⟨w, -, -, hw⟩ := s.publishWin_sets mm n flag
  rw [hw]
  exact (State.setWindow_sameStart ..).trans (s.setMembers_sameStart (winObj_ne (by decide) mm hn) (winObj_ne (by decide) mm hn)
    (winObj_ne (by decide) mm hn) w)

theorem State.publishWin_cleared (mm : Bool) (n flag : Nat) : (s.publishWin mm n flag).cleared mm n := by
  obtain ⟨w, -, -, hw⟩ := s.publishWin_sets mm n flag
  rw [hw]
  exact State.cleared_setWindow ..

theorem State.publishWin_window_ne (mm : Bool) {n m : Nat} (flag : Nat) (h : m ≠ n) : (s.publishWin mm n flag).window mm m = s.window mm m := by
  obtain ⟨w, -, -, hw⟩ := s.publishWin_sets mm n flag
  rw [hw, State.window_setWindow_ne _ mm _ h, State.window_congr (s.setMembers_ana ..)]

theorem State.publishWin_generation (mm : Bool) (n flag : Nat) :
    (s.publishWin mm n flag).objN (winObj mm n) 4 = (s.objN (winObj mm n) 4 + 1) % 65536 := by
  obtain ⟨w, hdist, hgen, hw⟩ := s.publishWin_sets mm n flag
  unfold State.objN at hgen ⊢
  rw [hw, State.obj_congr (State.setWindow_dict ..), s.setMembers_obj (winObj mm n) hdist hgen, Int.toNat_natCast]

theorem State.windowEnd_due {mm : Bool} {n : Nat} (h : s.windowDue mm n = true) : s.windowEnd mm n = s.publishWin mm n 8 := if_pos h

/-! ### Latches (R212, R214) -/

/-- One window's part of the publication of every enabled window of a kind. -/
def State.windowLatch (mm : Bool) (win : Nat) (s : State) (n : Nat) : State :=
  if wwOn (s.winWord mm n) && wwWin (s.winWord mm n) == win then s.publishWin mm n 8 else s

theorem State.windowsEnd_eq (mm : Bool) (win : Nat) : s.windowsEnd mm win = (List.range 64).foldl (State.windowLatch mm win) s := rfl

theorem State.windowLatch_sameStart (mm : Bool) (win : Nat) {n : Nat} (hn : n < 64) : SameWindowStart (s.windowLatch mm win n) s := by
  unfold State.windowLatch
  split
  · exact s.publishWin_sameStart mm hn 8
  · exact .of_dict rfl rfl rfl rfl

/-- It leaves a cleared window cleared, its own or another. -/
theorem State.windowLatch_keeps_cleared {mm : Bool} {n m : Nat} (win : Nat) (hm : m < 64) (h : s.cleared mm n) :
    (s.windowLatch mm win m).cleared mm n := by
  have hstart := (s.windowLatch_sameStart mm win hm).clearWindow mm n
  unfold State.windowLatch at hstart ⊢
  split at hstart
  · by_cases hnm : n = m
    · subst hnm
      rw [if_pos ‹_›]
      exact s.publishWin_cleared mm n 8
    · rw [if_pos ‹_›]
      exact ((s.publishWin_window_ne mm 8 hnm).trans h).trans hstart.symm
  · rw [if_neg ‹_›]
    exact h

theorem State.foldl_windowLatch_cleared {mm : Bool} {n win : Nat} {l : List Nat} (hl : ∀ m ∈ l, m < 64)
    (h : s.cleared mm n ∨ n ∈ l ∧ wwOn (s.winWord mm n) = true ∧ wwWin (s.winWord mm n) = win) :
    (l.foldl (State.windowLatch mm win) s).cleared mm n := by
  induction l generalizing s with
  | nil => exact h.resolve_right fun hin => absurd hin.1 List.not_mem_nil
  | cons m l ih =>
    have hm := hl m List.mem_cons_self
    refine ih (s.windowLatch mm win m) (fun k hk => hl k (List.mem_cons_of_mem _ hk)) ?_
    obtain hdone | ⟨hin, hon, hkind⟩ := h
    · exact Or.inl (s.windowLatch_keeps_cleared win hm hdone)
    · obtain rfl | hrest := List.mem_cons.1 hin
      · left
        unfold State.windowLatch
        rw [if_pos (by simp [hon, hkind])]
        exact s.publishWin_cleared mm n 8
      · right
        rw [(s.windowLatch_sameStart mm win hm).word]
        exact ⟨hrest, hon, hkind⟩

/-- The publication of a kind clears every enabled window of it. -/
theorem State.windowsEnd_cleared {mm : Bool} {n win : Nat} (hn : n < 64) (hon : wwOn (s.winWord mm n) = true)
    (hkind : wwWin (s.winWord mm n) = win) : (s.windowsEnd mm win).cleared mm n := by
  rw [State.windowsEnd_eq]
  exact s.foldl_windowLatch_cleared (fun _ => List.mem_range.1) (Or.inr ⟨List.mem_range.2 hn, hon, hkind⟩)

/-- A command that stores nothing and latches, and its answer. -/
theorem State.latch_accepted {obj arg : Nat} {row : Row} (hf : Catalogue.find obj = some row) (hacc : row.acc = .wo) (hshape : row.shape = .scalar)
    (mm : Bool) {r : Req} (h : s.accepts r (entArg obj .u8 arg) []) {t : State}
    (ht : t = s.hostWrite r (entArg obj .u8 arg) (fun _ => []) (fun s => s.windowsEnd mm 3) false) :
    t.took r ∧ ∀ n < 64, wwOn (s.winWord mm n) = true → wwWin (s.winWord mm n) = 3 → t.window mm n = t.clearWindow mm n := by
  subst ht
  refine ⟨s.hostWrite_took h, fun n hn hon hkind => ?_⟩
  rw [s.hostWrite_accepted h, s.storeWrite_command hf hacc hshape]
  exact State.accept_cleared _ (s.windowsEnd_cleared hn hon hkind) ..

/-! ### Configuration words (R211, R212) -/

/-- Object of the configuration words. -/
def winCfg (mm : Bool) : Nat := if mm then 0x7200 else 0x7100

/-- A new word clears its window. -/
theorem State.winWriteEff_one (mm : Bool) (n : Nat) (v : Int) : s.winWriteEff mm [(n + 1, v)] = s.setWindow mm n (s.clearWindow mm n) := rfl

theorem State.winConfig_accepted {row : Row} (mm : Bool) (hrow : settingArray (winCfg mm) 64 .u32 row) {r : Req} {n w : Nat}
    (h : s.accepts r (ent (winCfg mm) (n + 1) .u32 w) (winCodes [(n + 1, w)])) {t : State}
    (ht : t = s.hostWrite r (ent (winCfg mm) (n + 1) .u32 w) (fun _ => winCodes [(n + 1, w)]) (fun s => s.winWriteEff mm [(n + 1, w)]) false) :
    t.took r ∧ t.objN (winCfg mm) (n + 1) = w % 2 ^ 32 ∧ t.window mm n = t.clearWindow mm n := by
  subst ht
  have hword := s.storeWrite_settingArray_obj hrow r n (dec_enc_u32 w)
  refine ⟨s.hostWrite_took h, ?_⟩
  rw [s.hostWrite_accepted h, State.winWriteEff_one]
  refine ⟨?_, State.accept_cleared _ (State.cleared_setWindow ..) ..⟩
  unfold State.objN
  rw [State.obj_congr (State.accept_dict ..), State.obj_congr (State.setWindow_dict ..), hword, Int.toNat_natCast]

/-! ### The obligation -/

/-- Settles O24: a publication counts the generation and clears its window, a latch all of its kind, and a new word its own. -/
theorem windowRows : Obligations.WindowRows := by
  unfold Obligations.WindowRows
  obtain ⟨acc, hacc⟩ := settingArray_accumulators
  obtain ⟨mm, hmm⟩ := settingArray_trackers
  refine fun s => ⟨fun mm n h => ?_, fun r n w h => ⟨_, rfl, s.winConfig_accepted false hacc h rfl⟩,
    fun r arg h => ⟨_, rfl, s.latch_accepted (obj := 0x7101) rfl rfl rfl false h rfl⟩,
    fun r n w h => ⟨_, rfl, s.winConfig_accepted true hmm h rfl⟩,
    fun r arg h => ⟨_, rfl, s.latch_accepted (obj := 0x7201) rfl rfl rfl true h rfl⟩⟩
  exact ⟨_, congrArg Host.Outcome.next (s.windowEnd_due h), s.publishWin_cleared mm n 8, s.publishWin_generation mm n 8⟩

end Sys2Proof.Machine
end

section
/-! System calibration (R209, R210): what each command of 7.301 leaves in the captures, the values to store and 7.302, and how a capture
ends. -/

namespace Sys2Proof.Machine

variable (s : State)

/-! ### Commands of 7.301 -/

/-- A command of 7.301 stores nothing: it is accepted and has its effect. -/
theorem State.calCommand_accepted {r : Req} {v : Nat} (hv : v < 256) {codes : State → List Nat}
    (h : s.accepts r (ent 0x7301 0 .u8 v) (codes s)) (eff : State → State) (long : Bool) :
    ∃ t, s.hostWrite r (ent 0x7301 0 .u8 v) codes eff long = t ∧ t.took r ∧ t.ana = (eff s).ana ∧ t.dict = (eff s).dict := by
  refine ⟨_, rfl, s.hostWrite_took h, ?_⟩
  have harg : entArg 0x7301 .u8 v = ent 0x7301 0 .u8 v := if_pos hv
  rw [s.hostWrite_accepted h, ← harg, s.storeWrite_command (obj := 0x7301) rfl rfl rfl]
  exact ⟨State.accept_ana .., State.accept_dict ..⟩

/-! ### Outcomes (R209) -/

theorem State.calStatus_obj_ne {el : Nat} (h : el % 65536 ≠ 1) : s.calStatus.obj 0x7302 el = s.obj 0x7302 el :=
  State.obj_setObj_ne _ _ (Or.inr h)

@[simp] theorem State.calFail_ana (cause : Nat) : (s.calFail cause).ana = s.ana := State.evt_ana ..

/-- A failure shows as status 5 with its cause. -/
theorem State.calFail_shows (cause : Nat) : (s.calFail cause).obj 0x7302 1 = 5 ∧ (s.calFail cause).obj 0x7302 7 = cause := by
  unfold State.calFail
  rw [State.evt_obj_ne _ _ _ (Or.inl (by decide)), State.evt_obj_ne _ _ _ (Or.inl (by decide)), State.obj_setObj_self,
    State.obj_setObj_ne _ _ (Or.inr (by decide)), State.obj_setObj_self]
  exact ⟨rfl, rfl⟩

/-! ### Captures -/

/-- The mean of the samples of a capture, times 16 (R209). -/
def Capt.mean16 (p : Capt) : Int := ((p.sum + 128) / 256 : Nat)

/-- What a capture that has its samples gives: its mean, or nothing where a sample failed it. -/
def Capt.result (p : Capt) : Option Int := if p.bad = 0 then some p.mean16 else none

/-- The result is held, and shown in 7.302. -/
def State.captHold (s : State) (p : Capt) : State :=
  if p.full then { s with ana := { s.ana with capt := none, mfs := p.result.map (p.key, ·) } }.setObj 0x7302 3 (p.result.getD 0)
  else { s with ana := { s.ana with capt := none, m0 := p.result.map (p.key, ·) } }.setObj 0x7302 2 (p.result.getD 0)

/-- A capture with all its samples is held, judged and answered. -/
theorem State.captDone_all {k : Capt} (hk : s.ana.capt = some k) (hn : 4096 ≤ k.all.n) : s.captDone =
    (if k.all.bad = 0 then (s.captHold k.all).calStatus else (s.captHold k.all).calFail k.all.bad).commandDone 0x7301 := by
  unfold State.captDone State.captHold
  simp only [hk]
  rw [if_neg (Nat.not_lt.2 hn)]
  cases k.all.full <;> rfl

@[simp] theorem State.captHold_capt (p : Capt) : (s.captHold p).ana.capt = none := by
  unfold State.captHold
  split <;> rfl

theorem State.captHold_zero {p : Capt} (hbad : p.bad = 0) (hzero : p.full = false) :
    (s.captHold p).ana.m0 = some (p.key, p.mean16) ∧ (s.captHold p).obj 0x7302 2 = p.mean16 := by
  unfold State.captHold Capt.result
  rw [hzero, hbad]
  exact ⟨rfl, State.obj_setObj_self ..⟩

theorem State.captHold_full {p : Capt} (hbad : p.bad = 0) (hfull : p.full = true) :
    (s.captHold p).ana.mfs = some (p.key, p.mean16) ∧ (s.captHold p).obj 0x7302 3 = p.mean16 := by
  unfold State.captHold Capt.result
  rw [hfull, hbad]
  exact ⟨rfl, State.obj_setObj_self ..⟩

/-- A good capture stays held. -/
theorem State.captDone_good {k : Capt} (hk : s.ana.capt = some k) (hn : 4096 ≤ k.all.n) (hbad : k.all.bad = 0) :
    s.captDone.ana = (s.captHold k.all).ana ∧ ∀ el, el % 65536 ≠ 1 → s.captDone.obj 0x7302 el = (s.captHold k.all).obj 0x7302 el := by
  rw [s.captDone_all hk hn, if_pos hbad]
  exact ⟨State.commandDone_ana .., fun el hel => (State.obj_congr (State.commandDone_dict ..) _ _).trans (State.calStatus_obj_ne _ hel)⟩

theorem State.captDone_bad {k : Capt} (hk : s.ana.capt = some k) (hn : 4096 ≤ k.all.n) (hbad : k.all.bad ≠ 0) :
    s.captDone.ana = (s.captHold k.all).ana ∧ s.captDone.obj 0x7302 1 = 5 ∧ s.captDone.obj 0x7302 7 = k.all.bad := by
  rw [s.captDone_all hk hn, if_neg hbad]
  simp only [State.obj_congr (State.commandDone_dict ..)]
  exact ⟨(State.commandDone_ana ..).trans (State.calFail_ana ..), State.calFail_shows ..⟩

theorem State.captDone_capt {k : Capt} (hk : s.ana.capt = some k) (hn : 4096 ≤ k.all.n) : s.captDone.ana.capt = none := by
  by_cases hbad : k.all.bad = 0
  · rw [(s.captDone_good hk hn hbad).1, State.captHold_capt]
  · rw [(s.captDone_bad hk hn hbad).1, State.captHold_capt]

/-! ### Values to store (R209, R210) -/

/-- A trim waits for the pass boundary. -/
def State.holdTrim (s : State) (x : Trim) : State :=
  { s with ana := { s.ana with trimPend := assocPut s.ana.trimPend s.calKey x } }

theorem State.holdTrim_pend (d x : Trim) : assocD d (s.holdTrim x).ana.trimPend s.calKey = x := assocD_put_self ..

/-- Captures within the limits give an offset and a gain. -/
theorem State.calCompute_stores {a b : Int} (hzero : s.calOf s.ana.m0 = some a) (hfull : s.calOf s.ana.mfs = some b) (hlow : 0 ≤ a)
    (hhigh : a ≤ 32768) (hrise : a < b) (hmin : 1030792152 ≤ calGain (b - a).toNat) (hmax : calGain (b - a).toNat ≤ 1234803097) :
    s.calCompute = (s.holdTrim { off16 := a, gain := calGain (b - a).toNat, sys := true }).setObj 0x7302 1 4 := by
  unfold State.calCompute
  simp only [hzero, hfull]
  rw [if_neg (by omega), if_neg (by omega), if_neg (by omega)]
  rfl

/-- An abandoned calibration holds no capture, and shows status 0. -/
theorem State.calAbandon_holds : s.calAbandon.ana = { s.ana with capt := none, m0 := none, mfs := none } ∧ s.calAbandon.obj 0x7302 1 = 0 := by
  unfold State.calAbandon
  dsimp only
  split
  · rw [State.commandDone_ana, State.obj_congr (State.commandDone_dict ..)]
    exact ⟨rfl, State.obj_setObj_self ..⟩
  · exact ⟨rfl, State.obj_setObj_self ..⟩

/-! ### The obligation -/

/-- Settles O23, from what each command of 7.301 does to the captures and trims, and from the result of a capture with all its samples. -/
theorem systemCalibration : Obligations.SystemCalibration := by
  unfold Obligations.SystemCalibration
  refine fun s => ⟨fun r h => ?zero, fun r h => ?full, fun k p hk hp hn => ?complete,
    fun r a b h hzero hfull hlow hhigh hrise hmin hmax => ?store, fun r h => ?restore, fun r h => ?abandon⟩
  case zero =>
    obtain ⟨t, ht, htook, hana, -⟩ := s.calCommand_accepted (v := 1) (by decide) h (fun s => s.captBegin false) true
    exact ⟨t, congrArg Host.Outcome.next ht, htook, by rw [hana]; rfl⟩
  case full =>
    obtain ⟨t, ht, htook, hana, -⟩ := s.calCommand_accepted (v := 2) (by decide) h (fun s => s.captBegin true) true
    exact ⟨t, congrArg Host.Outcome.next ht, htook, by rw [hana]; rfl⟩
  case complete =>
    subst hp
    refine ⟨_, rfl, s.captDone_capt hk hn, fun hbad hz => ?_, fun hbad hf => ?_, fun hbad => (s.captDone_bad hk hn hbad).2⟩
    · obtain ⟨hana, hobj⟩ := s.captDone_good hk hn hbad
      rw [hana, hobj 2 (by decide)]
      exact s.captHold_zero hbad hz
    · obtain ⟨hana, hobj⟩ := s.captDone_good hk hn hbad
      rw [hana, hobj 3 (by decide)]
      exact s.captHold_full hbad hf
  case store =>
    obtain ⟨t, ht, htook, hana, hdict⟩ := s.calCommand_accepted (v := 3) (by decide) h State.calCompute false
    rw [s.calCompute_stores hzero hfull hlow hhigh hrise hmin hmax] at hana hdict
    refine ⟨t, congrArg Host.Outcome.next ht, htook, (State.obj_congr hdict _ _).trans (State.obj_setObj_self ..), ?_⟩
    rw [hana]
    exact s.holdTrim_pend _ _
  case restore =>
    obtain ⟨t, ht, htook, hana, -⟩ := s.calCommand_accepted (v := 4) (by decide) h State.calRestore false
    refine ⟨t, congrArg Host.Outcome.next ht, htook, ?_⟩
    rw [hana]
    exact congrArg Trim.sys (s.holdTrim_pend _ { off16 := 0, gain := 0, sys := false })
  case abandon =>
    obtain ⟨t, ht, htook, hana, hdict⟩ := s.calCommand_accepted (v := 0) (by decide) h State.calAbandon false
    obtain ⟨hheld, hshows⟩ := s.calAbandon_holds
    rw [hheld] at hana
    exact ⟨t, congrArg Host.Outcome.next ht, htook, by rw [hana], by rw [hana], by rw [hana], (State.obj_congr hdict _ _).trans hshows⟩

end Sys2Proof.Machine
end

section
/-! Converters and their sequencers (R199 ... R208): what the consumers of a sample leave to the converters, what a conversion notes, and what
a fault, a pass end, a start and a stop make of a converter. -/

namespace Sys2Proof.Machine

variable (s : State)

/-! ### Converters and newest samples -/

@[simp] theorem State.adc_setAdc_self (c : Fin 4) (a : Adc) : (s.setAdc c a).adc c = a := Vector.getElem_set_self c.isLt

/-- The converters with the samples that they have taken, and the newest sample of each input. -/
def State.inputs (s : State) : Vector Adc 4 × List (Nat × Newest) := (s.ana.adcs, s.ana.newest)

theorem State.inputs_congr {s t : State} (h : t.ana = s.ana) : t.inputs = s.inputs := by
  unfold State.inputs
  rw [h]

theorem State.adc_of_inputs {s t : State} (h : t.inputs = s.inputs) (c : Fin 4) : t.adc c = s.adc c :=
  congrArg (fun x => x.1.get c) h

theorem State.newest_of_inputs {s t : State} (h : t.inputs = s.inputs) : t.ana.newest = s.ana.newest := congrArg Prod.snd h

/-! ### What leaves them as they are -/

@[simp] theorem State.evt_inputs (code param : Nat) : (s.evt code param).inputs = s.inputs := State.inputs_congr (s.evt_ana ..)

@[simp] theorem State.setWindow_inputs (mm : Bool) (n : Nat) (v : Window) : (s.setWindow mm n v).inputs = s.inputs := by
  cases mm <;> rfl

@[simp] theorem State.publishWin_inputs (mm : Bool) (n flag : Nat) : (s.publishWin mm n flag).inputs = s.inputs := by
  obtain ⟨w, -, -, hw⟩ := s.publishWin_sets mm n flag
  rw [hw, State.setWindow_inputs]
  exact State.inputs_congr (s.setMembers_ana ..)

@[simp] theorem State.windowEnd_inputs (mm : Bool) (n : Nat) : (s.windowEnd mm n).inputs = s.inputs := by
  unfold State.windowEnd
  split
  · exact s.publishWin_inputs mm n 8
  · rfl

theorem State.windowsFeed_inputs (key at_ v cls : Nat) : (s.windowsFeed key at_ v cls).inputs = s.inputs := by
  refine foldl_keeps State.inputs (fun s n => ?_) _ s
  extract_lets one
  have hone : ∀ s mm, (one s mm).inputs = s.inputs := fun s mm => by
    dsimp only [one]
    split
    · rw [State.windowEnd_inputs, State.setWindow_inputs]
      split <;> simp
    · rfl
  rw [hone, hone]

theorem State.windowsFlag_inputs (c f : Nat) : (s.windowsFlag c f).inputs = s.inputs := by
  refine foldl_keeps State.inputs (fun s n => ?_) _ s
  extract_lets one
  have hone : ∀ s mm, (one s mm).inputs = s.inputs := fun s mm => by
    dsimp only [one]
    split
    · exact s.setWindow_inputs mm n _
    · rfl
  rw [hone, hone]

theorem State.windowsCal_inputs (key : Nat) : (s.windowsCal key).inputs = s.inputs := by
  refine foldl_keeps State.inputs (fun s n => ?_) _ s
  extract_lets one
  have hone : ∀ s mm, (one s mm).inputs = s.inputs := fun s mm => by
    dsimp only [one]
    split
    · exact s.publishWin_inputs mm n 1
    · rfl
  rw [hone, hone]

theorem State.filtFeed_inputs (adc step : Nat) (cal lin : Int) (cls at_ tk : Nat) : (s.filtFeed adc step cal lin cls at_ tk).inputs = s.inputs := by
  refine foldl_keeps State.inputs (fun s k => ?_) _ s
  dsimp only
  split <;> rfl

theorem State.deliver_inputs (c : Fin 4) (sel : Nat) (x : Late) : (s.deliver c sel x).inputs = s.inputs :=
  (State.filtFeed_inputs ..).trans (s.windowsFeed_inputs ..)

theorem State.senseCheck_inputs (n : Fin 2) (conds : Nat) : (s.senseCheck n conds).inputs = s.inputs := by
  unfold State.senseCheck
  dsimp only
  split
  · split
    · exact (State.inputs_congr (State.causeGone_ana ..)).trans rfl
    · rfl
  · split
    · rfl
    · split
      · refine (State.inputs_congr (State.posInvalid_ana ..)).trans ?_
        rw [State.evt_inputs]
        exact (State.inputs_congr (State.bump_ana ..)).trans rfl
      · rfl

theorem State.predCheck_ana (fast : Bool) (lin : Int) (pred : Nat) : (s.predCheck fast lin pred).ana = s.ana := by
  unfold State.predCheck
  dsimp only
  split
  · rfl
  · split
    · split <;> simp
    · simp

theorem State.captFeed_inputs (key at_ raw cls : Nat) : (s.captFeed key at_ raw cls).inputs = s.inputs := by
  unfold State.captFeed
  split
  · rfl
  · split <;> rfl

theorem State.supplyCheck_inputs (c sel : Nat) (cal : Int) (at_ : Nat) : (s.supplyCheck c sel cal at_).inputs = s.inputs := by
  unfold State.supplyCheck
  split
  · rfl
  · dsimp only
    split
    · split
      · exact State.evt_inputs ..
      · rfl
    · rfl

theorem State.rangeStep_inputs (c : Fin 4) (sel : Nat) : (s.rangeStep c sel).inputs = s.inputs := by
  unfold State.rangeStep
  split <;> rfl

theorem State.trimsApply_inputs (c : Fin 4) : (s.trimsApply c).inputs = s.inputs := by
  refine (foldl_keeps State.inputs (fun s kv => ?_) _ _).trans rfl
  exact (State.evt_inputs ..).trans (State.windowsCal_inputs ..)

/-! ### Samples (R199, R201) -/

/-- A sequencer whose grid has reached the next step takes its sample. -/
theorem State.adcSample_due {c : Fin 4} (hruns : s.adcRuns c = true) (hstep : (s.adc c).step < s.objN 0x7001 (c.val + 1))
    (hdue : (s.adc c).passAt + 80 * (s.adc c).step ≤ s.now) :
    ∃ x, (s.adcSample c).adc c = { s.adc c with step := (s.adc c).step + 1, taken := (s.adc c).taken ++ [x] } ∧
      x.step = (s.adc c).step ∧ x.at_ = (s.adc c).passAt + 80 * (s.adc c).step ∧
      x.sel = bits (s.objN 0x7000 (16 * c.val + (s.adc c).step + 1)) 10 6 := by
  unfold State.adcSample
  dsimp only
  rw [if_pos (by simp [hruns, hstep, hdue])]
  split
  · exact ⟨_, s.adc_setAdc_self c _, rfl, rfl, rfl⟩
  · exact ⟨_, s.adc_setAdc_self c _, rfl, rfl, rfl⟩

/-! ### Conversions (R204 ... R208, R219) -/

/-- What follows a conversion whose result is known, from the note of the newest sample to the delivery. -/
def State.consume (s : State) (c : Fin 4) (x : Taken) (raw pred : Nat) (beyond withdraw : Bool) (y : Late) : State :=
  let s1 := s.noteNewest (inKey c.val x.sel) y.cal y.lin y.cls x.at_ x.tk
  let s2 := if isPosition c.val x.sel && y.cls ≤ 1 then s1.predCheck (c.val == 0) y.lin pred else s1
  let s3 := (s2.captFeed (trimKey c.val x.sel (b2n x.fine)) x.at_ raw y.cls).rangeWatch (inKey c.val x.sel) beyond y.cal
  (s3.supplyCheck c.val x.sel y.cal x.at_).deliverLate c x.sel y withdraw

/-- The delivery of a sample leaves those that wait for their conversion, and the newest ones. -/
theorem State.deliverLate_keeps (c : Fin 4) (sel : Nat) (y : Late) (withdraw : Bool) :
    ((s.deliverLate c sel y withdraw).adc c).taken = (s.adc c).taken ∧ (s.deliverLate c sel y withdraw).ana.newest = s.ana.newest := by
  unfold State.deliverLate
  split
  · extract_lets s1 a
    have hheld : s1.inputs = s.inputs := by
      dsimp only [s1]
      split
      · rfl
      · exact s.deliver_inputs c sel _
    have htaken : a.taken = (s.adc c).taken := congrArg Adc.taken (State.adc_of_inputs hheld c)
    have hnewest := State.newest_of_inputs hheld
    rw [State.adc_setAdc_self]
    exact ⟨htaken, hnewest⟩
  · have hdeliver := s.deliver_inputs c sel y
    rw [State.adc_of_inputs hdeliver]
    exact ⟨rfl, State.newest_of_inputs hdeliver⟩

/-- So do the other consumers, once the newest sample is noted. -/
theorem State.consume_keeps (c : Fin 4) (x : Taken) (raw pred : Nat) (beyond withdraw : Bool) (y : Late) :
    ((s.consume c x raw pred beyond withdraw y).adc c).taken = (s.adc c).taken ∧
      (s.consume c x raw pred beyond withdraw y).ana.newest = (s.noteNewest (inKey c.val x.sel) y.cal y.lin y.cls x.at_ x.tk).ana.newest := by
  unfold State.consume
  extract_lets s1 s2 s3
  obtain ⟨htaken, hnewest⟩ := (s3.supplyCheck c.val x.sel y.cal x.at_).deliverLate_keeps c x.sel y withdraw
  have hpred : s2.inputs = s1.inputs := by
    dsimp only [s2]
    split
    · exact State.inputs_congr (s1.predCheck_ana ..)
    · rfl
  have hinputs : (s3.supplyCheck c.val x.sel y.cal x.at_).inputs = s1.inputs :=
    (s3.supplyCheck_inputs ..).trans ((s2.captFeed_inputs ..).trans hpred)
  rw [htaken, hnewest, State.adc_of_inputs hinputs]
  exact ⟨rfl, State.newest_of_inputs hinputs⟩

/-- The converter has one sample less to convert. -/
def State.untake (s : State) (c : Fin 4) (rest : List Taken) : State := s.setAdc c { s.adc c with taken := rest }

/-- Calibrated code of a conversion within range (R206, R208). -/
def State.calibrated (s : State) (c : Fin 4) (x : Taken) (raw : Nat) : Int :=
  if x.fine then (calCode (raw % 65536) (s.trimOf (trimKey c x.sel (b2n x.fine))) + 4) / 8
  else calCode (raw % 65536) (s.trimOf (trimKey c x.sel (b2n x.fine)))

/-- Conditions seen with a sample: those of an excitation channel (R218). -/
def condsSeen (c : Fin 4) (x : Taken) (conds : Nat) : Nat := if isPosition c.val x.sel then bits conds 0 4 else 0

/-- The sample is taken up, and the conditions seen with it are judged. -/
def State.takeUp (s : State) (c : Fin 4) (x : Taken) (rest : List Taken) (conds : Nat) : State :=
  if isPosition c.val x.sel then (s.untake c rest).senseCheck (Fin.ofNat 2 c.val) (condsSeen c x conds) else s.untake c rest

theorem State.takeUp_inputs (c : Fin 4) (x : Taken) (rest : List Taken) (conds : Nat) :
    (s.takeUp c x rest conds).inputs = (s.untake c rest).inputs := by
  unfold State.takeUp
  split
  · exact State.senseCheck_inputs ..
  · rfl

/-- A value without a linearisation set is a free one (log entry 32). -/
def State.drawLin (s : State) (kind : Nat) : State := if kind = 0 then { s with free := s.free + 1 } else s

theorem State.drawLin_inputs (kind : Nat) : (s.drawLin kind).inputs = s.inputs := by
  unfold State.drawLin
  split <;> rfl

/-- Result of a conversion: code, linearised value and class (R204 ... R207, R219). -/
def State.conversion (s : State) (c : Fin 4) (x : Taken) (raw : Nat) (beyond cl : Bool) : Late :=
  let cal := if beyond then 65535 else s.calibrated c x raw
  let ln := s.lineariseIn c.val x.sel cal
  let fault := isPosition c.val x.sel && ((s.drawLin ln.1).ana.sense.get (Fin.ofNat 2 c.val)).fault
  { cal := cal, lin := if ln.1 = 0 then Config.freeInt s.free else ln.2
    cls := if cl || fault || ln.1 == 2 then 3 else if x.trans || (x.fine && beyond) then 2 else if beyond then 1 else 0
    at_ := x.at_, tk := x.tk, step := x.step }

/-- A conversion takes up the oldest sample, and its result is consumed. -/
theorem State.adcDone_consumes {c : Fin 4} {x : Taken} {rest : List Taken} (h : (s.adc c).taken = x :: rest) (raw : Nat) (beyond cl : Bool)
    (conds pred : Nat) : ∃ kind, s.adcDone c raw beyond cl conds pred = ((s.takeUp c x rest conds).drawLin kind).consume c x (raw % 65536) pred
      beyond (condsSeen c x conds != 0) ((s.takeUp c x rest conds).conversion c x raw beyond cl) := by
  refine ⟨((s.takeUp c x rest conds).lineariseIn c x.sel ((s.takeUp c x rest conds).conversion c x raw beyond cl).cal).1, ?_⟩
  unfold State.adcDone
  simp only [h]
  rfl

/-- A clean conversion of an input without sense conditions has its calibrated code. -/
theorem State.conversion_clean {c : Fin 4} {x : Taken} (raw : Nat) (hpos : isPosition c x.sel = false) (htrans : x.trans = false)
    (hfinite : (s.lineariseIn c x.sel (s.calibrated c x raw)).1 ≠ 2) :
    (s.conversion c x raw false false).cal = s.calibrated c x raw ∧ (s.conversion c x raw false false).cls = 0 := by
  unfold State.conversion
  simp [hpos, htrans, hfinite]

theorem State.adcDone_taken {c : Fin 4} {x : Taken} {rest : List Taken} (h : (s.adc c).taken = x :: rest) (raw : Nat) (beyond cl : Bool)
    (conds pred : Nat) : ((s.adcDone c raw beyond cl conds pred).adc c).taken = rest := by
  obtain ⟨kind, hdone⟩ := s.adcDone_consumes h raw beyond cl conds pred
  rw [hdone, (State.consume_keeps ..).1, State.adc_of_inputs ((State.drawLin_inputs ..).trans (s.takeUp_inputs ..))]
  exact congrArg Adc.taken (s.adc_setAdc_self ..)

/-- A sample of class 0 or 1 is the newest of its input once noted (R207). -/
theorem State.noteNewest_good (key : Nat) (cal lin : Int) {cls : Nat} (hcls : cls ≤ 1) (at_ tk : Nat) :
    ((s.noteNewest key cal lin cls at_ tk).newestOf key).at_ = at_ ∧ ((s.noteNewest key cal lin cls at_ tk).newestOf key).cls = cls ∧
      ((s.noteNewest key cal lin cls at_ tk).newestOf key).cal = cal := by
  unfold State.noteNewest State.newestOf
  simp only [if_pos hcls, assocD_put_self, and_self]

/-- A clean conversion is the newest sample of its input. -/
theorem State.adcDone_newest {c : Fin 4} {x : Taken} {rest : List Taken} (h : (s.adc c).taken = x :: rest) (raw conds pred : Nat)
    (hpos : isPosition c x.sel = false) (htrans : x.trans = false) (hfinite : (s.lineariseIn c x.sel (s.calibrated c x raw)).1 ≠ 2) :
    ((s.adcDone c raw false false conds pred).newestOf (inKey c x.sel)).at_ = x.at_ ∧
      ((s.adcDone c raw false false conds pred).newestOf (inKey c x.sel)).cls = 0 ∧
      ((s.adcDone c raw false false conds pred).newestOf (inKey c x.sel)).cal = s.calibrated c x raw := by
  obtain ⟨kind, hdone⟩ := s.adcDone_consumes h raw false false conds pred
  have huntake : s.takeUp c x rest conds = s.untake c rest := if_neg (by simp [hpos])
  obtain ⟨hcal, hcls⟩ := (s.untake c rest).conversion_clean raw hpos htrans hfinite
  have hnewest := (((s.untake c rest).drawLin kind).consume_keeps c x (raw % 65536) pred false (condsSeen c x conds != 0)
    ((s.untake c rest).conversion c x raw false false)).2
  rw [hcal, hcls] at hnewest
  unfold State.newestOf
  rw [hdone, huntake, hnewest]
  exact State.noteNewest_good _ (inKey c x.sel) (s.calibrated c x raw) _ (Nat.zero_le 1) x.at_ x.tk

/-! ### Faults (R203) -/

/-- Faults of a converter that count after one more now: those of the last 10 s. -/
def State.adcFaultsNow (s : State) (c : Fin 4) : List Nat := (s.now :: (s.adc c).faults).filter fun x => s.now < x + 10 * secP

/-- A converter restarts: its pass is void, and the fault is counted and logged. -/
def State.adcRestart (s : State) (c : Fin 4) (pass : Nat) : State :=
  let t := (s.passVoid c pass).windowsFlag c.val 2
  (t.setAdc c { t.adc c with step := 0, passAt := s.now + 20 * usP, taken := [], faults := s.adcFaultsNow c }).evt 0x2702 c.val

/-- A converter stays stopped; one of a position signal stops the steering stream of its axis. -/
def State.adcStays (s : State) (c : Fin 4) : State :=
  let t := ((s.setAdc c { s.adc c with stopped := true }).evt 0x3701 c.val).raiseCause 8
  if c.val ≤ 1 then t.posInvalid (c.val == 0) 5 else t

/-- A conversion that is late restarts the converter; the third in 10 s leaves it stopped. -/
theorem State.adcTimeout_late {c : Fin 4} {x : Taken} {rest : List Taken} (h : (s.adc c).taken = x :: rest) (hlate : x.at_ + usP ≤ s.now) :
    s.adcTimeout c = if 3 ≤ (s.adcFaultsNow c).length then (s.adcRestart c x.pass).adcStays c else s.adcRestart c x.pass := by
  unfold State.adcTimeout
  simp only [h]
  exact if_neg (Nat.not_lt.2 hlate)

theorem State.adcRestart_adc (c : Fin 4) (pass : Nat) : ((s.adcRestart c pass).adc c).taken = [] ∧ ((s.adcRestart c pass).adc c).step = 0 ∧
    ((s.adcRestart c pass).adc c).passAt = s.now + 20 * usP := by
  unfold State.adcRestart
  rw [State.adc_of_inputs (State.evt_inputs ..), State.adc_setAdc_self]
  exact ⟨rfl, rfl, rfl⟩

theorem State.adcStays_adc (c : Fin 4) : (s.adcStays c).adc c = { s.adc c with stopped := true } := by
  have hana : (s.adcStays c).ana = (s.setAdc c { s.adc c with stopped := true }).ana := by
    unfold State.adcStays
    dsimp only
    split
    · rw [State.posInvalid_ana, State.raiseCause_ana, State.evt_ana]
    · rw [State.raiseCause_ana, State.evt_ana]
  rw [State.adc_of_inputs (State.inputs_congr hana), State.adc_setAdc_self]

theorem State.adcTimeout_restarts {c : Fin 4} {x : Taken} {rest : List Taken} (h : (s.adc c).taken = x :: rest)
    (hlate : x.at_ + usP ≤ s.now) : ((s.adcTimeout c).adc c).taken = [] ∧ ((s.adcTimeout c).adc c).step = 0 ∧
      ((s.adcTimeout c).adc c).passAt = s.now + 20 * usP ∧ (3 ≤ (s.adcFaultsNow c).length → ((s.adcTimeout c).adc c).stopped = true) := by
  obtain ⟨htaken, hstep, hpass⟩ := s.adcRestart_adc c x.pass
  rw [s.adcTimeout_late h hlate]
  split
  · rw [State.adcStays_adc]
    exact ⟨htaken, hstep, hpass, fun _ => rfl⟩
  · next hfew => exact ⟨htaken, hstep, hpass, fun hthird => absurd hthird hfew⟩

/-! ### Passes (R199, R206, R210) -/

theorem State.passEnd_due {c : Fin 4} (hruns : s.adcRuns c = true) (hsteps : s.objN 0x7001 (c.val + 1) ≤ (s.adc c).step)
    (hdue : (s.adc c).passAt + 80 * s.objN 0x7001 (c.val + 1) ≤ s.now) :
    (s.passEnd c).adc c = { s.adc c with step := 0, passAt := (s.adc c).passAt + 80 * s.objN 0x7001 (c.val + 1) } := by
  unfold State.passEnd
  dsimp only
  rw [if_pos (by simp [hruns, hsteps, hdue]), State.adc_of_inputs (State.trimsApply_inputs ..),
    State.adc_of_inputs (foldl_keeps State.inputs (fun t sel => t.rangeStep_inputs c sel) _ _), State.adc_setAdc_self]

/-! ### Starts and stops of sequencers (R202) -/

theorem State.seqRuns_congr {s t : State} (h : t.dict = s.dict) (c : Nat) : t.seqRuns c = s.seqRuns c := by
  unfold State.seqRuns
  rw [State.obj_congr h]

theorem State.windowsFlag_dict (c f : Nat) : (s.windowsFlag c f).dict = s.dict := by
  refine foldl_keeps State.dict (fun s n => ?_) _ s
  extract_lets one
  have hone : ∀ s mm, (one s mm).dict = s.dict := fun s mm => by
    dsimp only [one]
    split
    · exact s.setWindow_dict mm n _
    · rfl
  rw [hone, hone]

/-- The effect of a write of the run flag is on the converter and the windows, not on the flags. -/
theorem State.seqEff_dict (c : Fin 4) (on was : Bool) : (s.seqEff c on was).dict = s.dict := by
  unfold State.seqEff
  split
  · rfl
  · split
    · exact State.windowsFlag_dict ..
    · rfl

/-- The run flag follows its write. -/
theorem State.seqWrite_runs {row : Row} (hrow : settingArray 0x7003 4 .bool row) (q : Req) (c : Fin 4) (on was : Bool) {v : Int}
    (hv : Ty.bool.dec (Ty.bool.enc v) = v) (e : Entry) :
    (((s.storeWrite q (ent 0x7003 (c.val + 1) .bool v) 0).seqEff c on was).accept q e false).seqRuns c.val = (v == 1) := by
  rw [State.seqRuns_congr (State.accept_dict ..), State.seqRuns_congr (State.seqEff_dict ..)]
  unfold State.seqRuns
  rw [s.storeWrite_settingArray_obj hrow q c.val hv]

theorem State.seqEff_starts (c : Fin 4) : s.seqEff c true false = s.seqOn c := rfl

theorem State.seqEff_stops (c : Fin 4) : s.seqEff c false true = s.seqOff c := rfl

theorem State.seqOn_adc (c : Fin 4) : (s.seqOn c).adc c = { s.adc c with step := 0, passAt := s.now, taken := [] } := State.adc_setAdc_self ..

theorem State.seqOff_taken (c : Fin 4) : ((s.seqOff c).adc c).taken = [] := by
  unfold State.seqOff
  rw [State.adc_of_inputs (State.windowsFlag_inputs ..), State.adc_setAdc_self]

theorem exec_sequencerStart_accepted {r : Req} {c : Fin 4} (h : s.accepts r (ent 0x7003 (c.val + 1) .bool 1) (s.seqCodes c true)) :
    ∃ t, exec (.sequencerStart r c) s = .next t ∧ t.took r ∧ t.seqRuns c = true ∧
      (s.seqRuns c = false → (t.adc c).step = 0 ∧ (t.adc c).passAt = s.now ∧ (t.adc c).taken = []) := by
  obtain ⟨row, hrow⟩ := settingArray_sequencers
  refine ⟨_, rfl, s.hostWrite_took h, ?_⟩
  rw [s.hostWrite_accepted h, State.adc_of_inputs (State.inputs_congr (State.accept_ana ..))]
  refine ⟨s.seqWrite_runs hrow r c true _ (by decide) _, fun hoff => ?_⟩
  rw [hoff, State.seqEff_starts, State.seqOn_adc, State.storeWrite_now]
  exact ⟨rfl, rfl, rfl⟩

theorem exec_sequencerStop_accepted {r : Req} {c : Fin 4} (h : s.accepts r (ent 0x7003 (c.val + 1) .bool 0) (s.seqCodes c false)) :
    ∃ t, exec (.sequencerStop r c) s = .next t ∧ t.took r ∧ t.seqRuns c = false ∧ (s.seqRuns c = true → (t.adc c).taken = []) := by
  obtain ⟨row, hrow⟩ := settingArray_sequencers
  refine ⟨_, rfl, s.hostWrite_took h, ?_⟩
  rw [s.hostWrite_accepted h, State.adc_of_inputs (State.inputs_congr (State.accept_ana ..))]
  refine ⟨s.seqWrite_runs hrow r c false _ (by decide) _, fun hon => ?_⟩
  rw [hon, State.seqEff_stops, State.seqOff_taken]

/-! ### The obligation -/

/-- Settles O22: from what a due sample, a conversion, a late one and a pass end make of a converter, and from the run flags. -/
theorem converterSequences : Obligations.ConverterSequences := by
  unfold Obligations.ConverterSequences
  refine fun s c => ⟨fun hruns hstep hdue => ?sample, fun x rest raw beyond cl conds pred h => ?conversion,
    fun x rest h hlate => ⟨_, rfl, s.adcTimeout_restarts h hlate⟩, fun hruns hsteps hdue => ?pass,
    fun r h => exec_sequencerStart_accepted s h, fun r h => exec_sequencerStop_accepted s h⟩
  case sample =>
    obtain ⟨x, hadc, hx⟩ := s.adcSample_due hruns hstep hdue
    exact ⟨_, x, rfl, congrArg Adc.step hadc, congrArg Adc.taken hadc, hx⟩
  case conversion =>
    refine ⟨_, rfl, s.adcDone_taken h raw beyond cl conds pred, fun hbeyond hcl hpos htrans hfinite => ?_⟩
    subst hbeyond hcl
    exact s.adcDone_newest h raw conds pred hpos htrans hfinite
  case pass =>
    have hadc := s.passEnd_due hruns hsteps hdue
    exact ⟨_, rfl, congrArg Adc.step hadc, congrArg Adc.passAt hadc⟩

end Sys2Proof.Machine
end

section
/-! What the capture engine, its sequencer and the start of a frame leave as it is (R30, R99, R261 ... R267, R307): the clock, the queue of
commands, what has been sent, and of the Wofen bus its role, the numbers of frame events and the silence. -/

namespace Sys2Proof.Machine

variable (s : State)

/-! ### The projection -/

/-- What has been sent, and of the Wofen bus the role, the number of the last frame event, the period of the next and the last packet. -/
def State.busSide (s : State) : List Out × Nat × Nat × Nat × Nat := (s.out, s.wof.role, s.wof.fseq, s.wof.nextFrame, s.wof.silentAt)

/-- The period, the timescale and the queue of commands. -/
def State.clock (s : State) : Nat × Nat × List Instr := (s.now, s.scale, s.pending)

/-- Both together: what neither the capture engine nor the start of a frame touches. -/
def State.steady (s : State) : (Nat × Nat × List Instr) × List Out × Nat × Nat × Nat × Nat := (s.clock, s.busSide)

theorem State.clock_congr {s t : State} (hnow : t.now = s.now) (hscale : t.scale = s.scale) (hpending : t.pending = s.pending) :
    t.clock = s.clock := by
  unfold State.clock
  rw [hnow, hscale, hpending]

theorem State.fields_of_clock {s t : State} (h : t.clock = s.clock) : t.now = s.now ∧ t.scale = s.scale ∧ t.pending = s.pending := by
  simpa only [State.clock, Prod.mk.injEq] using h

theorem State.fields_of_busSide {s t : State} (h : t.busSide = s.busSide) :
    t.out = s.out ∧ t.wof.role = s.wof.role ∧ t.wof.fseq = s.wof.fseq ∧ t.wof.nextFrame = s.wof.nextFrame ∧ t.wof.silentAt = s.wof.silentAt := by
  simpa only [State.busSide, Prod.mk.injEq] using h

theorem State.clock_of_steady {s t : State} (h : t.steady = s.steady) : t.clock = s.clock := congrArg Prod.fst h
theorem State.busSide_of_steady {s t : State} (h : t.steady = s.steady) : t.busSide = s.busSide := congrArg Prod.snd h

@[simp] theorem State.bump_steady (o el k : Nat) : (s.bump o el k).steady = s.steady := by
  rw [State.bump_keeps]
  rfl
@[simp] theorem State.evt_steady (code param : Nat) : (s.evt code param).steady = s.steady := by
  rw [State.evt_keeps]
  rfl
@[simp] theorem State.setObj_steady (o el : Nat) (v : Int) : (s.setObj o el v).steady = s.steady := rfl
@[simp] theorem State.modCap_steady (f : Capture → Capture) : (s.modCap f).steady = s.steady := rfl
@[simp] theorem State.setSeg_steady (i : Nat) (g : Seg) : (s.setSeg i g).steady = s.steady := rfl
@[simp] theorem State.modLink_steady (l : Fin 2) (f : Link → Link) : (s.modLink l f).steady = s.steady := rfl
@[simp] theorem State.setQueue_steady (n : Fin 4) (v : OutQ) : (s.setQueue n v).steady = s.steady := rfl
@[simp] theorem State.modQuad_steady (q : Fin 4) (f : Quad → Quad) : (s.modQuad q f).steady = s.steady := rfl
@[simp] theorem State.modFrm_steady (f : Frames → Frames) : (s.modFrm f).steady = s.steady := rfl

/-! ### The capture engine (R255, R266, R267) -/

@[simp] theorem State.capBump_steady (el : Nat) : (s.capBump el).steady = s.steady := State.bump_steady ..

@[simp] theorem State.capArm_steady : s.capArm.steady = s.steady := by
  unfold State.capArm
  split <;> simp

@[simp] theorem State.capHalt_steady (why : Nat) : (s.capHalt why).steady = s.steady := by
  simp [State.capHalt]

/-- A gap whose length is free takes a number from the source of them, and nothing else. -/
theorem State.steady_withFree (n : Nat) : ({ s with free := n } : State).steady = s.steady := rfl

@[simp] theorem State.segClose_steady (fl : Nat) : (s.segClose fl).steady = s.steady := by
  unfold State.segClose
  dsimp only
  split
  · simp
  · split
    · simp
    · rw [State.steady_withFree]
      simp

@[simp] theorem State.segPut_steady (r : CapRec) : (s.segPut r).steady = s.steady := by
  unfold State.segPut
  dsimp only
  split
  · simp
  · split
    · split <;> simp
    · rfl

@[simp] theorem State.trigTake_steady (t : CapTrig) : (s.trigTake t).steady = s.steady := by
  simp [State.trigTake]

@[simp] theorem State.trigMiss_steady : s.trigMiss.steady = s.steady := by
  unfold State.trigMiss
  dsimp only
  split
  · simp
  · split <;> simp

@[simp] theorem State.capRearm_steady : s.capRearm.steady = s.steady := by
  unfold State.capRearm
  dsimp only
  split
  · split
    · split <;> simp
    · split <;> simp
  · rfl

/-- Outside a gap nothing is armed. -/
theorem State.capRearm_noGap (h : s.cap.st ≠ 3) : s.capRearm = s := if_neg fun hgap => h hgap.1

@[simp] theorem State.trigger_steady (t : CapTrig) : (s.trigger t).steady = s.steady := by
  have hbeyond : ∀ s : State, (State.trigger.beyond t s).steady = s.steady := fun s => by
    unfold State.trigger.beyond
    split <;> simp
  unfold State.trigger
  split <;> simp [hbeyond]

/-! ### The sequencer (R261 ... R264) -/

/-- A request for a relay waits at the master or at the member. -/
@[simp] theorem State.wofenRequest_steady : s.wofenRequest.steady = s.steady := by
  unfold State.wofenRequest
  dsimp only
  split
  · simp
  · rfl
  · rfl

@[simp] theorem State.seqGo_steady (which t : Nat) : (s.seqGo which t).steady = s.steady := by
  simp [State.seqGo, apply_ite State.steady]

@[simp] theorem State.seqOcc_steady (t : Nat) (o : Occ) : (s.seqOcc t o).1.steady = s.steady := by
  simp [State.seqOcc, apply_ite Prod.fst, apply_ite State.steady]

@[simp] theorem State.seqRun_steady (n : Nat) (l : List (Nat × Occ)) : (State.seqRun n l s).steady = s.steady := by
  induction n generalizing l s with
  | zero => rfl
  | succ n ih =>
    cases l with
    | nil => rfl
    | cons x l =>
      unfold State.seqRun
      dsimp only
      split <;> simp [ih]

@[simp] theorem State.occur_steady (t : Nat) (o : Occ) : (s.occur t o).steady = s.steady := by
  unfold State.occur State.seqWait
  dsimp only
  split <;> simp

@[simp] theorem State.occNote_steady (t : Nat) (o : Occ) : (s.occNote t o).steady = s.steady := by
  unfold State.occNote
  split <;> simp

/-! ### The packers (R278, R307) -/

@[simp] theorem State.reserve_steady (n : Fin 4) (l : Nat) : (s.reserve n l).1.steady = s.steady := by
  unfold State.reserve
  dsimp only
  split <;> simp

@[simp] theorem State.commit_steady (n : Fin 4) (l : Nat) (o : Octets) (frame : Nat) : (s.commit n l o frame).steady = s.steady := rfl

@[simp] theorem State.rewindOpen_steady (n : Fin 4) (l : Nat) : (s.rewindOpen n l).steady = s.steady := by
  simp [State.rewindOpen]

@[simp] theorem State.setInHand_steady (l : Fin 2) (h : InHand) : (s.setInHand l h).steady = s.steady := rfl

@[simp] theorem State.commitInHand_steady (l : Fin 2) (frame fl : Nat) (again : Bool) : (s.commitInHand l frame fl again).steady = s.steady := by
  unfold State.commitInHand
  split
  · rfl
  · cases again <;> simp

@[simp] theorem State.commitExport_steady (l : Fin 2) (frame : Nat) : (s.commitExport l frame).steady = s.steady := by
  unfold State.commitExport
  split
  · rfl
  · dsimp only
    split <;> simp

@[simp] theorem State.closeFrame_steady (l : Fin 2) (frame : Nat) : (s.closeFrame l frame).steady = s.steady := by
  unfold State.closeFrame
  dsimp only
  split
  · split <;> simp
  · simp

@[simp] theorem State.closeOlder_steady (l : Fin 2) : (s.closeOlder l).steady = s.steady :=
  foldl_keeps State.steady (fun s (h : InHand) => s.closeFrame_steady l h.frame) _ s

@[simp] theorem State.openInHand_steady (l : Fin 2) (live : Nat) : (s.openInHand l live).steady = s.steady := by
  simp [State.openInHand]

@[simp] theorem State.abortInHand_steady (l : Fin 2) (frame : Nat) : (s.abortInHand l frame).steady = s.steady := by
  unfold State.abortInHand
  split
  · rfl
  · simp [apply_ite State.steady]

/-! ### Frame starts (R30, R99) -/

@[simp] theorem State.emReport_steady : s.emReport.steady = s.steady := rfl

/-- A delay that is adopted changes neither the role nor the numbers nor the silence. -/
@[simp] theorem State.adoptDelay_steady : s.adoptDelay.steady = s.steady := by
  unfold State.adoptDelay
  split <;> rfl

theorem State.forQuads_keeps {α : Type} (g : State → α) {f : State → Fin 4 → State} (h : ∀ s q, g (f s q) = g s) : g (forQuads s f) = g s := by
  simp only [forQuads, h]

@[simp] theorem State.startFrame_steady (t : Nat) : (s.startFrame t).steady = s.steady := by
  unfold State.startFrame
  dsimp only
  rw [State.openInHand_steady, State.openInHand_steady, State.adoptDelay_steady, State.occNote_steady, State.emReport_steady,
    State.forQuads_keeps _ State.steady fun s q => s.modQuad_steady q _]
  show (ite _ _ _ : State).steady = s.steady
  rw [apply_ite State.steady, State.bump_steady, ite_self]
  rfl

@[simp] theorem State.tryStart_steady : s.tryStart.steady = s.steady := by
  unfold State.tryStart
  split
  · rfl
  · dsimp only
    split <;> simp

@[simp] theorem State.wantStart_steady (t : Nat) (held : Bool) (less : Nat) : (s.wantStart t held less).steady = s.steady := by
  simp [State.wantStart, apply_ite State.steady]

@[simp] theorem State.dropFrame_steady : s.dropFrame.steady = s.steady := by
  unfold State.dropFrame
  rw [State.abortInHand_steady, State.abortInHand_steady, State.forQuads_keeps _ State.steady fun s q => s.modQuad_steady q _]

@[simp] theorem State.abortFrame_steady : s.abortFrame.steady = s.steady := by
  simp [State.abortFrame]

/-- Whatever a trigger does under its policy, the bus goes on as it was. -/
@[simp] theorem State.frameTrigger_steady (t less : Nat) : (s.frameTrigger t less).steady = s.steady := by
  simp [State.frameTrigger, apply_ite State.steady]

end Sys2Proof.Machine
end

section
/-! The master's queue and the idle step (R227, R239, log entries 1 and 82): what the packet whose turn it is changes of the bus, what a free line
sends, and a period in which no command waits. -/

namespace Sys2Proof.Machine

variable (s : State)

/-! ### Packets (R238, R239) -/

/-- A packet of the part, with its levels on the line. -/
def wofenOut (pair type fl addr pay : Nat) : Out := .wofen pair (wofenPkt type fl addr pay) (wofenLine (wofenPkt type fl addr pay))

/-- A packet is sent, and the capture engine may record it; nothing else changes. -/
theorem State.wtb_keeps (pair type fl pay ahead : Nat) : s.wtb pair type fl pay ahead =
    { s with out := s.out ++ [wofenOut pair type fl s.busAddr pay], cap := (s.wtb pair type fl pay ahead).cap } := by
  unfold State.wtb
  dsimp only
  rw [State.capNote_keeps]
  rfl

/-- A packet that leaves the queue takes the line; a cycle opens its windows, a relay and a ping leave their marks. -/
theorem State.wtbSend_keeps (p : WtbPkt) : s.wtbSend p = { s with
    out := s.out ++ [wofenOut 0 p.type p.fl s.busAddr p.pay]
    wof := { s.wof with
      queue := (s.wtbSend p).wof.queue, lineFree := (s.wtbSend p).wof.lineFree, winAt := (s.wtbSend p).wof.winAt
      open_ := (s.wtbSend p).wof.open_, marks := (s.wtbSend p).wof.marks }
    dict := (s.wtbSend p).dict, free := (s.wtbSend p).free, cap := (s.wtbSend p).cap } := by
  unfold State.wtbSend
  dsimp only
  rw [State.wtb_keeps]
  split
  · rfl
  · rw [State.bump_keeps]
    rfl
  · rfl
  · rfl

theorem State.wtbDrain_keeps : s.wtbDrain = { s with
    out := s.wtbDrain.out
    wof := { s.wof with
      queue := s.wtbDrain.wof.queue, lineFree := s.wtbDrain.wof.lineFree, winAt := s.wtbDrain.wof.winAt
      open_ := s.wtbDrain.wof.open_, marks := s.wtbDrain.wof.marks }
    dict := s.wtbDrain.dict, free := s.wtbDrain.free, cap := s.wtbDrain.cap } := by
  unfold State.wtbDrain
  split
  · rfl
  · split
    · rw [State.wtbSend_keeps]
    · rfl

@[simp] theorem State.wtbDrain_clock : s.wtbDrain.clock = s.clock := by
  rw [State.wtbDrain_keeps]
  rfl

/-- Of the bus itself the queue, the line and the marks alone change. -/
theorem State.wtbDrain_wof : s.wtbDrain.wof = { s.wof with
    queue := s.wtbDrain.wof.queue, lineFree := s.wtbDrain.wof.lineFree, winAt := s.wtbDrain.wof.winAt
    open_ := s.wtbDrain.wof.open_, marks := s.wtbDrain.wof.marks } :=
  congrArg State.wof s.wtbDrain_keeps

/-- A packet that waits alone and is due leaves at once where the line is free and no fixed packet is near. -/
theorem State.wtbDrain_alone {type fl pay addr : Nat} (hrole : s.wof.role = 1)
    (hqueue : s.wof.queue = [{ prio := wtbRank type, type := type, fl := fl, pay := pay, due := s.now }])
    (hline : s.wof.lineFree ≤ s.now) (hfree : s.wtbFree = true) (haddr : s.busAddr = addr) : wofenOut 0 type fl addr pay ∈ s.wtbDrain.out := by
  have hpick : s.wtbPick = some { prio := wtbRank type, type := type, fl := fl, pay := pay, due := s.now } := by
    unfold State.wtbPick
    simp [hqueue]
  have hsend : s.wtbDrain = s.wtbSend { prio := wtbRank type, type := type, fl := fl, pay := pay, due := s.now } := by
    unfold State.wtbDrain
    rw [if_neg (by simp [hrole, hline, hfree]), hpick]
  rw [hsend, State.wtbSend_keeps, haddr]
  exact List.mem_append_right _ (List.mem_singleton_self _)

/-! ### The idle step (R227) -/

@[simp] theorem State.relayMarks_clock : s.relayMarks.clock = s.clock :=
  State.clock_of_steady (foldl_keeps State.steady (fun s (m : Nat × Nat) => s.occur_steady s.capNow (.relay m.2)) _ _)

/-- The end of a save writes a copy, logs its event and answers its command. -/
@[simp] theorem State.saveEnd_clock : s.saveEnd.clock = s.clock := by
  unfold State.saveEnd
  split
  · rfl
  · dsimp only
    split <;> exact State.clock_congr (by simp [State.setCopy]) (by simp [State.setCopy]) (by simp [State.setCopy])

theorem State.saveEnd_noSave (h : s.pilot.save = none) : s.saveEnd = s := by
  unfold State.saveEnd
  rw [h]

theorem State.idleTick_clock : s.idleTick.clock = s.tick.clock := by
  have hsave : s.tick.capRearm.saveEnd.clock = s.tick.clock := (State.saveEnd_clock _).trans (State.clock_of_steady (State.capRearm_steady _))
  unfold State.idleTick
  dsimp only
  split
  · exact hsave
  · rw [State.wtbDrain_clock, State.relayMarks_clock, hsave]

/-- With nothing under way time passes and nothing else. -/
theorem State.idleTick_quiet (hqueue : s.wof.queue = []) (hmarks : s.wof.marks = []) (hgap : s.cap.st ≠ 3) (hsave : s.pilot.save = none) :
    s.idleTick = s.tick := by
  unfold State.idleTick
  rw [s.tick.capRearm_noGap hgap, s.tick.saveEnd_noSave hsave]
  exact if_pos (by simp [hqueue, hmarks])

theorem step_idle (h : s.pending = []) : step s = .next s.idleTick := by
  unfold step
  rw [h]

/-- Settles O2: on an empty queue the clock goes on by one period, and where nothing is under way it alone does. -/
theorem emptyQueueTicks : Obligations.EmptyQueueTicks := by
  unfold Obligations.EmptyQueueTicks
  refine fun s hpending => ⟨?_, fun hqueue hmarks hgap hsave => ?_⟩
  · obtain ⟨hnow, hscale, hqueue⟩ := State.fields_of_clock s.idleTick_clock
    exact ⟨_, step_idle s hpending, hnow, hscale, hqueue.trans hpending⟩
  · rw [step_idle s hpending, s.idleTick_quiet hqueue hmarks hgap hsave]
    rfl

end Sys2Proof.Machine
end

section
/-! The Time Keeper's choice of a source (R228, R230, R231, R234): what the comparison, the choice and the discipline of the timescale leave as
they are, and when no source is chosen. -/

namespace Sys2Proof.Machine

variable (s : State)

/-! ### The comparison of R234 -/

/-- The ports after a comparison. -/
def State.comparedPorts (s : State) : Vector PtpPort 2 :=
  (s.time.ports.set 0 ((s.time.ports.get 0).become (s.portDecision 0) s.now)).set 1 ((s.time.ports.get 1).become (s.portDecision 1) s.now)

/-- The comparison sets the ports and the time status, and logs a change of grandmaster. -/
theorem State.bmca_cases : ∃ t : State, t = { s with time := { s.time with ports := s.comparedPorts }, dict := t.dict } ∧
    (s.bmca = t ∨ ∃ role, s.bmca = t.evt 0x0502 role) := by
  unfold State.bmca
  dsimp only
  split
  · refine ⟨_, ?_, Or.inr ⟨_, rfl⟩⟩
    rfl
  · refine ⟨_, ?_, Or.inl rfl⟩
    rfl

theorem State.bmca_keeps : s.bmca = { s with
    time := { s.time with ports := s.comparedPorts }, dict := s.bmca.dict, free := s.bmca.free, ev := s.bmca.ev } := by
  obtain ⟨t, ht, h | ⟨role, h⟩⟩ := s.bmca_cases
  · rw [h, ht]
  · rw [h, State.evt_keeps, ht]

theorem State.bmca_time : s.bmca.time = { s.time with ports := s.comparedPorts } := congrArg State.time s.bmca_keeps

@[simp] theorem State.bmca_steady : s.bmca.steady = s.steady := by
  rw [State.bmca_keeps]
  rfl

@[simp] theorem State.bmca_life : s.bmca.life = s.life := by
  rw [State.bmca_keeps]

/-- Each port takes the state that the comparison gives it. -/
theorem State.bmca_port (p : Fin 2) : s.bmca.time.ports.get p = (s.time.ports.get p).become (s.portDecision p) s.now := by
  rw [State.bmca_time]
  match p with
  | 0 => exact (Vector.getElem_set_ne (by decide) (by decide) (by decide)).trans (Vector.getElem_set_self (by decide))
  | 1 => exact Vector.getElem_set_self (by decide)

/-- A port that takes part is given a state other than off. -/
theorem State.portDecision_ne_zero {p : Fin 2} (h : s.ptpOn p = true) : s.portDecision p ≠ 0 := by
  unfold State.portDecision
  rw [if_neg (by simp [h])]
  split
  · decide
  · split <;> decide
  · decide
  · split
    · decide
    · split <;> decide
  · decide

/-! ### Ports -/

/-- A port that is not turned off keeps the master it has heard. -/
theorem PtpPort.become_best (x : PtpPort) {st : Nat} (now : Nat) (h : st ≠ 0) : (x.become st now).best = x.best := by
  unfold PtpPort.become
  split <;> rfl

@[simp] theorem PtpPort.become_annAt (x : PtpPort) (st now : Nat) : (x.become st now).annAt = x.annAt := by
  unfold PtpPort.become
  split <;> rfl

/-- No port is locked, and none has a master, that was not or had none before. -/
theorem PtpPort.become_locked {x : PtpPort} {st now : Nat} (h : x.locked = false) : (x.become st now).locked = false := by
  unfold PtpPort.become
  split
  · exact h
  · rfl

theorem PtpPort.become_best_none {x : PtpPort} {st now : Nat} (h : x.best = none) : (x.become st now).best = none := by
  unfold PtpPort.become
  split
  · exact h
  · simp [h]

/-! ### The choice of R230 and R231 -/

theorem State.timeChoose_keeps : s.timeChoose = { s with
    time := { s.time with
      st := s.timeChoose.time.st, src := s.timeChoose.time.src, holdAt := s.timeChoose.time.holdAt, y := s.timeChoose.time.y
      stepDue := s.timeChoose.time.stepDue }
    dict := s.timeChoose.dict, free := s.timeChoose.free, ev := s.timeChoose.ev } := by
  unfold State.timeChoose
  dsimp only
  split
  · split
    · rfl
    · rw [State.evt_keeps]
      rfl
  · split
    · rfl
    · split
      · rfl
      · split
        · rw [State.evt_keeps]
          rfl
        · rfl

theorem State.ref10Rates_keeps : s.ref10Rates = { s with
    time := { s.time with y := s.ref10Rates.time.y, refRate := s.ref10Rates.time.refRate } } := by
  unfold State.ref10Rates
  split
  · split <;> rfl
  · rfl

theorem State.ref10Rates_st : s.ref10Rates.time.st = s.time.st := by
  rw [State.ref10Rates_keeps]

theorem State.timeSelect_keeps : s.timeSelect = { s with
    time := { s.time with
      st := s.timeSelect.time.st, src := s.timeSelect.time.src, holdAt := s.timeSelect.time.holdAt, y := s.timeSelect.time.y
      stepDue := s.timeSelect.time.stepDue, refRate := s.timeSelect.time.refRate }
    dict := s.timeSelect.dict, free := s.timeSelect.free, ev := s.timeSelect.ev } := by
  unfold State.timeSelect
  rw [State.ref10Rates_keeps, State.timeChoose_keeps]

theorem State.timeSelect_time : s.timeSelect.time = { s.time with
    st := s.timeSelect.time.st, src := s.timeSelect.time.src, holdAt := s.timeSelect.time.holdAt, y := s.timeSelect.time.y
    stepDue := s.timeSelect.time.stepDue, refRate := s.timeSelect.time.refRate } :=
  congrArg State.time s.timeSelect_keeps

@[simp] theorem State.timeSelect_steady : s.timeSelect.steady = s.steady := by
  rw [State.timeSelect_keeps]
  rfl

@[simp] theorem State.timeSelect_life : s.timeSelect.life = s.life := by
  rw [State.timeSelect_keeps]

@[simp] theorem State.timeSelect_ports : s.timeSelect.time.ports = s.time.ports := by
  rw [State.timeSelect_time]

/-! ### Ports and source together -/

/-! Objects that the choice of a source leaves as they are (R236, R245). -/

theorem timeKeeps_timeRun : timeKeeps 0x2001 := by unfold timeKeeps; decide
theorem timeKeeps_ptp : timeKeeps 0x2000 := by unfold timeKeeps; decide
theorem timeKeeps_mac : timeKeeps 0x1022 := by unfold timeKeeps; decide
theorem timeKeeps_sources : timeKeeps 0x2010 := by unfold timeKeeps; decide
theorem timeKeeps_busRun : timeKeeps 0x2101 := by unfold timeKeeps; decide

/-- Ports and source settle without a change to pulses, marks, sentences and rates measured. -/
theorem State.timeUpdate_time : s.timeUpdate.time = { s.time with
    st := s.timeUpdate.time.st, src := s.timeUpdate.time.src, holdAt := s.timeUpdate.time.holdAt, y := s.timeUpdate.time.y
    stepDue := s.timeUpdate.time.stepDue, refRate := s.timeUpdate.time.refRate, ports := s.timeUpdate.time.ports } := by
  unfold State.timeUpdate
  rw [State.timeSelect_time, State.bmca_time, State.timeSelect_time, State.bmca_time]

@[simp] theorem State.timeUpdate_steady : s.timeUpdate.steady = s.steady := by
  simp [State.timeUpdate]

theorem State.timeUpdate_obj {o : Nat} (h : timeKeeps o) (el : Nat) : s.timeUpdate.obj o el = s.obj o el := by
  unfold State.timeUpdate
  rw [State.timeSelect_obj _ h, State.bmca_obj _ h, State.timeSelect_obj _ h, State.bmca_obj _ h]

/-- A port takes part by its settings and the device state, which the choice leaves as they are. -/
theorem State.ptpOn_congr {s t : State} (hobj : ∀ {o : Nat}, timeKeeps o → ∀ el, t.obj o el = s.obj o el) (hlife : t.life = s.life) (p : Fin 2) :
    t.ptpOn p = s.ptpOn p := by
  unfold State.ptpOn State.timeRuns State.fromConfig
  rw [hobj timeKeeps_timeRun, hobj timeKeeps_ptp, hobj timeKeeps_ptp, hobj timeKeeps_mac, hlife]

theorem State.bmca_ptpOn (p : Fin 2) : s.bmca.ptpOn p = s.ptpOn p := State.ptpOn_congr s.bmca_obj s.bmca_life p
theorem State.timeSelect_ptpOn (p : Fin 2) : s.timeSelect.ptpOn p = s.ptpOn p := State.ptpOn_congr s.timeSelect_obj s.timeSelect_life p

/-- What every change of a port's state keeps true of it, where a port that takes part is not turned off. -/
theorem State.bmca_port_keeps {P : PtpPort → Prop} {p : Fin 2}
    (h : ∀ x st now, (s.ptpOn p = true → st ≠ 0) → P x → P (x.become st now)) (hp : P (s.time.ports.get p)) : P (s.bmca.time.ports.get p) := by
  rw [State.bmca_port]
  exact h _ _ _ s.portDecision_ne_zero hp

theorem State.timeUpdate_port_keeps {P : PtpPort → Prop} {p : Fin 2}
    (h : ∀ x st now, (s.ptpOn p = true → st ≠ 0) → P x → P (x.become st now)) (hp : P (s.time.ports.get p)) :
    P (s.timeUpdate.time.ports.get p) := by
  unfold State.timeUpdate
  rw [State.timeSelect_ports]
  refine State.bmca_port_keeps _ (fun x st now hst => h x st now ?_) ?_
  · rwa [State.timeSelect_ptpOn, State.bmca_ptpOn] at hst
  · rw [State.timeSelect_ports]
    exact s.bmca_port_keeps h hp

/-! ### No source (R230, R231) -/

/-- No source of the list is locked exactly when none is chosen. -/
theorem State.topSource_eq_zero_iff : s.topSource = 0 ↔ ∀ i < 4, s.time.lockedSrc (s.objN 0x2010 (i + 1)) = false := by
  unfold State.topSource
  cases hf : ((List.range 4).map fun i => s.objN 0x2010 (i + 1)).find? fun c => s.time.lockedSrc c with
  | none => simpa using hf
  | some c =>
    have hlocked : s.time.lockedSrc c = true := List.find?_some hf
    obtain ⟨i, hi, rfl⟩ := List.mem_map.1 (List.mem_of_find?_eq_some hf)
    refine ⟨fun h0 => ?_, fun h => absurd (h i (List.mem_range.1 hi)) (by simp [hlocked])⟩
    rw [Option.getD_some] at h0
    rw [h0] at hlocked
    cases hlocked

/-- A comparison locks no source. -/
theorem State.bmca_lockedSrc {c : Nat} (h : s.time.lockedSrc c = false) : s.bmca.time.lockedSrc c = false := by
  have hport : ∀ p : Fin 2, (s.time.ports.get p).locked = false → (s.bmca.time.ports.get p).locked = false := fun p hp => by
    rw [State.bmca_port]
    exact PtpPort.become_locked hp
  unfold Time.lockedSrc at h ⊢
  split
  · rwa [State.bmca_time]
  · exact hport 0 h
  · exact hport 1 h
  · rwa [State.bmca_time]
  · rfl

theorem State.bmca_topSource (h : s.topSource = 0) : s.bmca.topSource = 0 := by
  rw [State.topSource_eq_zero_iff] at h ⊢
  intro i hi
  unfold State.objN
  rw [s.bmca_obj timeKeeps_sources]
  exact s.bmca_lockedSrc (h i hi)

theorem State.timeSelect_lockedSrc (c : Nat) : s.timeSelect.time.lockedSrc c = s.time.lockedSrc c := by
  unfold Time.lockedSrc
  rw [State.timeSelect_time]

theorem State.timeSelect_topSource : s.timeSelect.topSource = s.topSource := by
  unfold State.topSource State.objN
  simp only [s.timeSelect_obj timeKeeps_sources, State.timeSelect_lockedSrc]

/-- Without a source a part that is free of one stays so. -/
theorem State.timeSelect_free (htop : s.topSource = 0) (hst : s.time.st = 0) : s.timeSelect.time.st = 0 := by
  have hchoose : s.timeChoose = s := by
    unfold State.timeChoose
    simp [htop, hst]
  unfold State.timeSelect
  rw [State.ref10Rates_st, hchoose, hst]

theorem State.bmca_st : s.bmca.time.st = s.time.st := by
  rw [State.bmca_time]

theorem State.timeUpdate_free (htop : s.topSource = 0) (hst : s.time.st = 0) : s.timeUpdate.time.st = 0 := by
  have hfirst : s.bmca.timeSelect.time.st = 0 := State.timeSelect_free _ (s.bmca_topSource htop) (s.bmca_st.trans hst)
  have htop' : s.bmca.timeSelect.topSource = 0 := (State.timeSelect_topSource _).trans (s.bmca_topSource htop)
  unfold State.timeUpdate
  exact State.timeSelect_free _ (State.bmca_topSource _ htop') ((State.bmca_st _).trans hfirst)

/-! ### The discipline (R228) -/

/-- Of the Time Keeper a slew or a step changes the rates, the step due and the next second. -/
theorem State.discipline_time (off rate : Int) : (s.discipline off rate).time = { s.time with
    rate := (s.discipline off rate).time.rate, y := (s.discipline off rate).time.y, stepDue := (s.discipline off rate).time.stepDue
    nextSec := (s.discipline off rate).time.nextSec } := by
  unfold State.discipline
  dsimp only
  split
  · rfl
  · split
    · rfl
    · unfold State.stepNow
      dsimp only
      rw [State.evt_time, State.bump_time]
      rfl

/-- And nothing of the bus. -/
theorem State.discipline_busSide (off rate : Int) : (s.discipline off rate).busSide = s.busSide := by
  unfold State.discipline
  dsimp only
  split
  · rfl
  · split
    · rfl
    · unfold State.stepNow
      dsimp only
      rw [State.busSide_of_steady (State.evt_steady ..), State.busSide_of_steady (State.bump_steady ..)]
      rfl

end Sys2Proof.Machine
end

section
/-! Pulses and sentences of a GNSS receiver (R230). -/

namespace Sys2Proof.Machine

variable (s : State)

/-! ### Pulses -/

/-- The pulse is on the edge that is used, and the time service runs. -/
def State.takesPulse (s : State) (rising : Bool) : Prop := s.timeRuns = true ∧ rising = (s.obj 0x2011 1 == 0)

/-- The label of a pulse on the timescale, ns. -/
def State.pulseNs (s : State) (fine : Nat) : Int := (s.nsAt fine : Int) - s.obj 0x2011 2

theorem State.ppsEdge_first {rising : Bool} {fine : Nat} (h : s.takesPulse rising) (hnone : s.time.ppsAt = none) : s.ppsEdge rising fine =
    s.modTime fun x => { x with ppsAt := some (s.steps fine), ppsNs := (s.pulseNs fine).toNat, ppsInt := 0, ppsGood := 0 } := by
  obtain ⟨hruns, hedge⟩ := h
  unfold State.ppsEdge
  rw [if_neg (by simp [hruns, hedge])]
  dsimp only
  rw [hnone]
  rfl

/-- What a pulse one interval after the last notes of GNSS. -/
def State.pulseNoted (s : State) (fine at_ : Nat) : State := s.modTime fun x => { x with
  ppsAt := some (s.steps fine), ppsNs := (s.pulseNs fine).toNat, ppsInt := s.steps fine - at_, ppsGood := s.time.ppsGood + 1
  gnss := x.gnss || (decide (8 ≤ s.time.ppsGood + 1) && s.todKnown) }

/-- It is a good one where it comes within 1 µs of the interval; the source is chosen anew, and disciplines the timescale if it is GNSS. -/
theorem State.ppsEdge_good {rising : Bool} {fine at_ : Nat} (h : s.takesPulse rising) (hat : s.time.ppsAt = some at_) (hint : 0 < s.time.ppsInt)
    (hone : (s.steps fine - at_ + s.time.ppsInt / 2) / s.time.ppsInt = 1) (hlow : s.time.ppsInt ≤ s.steps fine - at_ + us256)
    (hhigh : s.steps fine - at_ ≤ s.time.ppsInt + us256) : s.ppsEdge rising fine =
      if (s.pulseNoted fine at_).timeUpdate.time.src = 1 then
        (s.pulseNoted fine at_).timeUpdate.discipline (nearSecond (s.pulseNs fine)) (measureRate (secP * 256 : Nat) (s.steps fine - at_ : Nat))
      else (s.pulseNoted fine at_).timeUpdate := by
  obtain ⟨hruns, hedge⟩ := h
  unfold State.ppsEdge
  rw [if_neg (by simp [hruns, hedge])]
  dsimp only
  rw [hat]
  dsimp only
  rw [if_neg (Nat.ne_of_gt hint), hone, if_pos ⟨Nat.le_refl 1, by decide, by omega, by omega⟩, if_pos rfl, Nat.div_one, Nat.one_mul]
  unfold State.pulseNoted State.pulseNs
  rfl

/-- A discipline leaves what is known of pulses and sentences as it is. -/
theorem State.discipline_ite_pulses (c : Prop) [Decidable c] (off rate : Int) :
    (if c then s.discipline off rate else s).time.ppsAt = s.time.ppsAt ∧ (if c then s.discipline off rate else s).time.ppsGood = s.time.ppsGood ∧
      (if c then s.discipline off rate else s).time.gnss = s.time.gnss := by
  split
  · rw [State.discipline_time]
    exact ⟨rfl, rfl, rfl⟩
  · exact ⟨rfl, rfl, rfl⟩

theorem State.ppsMissing_due {at_ : Nat} (hat : s.time.ppsAt = some at_) (hgnss : s.time.gnss = true)
    (hdue : at_ + 3 * s.time.ppsInt + us256 < s.steps 0) :
    s.ppsMissing = (s.modTime fun x => { x with gnss := false, ppsGood := 0, ppsAt := none, ppsInt := 0 }).timeUpdate := by
  unfold State.ppsMissing
  rw [hat]
  exact if_pos ⟨hgnss, hdue⟩

/-! ### Sentences -/

theorem State.zda_agrees {at_ utc : Nat} (hat : s.time.ppsAt = some at_) (hruns : s.timeRuns = true) (hused : s.obj 0x2011 3 = 1)
    (hearly : 100 * msP * 256 ≤ s.steps 0 - at_) (hlate : s.steps 0 - at_ ≤ 900 * msP * 256)
    (hagrees : ((s.time.ppsNs : Int) - ((utc : Int) + s.obj 0x2011 5) * 1000000000).natAbs ≤ 1000) :
    s.zda true utc = s.modTime fun x => { x with tod := true, zda := none } := by
  unfold State.zda
  rw [hat]
  dsimp only
  rw [if_neg (by simp [hruns, hused]; omega), if_pos hagrees]

/-- Settles O26: of each pulse and sentence the case of its row, through the choice of the source that follows it
(what makes the time of day known is log entry 40). -/
theorem gnssRows : Obligations.GnssRows := by
  unfold Obligations.GnssRows
  refine fun s => ⟨fun rising fine hruns hedge hnone => ?_, fun rising fine at_ hruns hedge hat hint hone hlow hhigh => ?_,
    fun at_ hat hgnss hdue => ?_, fun utc at_ hat hruns hused hearly hlate hagrees => ?_⟩
  · exact ⟨_, congrArg Host.Outcome.next (s.ppsEdge_first ⟨hruns, hedge⟩ hnone), rfl, rfl, rfl⟩
  · refine ⟨_, congrArg Host.Outcome.next (s.ppsEdge_good ⟨hruns, hedge⟩ hat hint hone hlow hhigh), ?_⟩
    obtain ⟨hppsAt, hgood, hgnss⟩ := State.discipline_ite_pulses (s.pulseNoted fine at_).timeUpdate
      ((s.pulseNoted fine at_).timeUpdate.time.src = 1) (nearSecond (s.pulseNs fine)) (measureRate (secP * 256 : Nat) (s.steps fine - at_ : Nat))
    rw [hppsAt, hgood, hgnss, State.timeUpdate_time]
    exact ⟨rfl, rfl, rfl⟩
  · refine ⟨_, congrArg Host.Outcome.next (s.ppsMissing_due hat hgnss hdue), ?_⟩
    rw [State.timeUpdate_time]
    exact ⟨rfl, rfl⟩
  · exact ⟨_, congrArg Host.Outcome.next (s.zda_agrees hat hruns hused hearly hlate hagrees), rfl, rfl, rfl⟩

end Sys2Proof.Machine
end

section
/-! PTP (R230, R234, R235): what the messages of a domain change of their port, what a port owes when its intervals elapse, and a master that
falls silent. -/

namespace Sys2Proof.Machine

variable (s : State) (p : Fin 2)

/-! ### Ports -/

@[simp] theorem State.port_modPort (f : PtpPort → PtpPort) : (s.modPort p f).time.ports.get p = f (s.time.ports.get p) :=
  Vector.getElem_set_self p.isLt

@[simp] theorem State.port_ptpSend (q : Fin 2) (kind : Nat) (o : Octets) : (s.ptpSend p kind o).time.ports.get q = s.time.ports.get q := rfl

/-! ### Messages -/

/-- Of another domain, or on a port that takes no part, a message has no effect. -/
theorem State.ptpRx_otherDomain {dom : Nat} (m : PtpMsg) (h : dom ≠ s.ptpDom p) : s.ptpRx p dom m = s := if_pos (Or.inr h)

variable {p} (hon : s.ptpOn p = true)
include hon

theorem State.ptpRx_announce (ds : PtpDs) (tlv : Bool) (path : List Nat) :
    s.ptpRx p (s.ptpDom p) (.announce ds tlv path) = s.announceRx p ds tlv path := if_neg (by simp [hon])

theorem State.ptpRx_sync (seq : Nat) (hslave : (s.time.ports.get p).st = 3) : s.ptpRx p (s.ptpDom p) (.sync seq none) =
    s.modPort p fun y => { y with syncAt := s.now, sync2 := some (seq, s.rxStamp p, s.steps 0) } := by
  unfold State.ptpRx
  rw [if_neg (by simp [hon])]
  exact if_pos hslave

theorem State.ptpRx_delayReq (seq : Nat) (hmaster : (s.time.ports.get p).st = 2) (hprof : s.ptpProf p ≠ 3) :
    s.ptpRx p (s.ptpDom p) (.delayReq seq) = s.ptpSend p 9 (toBE 2 seq ++ ptpTime (s.rxStamp p)) := by
  unfold State.ptpRx
  rw [if_neg (by simp [hon])]
  exact if_pos ⟨hmaster, by simp [hprof]⟩

theorem State.ptpRx_management : s.ptpRx p (s.ptpDom p) .management = s.modTime fun y => { y with mgmt := y.mgmt + 1 } :=
  if_neg (by simp [hon])

omit hon in
/-- An Announce of a first master, that is not the part's own by its path, is taken with its rank. -/
theorem State.announceRx_first {ds : PtpDs} {tlv : Bool} {path : List Nat} (hrole : s.obj 0x2000 1 ≠ 1)
    (hnone : (s.time.ports.get p).best = none) (hpath : s.ptpProf p = 3 → path.contains clockIdent = false) : s.announceRx p ds tlv path =
    (s.modPort p fun y => { y with best := some (if tlv then ds else { ds with rank := 0xFFFF }), annAt := s.now, path := path }).timeUpdate := by
  unfold State.announceRx
  dsimp only
  rw [if_neg hrole, if_neg fun h => Bool.false_ne_true ((hpath h.1).symm.trans h.2), hnone]
  exact if_pos rfl

/-- A port that takes part keeps a master that it has taken, through the choices that follow. -/
theorem State.timeUpdate_keeps_best : (s.timeUpdate.time.ports.get p).best = (s.time.ports.get p).best ∧
    (s.timeUpdate.time.ports.get p).annAt = (s.time.ports.get p).annAt :=
  s.timeUpdate_port_keeps (P := fun x => x.best = (s.time.ports.get p).best ∧ x.annAt = (s.time.ports.get p).annAt)
    (fun x st now hst hx => ⟨(x.become_best now (hst hon)).trans hx.1, (x.become_annAt st now).trans hx.2⟩) ⟨rfl, rfl⟩

/-! ### Intervals -/

theorem State.ptpTx_on : s.ptpTx p = ((s.ptpSync p).ptpAnnounce p).ptpDelay p := if_pos hon

omit hon

/-- A Sync that is due leaves with its Follow_Up, and the next one is an interval away. -/
theorem State.ptpSync_due (hmaster : (s.time.ports.get p).st = 2) (hdue : (s.time.ports.get p).nextSync ≤ s.now) :
    ((s.ptpSync p).time.ports.get p).seqSync = ((s.time.ports.get p).seqSync + 1) % 65536 ∧
    ((s.ptpSync p).time.ports.get p).nextSync = s.now + log2Int (s.obj 0x2002 1) ∧
    .ptp p.val (s.ptpProf p) (s.ptpDom p) 0 (toBE 2 (s.time.ports.get p).seqSync) ∈ (s.ptpSync p).out := by
  unfold State.ptpSync
  dsimp only
  rw [if_pos ⟨hmaster, hdue⟩, State.port_modPort, State.port_ptpSend, State.port_ptpSend]
  exact ⟨rfl, rfl, List.mem_append_left _ (List.mem_append_right _ (List.mem_singleton_self _))⟩

/-- What a port owes beside its Sync leaves the numbers of the Sync as they are, and takes back nothing that was sent. -/
theorem State.ptpAnnounce_sync : ((s.ptpAnnounce p).time.ports.get p).seqSync = (s.time.ports.get p).seqSync ∧
    ((s.ptpAnnounce p).time.ports.get p).nextSync = (s.time.ports.get p).nextSync ∧ s.out ⊆ (s.ptpAnnounce p).out := by
  unfold State.ptpAnnounce
  dsimp only
  split
  · rw [State.port_modPort, State.port_ptpSend]
    exact ⟨rfl, rfl, List.subset_append_left _ _⟩
  · exact ⟨rfl, rfl, List.Subset.refl _⟩

theorem State.ptpDelay_sync : ((s.ptpDelay p).time.ports.get p).seqSync = (s.time.ports.get p).seqSync ∧
    ((s.ptpDelay p).time.ports.get p).nextSync = (s.time.ports.get p).nextSync ∧ s.out ⊆ (s.ptpDelay p).out := by
  unfold State.ptpDelay
  dsimp only
  split
  · rw [State.port_modPort, State.port_ptpSend]
    exact ⟨rfl, rfl, List.subset_append_left _ _⟩
  · exact ⟨rfl, rfl, List.Subset.refl _⟩

include hon in
theorem exec_ptpTransmitInterval_sync (hmaster : (s.time.ports.get p).st = 2) (hdue : (s.time.ports.get p).nextSync ≤ s.now) :
    ∃ t, exec (.ptpTransmitInterval p) s = .next t ∧ (t.time.ports.get p).seqSync = ((s.time.ports.get p).seqSync + 1) % 65536 ∧
      (t.time.ports.get p).nextSync = s.now + log2Int (s.obj 0x2002 1) ∧
      .ptp p.val (s.ptpProf p) (s.ptpDom p) 0 (toBE 2 (s.time.ports.get p).seqSync) ∈ t.out := by
  obtain ⟨hseq, hnext, hsent⟩ := s.ptpSync_due hmaster hdue
  obtain ⟨hseqA, hnextA, houtA⟩ := (s.ptpSync p).ptpAnnounce_sync (p := p)
  obtain ⟨hseqD, hnextD, houtD⟩ := ((s.ptpSync p).ptpAnnounce p).ptpDelay_sync (p := p)
  exact ⟨_, congrArg Host.Outcome.next (s.ptpTx_on hon), hseqD.trans (hseqA.trans hseq), hnextD.trans (hnextA.trans hnext), houtD (houtA hsent)⟩

/-! ### Silence (R230) -/

theorem State.announceTimeout_due (hbest : (s.time.ports.get p).best.isSome = true)
    (hdue : (s.time.ports.get p).annAt + s.objN 0x2002 8 * log2Int (s.obj 0x2002 2) ≤ s.now) :
    s.announceTimeout p = (s.modPort p fun y => { y with best := none, locked := false, good := 0 }).timeUpdate := by
  unfold State.announceTimeout
  exact if_pos (by simp [hbest, hdue])

/-- A port whose master was dropped has none and is not locked, through the choices that follow. -/
theorem State.timeUpdate_dropped (hbest : (s.time.ports.get p).best = none) (hlocked : (s.time.ports.get p).locked = false) :
    (s.timeUpdate.time.ports.get p).best = none ∧ (s.timeUpdate.time.ports.get p).locked = false :=
  s.timeUpdate_port_keeps (P := fun x => x.best = none ∧ x.locked = false)
    (fun _ _ _ _ hx => ⟨PtpPort.become_best_none hx.1, PtpPort.become_locked hx.2⟩) ⟨hbest, hlocked⟩

/-- Settles O27: each message has the effect of its row on the port, the Sync leaves when it is due, and a silent master is dropped
(the octets of the messages are the form of log entry 41). -/
theorem ptpRows : Obligations.PtpRows := by
  unfold Obligations.PtpRows
  refine fun s p => ⟨fun hon => ⟨fun ds tlv path hrole hnone hpath => ?_, fun seq hslave => ?_, fun seq hmaster hprof => ?_, ?_,
    fun hmaster hdue => exec_ptpTransmitInterval_sync s hon hmaster hdue⟩, fun dom m hdom => ?_, fun hbest hdue => ?_⟩
  · refine ⟨_, congrArg Host.Outcome.next ((s.ptpRx_announce hon ds tlv path).trans (s.announceRx_first hrole hnone hpath)), ?_⟩
    obtain ⟨hbest, hat⟩ := State.timeUpdate_keeps_best (p := p)
      (s.modPort p fun y => { y with best := some (if tlv then ds else { ds with rank := 0xFFFF }), annAt := s.now, path := path }) hon
    rw [hbest, hat, State.port_modPort]
    exact ⟨rfl, rfl⟩
  · refine ⟨_, congrArg Host.Outcome.next (s.ptpRx_sync hon seq hslave), ?_⟩
    rw [State.port_modPort]
    exact ⟨rfl, rfl, rfl⟩
  · exact ⟨_, congrArg Host.Outcome.next (s.ptpRx_delayReq hon seq hmaster hprof), rfl⟩
  · exact ⟨_, congrArg Host.Outcome.next (s.ptpRx_management hon), rfl⟩
  · exact ⟨_, congrArg Host.Outcome.next (s.ptpRx_otherDomain p m hdom), rfl⟩
  · refine ⟨_, congrArg Host.Outcome.next (s.announceTimeout_due hbest hdue), State.timeUpdate_dropped _ ?_ ?_⟩ <;> rw [State.port_modPort]

end Sys2Proof.Machine
end

section
/-! The time service (R227, R230, R231, R233, R236): the end of holdover, the reference input, the commands on time and its service, and a
whole second. -/

namespace Sys2Proof.Machine

variable (s : State)

/-! ### Holdover (R231) -/

theorem State.holdoverEnd_due (hst : s.time.st = 3) (hbudget : s.objN 0x2030 1 ≤ s.holdBound) : s.holdoverEnd =
    ((s.modTime fun t => { t with st := 0 }).evt 0x1502 (s.objN 0x2000 5)).timeUpdate := if_pos ⟨hst, hbudget⟩

/-- What is locked does not follow from the state of the service, nor does an event change it. -/
theorem State.topSource_ended (code param : Nat) : ((s.modTime fun t => { t with st := 0 }).evt code param).topSource = s.topSource := by
  unfold State.topSource State.objN
  simp only [State.evt_obj_ne _ code param (o := 0x2010) (Or.inl (by decide)), State.evt_time]
  rfl

/-! ### REF10_IN (R230) -/

/-- What a change of the reference input notes. -/
def State.ref10Noted (s : State) (good : Bool) (rate : Int) : State := s.modTime fun t => { t with ref10 := good, ref10Rate := rate, refRate := false }

theorem State.ref10Change_cases (good : Bool) (rate : Int) : s.ref10Change good rate = (s.ref10Noted good rate).ref10Rates ∨
    (s.ref10Noted good rate).ref10Rates.time.st = 3 ∧
      s.ref10Change good rate = ((s.ref10Noted good rate).ref10Rates.modTime fun t => { t with st := 0 }).bmca := by
  unfold State.ref10Change
  dsimp only
  split
  · next h => exact Or.inr ⟨h.1, rfl⟩
  · exact Or.inl rfl

theorem State.ref10Change_ref10 (good : Bool) (rate : Int) : (s.ref10Change good rate).time.ref10 = good := by
  have hrates : (s.ref10Noted good rate).ref10Rates.time.ref10 = good := by
    rw [State.ref10Rates_keeps]
    rfl
  rcases s.ref10Change_cases good rate with h | ⟨-, h⟩
  · rw [h, hrates]
  · rw [h, State.bmca_time]
    exact hrates

/-- While the timescale runs free a reference that is used sets its rate. -/
theorem State.ref10Rates_free (hst : s.time.st = 0) (hvalid : s.ref10Valid = true) (hruns : s.timeRuns = true) (hfresh : s.time.refRate = false) :
    s.ref10Rates = s.modTime fun t => { t with y := clampI (-maxRate) maxRate t.ref10Rate, refRate := true } := by
  unfold State.ref10Rates
  rw [if_pos ⟨by rw [hst]; decide, hvalid, hruns⟩]
  exact if_neg (by simp [hfresh])

theorem State.ref10Change_y {rate : Int} (hst : s.time.st = 0) (hused : s.obj 0x2011 6 = 1) (hruns : s.timeRuns = true) :
    (s.ref10Change true rate).time.y = clampI (-maxRate) maxRate rate := by
  have hvalid : (s.ref10Noted true rate).ref10Valid = true := by
    unfold State.ref10Valid
    exact Bool.and_eq_true_iff.2 ⟨beq_iff_eq.2 hused, rfl⟩
  have hrates := (s.ref10Noted true rate).ref10Rates_free hst hvalid hruns rfl
  rcases s.ref10Change_cases true rate with h | ⟨hheld, -⟩
  · rw [h, hrates]
    rfl
  · rw [State.ref10Rates_st] at hheld
    exact absurd (hst.symm.trans hheld) (by decide)

/-! ### Commands (R236) -/

/-- The timescale holds the time that is set. -/
theorem State.setTime_timeNs (ns : Nat) : (s.setTime ns).timeNs = ns := Nat.mul_div_cancel ns (by decide)

theorem State.timeNs_congr {s t : State} (h : t.scale = s.scale) : t.timeNs = s.timeNs := by
  unfold State.timeNs
  rw [h]

theorem exec_setTime_accepted {r : Req} {ns : Nat} (h : s.accepts r (entArg 0x2005 .u64 ns) (when (s.inRun || s.time.st == 2) 0x0601)) :
    ∃ t, exec (.setTime r ns) s = .next t ∧ t.took r ∧ t.timeNs = ns ∧ t.time.tod = true ∧ t.time.nextSec = ns / 1000000000 + 1 := by
  refine ⟨_, rfl, s.hostWrite_took h, ?_⟩
  rw [s.hostWrite_accepted h, s.storeWrite_command (obj := 0x2005) rfl rfl rfl, State.timeNs_congr (State.accept_scale ..), State.accept_time]
  exact ⟨s.setTime_timeNs ns, rfl, rfl⟩

/-- The row of a run flag: a scalar that a write sets at once. -/
def runFlag (obj : Nat) (row : Row) : Prop :=
  Catalogue.find obj = some row ∧ row.shape = .scalar ∧ row.ty = .bool ∧ row.acc = .rw ∧ row.app = .imm

theorem runFlag_time : ∃ row, runFlag 0x2001 row := ⟨_, rfl, rfl, rfl, rfl, rfl⟩
theorem runFlag_bus : ∃ row, runFlag 0x2101 row := ⟨_, rfl, rfl, rfl, rfl, rfl⟩

/-- A write of a run flag sets it, and no other value in effect. -/
theorem State.storeWrite_runFlag {obj : Nat} {row : Row} (hrow : runFlag obj row) (q : Req) {v : Int} (hv : Ty.bool.dec (Ty.bool.enc v) = v) :
    (s.storeWrite q (ent obj 0 .bool v) 0).dict = (s.setObj obj 0 v).dict := by
  obtain ⟨hf, hshape, hty, hacc, happ⟩ := hrow
  refine s.storeWrite_member q (e := ent obj 0 .bool v) hf (by simp [hacc]) (by simp [hshape]) (by simp [happ]) ?_
  simp [ent, written, hshape, hty, hv]

theorem State.storeWrite_runFlag_obj {obj : Nat} {row : Row} (hrow : runFlag obj row) (q : Req) {v : Int} (hv : Ty.bool.dec (Ty.bool.enc v) = v) :
    (s.storeWrite q (ent obj 0 .bool v) 0).obj obj 0 = v :=
  (State.obj_congr (s.storeWrite_runFlag hrow q hv) _ _).trans (State.obj_setObj_self ..)

theorem State.timeStart_nextSec : s.timeStart.time.nextSec = s.timeNs / 1000000000 + 1 := by
  unfold State.timeStart
  rw [State.timeUpdate_time]
  rfl

theorem exec_timeServiceStart_accepted {r : Req} (h : s.accepts r (ent 0x2001 0 .bool 1) s.timeStartCodes) :
    ∃ t, exec (.timeServiceStart r) s = .next t ∧ t.took r ∧ t.obj 0x2001 0 = 1 ∧ t.time.nextSec = s.timeNs / 1000000000 + 1 := by
  obtain ⟨row, hrow⟩ := runFlag_time
  refine ⟨_, rfl, s.hostWrite_took h, ?_⟩
  rw [s.hostWrite_accepted h, State.obj_congr (State.accept_dict ..), State.accept_time, State.timeStart_nextSec,
    State.timeNs_congr (State.storeWrite_scale ..)]
  exact ⟨(State.timeUpdate_obj _ timeKeeps_timeRun 0).trans (s.storeWrite_runFlag_obj hrow r (by decide)), rfl⟩

/-- A stop leaves the timescale as it is, and no source (R236). -/
theorem State.timeStop_stops : s.timeStop.time.st = 0 ∧ s.timeStop.time.src = 0 ∧ s.timeStop.time.gnss = false ∧ s.timeStop.time.wofen = false ∧
    s.timeStop.scale = s.scale := by
  obtain ⟨-, hscale, -⟩ := State.fields_of_clock (State.clock_of_steady (State.bmca_steady (s.modTime fun t => { t with
    st := 0, src := 0, gnss := false, wofen := false, ppsGood := 0, ppsAt := none, ppsInt := 0, markGood := 0, markAt := none, markHi := none
    markLo := none, stepDue := none, zda := none })))
  unfold State.timeStop
  rw [State.bmca_time]
  exact ⟨rfl, rfl, rfl, rfl, hscale⟩

theorem exec_timeServiceStop_accepted {r : Req}
    (h : s.accepts r (ent 0x2001 0 .bool 0) (when (s.life.st != .config && s.life.st != .service) 0x0601)) :
    ∃ t, exec (.timeServiceStop r) s = .next t ∧ t.took r ∧ t.obj 0x2001 0 = 0 ∧ t.time.st = 0 ∧ t.time.src = 0 ∧
      t.time.gnss = false ∧ t.time.wofen = false ∧ t.scale = s.scale := by
  obtain ⟨row, hrow⟩ := runFlag_time
  refine ⟨_, rfl, s.hostWrite_took h, ?_⟩
  obtain ⟨hst, hsrc, hgnss, hwofen, hscale⟩ := (s.storeWrite r (ent 0x2001 0 .bool 0) 0).timeStop_stops
  have hflag : (s.storeWrite r (ent 0x2001 0 .bool 0) 0).timeStop.obj 0x2001 0 = 0 :=
    (State.bmca_obj _ timeKeeps_timeRun 0).trans (s.storeWrite_runFlag_obj hrow r (by decide))
  rw [s.hostWrite_accepted (codes := fun s => when (s.life.st != .config && s.life.st != .service) 0x0601) h]
  simp only [State.accept_time, State.accept_scale]
  exact ⟨(State.obj_congr (State.accept_dict ..) _ _).trans hflag, hst, hsrc, hgnss, hwofen,
    hscale.trans (State.storeWrite_scale ..)⟩

/-! ### A whole second (R233) -/

theorem State.emit_ite_time (c : Prop) [Decidable c] (o : Out) : (if c then s.emit o else s).time = s.time := by
  split <;> rfl

theorem State.secondOutputs_nextSec : s.secondOutputs.time.nextSec = s.timeNs / 1000000000 + 1 := by
  unfold State.secondOutputs
  dsimp only
  split
  · rw [State.emit_ite_time]
    rfl
  · rw [State.emit_time, State.emit_ite_time]
    rfl

@[simp] theorem State.wtb_time (pair type fl pay ahead : Nat) : (s.wtb pair type fl pay ahead).time = s.time := by
  rw [State.wtb_keeps]

@[simp] theorem State.occNote_time (t : Nat) (o : Occ) : (s.occNote t o).time = s.time := by
  unfold State.occNote
  split <;> rfl

/-- A second mark is a packet, and changes nothing of the Time Keeper. -/
theorem State.secondMark_time : s.secondMark.time = s.time := by
  unfold State.secondMark
  dsimp only
  split
  · rfl
  · split <;> simp

theorem State.wholeSecond_due (h : s.time.nextSec * 1000000000 ≤ s.timeNs) : s.wholeSecond =
    s.secondOutputs.secondMark.occNote (s.timeNs / 1000000000 * 1000000000 * 65536) .second :=
  if_neg fun hearly => absurd hearly.1 (Nat.not_lt.2 h)

/-- Settles O28: holdover ends without a source, the reference input is noted, the commands are taken, and a second passes. -/
theorem timeRows : Obligations.TimeRows := by
  unfold Obligations.TimeRows
  refine fun s => ⟨fun hst hbudget htop => ?_, fun rate => ⟨_, rfl, s.ref10Change_ref10 .., ?_⟩, fun r ns h => exec_setTime_accepted s h,
    fun r h => exec_timeServiceStart_accepted s h, fun r h => exec_timeServiceStop_accepted s h, fun h => ?_⟩
  · refine ⟨_, congrArg Host.Outcome.next (s.holdoverEnd_due hst hbudget), State.timeUpdate_free _ ((s.topSource_ended ..).trans htop) ?_⟩
    rw [State.evt_time]
    rfl
  · rintro x rfl hst hused hruns
    exact s.ref10Change_y hst hused hruns
  · refine ⟨_, congrArg Host.Outcome.next (s.wholeSecond_due h), ?_⟩
    rw [State.occNote_time, State.secondMark_time, State.secondOutputs_nextSec]

end Sys2Proof.Machine
end

section
/-! The packets of a master on the Wofen bus (R238, R239, R240, R243, R245): cycles, frame events, the calibration of delays, and the start and stop
of the bus. -/

namespace Sys2Proof.Machine

variable (s : State)

/-! ### What the queue sees of the state -/

/-- No fixed packet is near for one state as for another with the same clock, second, role and frame events. -/
theorem State.wtbFree_congr {s t : State} (hclock : t.clock = s.clock) (hsec : t.time.nextSec = s.time.nextSec) (hrole : t.wof.role = s.wof.role)
    (hframe : t.wof.nextFrame = s.wof.nextFrame) (hdict : t.dict = s.dict) : t.wtbFree = s.wtbFree := by
  obtain ⟨hnow, hscale, -⟩ := State.fields_of_clock hclock
  unfold State.wtbFree State.sendsFrames
  rw [State.timeNs_congr hscale, hnow, hsec, hrole, hframe, State.obj_congr hdict]

/-! ### Cycles (R239) -/

/-- A cycle takes its place in the queue, with the next number and the next period; with pings behind it in a calibration. -/
def State.cycleQueued (s : State) : State :=
  (s.wtbQueue 2 (b2n (s.wof.calRun.isSome && !s.wof.answers.isEmpty && s.wof.winAt.isSome)) ((s.wof.cyc + 1) % 2 ^ 24) s.now).modWof fun w =>
    { w with cyc := (s.wof.cyc + 1) % 2 ^ 24, nextCyc := w.nextCyc + 250 * usP }

/-- The pings of a plan join the queue. -/
def State.pingsQueued (s : State) (l : List (Nat × Nat)) : State := l.foldl (fun s x => s.wtbQueue 5 0 x.1 x.2) s

theorem State.wofenCycle_due (hrole : s.wof.role = 1) (hdue : s.wof.nextCyc ≤ s.now) : s.wofenCycle =
    (if (s.wof.calRun.isSome && !s.wof.answers.isEmpty && s.wof.winAt.isSome) = true then s.cycleQueued.pingsQueued s.pingPlan
      else s.cycleQueued).wtbDrain := if_neg (by omega)

/-- Neither a ping nor a packet that leaves changes the number of a cycle or its next period. -/
theorem State.pingsQueued_cycle (l : List (Nat × Nat)) : ((s.pingsQueued l).wof.cyc, (s.pingsQueued l).wof.nextCyc) = (s.wof.cyc, s.wof.nextCyc) :=
  foldl_keeps (fun t => (t.wof.cyc, t.wof.nextCyc)) (f := fun s (x : Nat × Nat) => s.wtbQueue 5 0 x.1 x.2) (fun _ _ => rfl) l s

theorem State.wofenCycle_numbers (hrole : s.wof.role = 1) (hdue : s.wof.nextCyc ≤ s.now) :
    s.wofenCycle.wof.cyc = (s.wof.cyc + 1) % 2 ^ 24 ∧ s.wofenCycle.wof.nextCyc = s.wof.nextCyc + 250 * usP := by
  rw [s.wofenCycle_due hrole hdue, State.wtbDrain_wof, ← Prod.mk.injEq]
  split
  · exact s.cycleQueued.pingsQueued_cycle s.pingPlan
  · rfl

/-- With nothing else in the queue the cycle leaves at once. -/
theorem State.wofenCycle_sends (hrole : s.wof.role = 1) (hdue : s.wof.nextCyc ≤ s.now) (hqueue : s.wof.queue = []) (hcal : s.wof.calRun = none)
    (hline : s.wof.lineFree ≤ s.now) (hfree : s.wtbFree = true) : wofenOut 0 2 0 s.busAddr ((s.wof.cyc + 1) % 2 ^ 24) ∈ s.wofenCycle.out := by
  have hplain : s.cycleQueued = (s.wtbQueue 2 0 ((s.wof.cyc + 1) % 2 ^ 24) s.now).modWof fun w =>
      { w with cyc := (s.wof.cyc + 1) % 2 ^ 24, nextCyc := w.nextCyc + 250 * usP } := by
    unfold State.cycleQueued
    rw [hcal]
    rfl
  rw [s.wofenCycle_due hrole hdue, if_neg (by simp [hcal]), hplain]
  refine State.wtbDrain_alone _ hrole ?_ hline ((State.wtbFree_congr rfl rfl rfl rfl rfl).trans hfree) rfl
  exact congrArg (· ++ _) hqueue

/-! ### Frame events (R240) -/

/-- A frame event leaves with the next number, and the next one is a frame period away. -/
def State.frameEventSent (s : State) : State :=
  ((s.wtb 0 1 0 ((s.wof.fseq + 1) % 2 ^ 24) 0).bump 0x2110 7 1).modWof fun w => { w with
    fseq := (s.wof.fseq + 1) % 2 ^ 24, nextFrame := w.nextFrame + s.objN 0x3010 0 * usP
    onTimer := if s.obj 0x3020 1 = 2 then false else w.onTimer, lineFree := s.now + 8 }

theorem State.frameEventSend_due (hsends : s.sendsFrames = true) (hdue : s.wof.nextFrame ≤ s.now) : s.frameEventSend =
    if s.obj 0x3020 1 = 2 then s.frameEventSent.frameTrigger (s.now + usP) else s.frameEventSent := by
  unfold State.frameEventSend
  rw [if_neg (by simp [hsends]; omega)]
  rfl

/-- Whatever its own frame does, the master has sent the event. -/
theorem State.frameEventSend_busSide (hsends : s.sendsFrames = true) (hdue : s.wof.nextFrame ≤ s.now) :
    s.frameEventSend.busSide = s.frameEventSent.busSide := by
  rw [s.frameEventSend_due hsends hdue]
  split
  · exact State.busSide_of_steady (State.frameTrigger_steady ..)
  · rfl

theorem exec_wofenFrameEventSend_due (hsends : s.sendsFrames = true) (hdue : s.wof.nextFrame ≤ s.now) :
    ∃ t, exec .wofenFrameEventSend s = .next t ∧ t.wof.fseq = (s.wof.fseq + 1) % 2 ^ 24 ∧
      t.wof.nextFrame = s.wof.nextFrame + s.objN 0x3010 0 * usP ∧ wofenOut 0 1 0 s.busAddr ((s.wof.fseq + 1) % 2 ^ 24) ∈ t.out := by
  obtain ⟨hout, -, hseq, hnext, -⟩ := State.fields_of_busSide (s.frameEventSend_busSide hsends hdue)
  have hwof : s.frameEventSent.wof = { s.wof with
      fseq := (s.wof.fseq + 1) % 2 ^ 24, nextFrame := s.wof.nextFrame + s.objN 0x3010 0 * usP
      onTimer := if s.obj 0x3020 1 = 2 then false else s.wof.onTimer, lineFree := s.now + 8 } := by
    unfold State.frameEventSent
    rw [State.modWof_wof, State.bump_wof, State.wtb_keeps]
  refine ⟨_, rfl, by rw [hseq, hwof], by rw [hnext, hwof], ?_⟩
  rw [hout, State.frameEventSent, State.modWof_out, State.bump_out, State.wtb_keeps]
  exact List.mem_append_right _ (List.mem_singleton_self _)

/-! ### Calibrations (R243) -/

/-- What a calibration begins with, before its roll call may leave. -/
def State.calOpened (s : State) : State :=
  (s.wtbQueue 7 0 0 s.now).modWof fun w => { w with calRun := some s.now, answers := [], pings := [], open_ := [], recalAt := none, winAt := none }

theorem State.calBegin_eq : s.calBegin = s.calOpened.wtbDrain := rfl

/-- A calibration runs from now on, and waits for answers; the rest of the bus is as it was. -/
theorem State.calBegin_wof : s.calBegin.wof = { s.wof with
    calRun := some s.now, answers := [], pings := [], recalAt := none
    queue := s.calBegin.wof.queue, lineFree := s.calBegin.wof.lineFree, winAt := s.calBegin.wof.winAt, open_ := s.calBegin.wof.open_
    marks := s.calBegin.wof.marks } := by
  rw [State.calBegin_eq, State.wtbDrain_wof]
  rfl

/-- With nothing else in the queue its roll call leaves at once. -/
theorem State.calBegin_sends (hrole : s.wof.role = 1) (hqueue : s.wof.queue = []) (hline : s.wof.lineFree ≤ s.now) (hfree : s.wtbFree = true) :
    wofenOut 0 7 0 s.busAddr 0 ∈ s.calBegin.out := by
  rw [State.calBegin_eq]
  refine State.wtbDrain_alone _ hrole ?_ hline ((State.wtbFree_congr rfl rfl rfl rfl rfl).trans hfree) rfl
  exact congrArg (· ++ _) hqueue

theorem State.mem_foldl_out {β : Type} {o : Out} {f : State → β → State} (hf : ∀ (s : State) x, s.out ⊆ (f s x).out) (l : List β) (h : o ∈ s.out) :
    o ∈ (l.foldl f s).out := by
  induction l generalizing s with
  | nil => exact h
  | cons x l ih => exact ih _ (hf s x h)

/-- A message leaves behind all that has been sent. -/
theorem State.mem_sendMsg_out {o : Out} (port dst prio kind resp master txn abort : Nat) (body : Octets) (h : o ∈ s.out) :
    o ∈ (s.sendMsg port dst prio kind resp master txn abort body).out := by
  have hcan : ∀ p, o ∈ (State.sendMsg.sendCan prio kind resp master txn abort body s p).out := fun p =>
    s.mem_foldl_out (fun _ _ => List.subset_append_left _ _) _ h
  unfold State.sendMsg
  split
  · exact hcan 0
  · exact hcan 1
  · exact List.mem_append_left _ h
  · exact List.mem_append_left _ h
  · exact List.mem_append_left _ h
  · exact h
  · exact h
  · exact h

theorem State.mem_respond_out {o : Out} (q : Req) (kind abort : Nat) (body : Octets) (h : o ∈ s.out) : o ∈ (s.respond q kind abort body).out := by
  unfold State.respond State.respondTo
  dsimp only
  split
  · rw [State.bump_out]
    exact s.mem_sendMsg_out _ _ _ _ _ _ _ _ _ h
  · exact s.mem_sendMsg_out _ _ _ _ _ _ _ _ _ h

/-- So does the answer to an accepted write. -/
theorem State.mem_accept_out {o : Out} (q : Req) (e : Entry) (long : Bool) (h : o ∈ s.out) : o ∈ (s.accept q e long).out := by
  unfold State.accept
  split
  · split
    · exact h
    · exact s.mem_respond_out q kCommand 0 [0] h
  · exact s.mem_respond_out q kWrite 0 [] h

/-- Only a master may be told to calibrate. -/
theorem State.master_of_busCalibration {q : Req} {e : Entry} {rest : List Nat} (h : s.accepts q e (when (s.wof.role != 1) 0x0601 ++ rest)) :
    s.wof.role = 1 := by
  have hno := s.notMem_codes_of_accepts h (c := 0x0601) (by decide)
  simp only [List.mem_append, mem_when, not_or] at hno
  simpa using hno.1

theorem exec_busCalibration_accepted {r : Req} {arg : Nat}
    (h : s.accepts r (entArg 0x2102 .u8 arg) (when (s.wof.role != 1) 0x0601 ++ when s.wof.calRun.isSome 0x0701)) :
    ∃ t, exec (.busCalibration r arg) s = .next t ∧ t.took r ∧ t.wof.calRun = some s.now ∧ t.wof.answers = [] ∧
      (s.wof.queue = [] → s.wof.lineFree ≤ s.now → s.wtbFree = true → wofenOut 0 7 0 s.busAddr 0 ∈ t.out) := by
  have hrole := s.master_of_busCalibration h
  refine ⟨_, rfl, s.hostWrite_took h, ?_⟩
  rw [s.hostWrite_accepted h, s.storeWrite_command (obj := 0x2102) rfl rfl rfl, State.accept_wof, State.calBegin_wof]
  exact ⟨rfl, rfl, fun hqueue hline hfree => State.mem_accept_out _ _ _ _ (s.calBegin_sends hrole hqueue hline hfree)⟩

theorem exec_busRecalibrationTimer_due {at_ : Nat} (hat : s.wof.recalAt = some at_) (hrole : s.wof.role = 1) (hdue : at_ ≤ s.now) :
    exec .busRecalibrationTimer s = .next s.calBegin := by
  show execBusRecalibrationTimer s = _
  unfold execBusRecalibrationTimer
  rw [hat]
  exact congrArg Host.Outcome.next (if_pos ⟨hrole, hdue⟩)

/-- The end of a calibration: its results are noted, and what waits may leave; its time is then kept with its outcome. -/
theorem State.calEnd_due {at_ : Nat} (hrun : s.wof.calRun = some at_) (hrole : s.wof.role = 1) (hdue : at_ + 200 * msP ≤ s.now) :
    ∃ (t : State) (n : Nat) (next : Option Nat), s.calEnd = (((t.modWof fun w =>
      { w with calRun := none, open_ := [], calAt := s.now, calOk := true, recalAt := next }).wtbDrain.evt 0x0503 n).evt 0x0B03 3).commandDone 0x2102 := by
  unfold State.calEnd
  rw [hrun]
  exact ⟨_, _, _, if_neg (by simp [hrole]; omega)⟩

theorem State.calEnd_wof {at_ : Nat} (hrun : s.wof.calRun = some at_) (hrole : s.wof.role = 1) (hdue : at_ + 200 * msP ≤ s.now) :
    s.calEnd.wof.calRun = none ∧ s.calEnd.wof.calOk = true ∧ s.calEnd.wof.calAt = s.now := by
  obtain ⟨t, n, next, h⟩ := s.calEnd_due hrun hrole hdue
  rw [h, State.commandDone_wof, State.evt_wof, State.evt_wof, State.wtbDrain_wof]
  exact ⟨rfl, rfl, rfl⟩

/-! ### Start and stop (R245) -/

/-- The bus starts in the role that is set, which the start itself leaves as it is. -/
theorem exec_triggerBusStart_accepted {r : Req} (h : s.accepts r (ent 0x2101 0 .bool 1) []) :
    ∃ t, exec (.triggerBusStart r) s = .next t ∧ t.took r ∧ t.obj 0x2101 0 = 1 ∧ t.wof.role = s.objN 0x2100 1 := by
  obtain ⟨row, hrow⟩ := runFlag_bus
  refine ⟨_, rfl, s.hostWrite_took h, ?_⟩
  have hflag := s.storeWrite_runFlag_obj hrow r (v := 1) (by decide)
  have hrole : (s.storeWrite r (ent 0x2101 0 .bool 1) 0).objN 0x2100 1 = s.objN 0x2100 1 := by
    unfold State.objN
    rw [State.obj_congr (s.storeWrite_runFlag hrow r (by decide)), State.obj_setObj_ne _ _ (Or.inl (by decide))]
  rw [s.hostWrite_accepted (codes := fun _ => []) h, State.obj_congr (State.accept_dict ..), State.accept_wof]
  exact ⟨hflag, hrole⟩

@[simp] theorem State.sourceLost_wof (selected : Bool) : (s.sourceLost selected).wof = s.wof := by
  rw [State.sourceLost_keeps]

@[simp] theorem State.sourceLost_time (selected : Bool) : (s.sourceLost selected).time = s.time := by
  rw [State.sourceLost_keeps]

/-- What a stop turns off before a source is chosen without the bus. -/
def State.busOff (s : State) : State :=
  (s.modWof fun w => { w with
    role := 0, calRun := none, winAt := none, reqs := [], queue := [], marks := [], answerDue := false, calOk := false
    delay := 0, delayNew := none }).modTime fun t => { t with
      wofen := false, markGood := 0, markAt := none, markHi := none, markLo := none }

theorem State.busStop_eq : s.busStop = s.busOff.timeUpdate.sourceLost (s.objN 0xA012 4 == 1) := rfl

/-- A stop turns the role off and the second marks with it, and leaves its flag. -/
theorem State.busStop_stops : s.busStop.wof.role = 0 ∧ s.busStop.time.wofen = false ∧ s.busStop.obj 0x2101 0 = s.obj 0x2101 0 := by
  obtain ⟨-, hrole, -⟩ := State.fields_of_busSide (State.busSide_of_steady s.busOff.timeUpdate_steady)
  have hwofen : s.busOff.timeUpdate.time.wofen = false := by
    rw [State.timeUpdate_time]
    rfl
  rw [State.busStop_eq, State.obj_congr (State.sourceLost_dict ..), State.timeUpdate_obj _ timeKeeps_busRun, State.sourceLost_wof,
    State.sourceLost_time, hrole, hwofen]
  exact ⟨rfl, rfl, rfl⟩

theorem exec_triggerBusStop_accepted {r : Req} (h : s.accepts r (ent 0x2101 0 .bool 0) (when (s.inRun && s.obj 0x3020 1 == 2) 0x0601)) :
    ∃ t, exec (.triggerBusStop r) s = .next t ∧ t.took r ∧ t.obj 0x2101 0 = 0 ∧ t.wof.role = 0 ∧ t.time.wofen = false := by
  obtain ⟨row, hrow⟩ := runFlag_bus
  refine ⟨_, rfl, s.hostWrite_took h, ?_⟩
  obtain ⟨hrole, hwofen, hflag⟩ := (s.storeWrite r (ent 0x2101 0 .bool 0) 0).busStop_stops
  rw [s.hostWrite_accepted (codes := fun s => when (s.inRun && s.obj 0x3020 1 == 2) 0x0601) h, State.obj_congr (State.accept_dict ..),
    State.accept_wof, State.accept_time]
  exact ⟨hflag.trans (s.storeWrite_runFlag_obj hrow r (by decide)), hrole, hwofen⟩

/-- Settles O29: the packets of a master take their numbers and leave in their turn, and a calibration and the bus start and end. -/
theorem busMasterRows : Obligations.BusMasterRows := by
  unfold Obligations.BusMasterRows
  refine fun s => ⟨fun hrole hdue => ?_, fun hsends hdue => exec_wofenFrameEventSend_due s hsends hdue, fun r arg h => exec_busCalibration_accepted s h,
    fun at_ hat hrole hdue => ⟨_, exec_busRecalibrationTimer_due s hat hrole hdue, ?_⟩,
    fun at_ hrun hrole hdue => ⟨_, rfl, s.calEnd_wof hrun hrole hdue⟩, fun r h => exec_triggerBusStart_accepted s h,
    fun r h => exec_triggerBusStop_accepted s h⟩
  · obtain ⟨hcyc, hnext⟩ := s.wofenCycle_numbers hrole hdue
    refine ⟨_, rfl, hcyc, hnext, fun hqueue hcal hline hfree => ?_⟩
    rw [hcyc]
    exact s.wofenCycle_sends hrole hdue hqueue hcal hline hfree
  · rw [State.calBegin_wof]
    exact ⟨rfl, rfl, rfl⟩

end Sys2Proof.Machine
end

section
/-! The packets of a member on the Wofen bus (R230, R238, R239, R241, R243, R244): what is received, the window of the part, and what is missed. -/

namespace Sys2Proof.Machine

variable (s : State)

/-! ### Packets that fail their check (R238) -/

@[simp] theorem State.capNote_wof (src unit t data : Nat) : (s.capNote src unit t data).wof = s.wof := by
  rw [State.capNote_keeps]

@[simp] theorem State.capNote_now (src unit t data : Nat) : (s.capNote src unit t data).now = s.now := by
  rw [State.capNote_keeps]

theorem State.capNote_objN (src unit t data o el : Nat) : (s.capNote src unit t data).objN o el = s.objN o el := by
  rw [State.capNote_keeps]
  rfl

/-- A bad packet is counted, and is a collision at most. -/
theorem State.wofenBad_counts (aux : Bool) (h : s.objN 0x2110 6 + 1 < 2 ^ 32) :
    (s.wofenBad aux).objN 0x2110 6 = s.objN 0x2110 6 + 1 ∧ (s.wofenBad aux).wof = s.wof := by
  have hcount := (s.bump_counted h).1
  have hcollision : ∀ n, ((s.bump 0x2110 6 1).evt 0x2502 n).objN 0x2110 6 = s.objN 0x2110 6 + 1 := fun n => by
    unfold State.objN
    rw [State.evt_obj_ne _ _ _ (Or.inl (by decide))]
    exact hcount
  unfold State.wofenBad
  dsimp only
  split
  · split
    · exact ⟨hcollision _, by rw [State.evt_wof, State.bump_wof]⟩
    · exact ⟨hcount, State.bump_wof ..⟩
  · exact ⟨hcount, State.bump_wof ..⟩

theorem State.wofenRx_bad (aux : Bool) {o : Octets} (raw : Nat) (hrole : s.wof.role ≠ 0) (hbad : wofenGood o = false) :
    ∃ n d : Nat, s.wofenRx aux o raw = (s.capNote 8 (b2n aux) n d).wofenBad aux := by
  unfold State.wofenRx
  rw [if_neg hrole, if_pos (by simp [hbad])]
  exact ⟨_, _, rfl⟩

/-! ### Packets of a master at a member (R230, R239) -/

/-- Marks that were missed are counted, the Time Keeper notes the mark, and a source is chosen: the bus is left as it was. -/
theorem State.markNoted_busSide (c : Prop) [Decidable c] (k : Nat) (f : Time → Time) :
    ((if c then s.bump 0x2110 9 k else s).modTime f).timeUpdate.busSide = s.busSide := by
  refine (State.busSide_of_steady (State.timeUpdate_steady _)).trans ?_
  split
  · exact State.busSide_of_steady (s.bump_steady ..)
  · rfl

/-- A second mark may discipline the timescale as well, and leaves the bus as it was. -/
theorem State.markRx_busSide (fl pay : Nat) (t : Int) : (s.markRx fl pay t).busSide = s.busSide := by
  unfold State.markRx
  dsimp only
  rw [apply_ite State.busSide, apply_ite State.busSide, State.discipline_busSide, ite_self, State.markNoted_busSide, ite_self]

/-- No packet of a master changes when the last one came. -/
theorem State.memberRx_silentAt (type fl pay : Nat) (t : Int) : (s.memberRx type fl pay t).wof.silentAt = s.wof.silentAt := by
  have hsteady : ∀ {a b : State}, a.busSide = b.busSide → a.wof.silentAt = b.wof.silentAt := fun h => (State.fields_of_busSide h).2.2.2.2
  unfold State.memberRx
  split
  · dsimp only
    split
    · refine (hsteady (State.busSide_of_steady (State.frameTrigger_steady ..))).trans ?_
      rw [State.modWof_wof, State.bump_wof]
    · rw [State.bump_wof]
  · rfl
  · exact hsteady (s.markRx_busSide fl pay t)
  · exact hsteady (State.busSide_of_steady (s.occur_steady ..))
  · split
    · rw [State.wtb_keeps]
    · rfl
  · split <;> rfl
  · rfl
  · rfl

/-- A cycle opens the windows of the members, or a calibration cycle none. -/
theorem State.memberRx_cycle (fl pay : Nat) (t : Int) : s.memberRx 2 fl pay t = s.modWof fun w =>
    { w with winAt := if bit fl 0 then none else some s.now } := rfl

/-- A member takes a good packet as the last one, whatever its type. -/
theorem State.wofenRx_member {o : Octets} (raw : Nat) (hrole : 2 ≤ s.wof.role) (hgood : wofenGood o = true) :
    ∃ (n d : Nat) (t : Int), s.wofenRx false o raw =
      ((s.capNote 8 0 n d).modWof fun w => { w with silentAt := s.now }).memberRx (octAt o 2 / 16) (octAt o 2 % 16) (fieldAt o 4 3) t := by
  unfold State.wofenRx
  rw [if_neg (by omega), if_neg (by simp [hgood])]
  dsimp only
  rw [State.capNote_wof, if_neg (by decide), if_neg (by omega), if_neg (by omega), State.capNote_now]
  exact ⟨_, _, _, rfl⟩

theorem exec_wofenPacketReceived_member {o : Octets} (raw : Nat) (hrole : 2 ≤ s.wof.role) (hgood : wofenGood o = true) :
    ∃ t, exec (.wofenPacketReceived false o raw) s = .next t ∧ t.wof.silentAt = s.now ∧
      (octAt o 2 / 16 = 2 → t.wof.winAt = if bit (octAt o 2 % 16) 0 then none else some s.now) := by
  obtain ⟨n, d, t, h⟩ := s.wofenRx_member raw hrole hgood
  refine ⟨_, congrArg Host.Outcome.next h, State.memberRx_silentAt .., fun htype => ?_⟩
  rw [htype, State.memberRx_cycle, State.modWof_wof, State.modWof_now, State.capNote_now]

/-! ### Answers at the master (R243) -/

theorem State.masterRx_answer {addr : Nat} (pay fine : Nat) (hcal : s.wof.calRun.isSome = true) (hnew : s.wof.answers.contains addr = false) :
    s.masterRx 10 addr pay fine = s.modWof fun w => { w with answers := w.answers ++ [addr] } := if_pos ⟨hcal, by rw [hnew]; rfl⟩

theorem State.wofenRx_answer {o : Octets} (raw : Nat) (hrole : s.wof.role = 1) (hgood : wofenGood o = true) (htype : octAt o 2 / 16 = 10)
    (hcal : s.wof.calRun.isSome = true) (hnew : s.wof.answers.contains (octAt o 3) = false) :
    ∃ n d : Nat, s.wofenRx true o raw = (s.capNote 8 1 n d).modWof fun w => { w with answers := w.answers ++ [octAt o 3] } := by
  unfold State.wofenRx
  rw [if_neg (by omega), if_neg (by simp [hgood])]
  dsimp only
  rw [State.capNote_wof, if_pos rfl, if_pos hrole, htype, State.masterRx_answer _ _ _ (by rwa [State.capNote_wof]) (by rwa [State.capNote_wof])]
  exact ⟨_, _, rfl⟩

/-! ### The window of the part (R239) -/

theorem State.wofenWindow_sends {m c : Nat} {rest : List Nat} (hwin : s.wof.winAt = some m) (hrole : 2 ≤ s.wof.role)
    (hopen : m + 20 * usP + s.busAddr * 1400 ≤ s.now) (hends : s.now < m + 20 * usP + s.busAddr * 1400 + 1400) (hreqs : s.wof.reqs = c :: rest) :
    s.wofenWindow = ((s.modWof fun w => { w with winAt := none }).wtb 1 8 0 c).modWof fun w => { w with reqs := rest } := by
  unfold State.wofenWindow
  rw [hwin]
  dsimp only
  rw [if_neg (by omega), if_neg (by omega), hreqs]

/-! ### What is missed (R230, R241, R244) -/

theorem State.frameEventLoss_due (hactive : s.frm.active = true) (hsource : s.obj 0x3020 1 = 2) (hbus : s.wof.onTimer = false)
    (hdue : s.frm.start + 2 * s.objN 0x3010 0 * usP ≤ s.now) : s.frameEventLoss =
    ((s.modWof fun w => { w with onTimer := true }).modFrm fun f => { f with nextTimer := s.now }).evt 0x1505 0 :=
  if_pos ⟨hactive, hsource, by simp [hbus], hdue⟩

theorem State.markLoss_due {at_ : Nat} (hat : s.time.markAt = some at_) (hdue : at_ + 3 * secP * 256 + us256 < s.steps 0) : s.markLoss =
    ((s.bump 0x2110 9 3).modTime fun t => { t with wofen := false, markGood := 0, markAt := none }).timeUpdate := by
  unfold State.markLoss
  rw [hat]
  exact if_pos hdue

/-- What silence takes from a member: its delay no longer holds. -/
def State.delayLost (s : State) : State := s.modWof fun w => { w with calOk := false, delay := 0, delayNew := none, silentAt := s.now }

/-- A standby master takes the bus over, with its requests as relays. -/
def State.takenOver (s : State) : State := s.delayLost.modWof fun w => { w with
  role := 1, calOk := true, nextCyc := s.now, nextFrame := s.now, secs := 0, reqs := [], lineFree := s.now
  queue := w.reqs.map fun c => { prio := 5, type := 4, fl := 0, pay := s.busAddr * 2 ^ 18 + c, due := s.now } }

theorem State.wtbSilence_due (hrole : 2 ≤ s.wof.role) (hdue : s.wof.silentAt + 2 * msP ≤ s.now) : s.wtbSilence =
    if s.wof.role = 3 then s.takenOver.calBegin else s.delayLost := if_neg (by omega)

theorem exec_wtbSilence_due (hrole : 2 ≤ s.wof.role) (hdue : s.wof.silentAt + 2 * msP ≤ s.now) :
    ∃ t, exec .wtbSilence s = .next t ∧ t.wof.delay = 0 ∧ t.wof.silentAt = s.now ∧
      (s.wof.role = 3 → t.wof.role = 1 ∧ t.wof.calRun = some s.now) ∧ (s.wof.role ≠ 3 → t.wof.role = s.wof.role ∧ t.wof.calOk = false) := by
  refine ⟨_, congrArg Host.Outcome.next (s.wtbSilence_due hrole hdue), ?_⟩
  split
  · next hstandby =>
    rw [State.calBegin_wof]
    exact ⟨rfl, rfl, fun _ => ⟨rfl, rfl⟩, fun hmember => absurd hstandby hmember⟩
  · next hmember => exact ⟨rfl, rfl, fun hstandby => absurd hstandby hmember, fun _ => ⟨rfl, rfl⟩⟩

/-- Settles O30: each packet has the effect of its row, the part answers in its window, and what is missed is noticed. -/
theorem busMemberRows : Obligations.BusMemberRows := by
  unfold Obligations.BusMemberRows
  refine fun s => ⟨fun aux o raw hrole hbad hcount => ?_, fun o raw hrole hgood => exec_wofenPacketReceived_member s raw hrole hgood,
    fun o raw hrole hgood htype hcal hnew => ?_, fun m c rest hwin hrole hopen hends hreqs => ?_,
    fun hactive hsource hbus hdue => ?_, fun at_ hat hdue => ?_, fun hrole hdue => exec_wtbSilence_due s hrole hdue⟩
  · obtain ⟨n, d, h⟩ := s.wofenRx_bad aux raw hrole hbad
    obtain ⟨hbumped, hwof⟩ := (s.capNote 8 (b2n aux) n d).wofenBad_counts aux (by rwa [State.capNote_objN])
    exact ⟨_, congrArg Host.Outcome.next h, hbumped.trans (by rw [State.capNote_objN]), hwof.trans (State.capNote_wof ..)⟩
  · obtain ⟨n, d, h⟩ := s.wofenRx_answer raw hrole hgood htype hcal hnew
    refine ⟨_, congrArg Host.Outcome.next h, ?_⟩
    rw [State.modWof_wof, State.capNote_wof]
  · refine ⟨_, congrArg Host.Outcome.next (s.wofenWindow_sends hwin hrole hopen hends hreqs), ?_⟩
    rw [State.wtb_keeps]
    exact ⟨rfl, rfl, rfl⟩
  · refine ⟨_, congrArg Host.Outcome.next (s.frameEventLoss_due hactive hsource hbus hdue), ?_⟩
    rw [State.evt_wof, State.evt_frm]
    exact ⟨rfl, rfl⟩
  · refine ⟨_, congrArg Host.Outcome.next (s.markLoss_due hat hdue), ?_⟩
    rw [State.timeUpdate_time]
    exact ⟨rfl, rfl⟩

end Sys2Proof.Machine
end

section
/-! The reference of a fleet code domain (R246, R247, R248): the requests it serves, the table of its indices, and the grants it answers with. -/

namespace Sys2Proof.Machine

variable (s : State)

/-! ### Requests (R247) -/

/-- The fields of a join request are read back from their places. -/
theorem joinOctets_fields {dom ident prev flags : Nat} (hdom : dom < 2 ^ 32) (hident : ident < 2 ^ 64) (hprev : prev < 2 ^ 16) (hflags : flags < 2 ^ 16) :
    fieldAt (joinOctets dom ident prev flags) 0 4 = dom ∧ fieldAt (joinOctets dom ident prev flags) 4 8 = ident ∧
    fieldAt (joinOctets dom ident prev flags) 12 2 = prev ∧ fieldAt (joinOctets dom ident prev flags) 14 2 = flags := by
  unfold joinOctets
  refine ⟨?_, ?_, ?_, ?_⟩
  · simpa using fieldAt_append_toBE [] (toBE 8 ident ++ (toBE 2 prev ++ toBE 2 flags)) (n := 4) hdom
  · simpa using fieldAt_append_toBE (toBE 4 dom) (toBE 2 prev ++ toBE 2 flags) (n := 8) hident
  · simpa using fieldAt_append_toBE (toBE 4 dom ++ toBE 8 ident) (toBE 2 flags) (n := 2) hprev
  · simpa using fieldAt_append_toBE (toBE 4 dom ++ toBE 8 ident ++ toBE 2 prev) [] (n := 2) hflags

/-! ### The table (R248) -/

theorem mem_insBy {α : Type} {le : α → α → Bool} {x y : α} {l : List α} : y ∈ insBy le x l ↔ y = x ∨ y ∈ l := by
  induction l with
  | nil => exact List.mem_cons
  | cons z l ih =>
    unfold insBy
    split
    · exact List.mem_cons
    · rw [List.mem_cons, List.mem_cons, ih]
      exact or_left_comm

/-- A row that is put into the table stands there alone with its index. -/
theorem mem_putRow {l : List FleetRow} {x y : FleetRow} : y ∈ putRow l x ↔ y = x ∨ y ∈ l ∧ y.index ≠ x.index := by
  unfold putRow
  rw [mem_insBy, List.mem_filter, decide_eq_true_eq]

theorem eq_of_mem_putRow {l : List FleetRow} {x y : FleetRow} (hy : y ∈ putRow l x) (hindex : y.index = x.index) : y = x :=
  (mem_putRow.1 hy).resolve_right fun h => h.2 hindex

/-- The row of an index granted now. -/
def State.grantRow (s : State) (i ident : Nat) : FleetRow :=
  { index := i, ident := ident, lease := s.now + s.objN 0x2210 6 * 3600 * secP, held := true, released := false }

/-- A request for an index that the rule gives puts it into the table, and is answered with its grant. -/
theorem State.fleetServe_granted {ident prev flags i st : Nat} (hjoin : bit flags 1 = false) (h : s.assign ident prev (bit flags 0) = some (i, st)) :
    s.fleetServe (s.objN 0x2210 1) ident prev flags = (s.setRows (putRow s.nv.fleetRows (s.grantRow i ident)),
      grantOctets (s.objN 0x2210 1) ident i (s.fleetSeed i) (s.objN 0x2210 6 * 60) st) := by
  unfold State.fleetServe
  rw [if_neg (by simp), if_neg (by simp [hjoin]), h]
  rfl

/-- A release frees the index of its holder. -/
theorem State.fleetServe_released {ident prev flags : Nat} {x : FleetRow} (hrelease : bit flags 1 = true) (h : s.heldBy ident = some x) :
    s.fleetServe (s.objN 0x2210 1) ident prev flags = (s.setRows (putRow s.nv.fleetRows { x with held := false, released := true }),
      grantOctets (s.objN 0x2210 1) ident x.index 0 0 4) := by
  unfold State.fleetServe
  rw [if_neg (by simp), if_pos hrelease, h]

/-! ### Messages (R247) -/

/-- What an open port sends to another part, with the next transaction identity. -/
theorem State.fleetSend_open {addr : Nat} (kind obj : Nat) (o : Octets) (h : s.portSends (2 + s.macFor addr) = true) : s.fleetSend kind addr obj o =
    (s.modFleet fun f => { f with txn := (f.txn + 1) % 2 ^ 32 }).emit (s.fleetMsg kind addr obj o) := if_neg (by simp [h])

/-- A reference that serves a request and answers it on an open port changes its table and sends the grant. -/
theorem State.fleetRequest_served {r : Req} {dom ident prev flags : Nat} {rows : List FleetRow} {grant : Octets} (hdom : dom < 2 ^ 32)
    (hident : ident < 2 ^ 64) (hprev : prev < 2 ^ 16) (hflags : flags < 2 ^ 16) (hserve : s.fleetServe dom ident prev flags = (s.setRows rows, grant))
    (hopen : s.portSends (2 + s.macFor (r.src / 65536)) = true) : s.fleetRequest r (joinOctets dom ident prev flags) =
    ((s.setRows rows).modFleet fun f => { f with txn := (f.txn + 1) % 2 ^ 32 }).emit (s.fleetMsg 2 (r.src / 65536) 0x2201 grant) := by
  obtain ⟨h0, h4, h12, h14⟩ := joinOctets_fields hdom hident hprev hflags
  unfold State.fleetRequest
  rw [h0, h4, h12, h14, hserve]
  exact (s.setRows rows).fleetSend_open 2 0x2201 grant hopen

/-- An accepted write to `2.220` that is served so leaves the table and the grant behind. -/
theorem State.fleetWrite_served {r : Req} {ident prev flags : Nat} {rows : List FleetRow} {grant : Octets} (hident : ident < 2 ^ 64)
    (hprev : prev < 2 ^ 16) (hflags : flags < 2 ^ 16)
    (h : s.accepts r (entBlob 0x2220 (joinOctets (s.objN 0x2210 1) ident prev flags)) (when (!s.isReference) 0x0601)) (hdom : s.objN 0x2210 1 < 2 ^ 32)
    (hserve : s.fleetServe (s.objN 0x2210 1) ident prev flags = (s.setRows rows, grant)) (hopen : s.portSends (2 + s.macFor (r.src / 65536)) = true) :
    (s.fleetWrite r (joinOctets (s.objN 0x2210 1) ident prev flags)).took r ∧
    (s.fleetWrite r (joinOctets (s.objN 0x2210 1) ident prev flags)).nv.fleetRows = rows ∧
    s.fleetMsg 2 (r.src / 65536) 0x2201 grant ∈ (s.fleetWrite r (joinOctets (s.objN 0x2210 1) ident prev flags)).out := by
  refine ⟨s.hostWrite_took h, ?_⟩
  unfold State.fleetWrite
  rw [s.hostWrite_accepted (codes := fun s => when (!s.isReference) 0x0601) h,
    s.storeWrite_window (obj := 0x2220) rfl rfl rfl rfl,
    s.fleetRequest_served hdom hident hprev hflags hserve hopen, State.accept_nv]
  exact ⟨rfl, State.mem_accept_out _ _ _ _ (List.mem_append_right _ (List.mem_singleton_self _))⟩

/-- A join or a renewal is answered with a grant, and its index is held from then on for the lease. -/
theorem State.fleetWrite_granted {r : Req} {ident prev flags i st : Nat} (hident : ident < 2 ^ 64)
    (hprev : prev < 2 ^ 16) (hflags : flags < 2 ^ 16) (hjoin : bit flags 1 = false) (hassign : s.assign ident prev (bit flags 0) = some (i, st))
    (h : s.accepts r (entBlob 0x2220 (joinOctets (s.objN 0x2210 1) ident prev flags)) (when (!s.isReference) 0x0601)) (hdom : s.objN 0x2210 1 < 2 ^ 32)
    (hopen : s.portSends (2 + s.macFor (r.src / 65536)) = true) :
    (s.fleetWrite r (joinOctets (s.objN 0x2210 1) ident prev flags)).took r ∧
    (∃ x ∈ (s.fleetWrite r (joinOctets (s.objN 0x2210 1) ident prev flags)).nv.fleetRows,
      x.index = i ∧ x.ident = ident ∧ x.held = true ∧ x.lease = s.now + s.objN 0x2210 6 * 3600 * secP) ∧
    s.fleetMsg 2 (r.src / 65536) 0x2201 (grantOctets (s.objN 0x2210 1) ident i (s.fleetSeed i) (s.objN 0x2210 6 * 60) st) ∈
      (s.fleetWrite r (joinOctets (s.objN 0x2210 1) ident prev flags)).out := by
  obtain ⟨htook, hrows, hsent⟩ := s.fleetWrite_served hident hprev hflags h hdom (s.fleetServe_granted hjoin hassign) hopen
  rw [hrows]
  exact ⟨htook, ⟨_, mem_putRow.2 (Or.inl rfl), rfl, rfl, rfl, rfl⟩, hsent⟩

theorem exec_fleetRelease_accepted {r : Req} {ident prev : Nat} {x : FleetRow} (hident : ident < 2 ^ 64) (hprev : prev < 2 ^ 16)
    (hheld : s.heldBy ident = some x) (h : s.accepts r (entBlob 0x2220 (joinOctets (s.objN 0x2210 1) ident prev 2)) (when (!s.isReference) 0x0601))
    (hdom : s.objN 0x2210 1 < 2 ^ 32) (hopen : s.portSends (2 + s.macFor (r.src / 65536)) = true) :
    ∃ t, exec (.fleetRelease r (s.objN 0x2210 1) ident prev) s = .next t ∧ t.took r ∧
      { x with held := false, released := true } ∈ t.nv.fleetRows ∧ (∀ y ∈ t.nv.fleetRows, y.index = x.index → y.held = false) ∧
      s.fleetMsg 2 (r.src / 65536) 0x2201 (grantOctets (s.objN 0x2210 1) ident x.index 0 0 4) ∈ t.out := by
  obtain ⟨htook, hrows, hsent⟩ := s.fleetWrite_served hident hprev (by decide) h hdom (s.fleetServe_released (by decide) hheld) hopen
  refine ⟨_, rfl, htook, ?_⟩
  rw [hrows]
  exact ⟨mem_putRow.2 (Or.inl rfl), fun y hy hindex => congrArg FleetRow.held (eq_of_mem_putRow hy hindex), hsent⟩

/-- An index that was not renewed in time is free (R248). -/
theorem exec_fleetIndexExpiry_due {i : Fin 1024} {x : FleetRow} (hrow : (s.nv.fleetRows.find? fun x => x.held && x.index == i.val) = some x)
    (hreference : s.isReference = true) (hdue : x.lease + 3600 * secP ≤ s.now) :
    ∃ t, exec (.fleetIndexExpiry i) s = .next t ∧ { x with held := false } ∈ t.nv.fleetRows ∧
      ∀ y ∈ t.nv.fleetRows, y.index = i → y.held = false := by
  have hexec : exec (.fleetIndexExpiry i) s = .next ((s.setRows (putRow s.nv.fleetRows { x with held := false })).bump 0x2230 3 1) := by
    show execFleetIndexExpiry i s = _
    unfold execFleetIndexExpiry
    rw [hrow]
    exact congrArg Host.Outcome.next (if_pos ⟨hreference, hdue⟩)
  have hindex : x.index = i.val := by
    have hmatch := List.find?_some (p := fun x : FleetRow => x.held && x.index == i.val) hrow
    simp only [Bool.and_eq_true, beq_iff_eq] at hmatch
    exact hmatch.2
  refine ⟨_, hexec, ?_⟩
  rw [State.bump_nv, State.setRows_nv]
  exact ⟨mem_putRow.2 (Or.inl rfl), fun y hy hy' => congrArg FleetRow.held (eq_of_mem_putRow hy (hy'.trans hindex.symm))⟩

end Sys2Proof.Machine
end

section
/-! A member of a fleet code domain (R246, R249, R250, R251): the grants it takes, the requests it sends, and the settings of its domain. -/

namespace Sys2Proof.Machine

variable (s : State)

/-! ### Grants (R249) -/

/-- What a grant notes of the member: its lease, and the index and seed that stay through a loss of power. -/
def State.grantNoted (s : State) (o : Octets) : State :=
  let t := s.modFleet fun f => { f with
    asked := false, lease := some (s.now + fieldAt o 20 2 * 60 * secP), leaseLen := fieldAt o 20 2
    renewAt := s.now + fieldAt o 20 2 * 30 * secP }
  { t with nv := { t.nv with fleet := some (fieldAt o 12 2, fieldAt o 14 6) } }

/-- A grant of an index taken outside RUN is loaded at once; a first one is logged. -/
theorem State.grantAccept_stopped {o : Octets} (hgrant : octAt o 22 ≤ 1) (hrun : s.inRun = false) : s.grantAccept o =
    ((if octAt o 22 = 0 then ((s.grantNoted o).evt 0x0504 (fieldAt o 12 2)).evt 0x0B03 2 else s.grantNoted o).fleetLoad
      (fieldAt o 12 2) (fieldAt o 14 6)).fleetState 2 := by
  unfold State.grantAccept
  dsimp only
  rw [if_pos hgrant, if_pos (by simp [hrun])]
  rfl

/-! A load and a change of state leave the lease, and what is kept through a loss of power. -/

theorem State.fleetLoad_fleet (i seed : Nat) : (s.fleetLoad i seed).fleet = { s.fleet with pend := none } := rfl
theorem State.fleetLoad_nv (i seed : Nat) : (s.fleetLoad i seed).nv = s.nv := rfl
theorem State.fleetState_fleet (st : Nat) : (s.fleetState st).fleet = { s.fleet with st := st } := rfl
theorem State.fleetState_nv (st : Nat) : (s.fleetState st).nv = s.nv := rfl

theorem State.fleetLoad_index (i seed : Nat) : ((s.fleetLoad i seed).fleetState 2).objN 0x2200 1 = i := by
  unfold State.fleetState State.fleetLoad State.holdPair State.objN
  rw [State.obj_setObj_ne _ _ (Or.inr (by decide)), State.modFleet_obj, State.obj_setObj_ne _ _ (Or.inr (by decide)), State.modFleet_obj,
    State.obj_setObj_ne _ _ (Or.inl (by decide)), State.obj_setObj_ne _ _ (Or.inl (by decide)), State.obj_setObj_self, Int.toNat_natCast]

/-- The two events of a first grant change neither the member nor what is kept. -/
theorem State.evts_ite_fleet (c : Prop) [Decidable c] (code param code' param' : Nat) :
    (if c then (s.evt code param).evt code' param' else s).fleet = s.fleet ∧ (if c then (s.evt code param).evt code' param' else s).nv = s.nv := by
  split <;> simp

theorem State.grantAccept_loaded {o : Octets} (hgrant : octAt o 22 ≤ 1) (hrun : s.inRun = false) :
    (s.grantAccept o).fleet.st = 2 ∧ (s.grantAccept o).objN 0x2200 1 = fieldAt o 12 2 ∧
    (s.grantAccept o).fleet.lease = some (s.now + fieldAt o 20 2 * 60 * secP) ∧
    (s.grantAccept o).nv.fleet = some (fieldAt o 12 2, fieldAt o 14 6) := by
  obtain ⟨hfleet, hnv⟩ := (s.grantNoted o).evts_ite_fleet (octAt o 22 = 0) 0x0504 (fieldAt o 12 2) 0x0B03 2
  rw [s.grantAccept_stopped hgrant hrun]
  rw [State.fleetLoad_index, State.fleetState_fleet, State.fleetState_nv, State.fleetLoad_fleet, State.fleetLoad_nv, hfleet, hnv]
  exact ⟨rfl, rfl, rfl, rfl⟩

theorem exec_fleetGrant_accepted {r : Req} {o : Octets} (h : s.accepts r (entBlob 0x2201 o) (s.grantCodes r o)) (hgrant : octAt o 22 ≤ 1)
    (hrun : s.inRun = false) : ∃ t, exec (.fleetGrant r o) s = .next t ∧ t.took r ∧ t.fleet.st = 2 ∧ t.objN 0x2200 1 = fieldAt o 12 2 ∧
      t.fleet.lease = some (s.now + fieldAt o 20 2 * 60 * secP) ∧ t.nv.fleet = some (fieldAt o 12 2, fieldAt o 14 6) := by
  obtain ⟨hst, hindex, hlease, hkept⟩ := s.grantAccept_loaded hgrant hrun
  refine ⟨_, rfl, s.hostWrite_took h, ?_⟩
  rw [s.hostWrite_accepted (codes := fun s => s.grantCodes r o) h, s.storeWrite_window (obj := 0x2201) rfl rfl rfl rfl, State.accept_fleet,
    State.accept_nv]
  refine ⟨hst, ?_, hlease, hkept⟩
  unfold State.objN at hindex ⊢
  rw [State.obj_congr (State.accept_dict ..), hindex]

/-! ### Requests (R249, R250) -/

/-- The index that a request asks for again: the last one granted, or none. -/
def State.lastIndex (s : State) : Nat := match s.nv.fleet with | some x => x.1 | none => 0xFFFF

/-- The request of the part to its reference. -/
def State.fleetRequestMsg (s : State) (flags : Nat) : Out :=
  s.fleetMsg 7 (s.objN 0x2210 3) 0x2220 (joinOctets (s.objN 0x2210 1) Config.deviceId s.lastIndex flags)

/-- A part that is not the reference itself sends its request. -/
theorem State.fleetAsk_sends (flags : Nat) (hmember : s.isReference = false) (hopen : s.portSends (2 + s.macFor (s.objN 0x2210 3)) = true) :
    s.fleetAsk flags = ((s.modFleet fun f => { f with asked := flags != 2, askAt := s.now }).modFleet fun f =>
      { f with txn := (f.txn + 1) % 2 ^ 32 }).emit (s.fleetRequestMsg flags) := by
  unfold State.fleetAsk
  rw [if_neg (by simp [hmember])]
  exact State.fleetSend_open _ _ _ _ hopen

theorem State.fleetRetry_due (hdomain : s.obj 0x2210 1 ≠ 0) (hconfig : s.fromConfig = true) (hlease : s.fleet.lease = none)
    (hst : s.fleet.st = 1 ∨ s.fleet.st = 3 ∨ s.fleet.st = 4) (hdue : s.fleet.askAt + secP ≤ s.now) : s.fleetRetry = s.fleetAsk 0 :=
  if_pos ⟨hdomain, hconfig, by simp [hlease], hst, hdue⟩

theorem State.fleetRenew_due (hdomain : s.obj 0x2210 1 ≠ 0) (hconfig : s.fromConfig = true) (hlease : s.fleet.lease.isSome = true)
    (hdue : s.fleet.renewAt ≤ s.now) : s.fleetRenew = (s.modFleet fun f => { f with renewAt := s.now + 60 * secP }).fleetAsk 1 :=
  if_pos ⟨hdomain, hconfig, hlease, hdue⟩

/-! ### Settings of the domain (R251) -/

/-- Objects that joining, leaving and being granted an index leave as they are: all but index and seed, the counts of the reference, and
the drops. -/
def fleetKeeps (o : Nat) : Prop := o ≠ 0x2200 ∧ o ≠ 0x3250 ∧ o ≠ 0x2230 ∧ o ≠ 0x9000

theorem fleetKeeps_domain : fleetKeeps 0x2210 := by unfold fleetKeeps; decide

section
variable {o : Nat} (h : fleetKeeps o) (el : Nat)
include h

theorem State.holdPair_obj (p : Option (Nat × Nat)) : (s.holdPair p).obj o el = s.obj o el := State.obj_setObj_ne _ _ (Or.inl h.1)

theorem State.fleetState_obj (st : Nat) : (s.fleetState st).obj o el = s.obj o el := State.obj_setObj_ne _ _ (Or.inl h.1)

theorem State.setIndex_obj (el' : Nat) (v : Int) : (s.setObj 0x2200 el' v).obj o el = s.obj o el := State.obj_setObj_ne _ _ (Or.inl h.1)

theorem State.fleetLoad_obj (i seed : Nat) : (s.fleetLoad i seed).obj o el = s.obj o el := by
  have hseed : ∀ (s : State) el' v, (s.setObj 0x3250 el' v).obj o el = s.obj o el := fun s el' v => State.obj_setObj_ne _ _ (Or.inl h.2.1)
  unfold State.fleetLoad
  rw [State.holdPair_obj _ h, hseed, hseed, State.setIndex_obj _ h]

/-- Whatever a grant says, the settings of the domain stand. -/
theorem State.grantAccept_obj (g : Octets) : (s.grantAccept g).obj o el = s.obj o el := by
  have hevt : ∀ (s : State) code param, (s.evt code param).obj o el = s.obj o el := fun s code param => State.evt_obj_ne _ _ _ (Or.inl h.2.2.2)
  have hnoted : ∀ (c : Prop) [Decidable c] (s : State) (f : Fleet → Fleet) (v : Nv) (i : Nat),
      (if c then (({ s.modFleet f with nv := v } : State).evt 0x0504 i).evt 0x0B03 2 else { s.modFleet f with nv := v }).obj o el = s.obj o el := by
    intro c _ s f v i
    split
    · rw [hevt, hevt]
      rfl
    · rfl
  unfold State.grantAccept
  dsimp only
  split
  · split
    · rw [State.fleetState_obj _ h, State.fleetLoad_obj _ h, hnoted]
    · split
      · rw [State.fleetState_obj _ h, State.holdPair_obj _ h, hnoted]
      · split
        · rw [hnoted]
        · rw [hevt, State.fleetState_obj _ h, State.holdPair_obj _ h, hnoted]
  · split
    · rw [State.fleetState_obj _ h, State.holdPair_obj _ h, State.modFleet_obj]
    · rw [hevt, State.fleetState_obj _ h]
      split
      · rw [State.holdPair_obj _ h, State.modFleet_obj]
      · rw [State.setIndex_obj _ h, State.holdPair_obj _ h, State.modFleet_obj]

theorem State.fleetServe_obj (dom ident prev flags : Nat) : (s.fleetServe dom ident prev flags).1.obj o el = s.obj o el := by
  have hcount : ∀ k, (s.bump 0x2230 2 k).obj o el = s.obj o el := fun k => State.bump_obj_ne _ _ _ _ (Or.inl h.2.2.1)
  unfold State.fleetServe
  split
  · exact hcount 1
  · split
    · split <;> rfl
    · split
      · exact hcount 1
      · rfl

omit h in
theorem State.fleetSend_dict (kind addr obj : Nat) (g : Octets) : (s.fleetSend kind addr obj g).dict = s.dict := by
  unfold State.fleetSend
  split <;> rfl

theorem State.fleetAsk_obj (flags : Nat) : (s.fleetAsk flags).obj o el = s.obj o el := by
  unfold State.fleetAsk
  dsimp only
  split
  · rw [State.grantAccept_obj _ h, State.fleetServe_obj _ h, State.modFleet_obj]
  · rw [State.obj_congr (State.fleetSend_dict ..), State.modFleet_obj]

theorem State.fleetStart_obj : s.fleetStart.obj o el = s.obj o el := by
  unfold State.fleetStart
  split
  · rfl
  · rw [State.fleetAsk_obj _ h, State.fleetState_obj _ h, State.modFleet_obj]

/-- A change of the domain joins and leaves, and writes back none of its settings. -/
theorem State.domainEff_obj (old : State) : (State.domainEff old s).obj o el = s.obj o el := by
  have hleft : ∀ c : Bool, (if c then s.fleetRelease old else s).obj o el = s.obj o el := fun c => by cases c <;> rfl
  unfold State.domainEff
  dsimp only
  split
  · split
    · exact hleft _
    · rw [State.setIndex_obj _ h, State.fleetState_obj _ h, State.holdPair_obj _ h, State.modFleet_obj]
      exact hleft _
  · split
    · rw [State.fleetStart_obj _ h, State.holdPair_obj _ h]
      exact hleft _
    · exact hleft _

end

/-- The row of the settings of a domain. -/
theorem domainRow {row : Row} (hf : Catalogue.find 0x2210 = some row) : row.shape = .fixed 8 ∧ row.acc = .rwf ∧ row.app = .imm := by
  obtain rfl := Option.some.inj (hf.symm.trans rfl)
  exact ⟨rfl, rfl, rfl⟩

theorem exec_fleetDomainWrite_accepted {r : Req} {el ty : Nat} {val : Octets} {row : Row} (hf : Catalogue.find 0x2210 = some row) (hel : el ≠ 0)
    (h : s.accepts r { obj := 0x2210, el := el, ty := ty, val := val } (s.domainCodes (written row el val))) :
    ∃ t, exec (.fleetDomainWrite r el ty val) s = .next t ∧ t.took r ∧ t.obj 0x2210 el = row.ty.dec val := by
  obtain ⟨hshape, hacc, happ⟩ := domainRow hf
  have hexec : exec (.fleetDomainWrite r el ty val) s = .next (s.hostWrite r { obj := 0x2210, el := el, ty := ty, val := val }
      (fun s => s.domainCodes (written row el val)) (fun t => State.domainEff s t) false) := by
    show execFleetDomainWrite r el ty val s = _
    unfold execFleetDomainWrite
    simp only [hf]
  have hstored := s.storeWrite_member r (e := { obj := 0x2210, el := el, ty := ty, val := val }) hf (by simp [hacc]) (by simp [hshape])
    (by simp [happ]) (el := el) (v := row.ty.dec val) (by simp [written, hshape, hel])
  refine ⟨_, hexec, s.hostWrite_took h, ?_⟩
  rw [s.hostWrite_accepted (codes := fun s => s.domainCodes (written row el val)) h, State.obj_congr (State.accept_dict ..),
    State.domainEff_obj _ fleetKeeps_domain, State.obj_congr hstored, State.obj_setObj_self]

/-- Settles O31: the reference serves joins, renewals and releases from its table and frees what is not renewed; a member takes its grant,
asks for it in time, and follows its settings (the lease in periods and the source of a request are log entry 43, the messages log entry 74). -/
theorem fleetRows : Obligations.FleetRows := by
  unfold Obligations.FleetRows
  refine ⟨fun s => ⟨fun r ident prev i st hident hprev hassign h hdom hopen => ?_, fun r ident prev i st hident hprev hassign h hdom hopen => ?_,
      fun r ident prev x hident hprev hheld h hdom hopen => exec_fleetRelease_accepted s hident hprev hheld h hdom hopen,
      fun i x hrow hreference hdue => exec_fleetIndexExpiry_due s hrow hreference hdue⟩,
    fun s => ⟨fun r o h hgrant hrun => exec_fleetGrant_accepted s h hgrant hrun, fun hdomain hconfig hlease hst hdue hmember hopen => ?_,
      fun hdomain hconfig hlease hdue hmember hopen => ?_, fun r el ty val row hf hel h => exec_fleetDomainWrite_accepted s hf hel h⟩⟩
  · exact ⟨_, rfl, s.fleetWrite_granted hident hprev (by decide) (by decide) hassign h hdom hopen⟩
  · exact ⟨_, rfl, s.fleetWrite_granted hident hprev (by decide) (by decide) hassign h hdom hopen⟩
  · exact ⟨_, congrArg Host.Outcome.next ((s.fleetRetry_due hdomain hconfig hlease hst hdue).trans (s.fleetAsk_sends 0 hmember hopen)), rfl, rfl, rfl⟩
  · have hask := (s.modFleet fun f => { f with renewAt := s.now + 60 * secP }).fleetAsk_sends 1 hmember hopen
    exact ⟨_, congrArg Host.Outcome.next ((s.fleetRenew_due hdomain hconfig hlease hdue).trans hask), rfl, rfl⟩

end Sys2Proof.Machine
end

section
/-! Segments and records of the capture engine (R254, R257, R258, R259): what the close of a segment and the end of capture leave, and the way of
a record into the segment that fills. -/

namespace Sys2Proof.Machine

variable (s : State)

/-! ### Segments -/

theorem State.seg_congr {s t : State} (h : t.cap.segs = s.cap.segs) (i : Nat) : t.seg i = s.seg i := by
  unfold State.seg
  rw [h]

@[simp] theorem State.seg_setSeg_self (i : Nat) (g : Seg) : (s.setSeg i g).seg i = g := assocD_put_self ..

@[simp] theorem State.capBump_cap (el : Nat) : (s.capBump el).cap = s.cap := State.bump_cap ..

/-- A capture that ends holds no trigger and has no occurrence waiting; its segments and the sequencer stand (R271). -/
theorem State.capHalt_cap (why : Nat) :
    (s.capHalt why).cap = { s.cap with st := 0, held := none, stopAfter := false, wait := [] } := by
  unfold State.capHalt
  rw [State.evt_cap]
  rfl

/-- The segment in use closes with its flags; the capture then ends, for a stop that was asked for or at the count of segments, or a gap
begins (R267). -/
theorem State.segClose_cases (fl : Nat) {closed : State}
    (hclosed : closed = (s.setSeg s.cap.use { s.seg s.cap.use with st := 3, flags := fl }).capBump 3) :
    (∃ why, s.segClose fl = closed.capHalt why) ∨
      ∃ at_, (s.segClose fl).cap = { closed.cap with st := 3, gap := 0, rearmAt := at_ } := by
  subst hclosed
  unfold State.segClose
  dsimp only
  split
  · exact Or.inl ⟨_, rfl⟩
  · split
    · exact Or.inl ⟨_, rfl⟩
    · exact Or.inr ⟨_, rfl⟩

theorem State.segClose_segs (fl : Nat) :
    (s.segClose fl).cap.segs = assocPut s.cap.segs s.cap.use { s.seg s.cap.use with st := 3, flags := fl } := by
  obtain ⟨why, h⟩ | ⟨at_, h⟩ := s.segClose_cases fl rfl
  · rw [h, State.capHalt_cap, State.capBump_cap]
    rfl
  · rw [h, State.capBump_cap]
    rfl

theorem State.segClose_seg (fl : Nat) : (s.segClose fl).seg s.cap.use = { s.seg s.cap.use with st := 3, flags := fl } := by
  unfold State.seg
  rw [State.segClose_segs]
  exact assocD_put_self ..

/-! ### Records (R257, R258, R259) -/

/-- No record of the source on its way is older than the instant, so none enters before it. -/
theorem State.capFlush_none {src t : Nat} (h : ∀ r ∈ s.cap.bus, r.1 = src → t ≤ r.2.2.1) : s.capFlush src t = s := by
  have hnone : (s.cap.bus.filter fun r => r.1 == src && decide (r.2.2.1 < t)) = [] :=
    List.filter_eq_nil_iff.2 fun r hr hold => by
      simp only [Bool.and_eq_true, beq_iff_eq, decide_eq_true_eq] at hold
      exact absurd hold.2 (Nat.not_lt.2 (h r hr hold.1))
  unfold State.capFlush
  rw [hnone]
  rfl

/-- The segment fills, with room for a further record beside the last, and the meter has a token. -/
structure State.Fills (s : State) : Prop where
  st : s.cap.st = 2
  token : 4 ≤ min 4096 (s.cap.tok4 + (s.now - s.cap.tokAt))
  room : (s.seg s.cap.use).size + 1 < s.segRecs

variable {s}

/-- A segment that fills and has room beside a record takes it. -/
theorem State.segPut_filling (hst : s.cap.st = 2) (hroom : (s.seg s.cap.use).size + 1 < s.segRecs) (r : CapRec) :
    s.segPut r = s.setSeg s.cap.use { s.seg s.cap.use with recs := r :: (s.seg s.cap.use).recs } := by
  unfold State.segPut
  dsimp only
  rw [if_neg (by omega), if_pos hst, if_neg (Nat.not_le.2 hroom)]

/-- The meter refilled, and a token spent. -/
def State.tokenSpent (s : State) : State := s.capRefill.modCap fun c => { c with tok4 := c.tok4 - 4 }

/-- A selected record is written, and spends its token. -/
theorem State.Fills.capRecord (h : s.Fills) {src unit t data : Nat} {bad : Bool} (hsel : s.capSelected src unit data = true) :
    s.capRecord src unit t data bad =
      s.tokenSpent.setSeg s.cap.use { s.seg s.cap.use with recs := capRec src unit t data bad :: (s.seg s.cap.use).recs } := by
  obtain ⟨hst, htoken, hroom⟩ := h
  have hput : State.capRecord.put src unit t data bad s = s.tokenSpent.segPut (capRec src unit t data bad) := if_neg (Nat.not_lt.2 htoken)
  unfold State.capRecord
  rw [State.capRearm_noGap _ (by omega)]
  dsimp only
  rw [if_neg (by simp [hsel]), hst]
  exact hput.trans (State.segPut_filling (s := s.tokenSpent) hst hroom _)

/-- What a record leaves: it is the newest of its segment, which fills on, and none has left the way to the engine. -/
theorem State.Fills.capRecord_written (h : s.Fills) {src unit t data : Nat} {bad : Bool} (hsel : s.capSelected src unit data = true) :
    ((s.capRecord src unit t data bad).seg s.cap.use).recs = capRec src unit t data bad :: (s.seg s.cap.use).recs ∧
      (s.capRecord src unit t data bad).cap.st = 2 ∧ (s.capRecord src unit t data bad).cap.bus = s.cap.bus := by
  rw [h.capRecord hsel, State.seg_setSeg_self]
  exact ⟨rfl, h.st, rfl⟩

/-- An edge of the high threshold is written with its own time, when none of its source on its way is older. -/
theorem State.capArrive_edge {unit t data : Nat} (bad : Bool) (hedge : data % 16 = 3 ∨ data % 16 = 4)
    (hold : ∀ r ∈ s.cap.bus, r.1 = 2 → t ≤ r.2.2.1) : s.capArrive 2 unit t data bad = s.capRecord 2 unit t data bad := by
  unfold State.capArrive
  rw [if_pos ⟨rfl, hedge⟩, s.capFlush_none hold]

/-- Of any other source the oldest record on its way is written. -/
theorem State.capArrive_front {src unit t data : Nat} (bad : Bool) {x : Nat × Nat × Nat × Nat}
    (hother : ¬(src = 2 ∧ (data % 16 = 3 ∨ data % 16 = 4))) (hfront : s.capFront src unit = some x)
    (hold : ∀ r ∈ s.cap.bus, r.1 = src → x.2.2.1 ≤ r.2.2.1) : s.capArrive src unit t data bad =
      (s.modCap fun c => { c with bus := c.bus.erase x }).capRecord src unit x.2.2.1 x.2.2.2 bad := by
  unfold State.capArrive
  rw [if_neg hother, hfront]
  dsimp only
  rw [s.capFlush_none hold]

/-! ### The time limit of a segment (R254) -/

variable (s)

theorem State.segLimit_due {x p : Nat} (htrig : (s.seg s.cap.use).trig = some (x, p)) (hst : s.cap.st = 2)
    (hdue : p + s.objN 0xA000 6 * msP ≤ s.now) : s.segLimit = s.segClose (setBit (s.seg s.cap.use).flags 4) := by
  unfold State.segLimit
  rw [s.capRearm_noGap (by omega)]
  dsimp only
  rw [htrig]
  exact if_pos ⟨hst, hdue⟩

end Sys2Proof.Machine
end

section
/-! The trigger sequencer (R261, R262, R263): an occurrence that is counted, the two transitions, and that the actions of a transition leave the
state that was entered. -/

namespace Sys2Proof.Machine

variable (s : State)

/-! ### The state that a transition enters -/

/-- The sequencer has entered a state at an instant; nothing is counted there yet, and nothing waits. -/
structure Capture.EnteredAt (c : Capture) (k t : Nat) : Prop where
  state : c.state = k
  counter : c.counter = 0
  entered : c.entered = t
  wait : c.wait = []

variable {s} {k t : Nat} (h : Capture.EnteredAt s.cap k t)

/-- One choice or the other has entered the state where both have. -/
theorem State.ite_enteredAt {c : Prop} [Decidable c] {u v : State} (hu : Capture.EnteredAt u.cap k t) (hv : Capture.EnteredAt v.cap k t) :
    Capture.EnteredAt (if c then u else v).cap k t := by
  split
  · exact hu
  · exact hv

include h

theorem State.setSeg_enteredAt (i : Nat) (g : Seg) : Capture.EnteredAt (s.setSeg i g).cap k t := ⟨h.state, h.counter, h.entered, h.wait⟩

theorem State.capBump_enteredAt (el : Nat) : Capture.EnteredAt (s.capBump el).cap k t := by
  rw [State.capBump_cap]
  exact h

theorem State.capHalt_enteredAt (why : Nat) : Capture.EnteredAt (s.capHalt why).cap k t := by
  rw [State.capHalt_cap]
  exact ⟨h.state, h.counter, h.entered, rfl⟩

theorem State.segClose_enteredAt (fl : Nat) : Capture.EnteredAt (s.segClose fl).cap k t := by
  have hclosed := State.capBump_enteredAt (State.setSeg_enteredAt h s.cap.use { s.seg s.cap.use with st := 3, flags := fl }) 3
  obtain ⟨why, hhalt⟩ | ⟨at_, hgap⟩ := s.segClose_cases fl rfl
  · rw [hhalt]
    exact State.capHalt_enteredAt hclosed why
  · rw [hgap]
    exact ⟨hclosed.state, hclosed.counter, hclosed.entered, hclosed.wait⟩

theorem State.segPut_enteredAt (r : CapRec) : Capture.EnteredAt (s.segPut r).cap k t := by
  unfold State.segPut
  exact State.ite_enteredAt (State.setSeg_enteredAt h ..) (State.ite_enteredAt
    (State.ite_enteredAt (State.segClose_enteredAt (State.setSeg_enteredAt h ..) _) (State.setSeg_enteredAt h ..)) h)

theorem State.trigTake_enteredAt (tr : CapTrig) : Capture.EnteredAt (s.trigTake tr).cap k t := by
  refine State.segPut_enteredAt ?_ _
  rw [State.capBump_cap]
  exact ⟨h.state, h.counter, h.entered, h.wait⟩

theorem State.trigMiss_enteredAt : Capture.EnteredAt s.trigMiss.cap k t := by
  have hcounted := State.capBump_enteredAt h 6
  unfold State.trigMiss
  refine State.ite_enteredAt (State.setSeg_enteredAt hcounted ..) (State.ite_enteredAt ?_ hcounted)
  rw [State.evt_cap]
  exact ⟨hcounted.state, hcounted.counter, hcounted.entered, hcounted.wait⟩

/-- Whatever becomes of a trigger, it leaves the sequencer where it is (R266). -/
theorem State.trigger_enteredAt (tr : CapTrig) : Capture.EnteredAt (s.trigger tr).cap k t := by
  have hbeyond : Capture.EnteredAt (State.trigger.beyond tr s).cap k t := by
    refine State.ite_enteredAt ?_ (State.trigMiss_enteredAt h)
    rw [State.capBump_cap]
    exact ⟨h.state, h.counter, h.entered, h.wait⟩
  unfold State.trigger
  split
  · exact State.trigTake_enteredAt h tr
  · exact hbeyond
  · exact hbeyond
  · exact State.trigMiss_enteredAt h
  · exact h

theorem State.wofenRequest_enteredAt : Capture.EnteredAt s.wofenRequest.cap k t := by
  unfold State.wofenRequest
  dsimp only
  split
  · exact State.capBump_enteredAt h 10
  · exact h
  · exact h

/-! ### Transitions (R261, R264, R265) -/

/-- The actions of a transition: a trigger, a Wofen request, and a stop, which ends capture now or once its segment closes. -/
def State.triggerAction (s : State) (act : Nat) (tr : CapTrig) : State := if bit act 0 then s.trigger tr else s
def State.requestAction (s : State) (act : Nat) : State := if bit act 1 then s.wofenRequest else s
def State.stopAction (s : State) (act : Nat) : State :=
  if bit act 2 then
    if s.cap.st = 1 then (s.modCap fun c => { c with stopAfter := true }).segClose (setBit (s.seg s.cap.use).flags 2)
    else if s.cap.st = 2 then s.modCap fun c => { c with stopAfter := true }
    else if s.capRuns then s.capHalt 2 else s
  else s

theorem State.triggerAction_enteredAt (act : Nat) (tr : CapTrig) : Capture.EnteredAt (s.triggerAction act tr).cap k t :=
  State.ite_enteredAt (State.trigger_enteredAt h tr) h

theorem State.requestAction_enteredAt (act : Nat) : Capture.EnteredAt (s.requestAction act).cap k t :=
  State.ite_enteredAt (State.wofenRequest_enteredAt h) h

theorem State.stopAction_enteredAt (act : Nat) : Capture.EnteredAt (s.stopAction act).cap k t := by
  have hasked : Capture.EnteredAt (s.modCap fun c => { c with stopAfter := true }).cap k t := ⟨h.state, h.counter, h.entered, h.wait⟩
  exact State.ite_enteredAt (State.ite_enteredAt (State.segClose_enteredAt hasked _)
    (State.ite_enteredAt hasked (State.ite_enteredAt (State.capHalt_enteredAt h 2) h))) h

omit h
variable (s)

/-- Target and actions of a transition. -/
def State.seqTarget (which : Nat) : Nat := if which = 1 then bits (s.seqWord 4) 13 3 else bits (s.seqWord 4) 5 3
def State.seqAction (which : Nat) : Nat := if which = 1 then bits (s.seqWord 4) 10 3 else bits (s.seqWord 4) 2 3

/-- The target entered, and its actions still to come. -/
def State.seqEnter (which t : Nat) : State :=
  s.modCap fun c => { c with state := s.seqTarget which, counter := 0, entered := t, enteredRef := s.refAt t }

theorem State.seqGo_eq (which t : Nat) : s.seqGo which t =
    (((s.seqEnter which t).triggerAction (s.seqAction which)
      { t := t, cond := s.seqWord 1, state := s.cap.state, cause := which, frame := s.frameAt t }).requestAction (s.seqAction which)).stopAction
      (s.seqAction which) := rfl

variable {s}

/-- Transition 1 or 2 enters its target at its instant, whatever its actions are. -/
theorem State.seqGo_enteredAt (hwait : s.cap.wait = []) (which t : Nat) : Capture.EnteredAt (s.seqGo which t).cap (s.seqTarget which) t := by
  have hentered : Capture.EnteredAt (s.seqEnter which t).cap (s.seqTarget which) t := ⟨rfl, rfl, rfl, hwait⟩
  rw [State.seqGo_eq]
  exact State.stopAction_enteredAt (State.requestAction_enteredAt (State.triggerAction_enteredAt hentered _ _) _) _

/-! ### Occurrences (R262) -/

/-- An occurrence fulfils the condition of the state in effect at its instant, and neither an earlier one nor a timer's limit is before it. -/
structure State.Counts (s : State) (t : Nat) (o : Occ) : Prop where
  runs : s.capRuns = true
  noGap : s.cap.st ≠ 3
  noTimer : s.timerDue = none
  inOrder : s.occAhead t = false
  entered : s.cap.entered ≤ t
  fulfils : occMatches o (s.seqWord 1) (fun i => s.obj 0xA010 (i + 1)) (fun i => s.obj 0xA011 (i + 1)) = true
  wait : s.cap.wait = []

variable {o : Occ}

/-- It counts where the limit is not reached with it. -/
theorem State.Counts.seqOcc_below (h : s.Counts t o) (hlimit : s.seqWord 2 = 0 ∨ s.cap.counter + 1 < s.seqWord 2) :
    s.seqOcc t o = (s.modCap fun c => { c with counter := s.cap.counter + 1 }, false) := by
  have hbelow : (s.seqWord 2 != 0 && decide (s.seqWord 2 ≤ s.cap.counter + 1)) = false := by
    rcases hlimit with h0 | hlt
    · simp [h0]
    · simp [Nat.not_le.2 hlt]
  unfold State.seqOcc
  simp [h.runs, h.inOrder, Nat.not_lt.2 h.entered, h.fulfils, h.noTimer, hbelow]

/-- With the limit it makes transition 1 at its own instant. -/
theorem State.Counts.seqOcc_full (h : s.Counts t o) (hlimit : s.seqWord 2 ≠ 0) (hfull : s.seqWord 2 ≤ s.cap.counter + 1) :
    s.seqOcc t o = (s.seqGo 1 t, true) := by
  unfold State.seqOcc
  simp [h.runs, h.inOrder, Nat.not_lt.2 h.entered, h.fulfils, h.noTimer, hlimit, hfull]

/-- Nothing waits, so emptying the list changes nothing. -/
theorem State.modCap_wait_nil (h : s.cap.wait = []) : (s.modCap fun c => { c with wait := [] }) = s := by
  unfold State.modCap
  rw [← h]

/-- Alone, an occurrence is evaluated once. -/
theorem State.Counts.occur (h : s.Counts t o) : s.occur t o = State.seqRun 4 [(t, o)] s := by
  unfold State.occur State.seqWait
  rw [s.capRearm_noGap h.noGap, h.wait, State.modCap_wait_nil h.wait]
  rfl

theorem State.Counts.occur_below (h : s.Counts t o) (hlimit : s.seqWord 2 = 0 ∨ s.cap.counter + 1 < s.seqWord 2) :
    s.occur t o = s.modCap fun c => { c with counter := s.cap.counter + 1 } := by
  rw [h.occur]
  unfold State.seqRun
  rw [h.seqOcc_below hlimit]
  rfl

theorem State.Counts.occur_full (h : s.Counts t o) (hlimit : s.seqWord 2 ≠ 0) (hfull : s.seqWord 2 ≤ s.cap.counter + 1) :
    Capture.EnteredAt (s.occur t o).cap (bits (s.seqWord 4) 13 3) t := by
  have hgone := State.seqGo_enteredAt h.wait 1 t
  have hrun : s.occur t o = s.seqGo 1 t := by
    rw [h.occur]
    unfold State.seqRun
    rw [h.seqOcc_full hlimit hfull]
    dsimp only
    rw [if_pos rfl, hgone.wait, State.modCap_wait_nil hgone.wait]
    rfl
  rw [hrun]
  exact hgone

/-! ### Occurrences on their way (R263, log entries 2 and 103) -/

variable (s)

/-- An occurrence that leaves the way to the sequencer is ahead of none. -/
theorem State.occAhead_erase {x : Nat × Occ} (h : s.occAhead t = false) :
    (s.modCap fun c => { c with occs := c.occs.erase x }).occAhead t = false :=
  List.any_eq_false.2 fun y hy => List.any_eq_false.1 h y (List.mem_of_mem_erase hy)

/-- An occurrence that comes on its way to the sequencer, and not as a row of its own or with its time. -/
def onItsWay (o : Occ) : Prop :=
  (∀ c, o ≠ .event c) ∧ (∀ c, o ≠ .relay c) ∧ o ≠ .host ∧ ∀ ch, o ≠ .edge ch 3 ∧ o ≠ .edge ch 4

variable {s}

/-- It is counted at the instant of the oldest of its kind. -/
theorem State.occCount_onItsWay {x : Nat × Occ} (at_ : Nat) (ho : onItsWay o) (hfind : s.cap.occs.find? (fun y => y.2 == o) = some x) :
    s.occCount at_ o = (s.modCap fun c => { c with occs := c.occs.erase x }).occur x.1 o := by
  obtain ⟨hevent, hrelay, hhost, hedge⟩ := ho
  unfold State.occCount
  split
  · exact absurd rfl hhost
  · exact absurd rfl (hevent _)
  · exact absurd rfl (hrelay _)
  · rw [if_neg, hfind]
    split
    · next ch n _ _ _ =>
      obtain ⟨h3, h4⟩ := hedge ch
      simp only [Bool.or_eq_true, beq_iff_eq]
      rintro (rfl | rfl)
      · exact h3 rfl
      · exact h4 rfl
    · decide

/-- The channel of an edge that fulfils a condition is among the selected ones. -/
theorem State.isOcc_edge {ch n w : Nat} {hits : Nat → Int} (h : occMatches (.edge ch n) w hits (fun i => s.obj 0xA011 (i + 1)) = true) :
    s.isOcc (.edge ch n) = true := by
  have hsel := (Bool.and_eq_true_iff.1 h).2
  show s.inChannels 0xA011 ch = true
  split at hsel
  · exact hsel
  · exact List.any_eq_true.2 ⟨bits w 20 4, List.mem_range.2 (Nat.mod_lt _ (by decide)), hsel⟩

/-- A crossing of the high threshold is counted at the instant that its row gives. -/
theorem State.occCount_highEdge {ch n : Nat} (hn : n = 3 ∨ n = 4) (hocc : s.isOcc (.edge ch n) = true) :
    s.occCount t (.edge ch n) = s.occur t (.edge ch n) := by
  have hhigh : (n == 3 || n == 4) = true := by simpa using hn
  show (if (n == 3 || n == 4) = true then (if s.isOcc (.edge ch n) then s.occur t (.edge ch n) else s) else _) = _
  rw [if_pos hhigh, if_pos hocc]

/-! ### The timer (R261) -/

/-- With nothing waiting the sequencer has nothing to do. -/
theorem State.seqWait_nil (h : s.cap.wait = []) : s.seqWait [] = s := by
  unfold State.seqWait
  rw [h]
  rfl

theorem State.seqTimer_due {d : Nat} (hwait : s.cap.wait = []) (hgap : s.cap.st ≠ 3) (hdue : s.timerDue = some d) (hruns : s.capRuns = true)
    (hlimit : d + 200 * 65536 ≤ s.capNow) : s.seqTimer = s.seqGo 2 d := by
  unfold State.seqTimer
  rw [s.capRearm_noGap hgap, State.seqWait_nil hwait]
  dsimp only
  rw [hdue]
  dsimp only
  rw [if_pos ⟨hruns, hlimit⟩, State.seqWait_nil (State.seqGo_enteredAt hwait 2 d).wait]

end Sys2Proof.Machine
end

section
/-! The rows of records and of the trigger sequencer (R254, R257, R258, R261 ... R265). -/

namespace Sys2Proof.Machine

variable {s : State}

/-! ### Occurrences -/

/-- The row of an occurrence on its way: it counts at its own instant, below the limit and with it. -/
theorem exec_occurrence_onItsWay {o : Occ} {x : Nat × Occ} (at_ : Nat) (ho : onItsWay o) (hfind : s.cap.occs.find? (fun y => y.2 == o) = some x)
    (h : s.Counts x.1 o) :
    (s.seqWord 2 = 0 ∨ s.cap.counter + 1 < s.seqWord 2 → ∃ t, exec (.triggerConditionOccurrence at_ o) s = .next t ∧
      t.cap = { s.cap with occs := s.cap.occs.erase x, counter := s.cap.counter + 1 }) ∧
    (s.seqWord 2 ≠ 0 → s.seqWord 2 ≤ s.cap.counter + 1 → ∃ t, exec (.triggerConditionOccurrence at_ o) s = .next t ∧
      t.cap.state = bits (s.seqWord 4) 13 3 ∧ t.cap.counter = 0 ∧ t.cap.entered = x.1) := by
  obtain ⟨hruns, hgap, htimer, horder, hentered, hmatch, hwait⟩ := h
  have hcounts : (s.modCap fun c => { c with occs := c.occs.erase x }).Counts x.1 o :=
    ⟨hruns, hgap, htimer, s.occAhead_erase horder, hentered, hmatch, hwait⟩
  have hexec := State.occCount_onItsWay (at_ * 256) ho hfind
  refine ⟨fun hlimit => ⟨_, congrArg Host.Outcome.next hexec, ?_⟩, fun hlimit hfull => ⟨_, congrArg Host.Outcome.next hexec, ?_⟩⟩
  · rw [hcounts.occur_below hlimit]
    rfl
  · obtain ⟨hstate, hcounter, hat, -⟩ := hcounts.occur_full hlimit hfull
    exact ⟨hstate, hcounter, hat⟩

/-- The row of a crossing of the high threshold, which gives its instant. -/
theorem exec_occurrence_highEdge {at_ ch k : Nat} (hk : k = 3 ∨ k = 4) (h : s.Counts (at_ * 256) (.edge ch k)) :
    (s.seqWord 2 = 0 ∨ s.cap.counter + 1 < s.seqWord 2 → ∃ t, exec (.triggerConditionOccurrence at_ (.edge ch k)) s = .next t ∧
      t.cap = { s.cap with counter := s.cap.counter + 1 }) ∧
    (s.seqWord 2 ≠ 0 → s.seqWord 2 ≤ s.cap.counter + 1 → ∃ t, exec (.triggerConditionOccurrence at_ (.edge ch k)) s = .next t ∧
      t.cap.state = bits (s.seqWord 4) 13 3 ∧ t.cap.counter = 0 ∧ t.cap.entered = at_ * 256) := by
  have hexec := State.occCount_highEdge (t := at_ * 256) hk (State.isOcc_edge h.fulfils)
  refine ⟨fun hlimit => ⟨_, congrArg Host.Outcome.next hexec, ?_⟩, fun hlimit hfull => ⟨_, congrArg Host.Outcome.next hexec, ?_⟩⟩
  · rw [h.occur_below hlimit]
    rfl
  · obtain ⟨hstate, hcounter, hat, -⟩ := h.occur_full hlimit hfull
    exact ⟨hstate, hcounter, hat⟩

/-- A host trigger is an occurrence at the instant of its command. -/
theorem exec_hostTrigger_accepted {r : Req} {arg : Nat} (h : s.accepts r (entArg 0xA102 .u8 arg) []) (hcounts : s.Counts s.capNow .host)
    (hlimit : s.seqWord 2 ≠ 0) (hfull : s.seqWord 2 ≤ s.cap.counter + 1) : ∃ t, exec (.hostTrigger r arg) s = .next t ∧ t.took r ∧
      t.cap.state = bits (s.seqWord 4) 13 3 ∧ t.cap.counter = 0 ∧ t.cap.entered = s.capNow := by
  refine ⟨_, rfl, s.hostWrite_took h, ?_⟩
  rw [s.hostWrite_accepted h, s.storeWrite_command (obj := 0xA102) rfl rfl rfl, State.accept_cap]
  obtain ⟨hstate, hcounter, hat, -⟩ := hcounts.occur_full hlimit hfull
  exact ⟨hstate, hcounter, hat⟩

/-! ### Records and segments -/

/-- The row of a record of any source but the crossings of the high threshold. -/
theorem exec_captureRecord_front (h : s.Fills) {src unit at_ data : Nat} {bad : Bool} {x : Nat × Nat × Nat × Nat}
    (hother : ¬(src = 2 ∧ (data % 16 = 3 ∨ data % 16 = 4))) (hfront : s.capFront src unit = some x)
    (hsel : s.capSelected src unit x.2.2.2 = true) (hold : ∀ r ∈ s.cap.bus, r.1 = src → x.2.2.1 ≤ r.2.2.1) :
    ∃ t, exec (.captureRecord src unit at_ ⟨data, bad⟩) s = .next t ∧
      (t.seg s.cap.use).recs = capRec src unit x.2.2.1 x.2.2.2 bad :: (s.seg s.cap.use).recs ∧ t.cap.st = 2 ∧ t.cap.bus = s.cap.bus.erase x := by
  have hfills : (s.modCap fun c => { c with bus := c.bus.erase x }).Fills := ⟨h.st, h.token, h.room⟩
  exact ⟨_, congrArg Host.Outcome.next (State.capArrive_front bad hother hfront hold), hfills.capRecord_written hsel⟩

theorem exec_segmentTimeLimit_due {x p : Nat} (htrig : (s.seg s.cap.use).trig = some (x, p)) (hst : s.cap.st = 2)
    (hdue : p + s.objN 0xA000 6 * msP ≤ s.now) : ∃ t, exec .segmentTimeLimit s = .next t ∧ (t.seg s.cap.use).st = 3 ∧
      (t.seg s.cap.use).recs = (s.seg s.cap.use).recs ∧ bit (t.seg s.cap.use).flags 4 = true := by
  refine ⟨_, congrArg Host.Outcome.next (s.segLimit_due htrig hst hdue), ?_⟩
  rw [State.segClose_seg]
  exact ⟨rfl, rfl, bit_setBit_self _ 4⟩

/-- Settles O34: a record of the oldest on its way is written, occurrences count at their own time and make their transition, the timer makes
transition 2, and a segment ends at its time limit (which record is taken is log entry 80, which occurrences are on their way log entries
76 and 103, those that come as rows of their own log entry 2). -/
theorem captureRows : Obligations.CaptureRows := by
  unfold Obligations.CaptureRows
  refine ⟨fun s hwait => ⟨fun htoken hst hroom => ?_, fun hruns hgap htimer => ?_, fun r arg h hruns hgap hentered horder htimer hhost hlimit hfull => ?_,
    fun d hdue hruns hgap hlate => ?_, fun x p htrig hst hdue => exec_segmentTimeLimit_due htrig hst hdue⟩, fun s at_ c => ⟨rfl, rfl, rfl⟩⟩
  · have hfills : s.Fills := ⟨hst, htoken, hroom⟩
    refine ⟨fun unit at_ data bad hedge hsel hold => ?_,
      fun src unit at_ data bad x hother hfront hsel hold => exec_captureRecord_front hfills hother hfront hsel hold⟩
    obtain ⟨hrecs, hst', -⟩ := hfills.capRecord_written (t := at_ * 256) (bad := bad) hsel
    exact ⟨_, congrArg Host.Outcome.next (State.capArrive_edge bad hedge hold), hrecs, hst'⟩
  · exact ⟨fun at_ o x hevent hrelay hhost hedge hfind hentered horder hmatch =>
        exec_occurrence_onItsWay at_ ⟨hevent, hrelay, hhost, hedge⟩ hfind ⟨hruns, hgap, htimer, horder, hentered, hmatch, hwait⟩,
      fun at_ ch k hk hentered horder hmatch => exec_occurrence_highEdge hk ⟨hruns, hgap, htimer, horder, hentered, hmatch, hwait⟩⟩
  · exact exec_hostTrigger_accepted h ⟨hruns, hgap, htimer, horder, hentered, beq_iff_eq.2 hhost, hwait⟩ hlimit hfull
  · obtain ⟨hstate, hcounter, hat, -⟩ := State.seqGo_enteredAt hwait 2 d
    exact ⟨_, congrArg Host.Outcome.next (State.seqTimer_due hwait hgap hdue hruns hlate), hstate, hcounter, hat⟩

end Sys2Proof.Machine
end

section
/-! A capture source that is lost (R268, R276, R289, R292): what a descriptor that ends leaves alone, that a halted channel stays halted, and what
power-downs that were held for it can take from the capture engine. -/

namespace Sys2Proof.Machine

variable (s : State)

/-! ### Channels of the DMA engine -/

@[simp] theorem State.dmaCh_setDmaCh_self (c : Fin 32) (v : DmaCh) : (s.setDmaCh c v).dmaCh c = v := Vector.getElem_set_self c.isLt

theorem State.dmaCh_setDmaCh_ne {c d : Fin 32} (v : DmaCh) (h : d ≠ c) : (s.setDmaCh c v).dmaCh d = s.dmaCh d :=
  Vector.getElem_set_ne c.isLt d.isLt fun e => h (Fin.ext e.symm)

theorem State.dmaCh_congr {s t : State} (h : t.dma.chans = s.dma.chans) (c : Fin 32) : t.dmaCh c = s.dmaCh c := by
  unfold State.dmaCh
  rw [h]

theorem mem_chans32 (c : Fin 32) : c ∈ chans32 := List.mem_map.2 ⟨c.val, List.mem_range.2 c.isLt, Fin.ext (Nat.mod_eq_of_lt c.isLt)⟩

/-! ### What the operations of a channel change -/

theorem State.rewindOpen_keeps (n : Fin 4) (l : Nat) : s.rewindOpen n l = { s with
    queues := (s.rewindOpen n l).queues, dict := (s.rewindOpen n l).dict, free := (s.rewindOpen n l).free } := by
  unfold State.rewindOpen
  dsimp only
  rw [State.bump_keeps]
  rfl

theorem State.reserve_keeps (n : Fin 4) (l : Nat) : (s.reserve n l).1 = { s with
    queues := (s.reserve n l).1.queues, dict := (s.reserve n l).1.dict, free := (s.reserve n l).1.free } := by
  unfold State.reserve
  dsimp only
  split
  · rfl
  · rw [State.bump_keeps]

theorem State.dmaRecord_keeps (c : Fin 32) (status count : Nat) : s.dmaRecord c status count = { s with
    dma := { s.dma with recs := (s.dmaRecord c status count).dma.recs, ev1803 := (s.dmaRecord c status count).dma.ev1803 }
    dict := (s.dmaRecord c status count).dict, free := (s.dmaRecord c status count).free, ev := (s.dmaRecord c status count).ev } := by
  have hnote : ∀ u : State, State.dmaRecord.note u = { u with
      dma := { u.dma with ev1803 := (State.dmaRecord.note u).dma.ev1803 }, dict := (State.dmaRecord.note u).dict
      free := (State.dmaRecord.note u).free, ev := (State.dmaRecord.note u).ev } := fun u => by
    unfold State.dmaRecord.note
    rw [State.evt_keeps]
  unfold State.dmaRecord
  dsimp only
  split
  · rfl
  · split
    · split
      · rw [State.bump_keeps]
      · rw [hnote, State.bump_keeps]
    · rw [hnote, State.bump_keeps]

/-- The capture engine and the held power-downs are as they were, and so are the channels but one. -/
structure State.OnlyChannel (s t : State) (c : Fin 32) : Prop where
  cap : t.cap = s.cap
  holds : t.dma.holds = s.dma.holds
  others : ∀ d, d ≠ c → t.dmaCh d = s.dmaCh d

variable {s} {c : Fin 32}

theorem State.OnlyChannel.trans {t u : State} (h : s.OnlyChannel t c) (h' : t.OnlyChannel u c) : s.OnlyChannel u c where
  cap := h'.cap.trans h.cap
  holds := h'.holds.trans h.holds
  others d hd := (h'.others d hd).trans (h.others d hd)

theorem State.OnlyChannel.of_chans {t : State} (hcap : t.cap = s.cap) (hholds : t.dma.holds = s.dma.holds) (hchans : t.dma.chans = s.dma.chans) :
    s.OnlyChannel t c where
  cap := hcap
  holds := hholds
  others d _ := State.dmaCh_congr hchans d

theorem State.OnlyChannel.refl : s.OnlyChannel s c := .of_chans rfl rfl rfl

variable (s c)

theorem State.setDmaCh_onlyChannel (v : DmaCh) : s.OnlyChannel (s.setDmaCh c v) c where
  cap := rfl
  holds := rfl
  others _ hd := s.dmaCh_setDmaCh_ne v hd

theorem State.rewindOpen_onlyChannel (n : Fin 4) (l : Nat) : s.OnlyChannel (s.rewindOpen n l) c := by
  rw [State.rewindOpen_keeps]
  exact .of_chans rfl rfl rfl

theorem State.reserve_onlyChannel (n : Fin 4) (l : Nat) : s.OnlyChannel (s.reserve n l).1 c := by
  rw [State.reserve_keeps]
  exact .of_chans rfl rfl rfl

theorem State.dmaRecord_onlyChannel (status count : Nat) : s.OnlyChannel (s.dmaRecord c status count) c := by
  rw [State.dmaRecord_keeps]
  exact .of_chans rfl rfl rfl

theorem State.dmaRewind_onlyChannel : s.OnlyChannel (s.dmaRewind c) c := by
  unfold State.dmaRewind
  dsimp only
  split
  · exact .refl
  · exact (s.rewindOpen_onlyChannel c _ _).trans (State.setDmaCh_onlyChannel _ c _)

theorem State.dmaReserve_onlyChannel : s.OnlyChannel (s.dmaReserve c) c := by
  unfold State.dmaReserve
  dsimp only
  split
  · split
    · exact (s.reserve_onlyChannel c _ _).trans (State.setDmaCh_onlyChannel _ c _)
    · exact (s.reserve_onlyChannel c _ _).trans (State.setDmaCh_onlyChannel _ c _)
  · exact s.setDmaCh_onlyChannel c _

/-! ### A descriptor that ends other than done (R288 ... R292) -/

/-- It is rewound, leaves its record, and its channel halts with the status. -/
def State.dmaHalted (s : State) (c : Fin 32) (status count : Nat) : State :=
  ((s.dmaRewind c).dmaRecord c status count).setDmaCh c
    { ((s.dmaRewind c).dmaRecord c status count).dmaCh c with st := 3, last := status }

theorem State.dmaHalt_cases (status count : Nat) : s.dmaHalt c status count = (s.dmaHalted c status count).clearGo c ∨
    ∃ param, s.dmaHalt c status count = ((s.dmaHalted c status count).clearGo c).evt 0x1801 param := by
  unfold State.dmaHalt
  dsimp only
  split
  · exact Or.inr ⟨_, rfl⟩
  · exact Or.inl rfl

@[simp] theorem State.clearGo_cap : (s.clearGo c).cap = s.cap := rfl
@[simp] theorem State.clearGo_dma : (s.clearGo c).dma = s.dma := rfl

/-- Beside its `go` bit and its event a halt touches nothing more of the engine. -/
theorem State.dmaHalt_aside (status count : Nat) :
    (s.dmaHalt c status count).cap = (s.dmaHalted c status count).cap ∧ (s.dmaHalt c status count).dma = (s.dmaHalted c status count).dma := by
  obtain h | ⟨param, h⟩ := s.dmaHalt_cases c status count 
  · rw [h, State.clearGo_cap, State.clearGo_dma]
    exact ⟨rfl, rfl⟩
  · rw [h, State.evt_cap, State.evt_dma, State.clearGo_cap, State.clearGo_dma]
    exact ⟨rfl, rfl⟩

theorem State.dmaHalt_onlyChannel (status count : Nat) : s.OnlyChannel (s.dmaHalt c status count) c := by
  obtain ⟨hcap, hdma⟩ := s.dmaHalt_aside c status count
  have hhalted : s.OnlyChannel (s.dmaHalted c status count) c :=
    ((s.dmaRewind_onlyChannel c).trans (State.dmaRecord_onlyChannel _ c _ _)).trans (State.setDmaCh_onlyChannel _ c _)
  exact hhalted.trans (.of_chans hcap (congrArg Dma.holds hdma) (congrArg Dma.chans hdma))

theorem State.dmaHalt_halts (status count : Nat) :
    ((s.dmaHalt c status count).dmaCh c).st = 3 ∧ ((s.dmaHalt c status count).dmaCh c).last = status := by
  obtain ⟨-, hdma⟩ := s.dmaHalt_aside c status count
  rw [State.dmaCh_congr (congrArg Dma.chans hdma), State.dmaHalted, State.dmaCh_setDmaCh_self]
  exact ⟨rfl, rfl⟩

/-! ### Halted channels -/

variable {c}

/-- Every channel that is halted is as it was. -/
structure State.HaltedStay (s t : State) : Prop where
  stays : ∀ d, (s.dmaCh d).st = 3 → t.dmaCh d = s.dmaCh d

variable {s}

theorem State.HaltedStay.trans {t u : State} (h : s.HaltedStay t) (h' : t.HaltedStay u) : s.HaltedStay u where
  stays d hd := by
    have ht := h.stays d hd
    exact (h'.stays d (by rw [ht, hd])).trans ht

theorem State.HaltedStay.of_chans {t : State} (h : t.dma.chans = s.dma.chans) : s.HaltedStay t :=
  ⟨fun d _ => State.dmaCh_congr h d⟩

theorem State.HaltedStay.refl : s.HaltedStay s := .of_chans rfl

/-- So it is where one channel alone changed, which was not halted. -/
theorem State.OnlyChannel.haltedStay {t : State} (h : s.OnlyChannel t c) (hrun : (s.dmaCh c).st ≠ 3) : s.HaltedStay t :=
  ⟨fun d hd => h.others d fun e => hrun (e ▸ hd)⟩

/-- A relation that each step of a fold keeps holds over the fold. -/
theorem foldl_relates {β : Type} {R : State → State → Prop} (hrefl : ∀ s, R s s) (htrans : ∀ {s t u}, R s t → R t u → R s u)
    {f : State → β → State} {l : List β} (h : ∀ x ∈ l, ∀ s, R s (f s x)) (s : State) : R s (l.foldl f s) := by
  induction l generalizing s with
  | nil => exact hrefl s
  | cons x l ih =>
    exact htrans (h x (List.mem_cons_self ..) s) (ih (fun y hy => h y (List.mem_cons_of_mem _ hy)) (f s x))

theorem State.HaltedStay.foldl {β : Type} {f : State → β → State} {l : List β} (h : ∀ x ∈ l, ∀ s : State, s.HaltedStay (f s x)) (s : State) :
    s.HaltedStay (l.foldl f s) := foldl_relates (R := State.HaltedStay) (fun _ => .refl) State.HaltedStay.trans h s

variable (s)

/-! ### Channels that wait, and open bulk packets (R276, R288) -/

theorem State.dmaRetry_cap : s.dmaRetry.cap = s.cap :=
  foldl_keeps State.cap (fun s c => by
    split
    · exact (s.dmaReserve_onlyChannel c).cap
    · rfl) chans32 s

theorem State.dmaRetry_haltedStay : s.HaltedStay s.dmaRetry :=
  State.HaltedStay.foldl (fun c _ s => by
    split
    · next hwaits => exact (s.dmaReserve_onlyChannel c).haltedStay (by omega)
    · exact .refl) s

/-- A bulk packet that is rewound with its queue: its channel waits for a reservation anew. -/
theorem State.bulkRewind_step (l : Fin 2) (c : Fin 32) {t : State} (ht : t =
    if (s.dmaCh c).st = 1 ∧ (s.dmaCh c).reserved ≠ 0 ∧ dstRegion (dDst (s.dmaCh c).image) (dLen (s.dmaCh c).image) = .bulk (2 + l.val) then
      (s.dmaRewind c).setDmaCh c { (s.dmaRewind c).dmaCh c with st := 2, moved := 0, retries := 0, waitSince := s.now }
    else s) : t.cap = s.cap ∧ s.HaltedStay t := by
  subst ht
  split
  · next hopen =>
    have honly := (s.dmaRewind_onlyChannel c).trans (State.setDmaCh_onlyChannel _ c
      { (s.dmaRewind c).dmaCh c with st := 2, moved := 0, retries := 0, waitSince := s.now })
    exact ⟨honly.cap, honly.haltedStay (by omega)⟩
  · exact ⟨rfl, .refl⟩

theorem State.bulkRewind_cap (l : Fin 2) : (s.bulkRewind l).cap = s.cap :=
  foldl_keeps State.cap (fun s c => (s.bulkRewind_step l c rfl).1) chans32 s

theorem State.bulkRewind_haltedStay (l : Fin 2) : s.HaltedStay (s.bulkRewind l) :=
  State.HaltedStay.foldl (fun c _ s => (s.bulkRewind_step l c rfl).2) s

@[simp] theorem State.emptyQueue_cap (n : Fin 4) : (s.emptyQueue n).cap = s.cap := rfl
@[simp] theorem State.emptyQueue_dma (n : Fin 4) : (s.emptyQueue n).dma = s.dma := rfl

theorem State.ite_rewindOpen_aside (b : Bool) (n : Fin 4) (k : Nat) :
    (if b then s.rewindOpen n k else s).cap = s.cap ∧ (if b then s.rewindOpen n k else s).dma = s.dma := by
  split
  · rw [State.rewindOpen_keeps]
    exact ⟨rfl, rfl⟩
  · exact ⟨rfl, rfl⟩

/-- The packets of an open Ingot are rewound. -/
def State.rewindHand (l : Fin 2) (s : State) (h : InHand) : State :=
  if h.dump.isEmpty then (if h.reserved then s.rewindOpen (streamQ l) 128 else s)
  else (if h.reserved then s.rewindOpen (streamQ l) 128 else s).rewindOpen (streamQ l) 128

theorem State.rewindHand_aside (l : Fin 2) (h : InHand) : ((s.rewindHand l h).cap, (s.rewindHand l h).dma) = (s.cap, s.dma) := by
  obtain ⟨hcap, hdma⟩ := s.ite_rewindOpen_aside h.reserved (streamQ l) 128
  unfold State.rewindHand
  split
  · rw [hcap, hdma]
  · rw [State.rewindOpen_keeps]
    exact Prod.ext hcap hdma

/-- An emptied link touches neither the capture engine nor the channels. -/
theorem State.emptyLink_aside (l : Fin 2) : (s.emptyLink l).cap = s.cap ∧ (s.emptyLink l).dma = s.dma := by
  have hhands := Prod.mk.inj (foldl_keeps (fun t => (t.cap, t.dma)) (fun s h => s.rewindHand_aside l h) (s.link l).inHand s)
  unfold State.emptyLink
  dsimp only
  rw [State.emptyQueue_cap, State.emptyQueue_cap, State.modLink_cap, State.emptyQueue_dma, State.emptyQueue_dma, State.modLink_dma]
  exact hhands

/-! ### Power-down of a domain (R292, R387) -/

theorem State.linkPowerOff_aside (l : Fin 2) : (s.linkPowerOff l).cap = s.cap ∧ s.HaltedStay (s.linkPowerOff l) := by
  obtain ⟨hcap, hdma⟩ := ((s.bulkRewind l).modLink l fun k => { k with st := 5, clk := false }).emptyLink_aside l
  unfold State.linkPowerOff
  dsimp only
  rw [State.setObj_cap, State.modLink_cap, hcap, State.modLink_cap, State.bulkRewind_cap]
  refine ⟨rfl, (s.bulkRewind_haltedStay l).trans (.of_chans ?_)⟩
  rw [State.setObj_dma, State.modLink_dma, hdma, State.modLink_dma]

theorem State.quadPowerOff_dma (q : Fin 4) : (s.quadPowerOff q).dma = s.dma := by
  unfold State.quadPowerOff State.quadLost
  rw [State.sourceLost_keeps]
  rfl

/-- The domain itself switches off: a Quadrant, the capture engine, or a link. -/
def State.powerOff (s : State) (d : Nat) : State :=
  match d with
  | 0 => s.quadPowerOff 0
  | 1 => s.quadPowerOff 1
  | 2 => s.quadPowerOff 2
  | 3 => s.quadPowerOff 3
  | 4 => s.capPowerOff
  | 5 => s.linkPowerOff 0
  | 6 => s.linkPowerOff 1
  | _ => s

/-- Its power-down is held no more, and `8.101` shows it off. -/
def State.unheld (s : State) (d : Nat) : State :=
  { s with dma := { s.dma with holds := s.dma.holds.filter fun h => h.1 != d } }.setObj 0x8101 (domEl d) 0

theorem State.domOff_eq (d : Nat) : s.domOff d = ((s.unheld d).powerOff d).requestDone 0x8100 d := rfl

theorem State.powerOff_cases : (d : Nat) → (d < 4 ∧ ∃ q, s.powerOff d = s.quadPowerOff q) ∨ (d = 4 ∧ s.powerOff d = s.capPowerOff) ∨
    4 < d ∧ ((∃ l, s.powerOff d = s.linkPowerOff l) ∨ s.powerOff d = s)
  | 0 => Or.inl ⟨by decide, _, rfl⟩
  | 1 => Or.inl ⟨by decide, _, rfl⟩
  | 2 => Or.inl ⟨by decide, _, rfl⟩
  | 3 => Or.inl ⟨by decide, _, rfl⟩
  | 4 => Or.inr (Or.inl ⟨rfl, rfl⟩)
  | 5 => Or.inr (Or.inr ⟨by decide, Or.inl ⟨_, rfl⟩⟩)
  | 6 => Or.inr (Or.inr ⟨by decide, Or.inl ⟨_, rfl⟩⟩)
  | _ + 7 => Or.inr (Or.inr ⟨by omega, Or.inr rfl⟩)

theorem State.powerOff_haltedStay (d : Nat) : s.HaltedStay (s.powerOff d) := by
  obtain ⟨-, q, h⟩ | ⟨-, h⟩ | ⟨-, ⟨l, h⟩ | h⟩ := s.powerOff_cases d <;> rw [h]
  · exact .of_chans (congrArg Dma.chans (s.quadPowerOff_dma q))
  · exact .of_chans rfl
  · exact (s.linkPowerOff_aside l).2
  · exact .refl

theorem State.domOff_haltedStay (d : Nat) : s.HaltedStay (s.domOff d) := by
  have hheld : s.HaltedStay (s.unheld d) := .of_chans rfl
  rw [State.domOff_eq]
  exact (hheld.trans (State.powerOff_haltedStay _ d)).trans (.of_chans (congrArg Dma.chans (State.requestDone_dma ..)))

/-- A domain after that of the capture engine leaves it as it is. -/
theorem State.powerOff_cap {d : Nat} (hd : 4 < d) : (s.powerOff d).cap = s.cap := by
  obtain ⟨hlow, -⟩ | ⟨hcap, -⟩ | ⟨-, ⟨l, h⟩ | h⟩ := s.powerOff_cases d
  · omega
  · omega
  · rw [h]
    exact (s.linkPowerOff_aside l).1
  · rw [h]

theorem State.domOff_cap {d : Nat} (hd : 4 < d) : (s.domOff d).cap = s.cap := by
  rw [State.domOff_eq, State.requestDone_cap, State.powerOff_cap _ hd]
  rfl

/-- What a capture engine can lose: its lock, and segments; it has no lock and no segment that it had not. -/
structure Capture.Loses (c c' : Capture) : Prop where
  lock : ∀ i, c'.lock = some i → c.lock = some i
  segs : ∀ p ∈ c'.segs, ∃ g, (p.1, g) ∈ c.segs

theorem Capture.Loses.refl (c : Capture) : Capture.Loses c c := ⟨fun _ h => h, fun p hp => ⟨p.2, hp⟩⟩

theorem Capture.Loses.trans {c c' c'' : Capture} (h : Capture.Loses c c') (h' : Capture.Loses c' c'') : Capture.Loses c c'' :=
  ⟨fun i hi => h.lock i (h'.lock i hi), fun p hp => by
    obtain ⟨g, hg⟩ := h'.segs p hp
    exact h.segs (p.1, g) hg⟩

theorem State.sourceLost_loses (selected : Bool) : Capture.Loses s.cap (s.sourceLost selected).cap := by
  unfold State.sourceLost
  split
  · refine ⟨fun _ h => h, fun p hp => ?_⟩
    obtain ⟨x, hx, rfl⟩ := List.mem_map.1 hp
    split <;> exact ⟨x.2, hx⟩
  · exact .refl _

theorem State.capPowerOff_loses : Capture.Loses s.cap s.capPowerOff.cap :=
  ⟨fun _ h => absurd h (Option.some_ne_none _).symm, fun _ hp => absurd hp List.not_mem_nil⟩

theorem State.powerOff_loses (d : Nat) : Capture.Loses s.cap (s.powerOff d).cap := by
  obtain ⟨-, q, h⟩ | ⟨-, h⟩ | ⟨hd, -⟩ := s.powerOff_cases d
  · rw [h]
    have hstopped := State.sourceLost_loses (s.modQuad q fun qd => { qd with st := if qd.st = 7 then 7 else 5, step := 0 })
    exact hstopped _
  · rw [h]
    exact s.capPowerOff_loses
  · rw [s.powerOff_cap hd]
    exact .refl _

theorem State.domOff_loses (d : Nat) : Capture.Loses s.cap (s.domOff d).cap := by
  rw [State.domOff_eq, State.requestDone_cap]
  exact (s.unheld d).powerOff_loses d

/-! ### Held power-downs that nothing holds any more (R292) -/

theorem State.domSettle_haltedStay : s.HaltedStay s.domSettle :=
  State.HaltedStay.foldl (fun h _ s => by
    split
    · exact .refl
    · exact s.domOff_haltedStay h.1) s

theorem State.domSettle_loses : Capture.Loses s.cap s.domSettle.cap :=
  foldl_relates (R := fun s t => Capture.Loses s.cap t.cap) (fun s => .refl s.cap) Capture.Loses.trans (fun h _ s => by
    split
    · exact .refl _
    · exact s.domOff_loses h.1) s

theorem State.domSettle_cap (hholds : ∀ h ∈ s.dma.holds, 4 < h.1) : s.domSettle.cap = s.cap :=
  foldl_relates (R := fun s t => t.cap = s.cap) (fun _ => rfl) (fun h h' => h'.trans h) (fun h hh s => by
    split
    · rfl
    · exact s.domOff_cap (hholds h hh)) s

/-! ### The source is lost (R268, R289) -/

/-- What becomes of one channel: a descriptor whose segment is not the locked one ends with status 07h. -/
def State.lostEnds (s : State) (c : Fin 32) : State :=
  if ((s.dmaCh c).st == 1 || (s.dmaCh c).st == 2) && srcRegion (dSrc (s.dmaCh c).image) (dLen (s.dmaCh c).image) == .capture &&
      s.segLocked != some (s.dmaCh c).seg then s.dmaHalt c 7 (s.dmaCh c).moved else s

theorem State.captureLost_eq : s.captureLost = (chans32.foldl State.lostEnds s).domSettle.dmaRetry := rfl

theorem State.lostEnds_onlyChannel (c : Fin 32) : s.OnlyChannel (s.lostEnds c) c := by
  unfold State.lostEnds
  split
  · exact s.dmaHalt_onlyChannel c _ _
  · exact .refl

theorem State.lostEnds_haltedStay (c : Fin 32) : s.HaltedStay (s.lostEnds c) := by
  by_cases hhalted : (s.dmaCh c).st = 3
  · unfold State.lostEnds
    rw [if_neg (by simp [hhalted])]
    exact .refl
  · exact (s.lostEnds_onlyChannel c).haltedStay hhalted

theorem State.foldl_lostEnds_aside (l : List (Fin 32)) :
    (l.foldl State.lostEnds s).cap = s.cap ∧ (l.foldl State.lostEnds s).dma.holds = s.dma.holds :=
  ⟨foldl_keeps State.cap (fun s c => (s.lostEnds_onlyChannel c).cap) l s,
    foldl_keeps (fun t => t.dma.holds) (fun s c => (s.lostEnds_onlyChannel c).holds) l s⟩

/-- A channel among those that are looked at ends, once its turn comes. -/
theorem State.foldl_lostEnds_ends {l : List (Fin 32)} {c : Fin 32} (hc : c ∈ l) (hrun : (s.dmaCh c).st = 1 ∨ (s.dmaCh c).st = 2)
    (hsrc : srcRegion (dSrc (s.dmaCh c).image) (dLen (s.dmaCh c).image) = .capture) (hlock : s.cap.lock = none) :
    ((l.foldl State.lostEnds s).dmaCh c).st = 3 ∧ ((l.foldl State.lostEnds s).dmaCh c).last = 7 := by
  induction l generalizing s with
  | nil => exact absurd hc List.not_mem_nil
  | cons d l ih =>
    rw [List.foldl_cons]
    by_cases hd : c = d
    · subst hd
      have hends : s.lostEnds c = s.dmaHalt c 7 (s.dmaCh c).moved := if_pos (by simp [hrun, hsrc, State.segLocked, hlock])
      obtain ⟨hst, hlast⟩ := s.dmaHalt_halts c 7 (s.dmaCh c).moved
      rw [hends, (State.HaltedStay.foldl (fun c _ s => s.lostEnds_haltedStay c) _).stays c hst]
      exact ⟨hst, hlast⟩
    · have hone := s.lostEnds_onlyChannel d
      have hsame := hone.others c hd
      exact ih (s.lostEnds d) ((List.mem_cons.1 hc).resolve_left hd) (hsame ▸ hrun) (hsame ▸ hsrc) (hone.cap ▸ hlock)

theorem State.captureLost_cap (hholds : ∀ h ∈ s.dma.holds, 4 < h.1) : s.captureLost.cap = s.cap := by
  obtain ⟨hcap, hsame⟩ := s.foldl_lostEnds_aside chans32
  rw [State.captureLost_eq, State.dmaRetry_cap, State.domSettle_cap _ (by rwa [hsame]), hcap]

theorem State.captureLost_loses : Capture.Loses s.cap s.captureLost.cap := by
  obtain ⟨hcap, -⟩ := s.foldl_lostEnds_aside chans32
  rw [State.captureLost_eq, State.dmaRetry_cap, ← hcap]
  exact State.domSettle_loses _

/-- Without a lock every descriptor that reads the capture memory has ended. -/
theorem State.captureLost_ends {c : Fin 32} (hrun : (s.dmaCh c).st = 1 ∨ (s.dmaCh c).st = 2)
    (hsrc : srcRegion (dSrc (s.dmaCh c).image) (dLen (s.dmaCh c).image) = .capture) (hlock : s.cap.lock = none) :
    (s.captureLost.dmaCh c).st = 3 ∧ (s.captureLost.dmaCh c).last = 7 := by
  obtain ⟨hst, hlast⟩ := s.foldl_lostEnds_ends (mem_chans32 c) hrun hsrc hlock
  rw [State.captureLost_eq, ((State.domSettle_haltedStay _).trans (State.dmaRetry_haltedStay _)).stays c hst]
  exact ⟨hst, hlast⟩

end Sys2Proof.Machine
end

section
/-! Commands of the capture engine (R268, R271, R272): starts and stops, and the selection, release and loss of segments. -/

namespace Sys2Proof.Machine

variable (s : State)

/-! ### Starts and stops (R271) -/

theorem runFlag_capture : ∃ row, runFlag 0xA001 row := ⟨_, rfl, rfl, rfl, rfl, rfl⟩

theorem State.capRuns_congr {s t : State} (h : t.cap = s.cap) : t.capRuns = s.capRuns := by
  unfold State.capRuns
  rw [h]

/-- Arming leaves the sequencer and the values in effect, and capture runs: a segment is armed, or none was free. -/
theorem State.capArm_armed {k t : Nat} (h : Capture.EnteredAt s.cap k t) :
    s.capArm.capRuns = true ∧ s.capArm.dict = s.dict ∧ Capture.EnteredAt s.capArm.cap k t := by
  obtain ⟨hstate, hcounter, hentered, hwait⟩ := h
  unfold State.capArm
  split
  · exact ⟨rfl, rfl, hstate, hcounter, hentered, hwait⟩
  · exact ⟨rfl, rfl, hstate, hcounter, hentered, hwait⟩

/-- The counts of `A.020` since the last start, at zero. -/
def zeroCounts : List (Nat × Int) := (List.range 12).map fun i => (i + 1, 0)

theorem mem_zeroCounts {i : Nat} (h : i < 12) : (i + 1, 0) ∈ zeroCounts := List.mem_map.2 ⟨i, List.mem_range.2 h, rfl⟩

theorem distinctMembers_zeroCounts : DistinctMembers zeroCounts := distinctMembers_of_range (a := 1) (n := 12) rfl (by decide)

/-- The engine before its first segment is armed. -/
def State.capReady (s : State) : State := (s.setMembers 0xA020 zeroCounts).modCap fun c => { c with
  seqNo := 0, state := 0, counter := 0, entered := s.capNow, enteredRef := s.now * 163840, wait := [], held := none, gap := 0
  missedFull := false, stopAfter := false, bus := [], occs := [], sliceFrame := none }

theorem State.capReady_obj (o el : Nat) : s.capReady.obj o el = (s.setMembers 0xA020 zeroCounts).obj o el := by
  unfold State.capReady
  rw [State.modCap_obj]

theorem State.capReady_enteredAt : Capture.EnteredAt s.capReady.cap 0 s.capNow := ⟨rfl, rfl, rfl, rfl⟩

theorem State.capStart_stopped (h : s.capRuns = false) : s.capStart = s.capReady.capArm := by
  unfold State.capStart
  rw [if_neg (by simp [h])]
  unfold State.capReady State.setMembers zeroCounts
  rw [List.foldl_map]

/-- A start that finds capture stopped begins with the sequencer in state 0 and the counts at zero. -/
theorem State.capStart_fresh (h : s.capRuns = false) : s.capStart.capRuns = true ∧ Capture.EnteredAt s.capStart.cap 0 s.capNow ∧
    (∀ i < 12, s.capStart.obj 0xA020 (i + 1) = 0) ∧ s.capStart.obj 0xA001 0 = s.obj 0xA001 0 := by
  rw [s.capStart_stopped h]
  obtain ⟨hruns, hdict, hentered⟩ := State.capArm_armed s.capReady s.capReady_enteredAt
  refine ⟨hruns, hentered, fun i hi => ?_, ?_⟩
  · rw [State.obj_congr hdict, State.capReady_obj]
    exact s.setMembers_obj 0xA020 distinctMembers_zeroCounts (mem_zeroCounts hi)
  · rw [State.obj_congr hdict, State.capReady_obj]
    exact s.setMembers_obj_ne 0xA020 zeroCounts (Or.inl (by decide))

theorem State.capStart_running (h : s.capRuns = true) : s.capStart = s := if_pos h

theorem exec_captureStart_accepted {r : Req} (h : s.accepts r (ent 0xA001 0 .bool 1) s.capStartCodes) :
    ∃ t, exec (.captureStart r) s = .next t ∧ t.took r ∧ t.capRuns = true ∧ t.obj 0xA001 0 = 1 ∧
      (s.capRuns = false → t.cap.state = 0 ∧ t.cap.counter = 0 ∧ t.cap.entered = s.capNow ∧ ∀ i < 12, t.obj 0xA020 (i + 1) = 0) := by
  obtain ⟨row, hrow⟩ := runFlag_capture
  have hflag := s.storeWrite_runFlag_obj hrow r (v := 1) (by decide)
  have hsame : (s.storeWrite r (ent 0xA001 0 .bool 1) 0).capRuns = s.capRuns := State.capRuns_congr (State.storeWrite_cap ..)
  have hnow : (s.storeWrite r (ent 0xA001 0 .bool 1) 0).capNow = s.capNow := by
    unfold State.capNow
    rw [State.storeWrite_scale]
  refine ⟨_, rfl, s.hostWrite_took h, ?_⟩
  rw [s.hostWrite_accepted h, State.capRuns_congr (State.accept_cap ..), State.accept_cap]
  simp only [State.obj_congr (State.accept_dict ..)]
  cases hruns : s.capRuns with
  | true =>
    rw [State.capStart_running _ (hsame.trans hruns)]
    exact ⟨hsame.trans hruns, hflag, fun hstopped => Bool.noConfusion hstopped⟩
  | false =>
    obtain ⟨hstarted, hentered, hcounts, hrun⟩ := State.capStart_fresh _ (hsame.trans hruns)
    exact ⟨hstarted, hrun.trans hflag, fun _ => ⟨hentered.state, hentered.counter, hentered.entered.trans hnow, hcounts⟩⟩

/-- A stop leaves capture stopped, with its run flag at zero. -/
theorem State.capStop_stops (hflag : s.obj 0xA001 0 = 0) : s.capStop.capRuns = false ∧ s.capStop.obj 0xA001 0 = 0 := by
  unfold State.capStop
  split
  · next hstopped => exact ⟨by simpa using hstopped, hflag⟩
  · dsimp only
    refine ⟨by unfold State.capRuns; rw [State.capHalt_cap]; rfl, ?_⟩
    unfold State.capHalt
    rw [State.evt_obj_ne _ _ _ (Or.inl (by decide)), State.obj_setObj_self]

theorem exec_captureStop_accepted {r : Req} (h : s.accepts r (ent 0xA001 0 .bool 0) (when s.capOff 0x0601)) :
    ∃ t, exec (.captureStop r) s = .next t ∧ t.took r ∧ t.capRuns = false ∧ t.obj 0xA001 0 = 0 := by
  obtain ⟨row, hrow⟩ := runFlag_capture
  refine ⟨_, rfl, s.hostWrite_took (codes := fun s => when s.capOff 0x0601) h, ?_⟩
  rw [s.hostWrite_accepted (codes := fun s => when s.capOff 0x0601) h, State.capRuns_congr (State.accept_cap ..),
    State.obj_congr (State.accept_dict ..)]
  exact State.capStop_stops _ (s.storeWrite_runFlag_obj hrow r (by decide))

/-! ### Segments (R268, R272) -/

/-- While no power-down of a Quadrant or of the capture engine is held, the engine changes as the command says alone. -/
theorem State.modCap_captureLost (f : Capture → Capture) (hholds : ∀ h ∈ s.dma.holds, 4 < h.1) : (s.modCap f).captureLost.cap = f s.cap :=
  (s.modCap f).captureLost_cap hholds

/-- A segment with no entry is free. -/
theorem State.seg_free {i : Nat} (h : ∀ p ∈ s.cap.segs, p.1 ≠ i) : s.seg i = seg0 :=
  assocD_of_not_any seg0 (List.any_eq_false.2 fun p hp => by simpa using h p hp)

theorem AMap.mem_del_ne {α : Type} {m : AMap α} {k : Nat} {p : Nat × α} (h : p ∈ AMap.del m k) : p.1 ≠ k := by
  induction m with
  | nil => exact absurd h List.not_mem_nil
  | cons x m ih =>
    unfold AMap.del at h
    split at h
    · exact ih h
    · next hne =>
      rcases List.mem_cons.1 h with rfl | hm
      · exact hne
      · exact ih hm

/-- A lost engine stays without a lock that it had not, and without segments that it had not. -/
theorem Capture.Loses.lock_none {c c' : Capture} (h : Capture.Loses c c') (hlock : c.lock = none) : c'.lock = none :=
  Option.eq_none_iff_forall_ne_some.2 fun i hi => Option.some_ne_none i ((h.lock i hi).symm.trans hlock)

theorem Capture.Loses.segs_nil {c c' : Capture} (h : Capture.Loses c c') (hsegs : c.segs = []) : c'.segs = [] :=
  List.eq_nil_iff_forall_not_mem.2 fun p hp => by
    obtain ⟨g, hg⟩ := h.segs p hp
    exact absurd (hsegs ▸ hg) List.not_mem_nil

theorem exec_segmentSelect_accepted {r : Req} {i : Nat}
    (h : s.accepts r (entArg 0xA300 .u16 i) (when s.capOff 0x0601 ++ when ((s.seg i).st != 3) 0x0401)) :
    ∃ t, exec (.segmentSelect r i) s = .next t ∧ t.took r ∧
      ((∀ h ∈ s.dma.holds, 4 < h.1) → t.cap = { s.cap with lock := some i, readAt := s.now }) := by
  refine ⟨_, rfl, s.hostWrite_took (codes := fun s => when s.capOff 0x0601 ++ when ((s.seg i).st != 3) 0x0401) h, fun hholds => ?_⟩
  rw [s.hostWrite_accepted (codes := fun s => when s.capOff 0x0601 ++ when ((s.seg i).st != 3) 0x0401) h, State.accept_cap, State.segChosen,
    State.modCap_captureLost _ _ (by rwa [State.storeWrite_dma]), State.storeWrite_cap, State.storeWrite_now]

/-- A lock that ends ends every descriptor of the capture source with it. -/
theorem State.segUnlock_unlocks : ((∀ h ∈ s.dma.holds, 4 < h.1) → s.segUnlock.cap = { s.cap with lock := none }) ∧ s.segUnlock.cap.lock = none ∧
    ∀ c, (s.dmaCh c).st = 1 ∨ (s.dmaCh c).st = 2 → srcRegion (dSrc (s.dmaCh c).image) (dLen (s.dmaCh c).image) = .capture →
      (s.segUnlock.dmaCh c).st = 3 ∧ (s.segUnlock.dmaCh c).last = 7 := by
  unfold State.segUnlock
  exact ⟨s.modCap_captureLost fun c => { c with lock := none }, (State.captureLost_loses _).lock_none rfl,
    fun _ hrun hsrc => State.captureLost_ends (s.modCap fun c => { c with lock := none }) hrun hsrc rfl⟩

theorem exec_segmentLockExpiry_due (hlock : s.cap.lock.isSome = true) (hdue : s.cap.readAt + 60 * secP ≤ s.now) :
    exec .segmentLockExpiry s = .next s.segUnlock := congrArg Host.Outcome.next (if_pos ⟨hlock, hdue⟩)

/-- A released segment is free and not locked, and no other one changes. -/
theorem State.segGone_frees (i : Nat) : (s.segGone i).seg i = seg0 ∧ (s.segGone i).cap.lock ≠ some i ∧
    ((∀ h ∈ s.dma.holds, 4 < h.1) → ∀ k, k ≠ i → (s.segGone i).seg k = s.seg k) := by
  obtain ⟨hlock, hsegs⟩ := (s.segFree i).captureLost_loses
  unfold State.segGone
  refine ⟨State.seg_free _ fun p hp => ?_, fun hi => ?_, fun hholds k hk => ?_⟩
  · obtain ⟨g, hg⟩ := hsegs p hp
    exact AMap.mem_del_ne (m := s.cap.segs) (p := (p.1, g)) hg
  · have hfree : (if s.cap.lock = some i then none else s.cap.lock) = some i := hlock i hi
    split at hfree
    · exact absurd hfree.symm (Option.some_ne_none i)
    · next hother => exact hother hfree
  · rw [State.seg_congr (congrArg Capture.segs ((s.segFree i).captureLost_cap hholds))]
    exact AMap.get_del_ne seg0 s.cap.segs hk

theorem exec_segmentRelease_accepted {r : Req} {i : Nat}
    (h : s.accepts r (entArg 0xA304 .u16 i) (when s.capOff 0x0601 ++ when ((s.seg i).st != 3) 0x0401)) :
    ∃ t, exec (.segmentRelease r i) s = .next t ∧ t.took r ∧ t.seg i = seg0 ∧ t.cap.lock ≠ some i ∧
      ((∀ h ∈ s.dma.holds, 4 < h.1) → ∀ k, k ≠ i → t.seg k = s.seg k) := by
  refine ⟨_, rfl, s.hostWrite_took (codes := fun s => when s.capOff 0x0601 ++ when ((s.seg i).st != 3) 0x0401) h, ?_⟩
  rw [s.hostWrite_accepted (codes := fun s => when s.capOff 0x0601 ++ when ((s.seg i).st != 3) 0x0401) h,
    s.storeWrite_command (obj := 0xA304) rfl rfl rfl, State.accept_cap]
  simp only [State.seg_congr (congrArg Capture.segs (State.accept_cap ..))]
  exact s.segGone_frees i

theorem exec_captureClear_accepted {r : Req} {arg : Nat} (h : s.accepts r (entArg 0xA305 .u8 arg) (when s.capOff 0x0601 ++ when s.capRuns 0x0401)) :
    ∃ t, exec (.captureClear r arg) s = .next t ∧ t.took r ∧ t.cap.segs = [] ∧ t.cap.lock = none ∧
      ((∀ h ∈ s.dma.holds, 4 < h.1) → t.cap = { s.cap with segs := [], lock := none }) := by
  refine ⟨_, rfl, s.hostWrite_took (codes := fun s => when s.capOff 0x0601 ++ when s.capRuns 0x0401) h, ?_⟩
  rw [s.hostWrite_accepted (codes := fun s => when s.capOff 0x0601 ++ when s.capRuns 0x0401) h,
    s.storeWrite_command (obj := 0xA305) rfl rfl rfl, State.accept_cap]
  have hloses := State.captureLost_loses (s.modCap fun c => { c with segs := [], lock := none })
  unfold State.segsClear
  exact ⟨hloses.segs_nil rfl, hloses.lock_none rfl, s.modCap_captureLost fun c => { c with segs := [], lock := none }⟩

/-- Settles O33: a start begins in state 0 with its counts at zero and a stop ends it; a segment is locked, released or cleared, and what its lost
source does to the DMA engine leaves the rest. -/
theorem captureCommands : Obligations.CaptureCommands := by
  unfold Obligations.CaptureCommands
  exact fun s => ⟨fun r h => exec_captureStart_accepted s h, fun r h => exec_captureStop_accepted s h, fun r i h => exec_segmentSelect_accepted s h,
    fun hlock hdue => ⟨_, exec_segmentLockExpiry_due s hlock hdue, s.segUnlock_unlocks⟩, fun r i h => exec_segmentRelease_accepted s h,
    fun r arg h => exec_captureClear_accepted s h⟩

end Sys2Proof.Machine
end

section
/-! Frames of the operations. Of each operation of the model one lemma `<operation>_rest` says which parts of the state it can change: the
state without those parts is as it was. What the commands leave alone (R328 for the outputs, R286 and R394 for the memories) follows. -/

namespace Sys2Proof.Machine

/-! ### Parts of the state -/

/-- The parts of the state that may change: the units of Safety.lean, and of two of them what the invariants speak of, `outs` for the state,
the outputs and the enable lanes of the island (R328) and `mem` for the addressed memories (R286, R394). -/
structure Touch where
  isl : Bool
  outs : Bool
  dma : Bool
  mem : Bool
  die : Bool
  nv : Bool
  plv : Bool
  sens : Bool

/-- What R328 speaks of. -/
def Island.outs (i : Island) : Safe × Bool × Bool × Nat := (i.st, i.outA, i.outB, i.lanes)

/-- The addressed memories. -/
def mems (d : Dma) (n : Nv) : AMap Byte × AMap Byte × AMap Byte := (d.desc, d.buf, n.nor)

/-- A part of the state, or nothing where it may change. -/
def untouched {α : Type} (touched : Bool) (x : α) : Option α := if touched then none else some x

@[simp] theorem untouched_inj {α : Type} {b : Bool} {x y : α} : untouched b x = untouched b y ↔ (b = false → x = y) := by
  cases b <;> simp [untouched]

/-- The parts of a state but those that may change, with the clock and the queue of commands. -/
structure Rest where
  now : Nat
  pending : List Instr
  isl : Option Island
  outs : Option (Safe × Bool × Bool × Nat)
  dma : Option Dma
  mem : Option (AMap Byte × AMap Byte × AMap Byte)
  die : Option Die
  nv : Option Nv
  plv : Option Plovivo
  sens : Option Sensors

def State.rest (m : Touch) (s : State) : Rest where
  now := s.now
  pending := s.pending
  isl := untouched m.isl s.isl
  outs := untouched m.outs s.isl.outs
  dma := untouched m.dma s.dma
  mem := untouched m.mem (mems s.dma s.nv)
  die := untouched m.die s.die
  nv := untouched m.nv s.nv
  plv := untouched m.plv s.plv
  sens := untouched m.sens s.sens

variable (m : Touch)

/-! ### Rules -/

/-- A record update changes no part but those that it names. -/
@[simp] theorem State.rest_mk (t : State) {isl : Island} {dma : Dma} {die : Die} {nv : Nv} {plv : Plovivo} {sens : Sensors}
    (hisl : m.isl = false → isl = t.isl)
    (houts : m.outs = false → (isl.st, isl.outA, isl.outB, isl.lanes) = (t.isl.st, t.isl.outA, t.isl.outB, t.isl.lanes))
    (hdma : m.dma = false → dma = t.dma) (hmem : m.mem = false → (dma.desc, dma.buf, nv.nor) = (t.dma.desc, t.dma.buf, t.nv.nor))
    (hdie : m.die = false → die = t.die) (hnv : m.nv = false → nv = t.nv) (hplv : m.plv = false → plv = t.plv)
    (hsens : m.sens = false → sens = t.sens)
    {scale free out dict tv sideTx restarting ev life frm quads em steer forge ana gov queues links recTok recAt tap cap time wof fleet
      pilot blobs jtag} :
    State.rest m ⟨t.now, scale, free, t.pending, out, dict, tv, sideTx, restarting, ev, life, die, frm, quads, em, steer, forge, ana, gov,
      queues, dma, links, recTok, recAt, tap, isl, cap, time, wof, fleet, plv, sens, pilot, nv, blobs, jtag⟩ = t.rest m := by
  unfold State.rest
  congr 1
  all_goals exact untouched_inj.2 ‹_›

@[simp] theorem State.rest_ite (c : Prop) [Decidable c] (a b : State) : (if c then a else b).rest m = if c then a.rest m else b.rest m :=
  apply_ite (State.rest m) c a b

@[simp] theorem State.rest_foldl {β : Type} {f : State → β → State} (h : ∀ s x, (f s x).rest m = s.rest m) (l : List β) (s : State) :
    (l.foldl f s).rest m = s.rest m :=
  foldl_keeps (State.rest m) h l s

@[simp] theorem State.rest_forQuads {f : State → Fin 4 → State} (h : ∀ s q, (f s q).rest m = s.rest m) (s : State) :
    (forQuads s f).rest m = s.rest m :=
  Sys2Proof.Machine.forQuads_keeps s (State.rest m) h

@[simp] theorem State.rest_setObj (s : State) (o el : Nat) (v : Int) : (s.setObj o el v).rest m = s.rest m := by
  simp [State.setObj]

end Sys2Proof.Machine
end

section
/-! Frames of the operations: what is shared, the capture engine and the axes. -/

namespace Sys2Proof.Machine

variable (m : Touch) (s : State)

/-! ### Shared operations -/

@[simp] theorem State.bump_rest (o el k : Nat) : (s.bump o el k).rest m = s.rest m := by simp [State.bump]
@[simp] theorem State.satBump_rest (o el k' k : Nat) : (s.satBump o el k' k).rest m = s.rest m := by simp [State.satBump]
@[simp] theorem State.emit_rest (o : Out) : (s.emit o).rest m = s.rest m := by simp [State.emit]
@[simp] theorem State.evt_rest (code param : Nat) : (s.evt code param).rest m = s.rest m := by simp [State.evt]
@[simp] theorem State.evtFree_rest (code : Nat) : (s.evtFree code).rest m = s.rest m := by simp [State.evtFree]
@[simp] theorem State.goto_rest (st : DevState) : (s.goto st).rest m = s.rest m := by simp [State.goto]
@[simp] theorem State.setQuad_rest (q : Fin 4) (v : Quad) : (s.setQuad q v).rest m = s.rest m := by simp [State.setQuad]
@[simp] theorem State.modQuad_rest (q : Fin 4) (f : Quad → Quad) : (s.modQuad q f).rest m = s.rest m := by simp [State.modQuad]
@[simp] theorem State.setCause_rest (i : Nat) (b : Bool) : (s.setCause i b).rest m = s.rest m := by simp [State.setCause]

@[simp] theorem State.raiseCause_rest (i : Nat) : (s.raiseCause i).rest m = s.rest m := by
  unfold State.raiseCause
  dsimp only
  split <;> simp

@[simp] theorem State.sourceLost_rest (selected : Bool) : (s.sourceLost selected).rest m = s.rest m := by simp [State.sourceLost]
@[simp] theorem State.quadLost_rest (q : Fin 4) : (s.quadLost q).rest m = s.rest m := by simp [State.quadLost]

/-! ### Requests and answers -/

@[simp] theorem State.sendMsg_rest (port dst prio kind resp master txn abort : Nat) (body : Octets) :
    (s.sendMsg port dst prio kind resp master txn abort body).rest m = s.rest m := by
  rw [State.sendMsg_keeps]
  rfl

@[simp] theorem State.respondTo_rest (r : Req) (t kind abort : Nat) (body : Octets) :
    (s.respondTo r t kind abort body).rest m = s.rest m := by simp [State.respondTo]
@[simp] theorem State.respond_rest (r : Req) (kind abort : Nat) (body : Octets) :
    (s.respond r kind abort body).rest m = s.rest m := by simp [State.respond]
@[simp] theorem State.respondLate_rest (x : Running) (kind abort : Nat) (body : Octets) :
    (s.respondLate x kind abort body).rest m = s.rest m := by simp [State.respondLate]
@[simp] theorem State.canDrop_rest (port master : Nat) : (s.canDrop port master).rest m = s.rest m := by simp [State.canDrop]

@[simp] theorem State.through_rest {body : State → State} (h : ∀ s, (body s).rest m = s.rest m) (r : Req) (kind obj : Nat) :
    (s.through r kind obj body).rest m = s.rest m := by
  unfold State.through
  split <;> simp [h]

@[simp] theorem State.noteImm_rest (q : Req) (r : Row) (e : Entry) : (s.noteImm q r e).rest m = s.rest m := by
  unfold State.noteImm
  split <;> simp

@[simp] theorem State.setMembers_rest (obj : Nat) (w : List (Nat × Int)) : (s.setMembers obj w).rest m = s.rest m := by
  rw [State.setMembers_keeps]
  rfl

@[simp] theorem State.addPend_rest (q : Req) (obj group : Nat) (w : List (Nat × Int)) :
    (s.addPend q obj group w).rest m = s.rest m := by simp [State.addPend]

@[simp] theorem State.storeWrite_rest (q : Req) (e : Entry) (group : Nat) : (s.storeWrite q e group).rest m = s.rest m := by
  unfold State.storeWrite
  (repeat' split) <;> simp

@[simp] theorem State.sendEvents_rest (port master src : Nat) (recs : List EvRec) :
    (s.sendEvents port master src recs).rest m = s.rest m := by simp [State.sendEvents]

@[simp] theorem State.tellConflict_rest (gone : List Pend) (ms : List (Nat × Nat)) : (s.tellConflict gone ms).rest m = s.rest m := by
  rw [State.tellConflict_keeps]
  rfl

@[simp] theorem State.lndConflict_rest (q : Req) (e : Entry) : (s.lndConflict q e).rest m = s.rest m := by
  unfold State.lndConflict
  split <;> simp

@[simp] theorem State.accept_rest (q : Req) (e : Entry) (long : Bool) : (s.accept q e long).rest m = s.rest m := by simp [State.accept]

@[simp] theorem State.refuse_rest (q : Req) (e : Entry) (ab : Nat) : (s.refuse q e ab).rest m = s.rest m := by
  unfold State.refuse
  (repeat' split) <;> simp

@[simp] theorem State.hostWrite_rest {eff : State → State} (h : ∀ s, (eff s).rest m = s.rest m) (q : Req) (e : Entry)
    (codes : State → List Nat) (long : Bool) : (s.hostWrite q e codes eff long).rest m = s.rest m := by
  simp [State.hostWrite, h]

@[simp] theorem State.commandDone_rest (obj : Nat) : (s.commandDone obj).rest m = s.rest m := by
  unfold State.commandDone
  split <;> simp

@[simp] theorem State.owe_rest (q : Req) (kind obj : Nat) (args : List Nat) : (s.owe q kind obj args).rest m = s.rest m := by
  cases args <;> simp [State.owe]

@[simp] theorem State.hostWriteHeld_rest {eff : State → State} (h : ∀ s, (eff s).rest m = s.rest m) (q : Req) (e : Entry) (arg : Nat)
    (codes : State → List Nat) : (s.hostWriteHeld q e arg codes eff).rest m = s.rest m := by
  simp [State.hostWriteHeld, h]

@[simp] theorem State.requestDone_rest (obj arg : Nat) : (s.requestDone obj arg).rest m = s.rest m := by
  unfold State.requestDone
  (repeat' split) <;> simp

@[simp] theorem State.answerRead_rest (q : Req) (obj el ty : Nat) (val : Octets) :
    (s.answerRead q obj el ty val).rest m = s.rest m := by simp [State.answerRead]
@[simp] theorem State.readmitEnd_rest (v state step : Nat) : (s.readmitEnd v state step).rest m = s.rest m := by simp [State.readmitEnd]
@[simp] theorem State.readmitPassed_rest (v : Nat) : (s.readmitPassed v).rest m = s.rest m := by simp [State.readmitPassed]
@[simp] theorem State.readmitFailed_rest (v step : Nat) : (s.readmitFailed v step).rest m = s.rest m := by simp [State.readmitFailed]

/-! ### The capture engine -/

@[simp] theorem State.setScale_rest (sc : Nat) : (s.setScale sc).rest m = s.rest m := by simp [State.setScale]
@[simp] theorem State.modCap_rest (f : Capture → Capture) : (s.modCap f).rest m = s.rest m := by simp [State.modCap]
@[simp] theorem State.setSeg_rest (i : Nat) (g : Seg) : (s.setSeg i g).rest m = s.rest m := by simp [State.setSeg]
@[simp] theorem State.capBump_rest (el : Nat) : (s.capBump el).rest m = s.rest m := by simp [State.capBump]

@[simp] theorem State.capArm_rest : s.capArm.rest m = s.rest m := by
  unfold State.capArm
  split <;> simp

@[simp] theorem State.capHalt_rest (why : Nat) : (s.capHalt why).rest m = s.rest m := by simp [State.capHalt]
@[simp] theorem State.segClose_rest (fl : Nat) : (s.segClose fl).rest m = s.rest m := by simp [State.segClose]
@[simp] theorem State.segPut_rest (r : CapRec) : (s.segPut r).rest m = s.rest m := by simp [State.segPut]
@[simp] theorem State.trigTake_rest (t : CapTrig) : (s.trigTake t).rest m = s.rest m := by simp [State.trigTake]
@[simp] theorem State.trigMiss_rest : s.trigMiss.rest m = s.rest m := by simp [State.trigMiss]

@[simp] theorem State.capRearm_rest : s.capRearm.rest m = s.rest m := by
  unfold State.capRearm
  dsimp only
  (repeat' split) <;> simp

@[simp] theorem State.trigger_rest (t : CapTrig) : (s.trigger t).rest m = s.rest m := by
  unfold State.trigger State.trigger.beyond
  split <;> simp

@[simp] theorem State.wofenRequest_rest : s.wofenRequest.rest m = s.rest m := by
  unfold State.wofenRequest
  split <;> simp

@[simp] theorem State.seqGo_rest (which t : Nat) : (s.seqGo which t).rest m = s.rest m := by simp [State.seqGo]

@[simp] theorem State.seqOcc_rest (t : Nat) (o : Occ) : (s.seqOcc t o).1.rest m = s.rest m := by
  unfold State.seqOcc
  dsimp only
  (repeat' split) <;> simp

@[simp] theorem State.seqRun_rest (n : Nat) (l : List (Nat × Occ)) : (State.seqRun n l s).rest m = s.rest m := by
  induction n generalizing l s with
  | zero => rfl
  | succ n ih =>
    cases l with
    | nil => rfl
    | cons x l =>
      unfold State.seqRun
      dsimp only
      split <;> simp [ih]

@[simp] theorem State.seqWait_rest (l : List (Nat × Occ)) : (s.seqWait l).rest m = s.rest m := by simp [State.seqWait]
@[simp] theorem State.occur_rest (t : Nat) (o : Occ) : (s.occur t o).rest m = s.rest m := by simp [State.occur]
@[simp] theorem State.occNote_rest (t : Nat) (o : Occ) : (s.occNote t o).rest m = s.rest m := by simp [State.occNote]

@[simp] theorem State.occCount_rest (t : Nat) (o : Occ) : (s.occCount t o).rest m = s.rest m := by
  unfold State.occCount
  (repeat' split) <;> simp

@[simp] theorem State.seqTimer_rest : s.seqTimer.rest m = s.rest m := by
  unfold State.seqTimer
  dsimp only
  split <;> simp

@[simp] theorem State.capRefill_rest : s.capRefill.rest m = s.rest m := by simp [State.capRefill]

@[simp] theorem State.capRecord_rest (src unit t data : Nat) (bad : Bool) : (s.capRecord src unit t data bad).rest m = s.rest m := by
  unfold State.capRecord State.capRecord.put
  dsimp only
  repeat' split
  all_goals simp

@[simp] theorem State.capNote_rest (src unit t data : Nat) : (s.capNote src unit t data).rest m = s.rest m := by simp [State.capNote]
@[simp] theorem State.capFlush_rest (src t : Nat) : (s.capFlush src t).rest m = s.rest m := by simp [State.capFlush]

@[simp] theorem State.capArrive_rest (src unit t data : Nat) (bad : Bool) : (s.capArrive src unit t data bad).rest m = s.rest m := by
  unfold State.capArrive
  (repeat' split) <;> simp

@[simp] theorem State.segLimit_rest : s.segLimit.rest m = s.rest m := by
  unfold State.segLimit
  dsimp only
  split <;> simp

@[simp] theorem State.capStart_rest : s.capStart.rest m = s.rest m := by
  unfold State.capStart
  split <;> simp

@[simp] theorem State.capStop_rest : s.capStop.rest m = s.rest m := by simp [State.capStop]
@[simp] theorem State.segRead_rest (i off n : Nat) : (s.segRead i off n).rest m = s.rest m := by simp [State.segRead]
@[simp] theorem State.segFree_rest (i : Nat) : (s.segFree i).rest m = s.rest m := by simp [State.segFree]

/-! ### The axes -/

@[simp] theorem State.setAxis_rest (fast : Bool) (a : AxisPos) : (s.setAxis fast a).rest m = s.rest m := by simp [State.setAxis]
@[simp] theorem State.posInvalid_rest (fast : Bool) (c : Nat) : (s.posInvalid fast c).rest m = s.rest m := by simp [State.posInvalid]
@[simp] theorem State.causeGone_rest (fast : Bool) (c : Nat) : (s.causeGone fast c).rest m = s.rest m := by simp [State.causeGone]
@[simp] theorem State.revalidate_rest (fast : Bool) : (s.revalidate fast).rest m = s.rest m := by simp [State.revalidate]
@[simp] theorem State.setHelm_rest (b : Bool) (h : Helm) : (s.setHelm b h).rest m = s.rest m := by simp [State.setHelm]
@[simp] theorem State.retireHelm_rest (b : Bool) : (s.retireHelm b).rest m = s.rest m := by simp [State.retireHelm]
@[simp] theorem State.helmFail_rest (b : Bool) : (s.helmFail b).rest m = s.rest m := by simp [State.helmFail]
@[simp] theorem State.helmDiffer_rest (b : Bool) : (s.helmDiffer b).rest m = s.rest m := by simp [State.helmDiffer]
@[simp] theorem State.helmBack_rest : s.helmBack.rest m = s.rest m := by simp [State.helmBack]
@[simp] theorem State.acceptCmd_rest (b : Bool) : (s.acceptCmd b).rest m = s.rest m := by simp [State.acceptCmd]
@[simp] theorem State.noCmd_rest : s.noCmd.rest m = s.rest m := by simp [State.noCmd]
@[simp] theorem State.takeOver_rest : s.takeOver.rest m = s.rest m := by simp [State.takeOver]

@[simp] theorem State.controlPeriod_rest (okA okB same goodA goodB : Bool) : (s.controlPeriod okA okB same goodA goodB).rest m = s.rest m := by
  unfold State.controlPeriod
  dsimp only
  (repeat' split) <;> simp

@[simp] theorem State.helmLanding_rest : s.helmLanding.rest m = s.rest m := by simp [State.helmLanding]
@[simp] theorem State.helmReinit_rest (b : Bool) : (s.helmReinit b).rest m = s.rest m := by simp [State.helmReinit]
@[simp] theorem State.helmReady_rest (b : Bool) : (s.helmReady b).rest m = s.rest m := by simp [State.helmReady]
@[simp] theorem State.periodEnds_rest : s.periodEnds.rest m = s.rest m := by simp [State.periodEnds]
@[simp] theorem State.zeroCrossing_rest (rising : Bool) (halfAmp : Nat) (burstOn : Bool) :
    (s.zeroCrossing rising halfAmp burstOn).rest m = s.rest m := by simp [State.zeroCrossing]
@[simp] theorem State.crossingTimeout_rest : s.crossingTimeout.rest m = s.rest m := by simp [State.crossingTimeout]
@[simp] theorem State.streamCheck_rest (fast : Bool) : (s.streamCheck fast).rest m = s.rest m := by simp [State.streamCheck]
@[simp] theorem State.steerStart_rest : s.steerStart.rest m = s.rest m := by simp [State.steerStart]
@[simp] theorem State.steerStop_rest : s.steerStop.rest m = s.rest m := by simp [State.steerStop]

end Sys2Proof.Machine
end

section
/-! Frames of the operations: loops, the analogue side, channels and patterns. -/

namespace Sys2Proof.Machine

variable (m : Touch) (s : State)

/-! ### Loops -/

@[simp] theorem State.setLoopInst_rest (k i : Nat) (v : LoopInst) : (s.setLoopInst k i v).rest m = s.rest m := by simp [State.setLoopInst]
@[simp] theorem State.biasTemp_rest (q : Fin 4) : (s.biasTemp q).rest m = s.rest m := by simp [State.biasTemp]
@[simp] theorem State.setComp_rest (k i : Nat) (c : Comp) : (s.setComp k i c).rest m = s.rest m := by simp [State.setComp]
@[simp] theorem State.compStep_rest (k i : Nat) (e term : Int) : (s.compStep k i e term).rest m = s.rest m := by simp [State.compStep]
@[simp] theorem State.compClear_rest (ix : Nat) : (s.compClear ix).rest m = s.rest m := by simp [State.compClear]
@[simp] theorem State.compEnable_rest (k old : Nat) : (s.compEnable k old).rest m = s.rest m := by simp [State.compEnable]
@[simp] theorem State.compCrossing_rest : s.compCrossing.rest m = s.rest m := by simp [State.compCrossing]
@[simp] theorem State.biasLeft_rest (i : Nat) : (s.biasLeft i).rest m = s.rest m := by simp [State.biasLeft]
@[simp] theorem State.loopFault_rest (k i cause : Nat) : (s.loopFault k i cause).rest m = s.rest m := by simp [State.loopFault]
@[simp] theorem State.steerSlotFault_rest (k : Nat) : (s.steerSlotFault k).rest m = s.rest m := by simp [State.steerSlotFault]

@[simp] theorem State.biasSample_rest (k i : Nat) (e b : Int) : (s.biasSample k i e b).rest m = s.rest m := by
  unfold State.biasSample
  dsimp only
  (repeat' split) <;> simp

@[simp] theorem State.loopSample_rest (k i : Nat) (ready : Bool) : (s.loopSample k i ready).1.rest m = s.rest m := by
  unfold State.loopSample
  dsimp only
  (repeat' split) <;> simp

@[simp] theorem State.loopOn_rest (k : Nat) : (s.loopOn k).rest m = s.rest m := by simp [State.loopOn]
@[simp] theorem State.loopOff_rest (k : Nat) : (s.loopOff k).rest m = s.rest m := by simp [State.loopOff]
@[simp] theorem State.loopRunWrite_rest (k : Nat) (on was : Bool) : (s.loopRunWrite k on was).rest m = s.rest m := by simp [State.loopRunWrite]
@[simp] theorem State.loopsLanding_rest : s.loopsLanding.rest m = s.rest m := by simp [State.loopsLanding]
@[simp] theorem State.steeringOn_rest : s.steeringOn.rest m = s.rest m := by simp [State.steeringOn]
@[simp] theorem State.steeringOff_rest : s.steeringOff.rest m = s.rest m := by simp [State.steeringOff]

@[simp] theorem State.biasSettled_rest (q : Fin 4) : (s.biasSettled q).rest m = s.rest m := by
  unfold State.biasSettled
  dsimp only
  split <;> simp

@[simp] theorem State.tempFallback_rest (q : Fin 4) : (s.tempFallback q).rest m = s.rest m := by
  unfold State.tempFallback
  dsimp only
  split <;> simp

/-! ### The filter engine -/

@[simp] theorem State.setFilt_rest (k : Nat) (c : FiltCh) : (s.setFilt k c).rest m = s.rest m := by simp [State.setFilt]

@[simp] theorem State.noteOutput_rest (k : Nat) (o : FiltOut) (prev : Option Int) : (s.noteOutput k o prev).rest m = s.rest m := by
  unfold State.noteOutput
  split <;> simp

@[simp] theorem State.filtOne_rest (k : Nat) : (s.filtOne k).rest m = s.rest m := by
  unfold State.filtOne
  dsimp only
  (repeat' split) <;> simp

@[simp] theorem State.filterRound_rest : s.filterRound.rest m = s.rest m := by simp [State.filterRound]
@[simp] theorem State.filterOverrun_rest : s.filterOverrun.rest m = s.rest m := by simp [State.filterOverrun]
@[simp] theorem State.filtOff_rest (k : Nat) : (s.filtOff k).rest m = s.rest m := by simp [State.filtOff]
@[simp] theorem State.filtOn_rest (k : Nat) : (s.filtOn k).rest m = s.rest m := by simp [State.filtOn]
@[simp] theorem State.filtFeed_rest (adc step : Nat) (cal lin : Int) (cls at_ tk : Nat) :
    (s.filtFeed adc step cal lin cls at_ tk).rest m = s.rest m := by simp [State.filtFeed]

/-! ### Converters and windows -/

@[simp] theorem State.setAdc_rest (c : Fin 4) (a : Adc) : (s.setAdc c a).rest m = s.rest m := by simp [State.setAdc]
@[simp] theorem State.setRange_rest (key : Nat) (r : RangeSt) : (s.setRange key r).rest m = s.rest m := by simp [State.setRange]
@[simp] theorem State.adcSample_rest (c : Fin 4) : (s.adcSample c).rest m = s.rest m := by simp [State.adcSample]
@[simp] theorem State.setWindow_rest (mm : Bool) (n : Nat) (v : Window) : (s.setWindow mm n v).rest m = s.rest m := by simp [State.setWindow]
@[simp] theorem State.publishWin_rest (mm : Bool) (n flag : Nat) : (s.publishWin mm n flag).rest m = s.rest m := by simp [State.publishWin]
@[simp] theorem State.windowEnd_rest (mm : Bool) (n : Nat) : (s.windowEnd mm n).rest m = s.rest m := by simp [State.windowEnd]
@[simp] theorem State.windowsFeed_rest (key at_ v cls : Nat) : (s.windowsFeed key at_ v cls).rest m = s.rest m := by simp [State.windowsFeed]
@[simp] theorem State.windowsEnd_rest (mm : Bool) (win : Nat) : (s.windowsEnd mm win).rest m = s.rest m := by simp [State.windowsEnd]
@[simp] theorem State.windowsFlag_rest (c f : Nat) : (s.windowsFlag c f).rest m = s.rest m := by simp [State.windowsFlag]
@[simp] theorem State.windowsCal_rest (key : Nat) : (s.windowsCal key).rest m = s.rest m := by simp [State.windowsCal]
@[simp] theorem State.senseCheck_rest (n : Fin 2) (conds : Nat) : (s.senseCheck n conds).rest m = s.rest m := by simp [State.senseCheck]
@[simp] theorem State.predCheck_rest (fast : Bool) (lin : Int) (pred : Nat) :
    (s.predCheck fast lin pred).rest m = s.rest m := by simp [State.predCheck]

@[simp] theorem State.supplyCheck_rest (c sel : Nat) (cal : Int) (at_ : Nat) : (s.supplyCheck c sel cal at_).rest m = s.rest m := by
  unfold State.supplyCheck
  split <;> simp

@[simp] theorem State.deliver_rest (c : Fin 4) (sel : Nat) (x : Late) : (s.deliver c sel x).rest m = s.rest m := by simp [State.deliver]

@[simp] theorem State.deliverLate_rest (c : Fin 4) (sel : Nat) (x : Late) (withdraw : Bool) : (s.deliverLate c sel x withdraw).rest m = s.rest m := by
  unfold State.deliverLate
  (repeat' split) <;> simp

@[simp] theorem State.captFeed_rest (key at_ raw cls : Nat) : (s.captFeed key at_ raw cls).rest m = s.rest m := by
  unfold State.captFeed
  split <;> simp

@[simp] theorem State.rangeWatch_rest (key : Nat) (beyond : Bool) (v : Int) :
    (s.rangeWatch key beyond v).rest m = s.rest m := by simp [State.rangeWatch]
@[simp] theorem State.noteNewest_rest (key : Nat) (cal lin : Int) (cls at_ tk : Nat) :
    (s.noteNewest key cal lin cls at_ tk).rest m = s.rest m := by simp [State.noteNewest]

@[simp] theorem State.adcDone_rest (c : Fin 4) (raw : Nat) (beyond clampOn : Bool) (conds pred : Nat) :
    (s.adcDone c raw beyond clampOn conds pred).rest m = s.rest m := by
  unfold State.adcDone
  dsimp only
  split <;> simp

@[simp] theorem State.passVoid_rest (c : Fin 4) (p : Nat) : (s.passVoid c p).rest m = s.rest m := by simp [State.passVoid]

@[simp] theorem State.adcTimeout_rest (c : Fin 4) : (s.adcTimeout c).rest m = s.rest m := by
  unfold State.adcTimeout
  dsimp only
  split <;> simp

@[simp] theorem State.rangeStep_rest (c : Fin 4) (sel : Nat) : (s.rangeStep c sel).rest m = s.rest m := by
  unfold State.rangeStep
  split <;> simp

@[simp] theorem State.trimsApply_rest (c : Fin 4) : (s.trimsApply c).rest m = s.rest m := by simp [State.trimsApply]
@[simp] theorem State.passEnd_rest (c : Fin 4) : (s.passEnd c).rest m = s.rest m := by simp [State.passEnd]
@[simp] theorem State.seqOn_rest (c : Fin 4) : (s.seqOn c).rest m = s.rest m := by simp [State.seqOn]
@[simp] theorem State.seqOff_rest (c : Fin 4) : (s.seqOff c).rest m = s.rest m := by simp [State.seqOff]
@[simp] theorem State.seqEff_rest (c : Fin 4) (on was : Bool) : (s.seqEff c on was).rest m = s.rest m := by simp [State.seqEff]
@[simp] theorem State.captBegin_rest (full : Bool) : (s.captBegin full).rest m = s.rest m := by simp [State.captBegin]
@[simp] theorem State.calFail_rest (cause : Nat) : (s.calFail cause).rest m = s.rest m := by simp [State.calFail]
@[simp] theorem State.calStatus_rest : s.calStatus.rest m = s.rest m := by simp [State.calStatus]

@[simp] theorem State.captDone_rest : s.captDone.rest m = s.rest m := by
  unfold State.captDone
  split <;> simp

@[simp] theorem State.calCompute_rest : s.calCompute.rest m = s.rest m := by
  unfold State.calCompute
  split <;> simp

@[simp] theorem State.calRestore_rest : s.calRestore.rest m = s.rest m := by simp [State.calRestore]
@[simp] theorem State.calAbandon_rest : s.calAbandon.rest m = s.rest m := by simp [State.calAbandon]
@[simp] theorem State.winWriteEff_rest (mm : Bool) (w : List (Nat × Int)) : (s.winWriteEff mm w).rest m = s.rest m := by simp [State.winWriteEff]

/-! ### Quadrants -/

@[simp] theorem State.cntAdd_rest (q : Fin 4) (frame obj w k' k : Nat) : (s.cntAdd q frame obj w k' k).rest m = s.rest m := by simp [State.cntAdd]
@[simp] theorem State.publishCnt_rest (q : Fin 4) : (s.publishCnt q).rest m = s.rest m := by simp [State.publishCnt]
@[simp] theorem State.tapBlind_rest (ch cell frame : Nat) : (s.tapBlind ch cell frame).rest m = s.rest m := by simp [State.tapBlind]
@[simp] theorem State.tapChanBlind_rest (ch st : Nat) : (s.tapChanBlind ch st).rest m = s.rest m := by simp [State.tapChanBlind]
@[simp] theorem State.tapChanSees_rest (ch st : Nat) : (s.tapChanSees ch st).rest m = s.rest m := by simp [State.tapChanSees]
@[simp] theorem State.tapQuadBlind_rest (q : Fin 4) : (s.tapQuadBlind q).rest m = s.rest m := by simp [State.tapQuadBlind]
@[simp] theorem State.tapQuadSees_rest (q : Fin 4) : (s.tapQuadSees q).rest m = s.rest m := by simp [State.tapQuadSees]
@[simp] theorem State.tapCand_rest (q : Fin 4) (c : Cand) : (s.tapCand q c).rest m = s.rest m := by simp [State.tapCand]
@[simp] theorem State.tapMarker_rest (q : Fin 4) (k' : Marker) : (s.tapMarker q k').rest m = s.rest m := by simp [State.tapMarker]
@[simp] theorem State.tapList_rest (q : Fin 4) (l : EchoList) : (s.tapList q l).rest m = s.rest m := by simp [State.tapList]
@[simp] theorem State.notLive_rest (q : Fin 4) (p : Nat → Bool) : (s.notLive q p).rest m = s.rest m := by simp [State.notLive]
@[simp] theorem State.quadRetire_rest (q : Fin 4) (cause : Nat) : (s.quadRetire q cause).rest m = s.rest m := by simp [State.quadRetire]
@[simp] theorem State.quadMismatch_rest (q : Fin 4) (cause : Nat) : (s.quadMismatch q cause).rest m = s.rest m := by simp [State.quadMismatch]

/-! ### Channels -/

@[simp] theorem State.setChan_rest (q : Fin 4) (c : Nat) (v : Chan) : (s.setChan q c v).rest m = s.rest m := by simp [State.setChan]
@[simp] theorem State.chanSuspect_rest (q : Fin 4) (c cause : Nat) : (s.chanSuspect q c cause).rest m = s.rest m := by simp [State.chanSuspect]
@[simp] theorem State.chanRetire_rest (q : Fin 4) (c cause : Nat) : (s.chanRetire q c cause).rest m = s.rest m := by simp [State.chanRetire]
@[simp] theorem State.chanRecalFail_rest (q : Fin 4) (c cause : Nat) : (s.chanRecalFail q c cause).rest m = s.rest m := by simp [State.chanRecalFail]
@[simp] theorem State.chanTransient_rest (q : Fin 4) (c cause : Nat) (convCal delay : Bool) :
    (s.chanTransient q c cause convCal delay).rest m = s.rest m := by simp [State.chanTransient]
@[simp] theorem State.chanSettle_rest (q : Fin 4) (c : Nat) : (s.chanSettle q c).rest m = s.rest m := by simp [State.chanSettle]
@[simp] theorem State.freshEstimates_rest (q : Fin 4) (c : Nat) : (s.freshEstimates q c).rest m = s.rest m := by simp [State.freshEstimates]
@[simp] theorem State.noOffsets_rest : s.noOffsets.rest m = s.rest m := by simp [State.noOffsets]
@[simp] theorem State.switchTo_rest (q : Fin 4) (c : Nat) (x : Shot) (from2 : Nat) :
    (s.switchTo q c x from2).rest m = s.rest m := by simp [State.switchTo]
@[simp] theorem State.modShot_rest (q : Fin 4) (frame slot : Nat) (f : Shot → Shot) :
    (s.modShot q frame slot f).rest m = s.rest m := by simp [State.modShot]
@[simp] theorem State.boundary_rest (q : Fin 4) (c : Nat) : (s.boundary q c).rest m = s.rest m := by simp [State.boundary]
@[simp] theorem State.settled_rest (q : Fin 4) (c : Nat) : (s.settled q c).rest m = s.rest m := by simp [State.settled]
@[simp] theorem State.gateOpen_rest (q : Fin 4) (x : Shot) (c : Nat) : (s.gateOpen q x c).rest m = s.rest m := by simp [State.gateOpen]

@[simp] theorem State.gateClose_rest (q : Fin 4) (x : Shot) (c : Nat) : (s.gateClose q x c).rest m = s.rest m := by
  unfold State.gateClose
  dsimp only
  split <;> simp

@[simp] theorem State.sendWord_rest (q : Fin 4) (c : Nat) : (s.sendWord q c).rest m = s.rest m := by
  unfold State.sendWord
  split <;> simp

@[simp] theorem State.noteEdge_rest (q : Fin 4) (c kind : Nat) : (s.noteEdge q c kind).rest m = s.rest m := by simp [State.noteEdge]

@[simp] theorem State.leadingEdge_rest (q : Fin 4) (c raw tot : Nat) (rng : Bool) : (s.leadingEdge q c raw tot rng).1.rest m = s.rest m := by
  unfold State.leadingEdge
  dsimp only
  (repeat' split) <;> simp

@[simp] theorem State.trailingEdge_rest (q : Fin 4) (c raw : Nat) : (s.trailingEdge q c raw).rest m = s.rest m := by simp [State.trailingEdge]
@[simp] theorem State.clampOn_rest (q : Fin 4) (c : Nat) : (s.clampOn q c).rest m = s.rest m := by simp [State.clampOn]

@[simp] theorem State.clampOff_rest (q : Fin 4) (c : Nat) : (s.clampOff q c).rest m = s.rest m := by
  unfold State.clampOff
  dsimp only
  split <;> simp

@[simp] theorem State.clampLong_rest (q : Fin 4) (c : Nat) : (s.clampLong q c).rest m = s.rest m := by simp [State.clampLong]

@[simp] theorem State.stuckOn_rest (q : Fin 4) (c : Nat) : (s.stuckOn q c).rest m = s.rest m := by
  unfold State.stuckOn
  dsimp only
  split <;> simp

/-! ### Patterns -/

@[simp] theorem State.patWrite_rest (o : Octets) : (s.patWrite o).rest m = s.rest m := by simp [State.patWrite]
@[simp] theorem State.durWrite_rest (w : List (Nat × Int)) : (s.durWrite w).rest m = s.rest m := by simp [State.durWrite]

end Sys2Proof.Machine
end

section
/-! Frames of the operations: queues and packers, the Crucible and the safety island. -/

namespace Sys2Proof.Machine

variable (m : Touch) (s : State)

/-! ### Output queues and packers -/

@[simp] theorem State.setQueue_rest (n : Fin 4) (v : OutQ) : (s.setQueue n v).rest m = s.rest m := by simp [State.setQueue]
@[simp] theorem State.setLink_rest (l : Fin 2) (v : Link) : (s.setLink l v).rest m = s.rest m := by simp [State.setLink]
@[simp] theorem State.modLink_rest (l : Fin 2) (f : Link → Link) : (s.modLink l f).rest m = s.rest m := by simp [State.modLink]

@[simp] theorem State.reserve_rest (n : Fin 4) (l : Nat) : (s.reserve n l).1.rest m = s.rest m := by
  unfold State.reserve
  dsimp only
  split <;> simp

@[simp] theorem State.commit_rest (n : Fin 4) (l : Nat) (o : Octets) (frame : Nat) :
    (s.commit n l o frame).rest m = s.rest m := by simp [State.commit]
@[simp] theorem State.rewindOpen_rest (n : Fin 4) (l : Nat) : (s.rewindOpen n l).rest m = s.rest m := by simp [State.rewindOpen]

@[simp] theorem State.readPacket_rest (n : Fin 4) : (s.readPacket n).1.rest m = s.rest m := by
  unfold State.readPacket
  dsimp only
  split <;> simp

@[simp] theorem State.readPast_rest (n : Fin 4) (p : Nat) : (s.readPast n p).rest m = s.rest m := by simp [State.readPast]
@[simp] theorem State.mark_rest (n : Fin 4) (p : Nat) : (s.mark n p).rest m = s.rest m := by simp [State.mark]
@[simp] theorem State.rewind_rest (n : Fin 4) : (s.rewind n).rest m = s.rest m := by simp [State.rewind]
@[simp] theorem State.release_rest (n : Fin 4) (k : Nat) : (s.release n k).rest m = s.rest m := by simp [State.release]
@[simp] theorem State.emptyQueue_rest (n : Fin 4) : (s.emptyQueue n).rest m = s.rest m := by simp [State.emptyQueue]
@[simp] theorem State.setInHand_rest (l : Fin 2) (h : InHand) : (s.setInHand l h).rest m = s.rest m := by simp [State.setInHand]
@[simp] theorem State.recordsLost_rest (l : Fin 2) (frame why : Nat) : (s.recordsLost l frame why).rest m = s.rest m := by simp [State.recordsLost]

@[simp] theorem State.commitInHand_rest (l : Fin 2) (frame fl : Nat) (again : Bool) : (s.commitInHand l frame fl again).rest m = s.rest m := by
  unfold State.commitInHand
  (repeat' split) <;> simp

@[simp] theorem State.commitExport_rest (l : Fin 2) (frame : Nat) : (s.commitExport l frame).rest m = s.rest m := by
  unfold State.commitExport
  split <;> simp

@[simp] theorem State.closeFrame_rest (l : Fin 2) (frame : Nat) : (s.closeFrame l frame).rest m = s.rest m := by
  unfold State.closeFrame
  dsimp only
  split <;> simp

@[simp] theorem State.closeOlder_rest (l : Fin 2) : (s.closeOlder l).rest m = s.rest m := by simp [State.closeOlder]
@[simp] theorem State.openInHand_rest (l : Fin 2) (live : Nat) : (s.openInHand l live).rest m = s.rest m := by simp [State.openInHand]

@[simp] theorem State.retryInHand_rest (l : Fin 2) : (s.retryInHand l).rest m = s.rest m := by
  refine State.rest_foldl m (fun s h => ?_) _ s
  dsimp only
  repeat' split
  all_goals simp

@[simp] theorem State.meterRefill_rest : s.meterRefill.rest m = s.rest m := by simp [State.meterRefill]

@[simp] theorem State.putRecord_rest (l : Fin 2) (frame : Nat) (q : Fin 4) (o : Octets) : (s.putRecord l frame q o).rest m = s.rest m := by
  unfold State.putRecord
  dsimp only
  split <;> simp

@[simp] theorem State.shipRecord_rest (frame : Nat) (q : Fin 4) (o : Octets) : (s.shipRecord frame q o).rest m = s.rest m := by
  refine State.rest_foldl m (fun s l => ?_) _ s
  repeat' split
  all_goals simp

@[simp] theorem State.putDump_rest (l : Fin 2) (frame : Nat) (o : Octets) : (s.putDump l frame o).rest m = s.rest m := by
  unfold State.putDump
  dsimp only
  (repeat' split) <;> simp

@[simp] theorem State.shipDump_rest (frame : Nat) (q : Fin 4) (o : Octets) : (s.shipDump frame q o).rest m = s.rest m := by
  unfold State.shipDump
  split <;> simp

@[simp] theorem State.closeFrames_rest (l : Fin 2) : (s.closeFrames l).rest m = s.rest m := by
  refine State.rest_foldl m (fun s h => ?_) _ s
  repeat' split
  all_goals simp

@[simp] theorem State.closeAllFrames_rest : s.closeAllFrames.rest m = s.rest m := by simp [State.closeAllFrames]
@[simp] theorem State.endInHand_rest (frame : Nat) : (s.endInHand frame).rest m = s.rest m := by simp [State.endInHand]

@[simp] theorem State.abortInHand_rest (l : Fin 2) (frame : Nat) : (s.abortInHand l frame).rest m = s.rest m := by
  unfold State.abortInHand
  split <;> simp

@[simp] theorem State.emptyLink_rest (l : Fin 2) : (s.emptyLink l).rest m = s.rest m := by simp [State.emptyLink]

@[simp] theorem State.flushIngots_rest (l : Fin 2) : (s.flushIngots l).rest m = s.rest m := by
  unfold State.flushIngots
  extract_lets t
  split
  · rfl
  · refine State.rest_foldl m (fun s h => ?_) _ s
    repeat' split
    all_goals simp

/-! ### The Crucible -/

@[simp] theorem State.modCru_rest (q : Fin 4) (f : Crucible → Crucible) : (s.modCru q f).rest m = s.rest m := by simp [State.modCru]
@[simp] theorem State.setCell_rest (q : Fin 4) (r : CellRec) : (s.setCell q r).rest m = s.rest m := by simp [State.setCell]
@[simp] theorem State.modCtx_rest (q : Fin 4) (frame cell chan : Nat) (zoom : Bool) (f : Ctx → Ctx) :
    (s.modCtx q frame cell chan zoom f).rest m = s.rest m := by simp [State.modCtx]
@[simp] theorem State.blindCell_rest (q : Fin 4) (c cell frame : Nat) : (s.blindCell q c cell frame).rest m = s.rest m := by simp [State.blindCell]
@[simp] theorem State.blindCells_rest (q : Fin 4) (cs : List Nat) (cell frame : Nat) :
    (s.blindCells q cs cell frame).rest m = s.rest m := by simp [State.blindCells]
@[simp] theorem State.ctxRefuse_rest (q : Fin 4) (frame cell c : Nat) (zoom : Bool) :
    (s.ctxRefuse q frame cell c zoom).rest m = s.rest m := by simp [State.ctxRefuse]

@[simp] theorem State.ctxOpen_rest (q : Fin 4) (x : Shot) (c : Nat) (zoom : Bool) (wins : List Zoom) :
    (s.ctxOpen q x c zoom wins).rest m = s.rest m := by
  unfold State.ctxOpen
  dsimp only
  (repeat' split) <;> simp

@[simp] theorem State.gateContexts_rest (q : Fin 4) (x : Shot) (c : Nat) : (s.gateContexts q x c).rest m = s.rest m := by
  unfold State.gateContexts
  dsimp only
  (repeat' split) <;> simp

@[simp] theorem State.cellSearched_rest (q : Fin 4) (frame cell : Nat) :
    (s.cellSearched q frame cell).rest m = s.rest m := by simp [State.cellSearched]
@[simp] theorem State.markSwitch_rest (old : Chan) (q : Fin 4) (c : Nat) : (s.markSwitch old q c).rest m = s.rest m := by simp [State.markSwitch]
@[simp] theorem State.blockRetire_rest (q : Fin 4) (b : Nat) : (s.blockRetire q b).rest m = s.rest m := by simp [State.blockRetire]
@[simp] theorem State.blockError_rest (q : Fin 4) (b : Nat) (fails : Bool) : (s.blockError q b fails).rest m = s.rest m := by simp [State.blockError]

@[simp] theorem State.doubleBit_rest (q : Fin 4) (k : Ctx) (blk : Nat) (fails : Bool) : (s.doubleBit q k blk fails).rest m = s.rest m := by
  unfold State.doubleBit
  split <;> simp

@[simp] theorem State.singleBit_rest (q : Fin 4) (k : Ctx) (blk : Nat) : (s.singleBit q k blk).rest m = s.rest m := by simp [State.singleBit]
@[simp] theorem State.pourRefill_rest (q : Fin 4) : (s.pourRefill q).rest m = s.rest m := by simp [State.pourRefill]

@[simp] theorem State.meterPour_rest (q : Fin 4) (x : Shot) (c : Nat) (zoom amb : Bool) : (s.meterPour q x c zoom amb).1.rest m = s.rest m := by
  unfold State.meterPour
  dsimp only
  (repeat' split) <;> simp

@[simp] theorem State.pour_rest (q : Fin 4) (c : Nat) (x : Shot) (h : Hit) (a : Int) (amb : Bool) : (s.pour q c x h a amb).rest m = s.rest m := by
  unfold State.pour
  dsimp only
  (repeat' split) <;> simp

@[simp] theorem State.markDone_rest (q : Fin 4) (c : Nat) (l : List Hit) : (s.markDone q c l).rest m = s.rest m := by simp [State.markDone]
/-- The pours and candidates of a matched train. -/
theorem State.trainPours_rest (q : Fin 4) (c : Nat) (amb : Bool) (done : List Hit) (cand : Shot × Int × List (Hit × Int) → Cand)
    (ms : List (Shot × Int × List (Hit × Int))) :
    (ms.foldl (fun s x => (x.2.2.foldl (fun s p => s.pour q c x.1 p.1 p.2 amb) s).tapCand q (cand x)) (s.markDone q c done)).rest m =
      s.rest m := by
  simp

@[simp] theorem State.matchHit_rest (q : Fin 4) (c : Nat) (h : Hit) : (s.matchHit q c h).rest m = s.rest m := by
  unfold State.matchHit
  dsimp only
  split
  · rfl
  · rw [State.setChan_rest]
    split
    · rfl
    · exact s.trainPours_rest m q c _ _ _ _

@[simp] theorem State.lateMatch_rest (q : Fin 4) (c : Nat) : (s.lateMatch q c).rest m = s.rest m := by
  unfold State.lateMatch
  extract_lets ch
  split
  · rfl
  · extract_lets mine s1
    have hs1 : s1.rest m = s.rest m := s.setChan_rest m q c _
    split
    · exact hs1
    · extract_lets tau ms live
      split
      · exact hs1
      · exact (s1.trainPours_rest m q c _ _ _ _).trans hs1

@[simp] theorem State.hitUnmatched_rest (q : Fin 4) (c : Nat) (force : Bool) : (s.hitUnmatched q c force).rest m = s.rest m := by
  unfold State.hitUnmatched
  dsimp only
  (repeat' split) <;> simp

@[simp] theorem State.bgSample_rest (q : Fin 4) (c cell x : Nat) : (s.bgSample q c cell x).rest m = s.rest m := by simp [State.bgSample]
@[simp] theorem State.listenSample_rest (q : Fin 4) (x : Shot) (c : Nat) : (s.listenSample q x c).rest m = s.rest m := by simp [State.listenSample]

@[simp] theorem State.peakSearch_rest (q : Fin 4) (frame cell c : Nat) : (s.peakSearch q frame cell c).rest m = s.rest m := by
  unfold State.peakSearch
  split <;> simp

@[simp] theorem State.exportCell_rest (q : Fin 4) (frame cell : Nat) : (s.exportCell q frame cell).rest m = s.rest m := by simp [State.exportCell]
@[simp] theorem State.cellFinish_rest (q : Fin 4) (frame cell : Nat) : (s.cellFinish q frame cell).rest m = s.rest m := by simp [State.cellFinish]

@[simp] theorem State.visitClose_rest (q : Fin 4) (frame cell pass : Nat) : (s.visitClose q frame cell pass).rest m = s.rest m := by
  unfold State.visitClose
  dsimp only
  split <;> simp

@[simp] theorem State.visitStep_rest (q : Fin 4) (cell : Nat) : (s.visitStep q cell).1.rest m = s.rest m := by
  unfold State.visitStep State.visitStep.start
  dsimp only
  repeat' split
  all_goals simp

@[simp] theorem State.visitEnd_rest (q : Fin 4) (cell pass close2 : Nat) (fired late : Bool) :
    (s.visitEnd q cell pass close2 fired late).rest m = s.rest m := by simp [State.visitEnd]

@[simp] theorem State.selectorZ_rest (q : Fin 4) : (s.selectorZ q).1.rest m = s.rest m := by
  unfold State.selectorZ
  dsimp only
  split <;> simp

@[simp] theorem State.settle_rest (q : Fin 4) (e : Nat) : (s.settle q e).1.rest m = s.rest m := by
  unfold State.settle
  dsimp only
  (repeat' split) <;> simp

@[simp] theorem State.zoomPosition_rest (q : Fin 4) (e : Nat) (first : Bool) : (s.zoomPosition q e first).1.rest m = s.rest m := by
  unfold State.zoomPosition
  dsimp only
  (repeat' split) <;> simp

@[simp] theorem State.accountLanding_rest (q : Fin 4) : (s.accountLanding q).rest m = s.rest m := by simp [State.accountLanding]

/-! ### Fields and zones -/

@[simp] theorem State.bandAdd_rest (frame : Nat) (hisl : m.isl) : (s.bandAdd frame).rest m = s.rest m := by simp [State.bandAdd, hisl]

/-! ### The safety island -/

@[simp] theorem State.modIsl_rest (f : Island → Island) (hisl : m.isl)
    (h : m.outs = false → ((f s.isl).st, (f s.isl).outA, (f s.isl).outB, (f s.isl).lanes) = (s.isl.st, s.isl.outA, s.isl.outB, s.isl.lanes)) :
    (s.modIsl f).rest m = s.rest m := by
  exact State.rest_mk m s (by simp [hisl]) h (fun _ => rfl) (fun _ => rfl) (fun _ => rfl) (fun _ => rfl) (fun _ => rfl) (fun _ => rfl)

@[simp] theorem State.sideOff_rest (lane : Nat) (hisl : m.isl) (houts : m.outs) (hdie : m.die) :
    (s.sideOff lane).rest m = s.rest m := by simp [State.sideOff, hisl, houts, hdie]
@[simp] theorem State.outputsOff_rest (hisl : m.isl) (houts : m.outs) (hdie : m.die) :
    s.outputsOff.rest m = s.rest m := by simp [State.outputsOff, hisl, houts, hdie]
@[simp] theorem State.outputsOn_rest (hisl : m.isl) (houts : m.outs) (hdie : m.die) :
    s.outputsOn.rest m = s.rest m := by simp [State.outputsOn, hisl, houts, hdie]
@[simp] theorem State.emissionOff_rest (hdie : m.die) : s.emissionOff.rest m = s.rest m := by simp [State.emissionOff, hdie]
@[simp] theorem State.lockout_rest (c : Nat) (hisl : m.isl) (houts : m.outs) (hdie : m.die) :
    (s.lockout c).rest m = s.rest m := by simp [State.lockout, hisl, houts, hdie]
@[simp] theorem State.setPair_rest (n : Fin 4) (p : SafePair) (hisl : m.isl) : (s.setPair n p).rest m = s.rest m := by simp [State.setPair, hisl]

@[simp] theorem State.startTest_rest (hisl : m.isl) (houts : m.outs) (hdie : m.die) : s.startTest.rest m = s.rest m := by
  unfold State.startTest
  dsimp only
  split <;> simp [hisl, houts, hdie]

@[simp] theorem State.startTestEnd_rest (hisl : m.isl) (houts : m.outs) :
    s.startTestEnd.rest m = s.rest m := by simp [State.startTestEnd, hisl, houts]
@[simp] theorem State.selDrop_rest (hisl : m.isl) : s.selDrop.rest m = s.rest m := by simp [State.selDrop, hisl]
@[simp] theorem State.condWatch_rest (hisl : m.isl) : s.condWatch.rest m = s.rest m := by simp [State.condWatch, hisl]
@[simp] theorem State.enableIsl_rest (hisl : m.isl) (houts : m.outs) (hdie : m.die) :
    s.enableIsl.rest m = s.rest m := by simp [State.enableIsl, hisl, houts, hdie]

@[simp] theorem State.reset_rest (hisl : m.isl) (houts : m.outs) (hdie : m.die) : s.reset_.rest m = s.rest m := by
  unfold State.reset_
  split <;> simp [hisl, houts, hdie]

@[simp] theorem State.stopIsl_rest (why cat : Nat) (hisl : m.isl) (houts : m.outs) (hdie : m.die) : (s.stopIsl why cat).rest m = s.rest m := by
  unfold State.stopIsl
  dsimp only
  split <;> simp [hisl, houts, hdie]

@[simp] theorem State.stoppingCheck_rest (hisl : m.isl) (houts : m.outs) (hdie : m.die) :
    s.stoppingCheck.rest m = s.rest m := by simp [State.stoppingCheck, hisl, houts, hdie]
@[simp] theorem State.safeEdge_rest (n : Fin 4) (chB closed : Bool) (hisl : m.isl) :
    (s.safeEdge n chB closed).rest m = s.rest m := by simp [State.safeEdge, hisl]

@[simp] theorem State.safeAccept_rest (n : Fin 4) (chB : Bool) (hisl : m.isl) (houts : m.outs) (hdie : m.die) :
    (s.safeAccept n chB).rest m = s.rest m := by
  unfold State.safeAccept
  dsimp only
  (repeat' split) <;> simp [hisl, houts, hdie]

@[simp] theorem State.safeDiffer_rest (n : Fin 4) (hisl : m.isl) (houts : m.outs) (hdie : m.die) :
    (s.safeDiffer n).rest m = s.rest m := by simp [State.safeDiffer, hisl, houts, hdie]

@[simp] theorem State.longPress_rest (n : Fin 4) (hisl : m.isl) : (s.longPress n).rest m = s.rest m := by
  unfold State.longPress
  dsimp only
  split <;> simp [hisl]

@[simp] theorem State.testPulse_rest (tpB : Bool) (bad : List Nat) (hisl : m.isl) (houts : m.outs) (hdie : m.die) :
    (s.testPulse tpB bad).rest m = s.rest m := by simp [State.testPulse, hisl, houts, hdie]
@[simp] theorem State.switchTest_rest (fault : Nat) (hisl : m.isl) (houts : m.outs) (hdie : m.die) :
    (s.switchTest fault).rest m = s.rest m := by simp [State.switchTest, hisl, houts, hdie]
@[simp] theorem State.startUpTest_rest (fault : Nat) (hisl : m.isl) (houts : m.outs) (hdie : m.die) :
    (s.startUpTest fault).rest m = s.rest m := by simp [State.startUpTest, hisl, houts, hdie]
@[simp] theorem State.speedJudge_rest (hisl : m.isl) : s.speedJudge.rest m = s.rest m := by simp [State.speedJudge, hisl]
@[simp] theorem State.speedUpdate_rest (hisl : m.isl) : s.speedUpdate.rest m = s.rest m := by simp [State.speedUpdate, hisl]

@[simp] theorem State.selectNext_rest (hisl : m.isl) : s.selectNext.rest m = s.rest m := by
  unfold State.selectNext
  dsimp only
  split <;> simp [hisl]

@[simp] theorem State.countViol_rest (viol : Bool) (why cat : Nat) (hisl : m.isl) (houts : m.outs) (hdie : m.die) :
    (s.countViol viol why cat).rest m = s.rest m := by
  unfold State.countViol
  dsimp only
  (repeat' split) <;> simp [hisl, houts, hdie]

@[simp] theorem State.tapDone_rest (frame : Nat) : (s.tapDone frame).rest m = s.rest m := by simp [State.tapDone]
@[simp] theorem State.egoUpdate_rest (frame startNs : Nat) (hisl : m.isl) :
    (s.egoUpdate frame startNs).rest m = s.rest m := by simp [State.egoUpdate, hisl]

@[simp] theorem State.pilotFrame_rest (frame crc : Nat) (noSet : Bool) : (s.pilotFrame frame crc noSet).rest m = s.rest m := by
  unfold State.pilotFrame
  (repeat' split) <;> simp

@[simp] theorem State.verdict_rest (differ miss : Bool) (hisl : m.isl) (houts : m.outs) (hdie : m.die) :
    (s.verdict differ miss).rest m = s.rest m := by
  unfold State.verdict
  split <;> simp [hisl, houts, hdie]

@[simp] theorem State.frameMissing_rest (hisl : m.isl) (houts : m.outs) (hdie : m.die) :
    s.frameMissing.rest m = s.rest m := by simp [State.frameMissing, hisl, houts, hdie]
@[simp] theorem State.frameEnded_rest (no startNs : Nat) (aborted : Bool) (hisl : m.isl) :
    (s.frameEnded no startNs aborted).rest m = s.rest m := by simp [State.frameEnded, hisl]
@[simp] theorem State.contamination_rest (hisl : m.isl) : s.contamination.rest m = s.rest m := by simp [State.contamination, hisl]
@[simp] theorem State.evalBooted_rest (ok : Bool) (hisl : m.isl) (houts : m.outs) (hdie : m.die) :
    (s.evalBooted ok).rest m = s.rest m := by simp [State.evalBooted, hisl, houts, hdie]

end Sys2Proof.Machine
end

section
/-! Frames of the operations: emission, calibration, echoes, acquisition and control. -/

namespace Sys2Proof.Machine

variable (m : Touch) (s : State)

/-! ### Emission and slots -/

@[simp] theorem State.modEm_rest (k' : Nat) (f : Emitter → Emitter) : (s.modEm k' f).rest m = s.rest m := by simp [State.modEm]
@[simp] theorem State.strike_rest : s.strike.rest m = s.rest m := by simp [State.strike]
@[simp] theorem State.charge_rest (e az : Nat) : (s.charge e az).rest m = s.rest m := by simp [State.charge]
@[simp] theorem State.countVeto_rest : s.countVeto.rest m = s.rest m := by simp [State.countVeto]
@[simp] theorem State.govInterval_rest (long : Bool) : (s.govInterval long).rest m = s.rest m := by simp [State.govInterval]
@[simp] theorem State.govLanding_rest (hdie : m.die) : s.govLanding.rest m = s.rest m := by simp [State.govLanding, hdie]
@[simp] theorem State.modSeq_rest (q : Fin 4) (f : Seq → Seq) : (s.modSeq q f).rest m = s.rest m := by simp [State.modSeq]
@[simp] theorem State.jitter_rest (q : Fin 4) (angle : Bool) : (s.jitter q angle).1.rest m = s.rest m := by simp [State.jitter]

@[simp] theorem State.thin_rest (q : Fin 4) : (s.thin q).1.rest m = s.rest m := by
  unfold State.thin
  dsimp only
  split <;> simp

@[simp] theorem State.noteTrain_rest (q : Fin 4) (emit hpc code kind at2 : Nat) :
    (s.noteTrain q emit hpc code kind at2).rest m = s.rest m := by simp [State.noteTrain]
@[simp] theorem State.fireOne_rest (q : Fin 4) (at2 : Nat) (pulses : List Nat) (k' : Nat) :
    (s.fireOne q at2 pulses k').rest m = s.rest m := by simp [State.fireOne]
@[simp] theorem State.blindSlot_rest (q : Fin 4) (e : Nat) : (s.blindSlot q e).rest m = s.rest m := by simp [State.blindSlot]
@[simp] theorem State.fireSlot_rest (q : Fin 4) (e pass at2 nom : Nat) (late : Bool) :
    (s.fireSlot q e pass at2 nom late).rest m = s.rest m := by simp [State.fireSlot]
@[simp] theorem State.position_rest (q : Fin 4) (nom : Nat) (late missed : Bool) :
    (s.position q nom late missed).rest m = s.rest m := by simp [State.position, apply_ite Prod.fst]

@[simp] theorem State.slot_rest (q : Fin 4) : (s.slot q).rest m = s.rest m := by
  unfold State.slot
  (repeat' split) <;> simp

@[simp] theorem State.angleTrigger_rest (q : Fin 4) : (s.angleTrigger q).rest m = s.rest m := by
  unfold State.angleTrigger
  (repeat' split) <;> simp

@[simp] theorem State.angleMissed_rest (q : Fin 4) : (s.angleMissed q).rest m = s.rest m := by
  unfold State.angleMissed
  (repeat' split) <;> simp

@[simp] theorem State.durationCut_rest (q : Fin 4) : (s.durationCut q).rest m = s.rest m := by simp [State.durationCut]
@[simp] theorem State.peakReading_rest (p code : Nat) : (s.peakReading p code).rest m = s.rest m := by simp [State.peakReading]

@[simp] theorem State.diagPulse_rest (k' : Nat) : (s.diagPulse k').1.rest m = s.rest m := by
  unfold State.diagPulse
  dsimp only
  (repeat' split) <;> simp

@[simp] theorem State.applyVerdict_rest (k' v : Nat) : (s.applyVerdict k' v).rest m = s.rest m := by simp [State.applyVerdict]

@[simp] theorem State.diagnose_rest (li : LandingIn) (k' : Nat) : (s.diagnose li k').rest m = s.rest m := by
  unfold State.diagnose
  dsimp only
  (repeat' split) <;> simp

@[simp] theorem State.diagLanding_rest (li : LandingIn) : (s.diagLanding li).rest m = s.rest m := by simp [State.diagLanding]
@[simp] theorem State.emPassed_rest : s.emPassed.rest m = s.rest m := by simp [State.emPassed]
@[simp] theorem State.emReport_rest : s.emReport.rest m = s.rest m := by simp [State.emReport]
@[simp] theorem State.emRejoin_rest : s.emRejoin.rest m = s.rest m := by simp [State.emRejoin]
@[simp] theorem State.retest_rest (k' : Nat) : (s.retest k').rest m = s.rest m := by simp [State.retest]
@[simp] theorem State.commitEvents_rest (k' : Nat) : (s.commitEvents k').rest m = s.rest m := by simp [State.commitEvents]

/-! ### Calibration of converters -/

@[simp] theorem State.calDue_rest (q : Fin 4) (conv : Nat) : (s.calDue q conv).rest m = s.rest m := by simp [State.calDue]

@[simp] theorem State.reliefHandover_rest (q : Fin 4) (c : Nat) (part : List Nat) : (s.reliefHandover q c part).rest m = s.rest m := by
  unfold State.reliefHandover
  dsimp only
  (repeat' split) <;> simp

@[simp] theorem State.calAdopt_rest (q : Fin 4) (conv : Nat) (r : List Nat × Nat) :
    (s.calAdopt q conv r).rest m = s.rest m := by simp [State.calAdopt]

@[simp] theorem State.calDone_rest (q : Fin 4) (conv : Nat) (hist refs : List Nat) (lost : Nat) :
    (s.calDone q conv hist refs lost).rest m = s.rest m := by
  unfold State.calDone
  dsimp only
  (repeat' split) <;> simp

@[simp] theorem State.setPairConv_rest (k : Fin 2) (v : PairConv) : (s.setPairConv k v).rest m = s.rest m := by simp [State.setPairConv]
@[simp] theorem State.pairDue_rest (k : Fin 2) : (s.pairDue k).rest m = s.rest m := by simp [State.pairDue]

@[simp] theorem State.pairDone_rest (k : Fin 2) (hist refs : List Nat) (lost : Nat) : (s.pairDone k hist refs lost).rest m = s.rest m := by
  unfold State.pairDone
  split <;> simp

@[simp] theorem State.calOverdue_rest (q : Fin 4) (c : Nat) : (s.calOverdue q c).rest m = s.rest m := by simp [State.calOverdue]
@[simp] theorem State.chanLive_rest (q : Fin 4) (c : Nat) : (s.chanLive q c).rest m = s.rest m := by simp [State.chanLive]
@[simp] theorem State.readmitFail_rest (q : Fin 4) (c cause : Nat) : (s.readmitFail q c cause).rest m = s.rest m := by simp [State.readmitFail]
@[simp] theorem State.injectLive_rest (q : Fin 4) (c res : Nat) : (s.injectLive q c res).rest m = s.rest m := by simp [State.injectLive]
@[simp] theorem State.injectSuspect_rest (q : Fin 4) (c res : Nat) : (s.injectSuspect q c res).rest m = s.rest m := by simp [State.injectSuspect]

@[simp] theorem State.injectReadmit_rest (q : Fin 4) (c res : Nat) : (s.injectReadmit q c res).rest m = s.rest m := by
  unfold State.injectReadmit
  dsimp only
  split <;> simp

@[simp] theorem State.chanLanding_rest (q : Fin 4) (li : LandingIn) (c : Nat) : (s.chanLanding q li c).rest m = s.rest m := by
  unfold State.chanLanding
  dsimp only
  (repeat' split) <;> simp

@[simp] theorem State.channelsLanding_rest (q : Fin 4) (li : LandingIn) :
    (s.channelsLanding q li).rest m = s.rest m := by simp [State.channelsLanding]
@[simp] theorem State.chanEnable_rest (ch : Nat) (was now : Bool) : (s.chanEnable ch was now).rest m = s.rest m := by simp [State.chanEnable]

/-! ### Echoes -/

@[simp] theorem State.bgFromCell_rest (q : Fin 4) (k : Ctx) (z : Option Ctx) (es : List Echo) :
    (s.bgFromCell q k z es).rest m = s.rest m := by simp [State.bgFromCell]

@[simp] theorem State.shipCells_rest (q : Fin 4) (n : Nat) : (s.shipCells q n).rest m = s.rest m := by
  induction n generalizing s with
  | zero => simp [State.shipCells]
  | succ n ih =>
    unfold State.shipCells
    dsimp only
    repeat' split
    all_goals simp [ih]

@[simp] theorem State.laneTakeUp_rest (q : Fin 4) : (s.laneTakeUp q).rest m = s.rest m := by
  unfold State.laneTakeUp
  split <;> simp

@[simp] theorem State.decompose_rest (q : Fin 4) (ln : Lane) (k : Ctx) (beyond : Bool) :
    (s.decompose q ln k beyond).rest m = s.rest m := by simp [State.decompose]

@[simp] theorem State.laneDone_rest (q : Fin 4) (lane : Nat) (beyond : Bool) (ecc blk : Nat) :
    (s.laneDone q lane beyond ecc blk).rest m = s.rest m := by
  unfold State.laneDone
  dsimp only
  (repeat' split) <;> simp

@[simp] theorem State.interference_rest (q : Fin 4) : (s.interference q).rest m = s.rest m := by
  unfold State.interference
  dsimp only
  (repeat' split) <;> simp

/-! ### Hits -/

@[simp] theorem State.stampChan_rest (q : Fin 4) (x : Shot) (c : Nat) : (s.stampChan q x c).rest m = s.rest m := by
  unfold State.stampChan
  split <;> simp

@[simp] theorem State.gateOpens_rest (q : Fin 4) (slot c : Nat) : (s.gateOpens q slot c).rest m = s.rest m := by
  unfold State.gateOpens
  split <;> simp

@[simp] theorem State.gateCloses_rest (q : Fin 4) (slot c : Nat) : (s.gateCloses q slot c).rest m = s.rest m := by
  unfold State.gateCloses
  dsimp only
  (repeat' split) <;> simp

@[simp] theorem State.ctxError_rest (q : Fin 4) (frame cell c ecc blk : Nat) : (s.ctxError q frame cell c ecc blk).rest m = s.rest m := by
  unfold State.ctxError
  split <;> simp

@[simp] theorem State.hit_rest (q : Fin 4) (c raw tot : Nat) (rng : Bool) (ecc blk : Nat) :
    (s.hit q c raw tot rng ecc blk).rest m = s.rest m := by
  have hlead := s.leadingEdge_rest m q c raw tot rng
  unfold State.hit
  repeat' split
  all_goals simp_all

@[simp] theorem State.stampReady_rest (q : Fin 4) (slot : Nat) : (s.stampReady q slot).rest m = s.rest m := by
  unfold State.stampReady
  split <;> simp

@[simp] theorem State.slice_rest (q : Fin 4) (cell pass : Nat) : (s.slice q cell pass).rest m = s.rest m := by
  unfold State.slice
  dsimp only
  (repeat' split) <;> simp

@[simp] theorem State.visitCloses_rest (q : Fin 4) (cell pass : Nat) : (s.visitCloses q cell pass).rest m = s.rest m := by simp [State.visitCloses]

/-! ### Control periods -/

@[simp] theorem State.crossing_rest (rising : Bool) (halfAmp : Nat) : (s.crossing rising halfAmp).rest m = s.rest m := by simp [State.crossing]
@[simp] theorem State.loopFaultCount_rest (k i : Nat) : (s.loopFaultCount k i).rest m = s.rest m := by simp [State.loopFaultCount]
@[simp] theorem State.loopStep_rest (k i : Nat) (ready : Bool) : (s.loopStep k i ready).rest m = s.rest m := by simp [State.loopStep]
@[simp] theorem State.ferryOrder_rest : s.ferryOrder.rest m = s.rest m := by simp [State.ferryOrder]

end Sys2Proof.Machine
end

section
/-! Frames of the operations: images, the DMA engine, frame starts, links and re-admission. -/

namespace Sys2Proof.Machine

variable (m : Touch) (s : State)

/-! ### The DMA engine -/

@[simp] theorem State.setDmaCh_rest (c : Fin 32) (v : DmaCh) (hdma : m.dma) : (s.setDmaCh c v).rest m = s.rest m := by simp [State.setDmaCh, hdma]

@[simp] theorem State.dmaRecord_rest (c : Fin 32) (status count : Nat) (hdma : m.dma) : (s.dmaRecord c status count).rest m = s.rest m := by
  unfold State.dmaRecord State.dmaRecord.note
  dsimp only
  repeat' split
  all_goals simp [hdma]

@[simp] theorem State.clearGo_rest (c : Fin 32) : (s.clearGo c).rest m = s.rest m := by simp [State.clearGo]
@[simp] theorem State.dmaRewind_rest (c : Fin 32) (hdma : m.dma) : (s.dmaRewind c).rest m = s.rest m := by simp [State.dmaRewind, hdma]
@[simp] theorem State.dmaHalt_rest (c : Fin 32) (status count : Nat) (hdma : m.dma) :
    (s.dmaHalt c status count).rest m = s.rest m := by simp [State.dmaHalt, hdma]

@[simp] theorem State.dmaReserve_rest (c : Fin 32) (hdma : m.dma) : (s.dmaReserve c).rest m = s.rest m := by
  unfold State.dmaReserve
  dsimp only
  split <;> simp [hdma]

@[simp] theorem State.descStart_rest (c : Fin 32) (i : Nat) (hdma : m.dma) : (s.descStart c i).rest m = s.rest m := by simp [State.descStart, hdma]

@[simp] theorem State.descDone_rest (c : Fin 32) (hdma : m.dma) : (s.descDone c).rest m = s.rest m := by
  unfold State.descDone
  dsimp only
  (repeat' split) <;> simp [hdma]

@[simp] theorem State.dmaRetry_rest (hdma : m.dma) : s.dmaRetry.rest m = s.rest m := by simp [State.dmaRetry, hdma]
@[simp] theorem State.capPowerOff_rest : s.capPowerOff.rest m = s.rest m := by simp [State.capPowerOff]
@[simp] theorem State.quadPowerOff_rest (q : Fin 4) : (s.quadPowerOff q).rest m = s.rest m := by simp [State.quadPowerOff]
@[simp] theorem State.bulkRewind_rest (l : Fin 2) (hdma : m.dma) : (s.bulkRewind l).rest m = s.rest m := by simp [State.bulkRewind, hdma]
@[simp] theorem State.linkPowerOff_rest (l : Fin 2) (hdma : m.dma) : (s.linkPowerOff l).rest m = s.rest m := by simp [State.linkPowerOff, hdma]

@[simp] theorem State.domOff_rest (d : Nat) (hdma : m.dma) : (s.domOff d).rest m = s.rest m := by
  unfold State.domOff
  split <;> simp [hdma]

@[simp] theorem State.domSettle_rest (hdma : m.dma) : s.domSettle.rest m = s.rest m := by simp [State.domSettle, hdma]
@[simp] theorem State.domLimit_rest (d : Nat) (hdma : m.dma) : (s.domLimit d).rest m = s.rest m := by simp [State.domLimit, hdma]
@[simp] theorem State.captureLost_rest (hdma : m.dma) : s.captureLost.rest m = s.rest m := by simp [State.captureLost, hdma]
@[simp] theorem State.segChosen_rest (i : Nat) (hdma : m.dma) : (s.segChosen i).rest m = s.rest m := by simp [State.segChosen, hdma]
@[simp] theorem State.segUnlock_rest (hdma : m.dma) : s.segUnlock.rest m = s.rest m := by simp [State.segUnlock, hdma]
@[simp] theorem State.segGone_rest (i : Nat) (hdma : m.dma) : (s.segGone i).rest m = s.rest m := by simp [State.segGone, hdma]
@[simp] theorem State.segsClear_rest (hdma : m.dma) : s.segsClear.rest m = s.rest m := by simp [State.segsClear, hdma]
@[simp] theorem State.dmaRefill_rest (hdma : m.dma) : s.dmaRefill.rest m = s.rest m := by simp [State.dmaRefill, hdma]

@[simp] theorem State.burst_rest (c : Fin 32) (err : Bool) (hdma : m.dma) (hmem : m.mem) : (s.burst c err).rest m = s.rest m := by
  unfold State.burst
  dsimp only
  (repeat' split) <;> simp [hdma, hmem]

@[simp] theorem State.burstOf_rest (c : Fin 32) (err : Bool) (hdma : m.dma) (hmem : m.mem) :
    (s.burstOf c err).rest m = s.rest m := by simp [State.burstOf, hdma, hmem]

@[simp] theorem State.dmaBurst_rest (err : Bool) (hdma : m.dma) (hmem : m.mem) : (s.dmaBurst err).rest m = s.rest m := by
  unfold State.dmaBurst
  split <;> simp [hdma, hmem]

@[simp] theorem State.xspiTimeout_rest (c : Fin 32) (hdma : m.dma) (hmem : m.mem) :
    (s.xspiTimeout c).rest m = s.rest m := by simp [State.xspiTimeout, hdma, hmem]

@[simp] theorem State.dmaDisable_rest (c : Fin 32) (hdma : m.dma) (hmem : m.mem) : (s.dmaDisable c).rest m = s.rest m := by
  unfold State.dmaDisable
  dsimp only
  (repeat' split) <;> simp [hdma, hmem]

@[simp] theorem State.dmaWordEff_rest (c : Fin 32) (w : Nat) (hdma : m.dma) (hmem : m.mem) :
    (s.dmaWordEff c w).rest m = s.rest m := by simp [State.dmaWordEff, hdma, hmem]
@[simp] theorem State.descEff_rest (o : Octets) (hdma : m.dma) (hmem : m.mem) : (s.descEff o).rest m = s.rest m := by simp [State.descEff, hdma, hmem]
@[simp] theorem State.bufEff_rest (o : Octets) (hdma : m.dma) (hmem : m.mem) : (s.bufEff o).rest m = s.rest m := by simp [State.bufEff, hdma, hmem]
@[simp] theorem State.recsRead_rest (r : Req) (hdma : m.dma) : (s.recsRead r).rest m = s.rest m := by simp [State.recsRead, hdma]

/-! ### Frame starts -/

@[simp] theorem State.modFrm_rest (f : Frames → Frames) : (s.modFrm f).rest m = s.rest m := by simp [State.modFrm]

@[simp] theorem State.adoptDelay_rest : s.adoptDelay.rest m = s.rest m := by
  unfold State.adoptDelay
  split <;> simp

@[simp] theorem State.startFrame_rest (t : Nat) : (s.startFrame t).rest m = s.rest m := by simp [State.startFrame]

@[simp] theorem State.tryStart_rest : s.tryStart.rest m = s.rest m := by
  unfold State.tryStart
  split <;> simp

@[simp] theorem State.wantStart_rest (t : Nat) (held : Bool) (less : Nat := 0) :
    (s.wantStart t held less).rest m = s.rest m := by simp [State.wantStart]
@[simp] theorem State.dropFrame_rest : s.dropFrame.rest m = s.rest m := by simp [State.dropFrame]
@[simp] theorem State.abortFrame_rest : s.abortFrame.rest m = s.rest m := by simp [State.abortFrame]
@[simp] theorem State.frameTrigger_rest (t : Nat) (less : Nat := 0) : (s.frameTrigger t less).rest m = s.rest m := by simp [State.frameTrigger]
@[simp] theorem State.timerExpiry_rest : s.timerExpiry.rest m = s.rest m := by simp [State.timerExpiry]
@[simp] theorem State.trigEdge_rest (rising : Bool) : (s.trigEdge rising).rest m = s.rest m := by simp [State.trigEdge]
@[simp] theorem State.heldRelease_rest : s.heldRelease.rest m = s.rest m := by simp [State.heldRelease]

/-! ### Serial links -/

@[simp] theorem State.modLane_rest (l : Fin 2) (i : Fin 4) (f : LinkLane → LinkLane) : (s.modLane l i f).rest m = s.rest m := by simp [State.modLane]
@[simp] theorem State.sendTrain_rest (l : Fin 2) (i : Fin 4) : (s.sendTrain l i).rest m = s.rest m := by simp [State.sendTrain]
@[simp] theorem State.laneTrain_rest (l : Fin 2) (i : Fin 4) : (s.laneTrain l i).rest m = s.rest m := by simp [State.laneTrain]
@[simp] theorem State.deskewRound_rest (l : Fin 2) (on : Nat) : (s.deskewRound l on).rest m = s.rest m := by simp [State.deskewRound]
@[simp] theorem State.sendIdle_rest (l : Fin 2) : (s.sendIdle l).rest m = s.rest m := by simp [State.sendIdle]
@[simp] theorem State.clockLane_rest (l : Fin 2) (on : Bool) : (s.clockLane l on).rest m = s.rest m := by simp [State.clockLane]
@[simp] theorem State.linkSet_rest (l : Fin 2) : (s.linkSet l).rest m = s.rest m := by simp [State.linkSet]
@[simp] theorem State.spareTrain_rest (l : Fin 2) : (s.spareTrain l).rest m = s.rest m := by simp [State.spareTrain]
@[simp] theorem State.linkHealed_rest (l : Fin 2) : (s.linkHealed l).rest m = s.rest m := by simp [State.linkHealed]
@[simp] theorem State.linkCold_rest (l : Fin 2) (st : Nat) : (s.linkCold l st).rest m = s.rest m := by simp [State.linkCold]

@[simp] theorem State.rewindTo_rest (l : Fin 2) (ps : List Sent) (bulk : Bool) : (s.rewindTo l ps bulk).rest m = s.rest m := by
  unfold State.rewindTo
  split <;> simp

@[simp] theorem State.linkHalt_rest (l : Fin 2) : (s.linkHalt l).rest m = s.rest m := by simp [State.linkHalt]
@[simp] theorem State.linkDown_rest (l : Fin 2) (cause : Nat) : (s.linkDown l cause).rest m = s.rest m := by simp [State.linkDown]
@[simp] theorem State.linkLost_rest (l : Fin 2) : (s.linkLost l).rest m = s.rest m := by simp [State.linkLost]
@[simp] theorem State.linkUp_rest (l : Fin 2) : (s.linkUp l).rest m = s.rest m := by simp [State.linkUp]
@[simp] theorem State.upIfReady_rest (l : Fin 2) : (s.upIfReady l).rest m = s.rest m := by simp [State.upIfReady]
@[simp] theorem State.linkResize_rest (l : Fin 2) (old : Nat) : (s.linkResize l old).rest m = s.rest m := by simp [State.linkResize]
@[simp] theorem State.laneRetrain_rest (l : Fin 2) (i : Fin 4) : (s.laneRetrain l i).rest m = s.rest m := by simp [State.laneRetrain]
@[simp] theorem State.laneDone1_rest (l : Fin 2) (i : Fin 4) : (s.laneDone1 l i).rest m = s.rest m := by simp [State.laneDone1]
@[simp] theorem State.trainTimeout_rest (l : Fin 2) : (s.trainTimeout l).rest m = s.rest m := by simp [State.trainTimeout]
@[simp] theorem State.pllLocked_rest (l : Fin 2) : (s.pllLocked l).rest m = s.rest m := by simp [State.pllLocked]
@[simp] theorem State.fallback_rest (l : Fin 2) (ref : Bool) : (s.fallback l ref).rest m = s.rest m := by simp [State.fallback]
@[simp] theorem State.queueSizes_rest : s.queueSizes.rest m = s.rest m := by simp [State.queueSizes]
@[simp] theorem State.linkStart_rest (l : Fin 2) : (s.linkStart l).rest m = s.rest m := by simp [State.linkStart]
@[simp] theorem State.linkStop_rest (l : Fin 2) (hdma : m.dma) : (s.linkStop l).rest m = s.rest m := by simp [State.linkStop, hdma]
@[simp] theorem State.backSync_rest (l : Fin 2) (ok : Bool) : (s.backSync l ok).rest m = s.rest m := by simp [State.backSync]

@[simp] theorem State.backBlock_rest {act : State → State} (h : ∀ s, (act s).rest m = s.rest m) (l : Fin 2) :
    (s.backBlock l act).rest m = s.rest m := by
  simp [State.backBlock, h]

@[simp] theorem State.backInvalid_rest (l : Fin 2) : (s.backInvalid l).rest m = s.rest m := by simp [State.backInvalid]

@[simp] theorem State.laneAdjust_rest (l : Fin 2) (i : Fin 4) (tap : Fin 3) (up : Bool) : (s.laneAdjust l i tap up).rest m = s.rest m := by
  unfold State.laneAdjust State.laneAdjust.limit
  dsimp only
  repeat' split
  all_goals simp

@[simp] theorem State.backStatus_rest (l : Fin 2) (lost ref : Bool) (errs : List Nat) :
    (s.backStatus l lost ref errs).rest m = s.rest m := by simp [State.backStatus]
@[simp] theorem State.sendPacket_rest (l : Fin 2) (bulk : Bool) (seq : Nat) (p : Packet) (damaged : Bool) :
    (s.sendPacket l bulk seq p damaged).rest m = s.rest m := by simp [State.sendPacket]
@[simp] theorem State.damage_rest (n : Fin 4) (p : Packet) : (s.damage n p).rest m = s.rest m := by simp [State.damage]

@[simp] theorem State.readSend_rest (l : Fin 2) (bulk : Bool) (seq bad : Nat) : (s.readSend l bulk seq bad).rest m = s.rest m := by
  unfold State.readSend
  dsimp only
  split <;> simp

@[simp] theorem State.firstSend_rest (l : Fin 2) (p : Sent) (bad : Nat) : (s.firstSend l p bad).rest m = s.rest m := by simp [State.firstSend]
@[simp] theorem State.sideSend_rest (l : Fin 2) : (s.sideSend l).rest m = s.rest m := by simp [State.sideSend]

@[simp] theorem State.linkSend_rest (l : Fin 2) (bad : Nat) : (s.linkSend l bad).rest m = s.rest m := by
  unfold State.linkSend
  dsimp only
  (repeat' split) <;> simp

@[simp] theorem State.linkAck_rest (l : Fin 2) (n : Nat) (hdma : m.dma) : (s.linkAck l n).rest m = s.rest m := by simp [State.linkAck, hdma]
@[simp] theorem State.linkReplay_rest (l : Fin 2) : (s.linkReplay l).rest m = s.rest m := by simp [State.linkReplay]

@[simp] theorem State.backAck_rest (l : Fin 2) (nak : Bool) (seq grant : Nat) (hdma : m.dma) : (s.backAck l nak seq grant).rest m = s.rest m := by
  unfold State.backAck
  dsimp only
  split <;> simp [hdma]

@[simp] theorem State.replayTimeout_rest (l : Fin 2) : (s.replayTimeout l).rest m = s.rest m := by simp [State.replayTimeout]

@[simp] theorem State.laneAct_rest (l : Fin 2) (i : Fin 4) (c : LaneCmd) : (s.laneAct l i c).rest m = s.rest m := by
  unfold State.laneAct
  split <;> simp

@[simp] theorem State.sideReceive_rest (l : Fin 2) (o : Octets) : (s.sideReceive l o).rest m = s.rest m := by simp [State.sideReceive]

@[simp] theorem State.backAct_rest (l : Fin 2) (ref : Bool) (x : BackBlock) (hdma : m.dma) : (s.backAct l ref x).rest m = s.rest m := by
  unfold State.backAct
  split <;> simp [hdma]

@[simp] theorem State.backReceive_rest (l : Fin 2) (ref : Bool) (o : Octets) (hdma : m.dma) : (s.backReceive l ref o).rest m = s.rest m := by
  unfold State.backReceive
  split <;> simp [hdma]

/-! ### Re-admission -/

@[simp] theorem State.quadBegin_rest (q : Fin 4) : (s.quadBegin q).rest m = s.rest m := by simp [State.quadBegin]
@[simp] theorem State.quadFail_rest (q : Fin 4) (step : Nat) : (s.quadFail q step).rest m = s.rest m := by simp [State.quadFail]
@[simp] theorem State.quadCalibrated_rest (q : Fin 4) (failed : List Nat) :
    (s.quadCalibrated q failed).rest m = s.rest m := by simp [State.quadCalibrated]

@[simp] theorem State.quadStep_rest (pass : Bool) (failed : List Nat) : (s.quadStep pass failed).rest m = s.rest m := by
  unfold State.quadStep
  (repeat' split) <;> simp

@[simp] theorem State.quadInject_rest (q : Fin 4) (li : LandingIn) : (s.quadInject q li).rest m = s.rest m := by simp [State.quadInject]
@[simp] theorem State.quadLeave_rest (q : Fin 4) : (s.quadLeave q).rest m = s.rest m := by simp [State.quadLeave]
@[simp] theorem State.quadJoin_rest (q : Fin 4) : (s.quadJoin q).rest m = s.rest m := by simp [State.quadJoin]
@[simp] theorem State.quadJoins_rest (q : Fin 4) (li : LandingIn) (leftNow : Bool) :
    (s.quadJoins q li leftNow).rest m = s.rest m := by simp [State.quadJoins]
@[simp] theorem State.quadEnter_rest (q : Fin 4) : (s.quadEnter q).rest m = s.rest m := by simp [State.quadEnter]

@[simp] theorem State.readmitBegin_rest (v : Nat) : (s.readmitBegin v).rest m = s.rest m := by
  unfold State.readmitBegin
  split <;> simp

@[simp] theorem State.readmitNote_rest (v state : Nat) : (s.readmitNote v state).rest m = s.rest m := by simp [State.readmitNote]
@[simp] theorem State.readmitWrite_rest (q : Req) (e : Entry) : (s.readmitWrite q e).rest m = s.rest m := by simp [State.readmitWrite]

@[simp] theorem State.readmitDrop_rest (v : Nat) : (s.readmitDrop v).rest m = s.rest m := by
  unfold State.readmitDrop
  split <;> simp

@[simp] theorem State.readmitDropAll_rest : s.readmitDropAll.rest m = s.rest m := by simp [State.readmitDropAll]

@[simp] theorem State.chanReadmitCal_rest (q : Fin 4) (c : Nat) (hist refs : List Nat) (lost : Nat) (d0 d1 : Int) :
    (s.chanReadmitCal q c hist refs lost d0 d1).rest m = s.rest m := by
  unfold State.chanReadmitCal
  dsimp only
  (repeat' split) <;> simp

end Sys2Proof.Machine
end

section
/-! Frames of the operations: time, the Wofen bus, the dies, fleets and Plovivo. -/

namespace Sys2Proof.Machine

variable (m : Touch) (s : State)

/-! ### The Time Keeper -/

@[simp] theorem State.modTime_rest (f : Time → Time) : (s.modTime f).rest m = s.rest m := by simp [State.modTime]
@[simp] theorem State.modPort_rest (p : Fin 2) (f : PtpPort → PtpPort) : (s.modPort p f).rest m = s.rest m := by simp [State.modPort]
@[simp] theorem State.stepNow_rest (off : Int) : (s.stepNow off).rest m = s.rest m := by simp [State.stepNow]
@[simp] theorem State.newRate_rest : s.newRate.rest m = s.rest m := by simp [State.newRate]
@[simp] theorem State.discipline_rest (off rate : Int) : (s.discipline off rate).rest m = s.rest m := by simp [State.discipline]
@[simp] theorem State.ref10Rates_rest : s.ref10Rates.rest m = s.rest m := by simp [State.ref10Rates]
@[simp] theorem State.timeChoose_rest : s.timeChoose.rest m = s.rest m := by simp [State.timeChoose]
@[simp] theorem State.timeSelect_rest : s.timeSelect.rest m = s.rest m := by simp [State.timeSelect]
@[simp] theorem State.bmca_rest : s.bmca.rest m = s.rest m := by simp [State.bmca]
@[simp] theorem State.timeUpdate_rest : s.timeUpdate.rest m = s.rest m := by simp [State.timeUpdate]

@[simp] theorem State.ppsEdge_rest (rising : Bool) (fine : Nat) : (s.ppsEdge rising fine).rest m = s.rest m := by
  unfold State.ppsEdge
  (repeat' split) <;> simp

@[simp] theorem State.ppsMissing_rest : s.ppsMissing.rest m = s.rest m := by
  unfold State.ppsMissing
  split <;> simp

@[simp] theorem State.gnssStep_rest (off : Int) : (s.gnssStep off).rest m = s.rest m := by simp [State.gnssStep]

@[simp] theorem State.zda_rest (good : Bool) (utc : Nat) : (s.zda good utc).rest m = s.rest m := by
  unfold State.zda
  split <;> simp

@[simp] theorem State.ptpSend_rest (p : Fin 2) (kind : Nat) (o : Octets) : (s.ptpSend p kind o).rest m = s.rest m := by simp [State.ptpSend]
@[simp] theorem State.netOffset_rest (p : Fin 2) (stamp arr t1 : Nat) : (s.netOffset p stamp arr t1).rest m = s.rest m := by simp [State.netOffset]
@[simp] theorem State.announceRx_rest (p : Fin 2) (ds : PtpDs) (tlv : Bool) (path : List Nat) :
    (s.announceRx p ds tlv path).rest m = s.rest m := by simp [State.announceRx]

@[simp] theorem State.ptpRx_rest (p : Fin 2) (dom : Nat) (k' : PtpMsg) : (s.ptpRx p dom k').rest m = s.rest m := by
  unfold State.ptpRx
  dsimp only
  (repeat' split) <;> simp

@[simp] theorem State.announceTimeout_rest (p : Fin 2) : (s.announceTimeout p).rest m = s.rest m := by simp [State.announceTimeout]
@[simp] theorem State.ptpSync_rest (p : Fin 2) : (s.ptpSync p).rest m = s.rest m := by simp [State.ptpSync]
@[simp] theorem State.ptpAnnounce_rest (p : Fin 2) : (s.ptpAnnounce p).rest m = s.rest m := by simp [State.ptpAnnounce]
@[simp] theorem State.ptpDelay_rest (p : Fin 2) : (s.ptpDelay p).rest m = s.rest m := by simp [State.ptpDelay]
@[simp] theorem State.ptpTx_rest (p : Fin 2) : (s.ptpTx p).rest m = s.rest m := by simp [State.ptpTx]
@[simp] theorem State.holdoverEnd_rest : s.holdoverEnd.rest m = s.rest m := by simp [State.holdoverEnd]
@[simp] theorem State.secondOutputs_rest : s.secondOutputs.rest m = s.rest m := by simp [State.secondOutputs]
@[simp] theorem State.ref10Change_rest (good : Bool) (rate : Int) : (s.ref10Change good rate).rest m = s.rest m := by simp [State.ref10Change]
@[simp] theorem State.macTime_rest : s.macTime.rest m = s.rest m := by simp [State.macTime]
@[simp] theorem State.timeStart_rest : s.timeStart.rest m = s.rest m := by simp [State.timeStart]
@[simp] theorem State.timeStop_rest : s.timeStop.rest m = s.rest m := by simp [State.timeStop]
@[simp] theorem State.setTime_rest (ns : Nat) : (s.setTime ns).rest m = s.rest m := by simp [State.setTime]

/-! ### The Wofen bus -/

@[simp] theorem State.modWof_rest (f : Wofen → Wofen) : (s.modWof f).rest m = s.rest m := by simp [State.modWof]
@[simp] theorem State.wtb_rest (pair type fl pay : Nat) (ahead : Nat := 1032) :
    (s.wtb pair type fl pay ahead).rest m = s.rest m := by simp [State.wtb]
@[simp] theorem State.wtbQueue_rest (type fl pay due : Nat) : (s.wtbQueue type fl pay due).rest m = s.rest m := by simp [State.wtbQueue]

@[simp] theorem State.wtbSend_rest (p : WtbPkt) : (s.wtbSend p).rest m = s.rest m := by
  unfold State.wtbSend
  split <;> simp

@[simp] theorem State.wtbDrain_rest : s.wtbDrain.rest m = s.rest m := by
  unfold State.wtbDrain
  (repeat' split) <;> simp

@[simp] theorem State.relayMarks_rest : s.relayMarks.rest m = s.rest m := by simp [State.relayMarks]
@[simp] theorem State.wofenCycle_rest : s.wofenCycle.rest m = s.rest m := by simp [State.wofenCycle]
@[simp] theorem State.frameEventSend_rest : s.frameEventSend.rest m = s.rest m := by simp [State.frameEventSend]
@[simp] theorem State.secondMark_rest : s.secondMark.rest m = s.rest m := by simp [State.secondMark]
@[simp] theorem State.wholeSecond_rest : s.wholeSecond.rest m = s.rest m := by simp [State.wholeSecond]
@[simp] theorem State.calBegin_rest : s.calBegin.rest m = s.rest m := by simp [State.calBegin]
@[simp] theorem State.calAddr_rest (a : Nat) : (s.calAddr a).rest m = s.rest m := by simp [State.calAddr]

@[simp] theorem State.calEnd_rest : s.calEnd.rest m = s.rest m := by
  unfold State.calEnd
  split <;> simp

@[simp] theorem State.busStart_rest : s.busStart.rest m = s.rest m := by simp [State.busStart]
@[simp] theorem State.busStop_rest : s.busStop.rest m = s.rest m := by simp [State.busStop]
@[simp] theorem State.markRx_rest (fl pay : Nat) (t : Int) : (s.markRx fl pay t).rest m = s.rest m := by simp [State.markRx]

@[simp] theorem State.memberRx_rest (type fl pay : Nat) (t : Int) : (s.memberRx type fl pay t).rest m = s.rest m := by
  unfold State.memberRx
  split <;> simp

@[simp] theorem State.masterRx_rest (type addr pay fine : Nat) : (s.masterRx type addr pay fine).rest m = s.rest m := by
  unfold State.masterRx
  dsimp only
  (repeat' split) <;> simp

@[simp] theorem State.wofenBad_rest (aux : Bool) : (s.wofenBad aux).rest m = s.rest m := by
  unfold State.wofenBad
  split <;> simp

@[simp] theorem State.wofenYield_rest (addr : Nat) : (s.wofenYield addr).rest m = s.rest m := by simp [State.wofenYield]
@[simp] theorem State.wofenRx_rest (aux : Bool) (o : Octets) (raw : Nat) : (s.wofenRx aux o raw).rest m = s.rest m := by simp [State.wofenRx]

@[simp] theorem State.wofenWindow_rest : s.wofenWindow.rest m = s.rest m := by
  unfold State.wofenWindow
  (repeat' split) <;> simp

@[simp] theorem State.frameEventLoss_rest : s.frameEventLoss.rest m = s.rest m := by simp [State.frameEventLoss]
@[simp] theorem State.wtbSilence_rest : s.wtbSilence.rest m = s.rest m := by simp [State.wtbSilence]

@[simp] theorem State.markLoss_rest : s.markLoss.rest m = s.rest m := by
  unfold State.markLoss
  split <;> simp

/-! ### The die-to-die interface -/

@[simp] theorem State.modDie_rest (f : Die → Die) (hdie : m.die) : (s.modDie f).rest m = s.rest m := by simp [State.modDie, hdie]
@[simp] theorem State.framesDown_rest : s.framesDown.rest m = s.rest m := by simp [State.framesDown]
@[simp] theorem State.drivesDown_rest (hdie : m.die) : s.drivesDown.rest m = s.rest m := by simp [State.drivesDown, hdie]
@[simp] theorem State.testCut_rest : s.testCut.rest m = s.rest m := by simp [State.testCut]
@[simp] theorem State.halt_rest (hdie : m.die) : s.halt.rest m = s.rest m := by simp [State.halt, hdie]
@[simp] theorem State.dieFault_rest (hisl : m.isl) (houts : m.outs) (hdie : m.die) :
    s.dieFault.rest m = s.rest m := by simp [State.dieFault, hisl, houts, hdie]
@[simp] theorem State.flitRetry_rest (flit : Nat) (hisl : m.isl) (houts : m.outs) (hdie : m.die) :
    (s.flitRetry flit).rest m = s.rest m := by simp [State.flitRetry, hisl, houts, hdie]
@[simp] theorem State.flitReceived_rest (flit : Nat) (good : Bool) (hisl : m.isl) (houts : m.outs) (hdie : m.die) :
    (s.flitReceived flit good).rest m = s.rest m := by simp [State.flitReceived, hisl, houts, hdie]
@[simp] theorem State.flitSecond_rest (hdie : m.die) : s.flitSecond.rest m = s.rest m := by simp [State.flitSecond, hdie]
@[simp] theorem State.laneStopped_rest (lane : Fin 3) (hisl : m.isl) (houts : m.outs) (hdie : m.die) :
    (s.laneStopped lane).rest m = s.rest m := by simp [State.laneStopped, hisl, houts, hdie]

@[simp] theorem State.anchorOn_rest (lane : Fin 3) (hisl : m.isl) (houts : m.outs) (hdie : m.die) : (s.anchorOn lane).rest m = s.rest m := by
  unfold State.anchorOn
  dsimp only
  repeat' split
  · rfl
  · simp [hdie]
  · rw [State.modIsl_rest m _ _ hisl fun h => by simp [houts] at h]
    simp [hdie]
  · simp [hdie]

@[simp] theorem State.quadWatchdog_rest (q : Fin 4) : (s.quadWatchdog q).rest m = s.rest m := by simp [State.quadWatchdog]
@[simp] theorem State.ctxWatchdog_rest (q : Fin 4) : (s.ctxWatchdog q).rest m = s.rest m := by simp [State.ctxWatchdog]

/-! ### Fleet code domains -/

@[simp] theorem State.modFleet_rest (f : Fleet → Fleet) : (s.modFleet f).rest m = s.rest m := by simp [State.modFleet]
@[simp] theorem State.setRows_rest (l : List FleetRow) (hnv : m.nv) : (s.setRows l).rest m = s.rest m := by simp [State.setRows, hnv]

@[simp] theorem State.fleetServe_rest (dom ident prev flags : Nat) (hnv : m.nv) : (s.fleetServe dom ident prev flags).1.rest m = s.rest m := by
  unfold State.fleetServe
  (repeat' split) <;> simp [hnv]

@[simp] theorem State.holdPair_rest (p : Option (Nat × Nat)) : (s.holdPair p).rest m = s.rest m := by simp [State.holdPair]
@[simp] theorem State.fleetLoad_rest (i seed : Nat) : (s.fleetLoad i seed).rest m = s.rest m := by simp [State.fleetLoad]
@[simp] theorem State.fleetState_rest (st : Nat) : (s.fleetState st).rest m = s.rest m := by simp [State.fleetState]
@[simp] theorem State.grantAccept_rest (o : Octets) (hnv : m.nv) : (s.grantAccept o).rest m = s.rest m := by simp [State.grantAccept, hnv]
@[simp] theorem State.fleetSend_rest (kind addr obj : Nat) (o : Octets) : (s.fleetSend kind addr obj o).rest m = s.rest m := by simp [State.fleetSend]
@[simp] theorem State.fleetAsk_rest (flags : Nat) (hnv : m.nv) : (s.fleetAsk flags).rest m = s.rest m := by simp [State.fleetAsk, hnv]
@[simp] theorem State.fleetStart_rest (hnv : m.nv) : s.fleetStart.rest m = s.rest m := by simp [State.fleetStart, hnv]
@[simp] theorem State.fleetConfig_rest (hnv : m.nv) : s.fleetConfig.rest m = s.rest m := by simp [State.fleetConfig, hnv]
@[simp] theorem State.fleetRetry_rest (hnv : m.nv) : s.fleetRetry.rest m = s.rest m := by simp [State.fleetRetry, hnv]
@[simp] theorem State.fleetRenew_rest (hnv : m.nv) : s.fleetRenew.rest m = s.rest m := by simp [State.fleetRenew, hnv]

@[simp] theorem State.fleetRunEnter_rest : s.fleetRunEnter.rest m = s.rest m := by
  unfold State.fleetRunEnter
  (repeat' split) <;> simp

@[simp] theorem State.fleetRelease_rest (old : State) : (s.fleetRelease old).rest m = s.rest m := by simp [State.fleetRelease]
@[simp] theorem State.domainEff_rest (old : State) (hnv : m.nv) : (State.domainEff old s).rest m = s.rest m := by simp [State.domainEff, hnv]
@[simp] theorem State.fleetRequest_rest (r : Req) (o : Octets) (hnv : m.nv) :
    (s.fleetRequest r o).rest m = s.rest m := by simp [State.fleetRequest, hnv]
@[simp] theorem State.fleetWrite_rest (r : Req) (o : Octets) (hnv : m.nv) : (s.fleetWrite r o).rest m = s.rest m := by simp [State.fleetWrite, hnv]

/-! ### Plovivo -/

@[simp] theorem State.modPlv_rest (f : Plovivo → Plovivo) (hplv : m.plv) : (s.modPlv f).rest m = s.rest m := by simp [State.modPlv, hplv]
@[simp] theorem State.modSlot_rest (k : Fin 4) (f : PlvSlot → PlvSlot) (hplv : m.plv) :
    (s.modSlot k f).rest m = s.rest m := by simp [State.modSlot, hplv]
@[simp] theorem State.plvUnmatched_rest (conn : Nat) : (s.plvUnmatched conn).rest m = s.rest m := by simp [State.plvUnmatched]

@[simp] theorem State.plvLost_rest (k : Fin 4) (hisl : m.isl) (hplv : m.plv) : (s.plvLost k).rest m = s.rest m := by
  unfold State.plvLost
  dsimp only
  repeat' split
  · simp only [State.condWatch_rest, State.speedJudge_rest, State.selDrop_rest, hisl]
    rw [State.modIsl_rest m _ _ hisl fun _ => rfl]
    simp [hplv]
  · simp only [State.condWatch_rest, State.speedJudge_rest, hisl]
    rw [State.modIsl_rest m _ _ hisl fun _ => rfl]
    simp [hplv]
  · simp [hplv]
  · rfl

@[simp] theorem State.plvFail_rest (k : Fin 4) (cause : Nat) (hisl : m.isl) (hplv : m.plv) :
    (s.plvFail k cause).rest m = s.rest m := by simp [State.plvFail, hisl, hplv]
@[simp] theorem State.plvAccept_rest (k : Fin 4) (conn : Nat) (o : Octets) (hisl : m.isl) (hplv : m.plv) :
    (s.plvAccept k conn o).1.rest m = s.rest m := by simp [State.plvAccept, apply_ite Prod.fst, hisl, hplv]

@[simp] theorem State.plvReceive_rest {act : Octets → State → State} (h : ∀ p s, (act p s).rest m = s.rest m) (src : PlvFrom) (want : Fin 4)
    (o : Octets) (hisl : m.isl) (hplv : m.plv) : (s.plvReceive src want o act).rest m = s.rest m := by
  unfold State.plvReceive
  dsimp only
  repeat' split
  all_goals simp [h, hisl, hplv]

@[simp] theorem State.newSessions_rest (hplv : m.plv) : s.newSessions.rest m = s.rest m := by simp [State.newSessions, hplv]

@[simp] theorem State.command_rest (p : Octets) (hisl : m.isl) (houts : m.outs) (hdie : m.die) (hplv : m.plv) :
    (State.command p s).rest m = s.rest m := by
  unfold State.command
  (repeat' split) <;> simp [hisl, houts, hdie, hplv]

@[simp] theorem State.sendStatus_rest (k : Fin 4) (hplv : m.plv) : (s.sendStatus k).rest m = s.rest m := by simp [State.sendStatus, hplv]
@[simp] theorem State.statusCycle_rest (k : Fin 4) (differ : Bool) (hisl : m.isl) (houts : m.outs) (hdie : m.die) (hplv : m.plv) :
    (s.statusCycle k differ).rest m = s.rest m := by simp [State.statusCycle, hisl, houts, hdie, hplv]

@[simp] theorem State.withSet_rest (image : Octets) : (s.withSet image).rest m = s.rest m := by
  refine (State.rest_foldl m (fun s p => ?_) _ _).trans ?_
  · repeat' split
    all_goals simp
  · simp

@[simp] theorem State.paramRefuse_rest (reason : Nat) (hplv : m.plv) : (s.paramRefuse reason).rest m = s.rest m := by simp [State.paramRefuse, hplv]
@[simp] theorem State.paramBegin_rest (p : Octets) (hplv : m.plv) : (State.paramBegin p s).rest m = s.rest m := by simp [State.paramBegin, hplv]

@[simp] theorem State.paramData_rest (p : Octets) (hplv : m.plv) : (State.paramData p s).rest m = s.rest m := by
  unfold State.paramData
  dsimp only
  (repeat' split) <;> simp [hplv]

@[simp] theorem State.paramVerify_rest (hplv : m.plv) : s.paramVerify.rest m = s.rest m := by
  unfold State.paramVerify
  dsimp only
  (repeat' split) <;> simp [hplv]

@[simp] theorem State.loadSet_rest (hisl : m.isl) (hplv : m.plv) : s.loadSet.rest m = s.rest m := by
  unfold State.loadSet
  split <;> simp [hisl, hplv]

@[simp] theorem State.paramActivate_rest (p : Octets) (hisl : m.isl) (houts : m.outs) (hdie : m.die) (hnv : m.nv) (hplv : m.plv) :
    (State.paramActivate p s).rest m = s.rest m := by
  unfold State.paramActivate
  (repeat' split) <;> simp [hisl, houts, hdie, hnv, hplv]

@[simp] theorem State.paramPdu_rest {act : Octets → State → State} (h : ∀ p s, (act p s).rest m = s.rest m) (port : PlvFrom) (op : Nat)
    (o : Octets) (hisl : m.isl) (hplv : m.plv) : (s.paramPdu port op o act).rest m = s.rest m := by
  simp [State.paramPdu, h, hisl, hplv]

end Sys2Proof.Machine
end

section
/-! Frames of the operations: publications, Landings, temperatures, updates and services. -/

namespace Sys2Proof.Machine

variable (m : Touch) (s : State)

/-! ### Reads -/

@[simp] theorem State.snapTake_rest (r : Req) (obj : Nat) : (s.snapTake r obj).rest m = s.rest m := by simp [State.snapTake]
@[simp] theorem State.snapDrop_rest (r : Req) (obj : Nat) : (s.snapDrop r obj).rest m = s.rest m := by simp [State.snapDrop]
@[simp] theorem State.readEffect_rest (obj : Nat) : (s.readEffect obj).rest m = s.rest m := by simp [State.readEffect]

@[simp] theorem State.readObj_rest (r : Req) (obj el : Nat) (whole : Bool) (hdma : m.dma) : (s.readObj r obj el whole).rest m = s.rest m := by
  unfold State.readObj
  (repeat' split) <;> simp [hdma]

/-! ### Publications -/

@[simp] theorem State.modTv_rest (f : Torvip → Torvip) : (s.modTv f).rest m = s.rest m := by simp [State.modTv]
@[simp] theorem State.setSub_rest (x : Sub) : (s.setSub x).rest m = s.rest m := by simp [State.setSub]
@[simp] theorem State.publish_rest (x : Sub) : (s.publish x).rest m = s.rest m := by simp [State.publish]

@[simp] theorem State.pubInterval_rest (handle : Nat) : (s.pubInterval handle).rest m = s.rest m := by
  unfold State.pubInterval
  split <;> simp

@[simp] theorem State.pubFrame_rest : s.pubFrame.rest m = s.rest m := by simp [State.pubFrame]
@[simp] theorem State.subLapse_rest (handle : Nat) : (s.subLapse handle).rest m = s.rest m := by simp [State.subLapse]

@[simp] theorem State.subscribe_rest (r : Req) (obj el trig interval life mask : Nat) :
    (s.subscribe r obj el trig interval life mask).rest m = s.rest m := by
  unfold State.subscribe
  refine State.through_rest m s (fun s => ?_) _ _ _
  dsimp only
  repeat' split
  all_goals simp

/-! ### Landings -/

@[simp] theorem State.checkSet_rest (n : Nat) : (s.checkSet n).rest m = s.rest m := by simp [State.checkSet]
@[simp] theorem State.checkSets_rest : s.checkSets.rest m = s.rest m := by simp [State.checkSets]
@[simp] theorem State.lndEffect_rest (old : State) (p : Pend) : (State.lndEffect old s p).rest m = s.rest m := by simp [State.lndEffect]

@[simp] theorem State.applyLnd_rest : s.applyLnd.rest m = s.rest m := by
  unfold State.applyLnd
  simp

@[simp] theorem State.swapBank_rest (q : Fin 4) : (s.swapBank q).rest m = s.rest m := by simp [State.swapBank]
@[simp] theorem State.mcSwitch_rest (q : Fin 4) : (s.mcSwitch q).rest m = s.rest m := by simp [State.mcSwitch]
@[simp] theorem State.mcStay_rest (q : Fin 4) : (s.mcStay q).rest m = s.rest m := by simp [State.mcStay]
@[simp] theorem State.mcApproval_rest (q : Fin 4) (hisl : m.isl) : (s.mcApproval q).rest m = s.rest m := by simp [State.mcApproval, hisl]
@[simp] theorem State.unackedQuad_rest (q : Fin 4) : (s.unackedQuad q).rest m = s.rest m := by simp [State.unackedQuad]
@[simp] theorem State.commitMiddle_rest (skip : Nat) (lnd : Bool) : (s.commitMiddle skip lnd).rest m = s.rest m := by simp [State.commitMiddle]
@[simp] theorem State.windowsLanding_rest : s.windowsLanding.rest m = s.rest m := by simp [State.windowsLanding]
@[simp] theorem State.commitAfter_rest (hisl : m.isl) (hdie : m.die) : s.commitAfter.rest m = s.rest m := by simp [State.commitAfter, hisl, hdie]
@[simp] theorem State.commit5_rest (li : LandingIn) (skip : Nat) (lnd : Bool) (hisl : m.isl) (hdie : m.die) :
    (s.commit5 li skip lnd).rest m = s.rest m := by simp [State.commit5, hisl, hdie]
@[simp] theorem State.drainChan_rest (q : Fin 4) (c : Nat) : (s.drainChan q c).rest m = s.rest m := by simp [State.drainChan]
@[simp] theorem State.drainQuad_rest (q : Fin 4) : (s.drainQuad q).rest m = s.rest m := by simp [State.drainQuad]
@[simp] theorem State.frameCounts_rest : s.frameCounts.rest m = s.rest m := by simp [State.frameCounts]
@[simp] theorem State.endFrame_rest (hisl : m.isl) : s.endFrame.rest m = s.rest m := by simp [State.endFrame, hisl]
@[simp] theorem State.measure_rest (li : LandingIn) : (s.measure li).rest m = s.rest m := by simp [State.measure]
@[simp] theorem State.landStats_rest (dur : Nat) : (s.landStats dur).rest m = s.rest m := by simp [State.landStats]

@[simp] theorem State.step6_rest (counted : Bool) : (s.step6 counted).rest m = s.rest m := by
  unfold State.step6
  dsimp only
  split <;> simp

@[simp] theorem State.landRow_rest (complete : Bool) : (s.landRow complete).rest m = s.rest m := by
  unfold State.landRow
  split <;> simp

@[simp] theorem State.degradedEnd_rest : s.degradedEnd.rest m = s.rest m := by simp [State.degradedEnd]
@[simp] theorem State.enterIdle_rest (st : DevState) (hnv : m.nv) : (s.enterIdle st).rest m = s.rest m := by simp [State.enterIdle, hnv]
@[simp] theorem State.prepareDrive_rest : s.prepareDrive.rest m = s.rest m := by simp [State.prepareDrive]
@[simp] theorem State.stopSettle_rest (hnv : m.nv) : s.stopSettle.rest m = s.rest m := by simp [State.stopSettle, hnv]
@[simp] theorem State.afterLanding_rest (hnv : m.nv) : s.afterLanding.rest m = s.rest m := by simp [State.afterLanding, hnv]
@[simp] theorem State.retime_rest (old : State) : (s.retime old).rest m = s.rest m := by simp [State.retime]
@[simp] theorem State.landingEnd_rest : s.landingEnd.rest m = s.rest m := by simp [State.landingEnd]
@[simp] theorem State.landing_rest (li : LandingIn) (abandon : Bool) (skip : Nat) (hisl : m.isl) (hdie : m.die) (hnv : m.nv) :
    (s.landing li abandon skip).rest m = s.rest m := by simp [State.landing, hisl, hdie, hnv]
@[simp] theorem State.frameEnd_rest (li : LandingIn) (hisl : m.isl) (hdie : m.die) (hnv : m.nv) :
    (s.frameEnd li).rest m = s.rest m := by simp [State.frameEnd, hisl, hdie, hnv]
@[simp] theorem State.landWatchdog_rest (before5 : Bool) (unacked : Nat) (li : LandingIn) (hisl : m.isl) (hdie : m.die) (hnv : m.nv) :
    (s.landWatchdog before5 unacked li).rest m = s.rest m := by simp [State.landWatchdog, hisl, hdie, hnv]
@[simp] theorem State.sharedTimeout_rest (li : LandingIn) (hisl : m.isl) (hdie : m.die) :
    (s.sharedTimeout li).rest m = s.rest m := by simp [State.sharedTimeout, hisl, hdie]
@[simp] theorem State.idle_rest (hisl : m.isl) (hdie : m.die) : s.idle.rest m = s.rest m := by simp [State.idle, hisl, hdie]
@[simp] theorem State.idleLanding_rest (hisl : m.isl) (hdie : m.die) : s.idleLanding.rest m = s.rest m := by simp [State.idleLanding, hisl, hdie]

/-! ### Temperatures -/

@[simp] theorem State.siteRound_rest (counts : List (Option Nat)) (i : Nat) (hsens : m.sens) : (s.siteRound counts i).rest m = s.rest m := by
  unfold State.siteRound
  split <;> simp [hsens]

@[simp] theorem State.quench_rest (valid : List (Nat × Int)) (site : Nat) (tj : Int) (hdie : m.die) (hnv : m.nv) :
    (s.quench valid site tj).rest m = s.rest m := by simp [State.quench, hdie, hnv]
@[simp] theorem State.supplyMeans_rest : s.supplyMeans.rest m = s.rest m := by simp [State.supplyMeans]

@[simp] theorem State.publishRound_rest (valid : List (Nat × Int)) (site : Nat) (tj : Int) : (s.publishRound valid site tj).rest m = s.rest m := by
  unfold State.publishRound
  simp only [State.bump_rest, State.rest_setObj]
  refine State.rest_foldl m (fun s i => ?_) _ s
  split <;> simp

@[simp] theorem State.fewSites_rest (few : Bool) (hsens : m.sens) : (s.fewSites few).rest m = s.rest m := by simp [State.fewSites, hsens]
@[simp] theorem State.levelRound_rest (valid : List (Nat × Int)) (site : Nat) (tj : Int) (hdie : m.die) (hnv : m.nv) (hsens : m.sens) :
    (s.levelRound valid site tj).rest m = s.rest m := by simp [State.levelRound, hdie, hnv, hsens]
@[simp] theorem State.housekeeping_rest (counts : List (Option Nat)) (hdie : m.die) (hnv : m.nv) (hsens : m.sens) :
    (s.housekeeping counts).rest m = s.rest m := by simp [State.housekeeping, hdie, hnv, hsens]

/-! ### The Slip -/

@[simp] theorem State.modPilot_rest (f : Pilot → Pilot) : (s.modPilot f).rest m = s.rest m := by simp [State.modPilot]

@[simp] theorem State.modNv_rest (f : Nv → Nv) (hnv : m.nv) (h : m.mem = false → (f s.nv).nor = s.nv.nor) :
    (s.modNv f).rest m = s.rest m := by
  refine State.rest_mk m s (fun _ => rfl) (fun _ => rfl) (fun _ => rfl) (fun hmem => ?_) (fun _ => rfl) (by simp [hnv]) (fun _ => rfl)
    fun _ => rfl
  rw [h hmem]

@[simp] theorem State.dropService_rest (going : Bool) (n obj : Nat) : (s.dropService going n obj).rest m = s.rest m := by simp [State.dropService]
@[simp] theorem State.dropServices_rest : s.dropServices.rest m = s.rest m := by simp [State.dropServices]
@[simp] theorem State.dropQuadReadmit_rest : s.dropQuadReadmit.rest m = s.rest m := by simp [State.dropQuadReadmit]
@[simp] theorem State.holdReturns_rest : s.holdReturns.rest m = s.rest m := by simp [State.holdReturns]

@[simp] theorem State.extendLeases_rest : s.extendLeases.rest m = s.rest m := by
  unfold State.extendLeases
  split <;> simp

@[simp] theorem State.pilotRestart_rest (cause wait : Nat) : (s.pilotRestart cause wait).rest m = s.rest m := by simp [State.pilotRestart]
@[simp] theorem State.trialEnd_rest (why : Nat) (hnv : m.nv) : (s.trialEnd why).rest m = s.rest m := by simp [State.trialEnd, hnv]
@[simp] theorem State.watchdog_rest (hnv : m.nv) : s.watchdog.rest m = s.rest m := by simp [State.watchdog, hnv]

@[simp] theorem State.restartDone_rest (hnv : m.nv) : s.restartDone.rest m = s.rest m := by
  unfold State.restartDone
  (repeat' split) <;> simp [hnv]

@[simp] theorem State.slipData_rest (o : Octets) (hmem : m.mem) (hnv : m.nv) : (s.slipData o).rest m = s.rest m := by simp [State.slipData, hmem, hnv]
@[simp] theorem State.norClear_rest (a n : Nat) (hmem : m.mem) (hnv : m.nv) :
    (s.norClear a n).rest m = s.rest m := by simp [State.norClear, hmem, hnv]
@[simp] theorem State.norCopy_rest (i : Nat) (hmem : m.mem) (hnv : m.nv) : (s.norCopy i).rest m = s.rest m := by simp [State.norCopy, hmem, hnv]

@[simp] theorem State.slipBegin_rest (c : Nat) (hmem : m.mem) (hnv : m.nv) : (s.slipBegin c).rest m = s.rest m := by
  unfold State.slipBegin
  split <;> simp [hmem, hnv]

@[simp] theorem State.slipDone_rest (hmem : m.mem) (hnv : m.nv) : s.slipDone.rest m = s.rest m := by
  unfold State.slipDone
  (repeat' split) <;> simp [hmem, hnv]

@[simp] theorem State.slipCmd_rest (r : Req) (c : Nat) (hmem : m.mem) (hnv : m.nv) :
    (s.slipCmd r c).rest m = s.rest m := by simp [State.slipCmd, hmem, hnv]

@[simp] theorem State.trialExpiry_rest (hnv : m.nv) : s.trialExpiry.rest m = s.rest m := by
  unfold State.trialExpiry
  split <;> simp [hnv]

@[simp] theorem State.trialTimeout_rest (hnv : m.nv) : s.trialTimeout.rest m = s.rest m := by
  unfold State.trialTimeout
  split <;> simp [hnv]

@[simp] theorem State.mcLoad_rest (mask : Nat) : (s.mcLoad mask).rest m = s.rest m := by simp [State.mcLoad]
@[simp] theorem State.mcRefused_rest (q : Req) (e : Entry) (ab : Nat) : (s.mcRefused q e ab).rest m = s.rest m := by simp [State.mcRefused]
@[simp] theorem State.mcLoadWrite_rest (q : Req) (e : Entry) : (s.mcLoadWrite q e).rest m = s.rest m := by simp [State.mcLoadWrite]

/-! ### Services -/

@[simp] theorem State.tellEvent_rest (e : EvRec) : (s.tellEvent e).rest m = s.rest m := by simp [State.tellEvent]

@[simp] theorem State.logCommit_rest (hnv : m.nv) : s.logCommit.rest m = s.rest m := by
  unfold State.logCommit
  (repeat' split) <;> simp [hnv]

@[simp] theorem State.logFlush_rest (hnv : m.nv) : s.logFlush.rest m = s.rest m := by simp [State.logFlush, hnv]
@[simp] theorem State.domOffBegin_rest (d : Nat) (hdma : m.dma) : (s.domOffBegin d).rest m = s.rest m := by simp [State.domOffBegin, hdma]

@[simp] theorem State.domOn_rest (d : Nat) : (s.domOn d).rest m = s.rest m := by
  unfold State.domOn
  (repeat' split) <;> simp

@[simp] theorem State.baselineBegin_rest : s.baselineBegin.rest m = s.rest m := by simp [State.baselineBegin]

@[simp] theorem State.baselineDone_rest : s.baselineDone.rest m = s.rest m := by
  unfold State.baselineDone
  split <;> simp

@[simp] theorem State.reportBegin_rest : s.reportBegin.rest m = s.rest m := by simp [State.reportBegin]

@[simp] theorem State.reportDone_rest : s.reportDone.rest m = s.rest m := by
  unfold State.reportDone
  split <;> simp

@[simp] theorem State.campaignBegin_rest (mask : Nat) : (s.campaignBegin mask).rest m = s.rest m := by simp [State.campaignBegin]

@[simp] theorem State.campaignEnd_rest : s.campaignEnd.rest m = s.rest m := by
  unfold State.campaignEnd
  split <;> simp

@[simp] theorem State.loopsBack_rest : s.loopsBack.rest m = s.rest m := by simp [State.loopsBack]
@[simp] theorem State.quenchLeave_rest (hnv : m.nv) : s.quenchLeave.rest m = s.rest m := by simp [State.quenchLeave, hnv]

end Sys2Proof.Machine
end

section
/-! Frames of the operations: writes, the store, the lifecycle and requests. -/

namespace Sys2Proof.Machine

variable (m : Touch) (s : State)

/-! ### Writes -/

@[simp] theorem State.setEff15_rest (old : State) (e : Entry) (w : List (Nat × Int)) (hdma : m.dma) (hmem : m.mem) (hnv : m.nv) :
    (State.setEff15 old s e w).rest m = s.rest m := by
  unfold State.setEff15
  split <;> simp [hdma, hmem, hnv]

@[simp] theorem State.setEff6A_rest (old : State) (e : Entry) (w : List (Nat × Int)) (hdma : m.dma) :
    (State.setEff6A old s e w).rest m = s.rest m := by
  unfold State.setEff6A
  split <;> simp [hdma]

@[simp] theorem State.settingEff_rest (old : State) (e : Entry) (w : List (Nat × Int)) (hdma : m.dma) (hmem : m.mem) (hnv : m.nv) :
    (State.settingEff old s e w).rest m = s.rest m := by simp [State.settingEff, hdma, hmem, hnv]

@[simp] theorem State.cmdEff15_rest (q : Req) (e : Entry) (hdma : m.dma) (hmem : m.mem) (hnv : m.nv) : (s.cmdEff15 q e).rest m = s.rest m := by
  unfold State.cmdEff15
  split <;> simp [hdma, hmem, hnv]

@[simp] theorem State.cmdEff6A_rest (e : Entry) (hdma : m.dma) (hmem : m.mem) (hnv : m.nv) : (s.cmdEff6A e).rest m = s.rest m := by
  unfold State.cmdEff6A
  dsimp only
  (repeat' split) <;> simp [hdma, hmem, hnv]

/-! ### The configuration store -/

@[simp] theorem State.setCopy_rest (n : Nat) (c : Copy) (hnv : m.nv) : (s.setCopy n c).rest m = s.rest m := by
  unfold State.setCopy
  split <;> simp [hnv]

@[simp] theorem State.saveEnd_rest (hnv : m.nv) : s.saveEnd.rest m = s.rest m := by
  unfold State.saveEnd
  split <;> simp [hnv]

@[simp] theorem State.saveDue_rest (hnv : m.nv) : s.saveDue.rest m = s.rest m := by
  unfold State.saveDue
  split <;> simp [hnv]

@[simp] theorem State.saveBegin_rest (readBack : Bool) (hnv : m.nv) : (s.saveBegin readBack).rest m = s.rest m := by simp [State.saveBegin, hnv]
@[simp] theorem State.saveWrite_rest (q : Req) (e : Entry) (readBack : Bool) (hnv : m.nv) :
    (s.saveWrite q e readBack).rest m = s.rest m := by simp [State.saveWrite, hnv]
@[simp] theorem State.storeErase_rest (hnv : m.nv) : s.storeErase.rest m = s.rest m := by simp [State.storeErase, hnv]
@[simp] theorem State.defaulted_rest (n : Nat) : (s.defaulted n).rest m = s.rest m := by simp [State.defaulted]

@[simp] theorem State.restoreObj_rest (d : AMap Int) (obj : Nat) : (s.restoreObj d obj).rest m = s.rest m := by
  unfold State.restoreObj
  dsimp only
  repeat' split
  all_goals simp

@[simp] theorem State.setDefaults_rest (l : List (Nat × Nat)) : (s.setDefaults l).rest m = s.rest m := by simp [State.setDefaults]

@[simp] theorem State.restoreSettings_rest (c : Settings) (hdma : m.dma) (hmem : m.mem) : (s.restoreSettings c).rest m = s.rest m := by
  unfold State.restoreSettings
  extract_lets s0 ana s1 s2 s3 dma s4 s5 s6
  have h0 : s0.rest m = s.rest m := State.rest_foldl m (fun u q => by split <;> simp) _ s
  have h1 : s1.rest m = s0.rest m := by simp [s1]
  have h2 : s2.rest m = s1.rest m := by simp [s2]
  have h3 : s3.rest m = s2.rest m := by simp [s3]
  have h4 : s4.rest m = s3.rest m := by
    simp only [s4]
    split <;> simp [hdma, hmem]
  have h6 : s6.rest m = s4.rest m := by simp [s6, s5]
  rw [State.rest_forQuads m fun u q => by simp, h6, h4, h3, h2, h1, h0]

@[simp] theorem State.restoreFlag_rest (obj : Nat) (x : Nat × Int) : (s.restoreFlag obj x).rest m = s.rest m := by simp [State.restoreFlag]
@[simp] theorem State.restoreFlags_rest (c : Settings) : (s.restoreFlags c).rest m = s.rest m := by simp [State.restoreFlags]
@[simp] theorem State.flagsDown_rest : s.flagsDown.rest m = s.rest m := by simp [State.flagsDown]
@[simp] theorem State.flagsDefault_rest : s.flagsDefault.rest m = s.rest m := by simp [State.flagsDefault]
@[simp] theorem State.applyStore_rest (hdma : m.dma) (hmem : m.mem) : s.applyStore.rest m = s.rest m := by simp [State.applyStore, hdma, hmem]

/-! ### The lifecycle -/

@[simp] theorem State.fuseCut_rest (hnv : m.nv) : s.fuseCut.rest m = s.rest m := by
  unfold State.fuseCut
  split <;> simp [hnv]

@[simp] theorem State.powerUp_rest (hisl : m.isl) (houts : m.outs) (hdma : m.dma) (hmem : m.mem) (hdie : m.die) (hplv : m.plv) (hsens : m.sens) :
    s.powerUp.rest m = s.rest m := by
  simp [State.rest, State.powerUp, untouched, hisl, houts, hdma, hmem, hdie, hplv, hsens]

@[simp] theorem State.powerLost_rest (hisl : m.isl) (houts : m.outs) (hdma : m.dma) (hmem : m.mem) (hdie : m.die) (hnv : m.nv) (hplv : m.plv)
    (hsens : m.sens) : s.powerLost.rest m = s.rest m := by
  simp [State.powerLost, hisl, houts, hdma, hmem, hdie, hnv, hplv, hsens]

@[simp] theorem State.xoCheck_rest (good : Bool) : (s.xoCheck good).rest m = s.rest m := by simp [State.xoCheck]

@[simp] theorem State.porRelease_rest (good : Bool) (hisl : m.isl) (houts : m.outs) (hdma : m.dma) (hmem : m.mem) (hdie : m.die) (hplv : m.plv)
    (hsens : m.sens) : (s.porRelease good).rest m = s.rest m := by
  unfold State.porRelease
  split <;> simp [hisl, houts, hdma, hmem, hdie, hplv, hsens]

@[simp] theorem State.xoRetry_rest (good : Bool) : (s.xoRetry good).rest m = s.rest m := by simp [State.xoRetry]

@[simp] theorem State.bootDone_rest (hdie : m.die) (hnv : m.nv) : s.bootDone.rest m = s.rest m := by
  have hgoes (u : State) (life : Life) (die : Die) : ({ u with life := life, die := die } : State).rest m = u.rest m := by simp [hdie]
  have htold (i : Nat) : (if i != s.nv.preferred then (s.modPilot fun p => { p with slot := i }).evt 0x6B07 i
      else s.modPilot fun p => { p with slot := i }).rest m = s.rest m := by
    split <;> simp
  unfold State.bootDone
  split
  · rfl
  · split
    · simp
    · next i _ =>
      have hend (b : Prop) [Decidable b] (u : State) : (if b then u.trialEnd 3 else u).rest m = u.rest m := by split <;> simp [hnv]
      dsimp only
      split
      · rw [State.goto_rest, hgoes, hend, htold]
      · rw [hgoes, hend, htold]

@[simp] theorem State.quadSelectors_rest (q : Fin 4) : (s.quadSelectors q).rest m = s.rest m := by simp [State.quadSelectors]
@[simp] theorem State.runEnter_rest (hisl : m.isl) (hdie : m.die) : s.runEnter.rest m = s.rest m := by simp [State.runEnter, hisl, hdie]
@[simp] theorem State.autoTry_rest (hisl : m.isl) (hdie : m.die) : s.autoTry.rest m = s.rest m := by simp [State.autoTry, hisl, hdie]
@[simp] theorem State.finding_rest (item unit : Nat) : (s.finding item unit).rest m = s.rest m := by simp [State.finding]
@[simp] theorem State.testBlock_rest (q : Fin 4) : (s.testBlock q).rest m = s.rest m := by simp [State.testBlock]
@[simp] theorem State.testChan_rest (item cause ch : Nat) : (s.testChan item cause ch).rest m = s.rest m := by simp [State.testChan]
@[simp] theorem State.testChans_rest (cal inj : List Nat) : (s.testChans cal inj).rest m = s.rest m := by simp [State.testChans]
@[simp] theorem State.testSites_rest (l : List Nat) (hsens : m.sens) : (s.testSites l).rest m = s.rest m := by simp [State.testSites, hsens]
@[simp] theorem State.converters_rest : s.converters.rest m = s.rest m := by simp [State.converters]
@[simp] theorem State.selfFindings_rest (r : SelfTestIn) (hdma : m.dma) (hsens : m.sens) :
    (s.selfFindings r).rest m = s.rest m := by simp [State.selfFindings, hdma, hsens]

@[simp] theorem State.functionsStart_rest (hdma : m.dma) (hmem : m.mem) (hnv : m.nv) (hplv : m.plv) : s.functionsStart.rest m = s.rest m := by
  unfold State.functionsStart
  extract_lets want words s0 s1 s2 s3 s4 s5 s6 steer s7 s8 s9
  have h1 : s1.rest m = s.rest m := by simp [s1, s0, hdma]
  have h3 : s3.rest m = s1.rest m := by simp [s3, s2]
  have h4 : s4.rest m = s3.rest m := by simp [s4]
  have h6 : s6.rest m = s4.rest m := by simp [s6, s5]
  have h7 : s7.rest m = s6.rest m := by simp [s7]
  have h8 : s8.rest m = s7.rest m := by simp [s8]
  have h9 : s9.rest m = s8.rest m := by simp [s9, hdma, hmem]
  rw [State.newSessions_rest m _ hplv, State.fleetStart_rest m _ hnv, h9, h8, h7, h6, h4, h3, h1]

@[simp] theorem State.selfTestDone_rest (r : SelfTestIn) (hisl : m.isl) (hdma : m.dma) (hmem : m.mem) (hdie : m.die) (hnv : m.nv) (hplv : m.plv)
    (hsens : m.sens) :
    (s.selfTestDone r).rest m = s.rest m := by simp [State.selfTestDone, hisl, hdma, hmem, hdie, hnv, hplv, hsens]
@[simp] theorem State.stopFrames_rest (hnv : m.nv) : s.stopFrames.rest m = s.rest m := by simp [State.stopFrames, hnv]
@[simp] theorem State.prepareBegin_rest (hnv : m.nv) : s.prepareBegin.rest m = s.rest m := by simp [State.prepareBegin, hnv]

@[simp] theorem State.runStateEff_rest (a : Nat) (hisl : m.isl) (hdie : m.die) (hnv : m.nv) : (s.runStateEff a).rest m = s.rest m := by
  unfold State.runStateEff
  split <;> simp [hisl, hdie, hnv]

@[simp] theorem State.runState_rest (q : Req) (e : Entry) (hisl : m.isl) (hdie : m.die) (hnv : m.nv) :
    (s.runState q e).rest m = s.rest m := by simp [State.runState, hisl, hdie, hnv]
@[simp] theorem State.prepareFinish_rest (hdie : m.die) (hnv : m.nv) : s.prepareFinish.rest m = s.rest m := by simp [State.prepareFinish, hdie, hnv]

@[simp] theorem State.prepareStep_rest (hdie : m.die) (hnv : m.nv) : s.prepareStep.rest m = s.rest m := by
  unfold State.prepareStep
  (repeat' split) <;> simp [hdie, hnv]

/-! ### Requests by object -/

@[simp] theorem State.leaseLapse_rest (area : Nat) : (s.leaseLapse area).rest m = s.rest m := by
  unfold State.leaseLapse
  split <;> simp

@[simp] theorem State.leaseApply_rest (r : Req) (area op timeout : Nat) :
    (s.leaseApply r area op timeout).rest m = s.rest m := by simp [State.leaseApply]
@[simp] theorem State.lease_rest (r : Req) (area op timeout : Nat) : (s.lease r area op timeout).rest m = s.rest m := by simp [State.lease]
@[simp] theorem State.saveAny_rest (hnv : m.nv) : s.saveAny.rest m = s.rest m := by simp [State.saveAny, hnv]
@[simp] theorem State.discardSet_rest (n : Nat) : (s.discardSet n).rest m = s.rest m := by simp [State.discardSet]

@[simp] theorem State.ownEff_rest (old : State) (q : Req) (e : Entry) (hisl : m.isl) (hdma : m.dma) (hmem : m.mem) (hdie : m.die) (hnv : m.nv) :
    (State.ownEff old s q e).rest m = s.rest m := by
  unfold State.ownEff
  (repeat' split) <;> simp [hisl, hdma, hmem, hdie, hnv]

@[simp] theorem State.domWrite_rest (q : Req) (e : Entry) (hisl : m.isl) (hdma : m.dma) (hmem : m.mem) (hdie : m.die) (hnv : m.nv) :
    (s.domWrite q e).rest m = s.rest m := by simp [State.domWrite, hisl, hdma, hmem, hdie, hnv]

@[simp] theorem State.writeAny_rest (q : Req) (e : Entry) (hisl : m.isl) (hdma : m.dma) (hmem : m.mem) (hdie : m.die) (hnv : m.nv) :
    (s.writeAny q e).rest m = s.rest m := by
  unfold State.writeAny
  split <;> simp [hisl, hdma, hmem, hdie, hnv]

@[simp] theorem State.transaction_rest (q : Req) (es : List Entry) (hisl : m.isl) (hdma : m.dma) (hmem : m.mem) (hdie : m.die) (hnv : m.nv) :
    (s.transaction q es).rest m = s.rest m := by
  unfold State.transaction
  refine State.through_rest m s (fun s => ?_) _ _ _
  dsimp only
  repeat' split
  all_goals simp [hisl, hdma, hmem, hdie, hnv]

@[simp] theorem State.tooLong_rest (q : Req) : (s.tooLong q).rest m = s.rest m := by simp [State.tooLong]
@[simp] theorem State.malformed_rest (q : Req) (kind : Nat) : (s.malformed q kind).rest m = s.rest m := by simp [State.malformed]

@[simp] theorem State.request_rest (q : Req) (kind : Nat) (o : Octets) (hisl : m.isl) (hdma : m.dma) (hmem : m.mem) (hdie : m.die) (hnv : m.nv) :
    (s.request q kind o).rest m = s.rest m := by
  unfold State.request
  (repeat' split) <;> simp [hisl, hdma, hmem, hdie, hnv]

@[simp] theorem State.headerMessage_rest (q : Req) (o : Octets) (hisl : m.isl) (hdma : m.dma) (hmem : m.mem) (hdie : m.die) (hnv : m.nv) :
    (s.headerMessage q o).rest m = s.rest m := by simp [State.headerMessage, hisl, hdma, hmem, hdie, hnv]
@[simp] theorem State.canMessage_rest (port : Nat) (o : Octets) (hisl : m.isl) (hdma : m.dma) (hmem : m.mem) (hdie : m.die) (hnv : m.nv) :
    (s.canMessage port o).rest m = s.rest m := by simp [State.canMessage, hisl, hdma, hmem, hdie, hnv]
@[simp] theorem State.badMessage_rest (port src : Nat) (o : Octets) (hisl : m.isl) (hdma : m.dma) (hmem : m.mem) (hdie : m.die) (hnv : m.nv) :
    (s.badMessage port src o).rest m = s.rest m := by simp [State.badMessage, hisl, hdma, hmem, hdie, hnv]
@[simp] theorem State.sideFrame_rest (l : Fin 2) (f : Octets) (hisl : m.isl) (hdma : m.dma) (hmem : m.mem) (hdie : m.die) (hnv : m.nv) :
    (s.sideFrame l f).rest m = s.rest m := by simp [State.sideFrame, hisl, hdma, hmem, hdie, hnv]

@[simp] theorem State.sideFrames_rest (l : Fin 2) (n : Nat) (hisl : m.isl) (hdma : m.dma) (hmem : m.mem) (hdie : m.die) (hnv : m.nv) :
    (State.sideFrames l n s).rest m = s.rest m := by
  fun_induction State.sideFrames l n s <;> simp_all

@[simp] theorem State.answerOnce_rest (q : Req) (kind abort : Nat) : (s.answerOnce q kind abort).rest m = s.rest m := by simp [State.answerOnce]
@[simp] theorem State.canFault_rest (x : CanXfer) : (s.canFault x).rest m = s.rest m := by simp [State.canFault]
@[simp] theorem State.canTake_rest (x : CanXfer) (data : Octets) (hisl : m.isl) (hdma : m.dma) (hmem : m.mem) (hdie : m.die) (hnv : m.nv) :
    (s.canTake x data).rest m = s.rest m := by simp [State.canTake, hisl, hdma, hmem, hdie, hnv]

@[simp] theorem State.canSegment_rest (port master kind tag idx total : Nat) (data : Octets) (hisl : m.isl) (hdma : m.dma) (hmem : m.mem)
    (hdie : m.die) (hnv : m.nv) :
    (s.canSegment port master kind tag idx total data).rest m = s.rest m := by
  unfold State.canSegment
  (repeat' split) <;> simp [hisl, hdma, hmem, hdie, hnv]

@[simp] theorem State.canTimeout_rest (port master : Nat) : (s.canTimeout port master).rest m = s.rest m := by
  unfold State.canTimeout
  split <;> simp

@[simp] theorem State.neighbour_rest (mac : Fin 2) (v6 : Bool) (target : Octets) :
    (s.neighbour mac v6 target).rest m = s.rest m := by simp [State.neighbour]

@[simp] theorem State.runningAnswer_rest (port master txn : Nat) : (s.runningAnswer port master txn).rest m = s.rest m := by
  unfold State.runningAnswer
  split <;> simp

end Sys2Proof.Machine
end

section
/-! Frames of the commands, and the queue of commands that they leave alone (95). -/

namespace Sys2Proof.Machine

variable (m : Touch) (s : State)

/-! ### Blocks of the back lane that acknowledge nothing (R304) -/

theorem backDecode_idleBlock : backDecode (oct [0x1E, 0, 0, 0, 0, 0, 0, 0]) = some .idle := by decide

theorem backDecode_laneBlock (i : Fin 4) (c : LaneCmd) : backDecode (laneBlock i c) = some (.lane i c) := by
  cases c with
  | lock => revert i; decide
  | adjust tap up => revert i tap up; decide
  | done => revert i; decide
  | retrain => revert i; decide

theorem backDecode_statusBlock (lost : Bool) (errs : List Nat) : ∃ b e, backDecode (statusBlock lost errs) = some (.status b e) :=
  ⟨_, _, rfl⟩

theorem State.backReceive_decoded {l : Fin 2} {ref : Bool} {o : Octets} {b : BackBlock} (h : backDecode o = some b) :
    s.backReceive l ref o = s.backBlock l fun s => s.backAct l ref b := by
  unfold State.backReceive
  rw [h]

theorem State.laneBlock_rest (l : Fin 2) (i : Fin 4) (c : LaneCmd) : (s.backReceive l false (laneBlock i c)).rest m = s.rest m := by
  rw [State.backReceive_decoded s (backDecode_laneBlock i c)]
  simp [State.backAct]

/-! ### Tables -/

/-- The commands that may change the state, the outputs or the enable lanes of the island (R328). -/
def touchesOuts : Instr → Bool
  | .flitAckTimeout .. | .flitReceived .. | .dieLinkSilence .. | .enableLaneStopped .. | .anchorOnCommand .. | .safetyTapWatchdog ..
  | .verdictWatchdog .. | .verdict .. | .frameMissingTimeout .. | .testPulse .. | .safeInputDebounced .. | .safeInputDiscrepancy ..
  | .speedDiscrepancyTimeout .. | .stoppingCheck .. | .restartDelayExpiry .. | .outputSwitchTest .. | .outputReadbackTimeout ..
  | .outputCurrentLimit .. | .startUpOutputTest .. | .safetySupplyFault .. | .vddHvUndervoltage .. | .commandPdu .. | .paramActivate ..
  | .statusPduCycle .. | .powerOnResetRelease .. | .powerOnResetAssert .. | .evaluatorsBooted .. => true
  | _ => false

/-- The commands that may change an addressed memory (R286, R394). -/
def touchesMem : Instr → Bool
  | .write .. | .multiObjectTransaction .. | .torvipMalformedMessage .. | .canSegment .. | .descriptorWrite .. | .dmaChannelStart ..
  | .dmaChannelDisable .. | .dmaBurst .. | .xspiReadTimeout .. | .dmaBufferWrite .. | .backLaneSide .. | .slipDataWrite .. | .slipErase ..
  | .slipVerify .. | .slipInstall .. | .slipActivate .. | .slipConfirm .. | .slipRevert .. | .slipRestart .. | .slipCommandComplete ..
  | .powerOnResetRelease .. | .selftestComplete .. | .powerOnResetAssert .. => true
  | _ => false

/-- A command may change the parts of `m` that its tables list. -/
structure Allows (m : Touch) (c : Instr) : Prop where
  isl : touchesIsland c = true → m.isl = true
  outs : touchesOuts c = true → m.outs = true
  dma : touchesDma c = true → m.dma = true
  mem : touchesMem c = true → m.mem = true
  die : touchesDie c = true → m.die = true
  nv : touchesNv c = true → m.nv = true
  plv : touchesPlovivo c = true → m.plv = true
  sens : touchesSensors c = true → m.sens = true

/-! ### Commands -/

/-- Every command answers a next state, and changes no part that its tables do not list. -/
theorem exec_rest {c : Instr} (h : Allows m c) : ∃ t, exec c s = .next t ∧ t.rest m = s.rest m := by
  cases c
  case speedEncoderEdge chB =>
    refine ⟨_, rfl, State.modIsl_rest m s _ (h.isl rfl) fun _ => ?_⟩
    cases chB <;> rfl
  case verdictWatchdog e =>
    refine ⟨_, rfl, ?_⟩
    split <;> simp [h.isl rfl, h.outs rfl, h.die rfl]
  case restartDelayExpiry =>
    refine ⟨_, rfl, ?_⟩
    split <;> simp [h.isl rfl, h.outs rfl, h.die rfl]
  case fleetIndexExpiry i =>
    refine ⟨_, rfl, ?_⟩
    split <;> simp [h.nv rfl]
  case laneLock l i => exact ⟨_, rfl, State.laneBlock_rest m s l i .lock⟩
  case laneAdjust l i tap up => exact ⟨_, rfl, State.laneBlock_rest m s l i (.adjust tap up)⟩
  case laneDone l i => exact ⟨_, rfl, State.laneBlock_rest m s l i .done⟩
  case laneRetrain l i => exact ⟨_, rfl, State.laneBlock_rest m s l i .retrain⟩
  case backLaneStatus l lost ref errs =>
    obtain ⟨lost', errs', hb⟩ := backDecode_statusBlock lost errs
    refine ⟨_, rfl, ?_⟩
    rw [State.backReceive_decoded s hb]
    simp [State.backAct]
  case backLaneIdle l =>
    refine ⟨_, rfl, ?_⟩
    rw [State.backReceive_decoded s backDecode_idleBlock]
    simp [State.backAct]
  case converterCalibrationDue q conv =>
    refine ⟨_, rfl, ?_⟩
    split <;> simp only [State.calDue_rest, State.pairDue_rest]
  case converterCalibrationDone q conv hist refs lost =>
    refine ⟨_, rfl, ?_⟩
    split
    · rw [State.campaignEnd_rest, State.calDone_rest]
    · rw [State.pairDone_rest]
  case peakSearchDone q cell c =>
    refine ⟨_, rfl, ?_⟩
    split <;> simp
  case busRecalibrationTimer =>
    refine ⟨_, rfl, ?_⟩
    split <;> simp
  case flitRetryRateSecond | vddHvRestored =>
    exact ⟨_, rfl, by simp [h.die rfl]⟩
  case read | segmentSelect | segmentLockExpiry | segmentRelease | captureClear | dmaReservationTimeout | dmaHoldLimit |
    completionQueueRead | linkStop | backLaneAck | backLaneNak | powerDomainOff =>
    exact ⟨_, rfl, by simp [h.dma rfl]⟩
  case selectionInvalidTimeout | contaminationJudgement | resetPairLongPress | speedUpdate | safeInputEdge =>
    exact ⟨_, rfl, by simp [h.isl rfl]⟩
  case quadrantContextWatchdog | laneTakeUp | decompositionDone | fleetJoin | fleetRenew | fleetRelease | fleetGrant | fleetJoinRetry |
    fleetRenewTimer | fleetDomainWrite | pilotWatchdog | pilotRestartComplete | quenchRestart | eventLogCommit | save | storeErase |
    trialWindowExpiry | trialStartTimeout | integratorKeyWrite =>
    exact ⟨_, rfl, by simp [h.nv rfl]⟩
  case hostfsSessionTimer =>
    exact ⟨_, rfl, by simp [h.plv rfl]⟩
  case controlPeriod | bootComplete =>
    exact ⟨_, rfl, by simp [h.die rfl, h.nv rfl]⟩
  case descriptorWrite | dmaChannelStart | dmaChannelDisable | dmaBurst | xspiReadTimeout | dmaBufferWrite =>
    exact ⟨_, rfl, by simp [h.dma rfl, h.mem rfl]⟩
  case sharedCommitTimeout | idleLanding | autoRunRetry =>
    exact ⟨_, rfl, by simp [h.isl rfl, h.die rfl]⟩
  case paramBegin | paramData | paramVerify | paramAbandon | plovivoWatchdog =>
    exact ⟨_, rfl, by simp [h.isl rfl, h.plv rfl]⟩
  case slipDataWrite | slipErase | slipVerify | slipInstall | slipActivate | slipConfirm | slipRevert | slipRestart | slipCommandComplete =>
    exact ⟨_, rfl, by simp [h.mem rfl, h.nv rfl]⟩
  case housekeepingRound =>
    exact ⟨_, rfl, by simp [h.die rfl, h.nv rfl, h.sens rfl]⟩
  case landingWatchdog | frameEnd | runCommand | stopCommand | serviceCommand | preparePowerRemoval =>
    exact ⟨_, rfl, by simp [h.isl rfl, h.die rfl, h.nv rfl]⟩
  case flitAckTimeout | flitReceived | dieLinkSilence | enableLaneStopped | anchorOnCommand | safetyTapWatchdog | verdict |
    frameMissingTimeout | testPulse | safeInputDebounced | safeInputDiscrepancy | speedDiscrepancyTimeout | stoppingCheck |
    outputSwitchTest | outputReadbackTimeout | outputCurrentLimit | startUpOutputTest | safetySupplyFault | vddHvUndervoltage =>
    exact ⟨_, rfl, by simp [h.isl rfl, h.outs rfl, h.die rfl]⟩
  case commandPdu | statusPduCycle | evaluatorsBooted =>
    exact ⟨_, rfl, by simp [h.isl rfl, h.outs rfl, h.die rfl, h.plv rfl]⟩
  case write | multiObjectTransaction | torvipMalformedMessage | canSegment | backLaneSide =>
    exact ⟨_, rfl, by simp [h.isl rfl, h.dma rfl, h.mem rfl, h.die rfl, h.nv rfl]⟩
  case paramActivate =>
    exact ⟨_, rfl, by simp [h.isl rfl, h.outs rfl, h.die rfl, h.nv rfl, h.plv rfl]⟩
  case selftestComplete =>
    exact ⟨_, rfl, by simp [h.isl rfl, h.dma rfl, h.mem rfl, h.die rfl, h.nv rfl, h.plv rfl, h.sens rfl]⟩
  case powerOnResetRelease =>
    exact ⟨_, rfl, by simp [h.isl rfl, h.outs rfl, h.dma rfl, h.mem rfl, h.die rfl, h.plv rfl, h.sens rfl]⟩
  case powerOnResetAssert =>
    exact ⟨_, rfl, by simp [h.isl rfl, h.outs rfl, h.dma rfl, h.mem rfl, h.die rfl, h.nv rfl, h.plv rfl, h.sens rfl]⟩
  all_goals exact ⟨_, rfl, by simp⟩

variable {m s}

/-- What a command answers is known by its frame. -/
theorem rest_of_exec {c : Instr} {t : State} (h : Allows m c) (hexec : exec c s = .next t) : t.rest m = s.rest m := by
  obtain ⟨u, hu, hrest⟩ := exec_rest m s h
  cases hu.symm.trans hexec
  exact hrest

section
variable {t : State} (h : t.rest m = s.rest m)
include h

theorem State.now_of_rest : t.now = s.now := congrArg Rest.now h
theorem State.pending_of_rest : t.pending = s.pending := congrArg Rest.pending h
theorem State.isl_of_rest (hm : m.isl = false) : t.isl = s.isl := untouched_inj.1 (congrArg Rest.isl h) hm
theorem State.outs_of_rest (hm : m.outs = false) : t.isl.outs = s.isl.outs := untouched_inj.1 (congrArg Rest.outs h) hm
theorem State.dma_of_rest (hm : m.dma = false) : t.dma = s.dma := untouched_inj.1 (congrArg Rest.dma h) hm
theorem State.mems_of_rest (hm : m.mem = false) : mems t.dma t.nv = mems s.dma s.nv := untouched_inj.1 (congrArg Rest.mem h) hm
theorem State.die_of_rest (hm : m.die = false) : t.die = s.die := untouched_inj.1 (congrArg Rest.die h) hm
theorem State.nv_of_rest (hm : m.nv = false) : t.nv = s.nv := untouched_inj.1 (congrArg Rest.nv h) hm
theorem State.plv_of_rest (hm : m.plv = false) : t.plv = s.plv := untouched_inj.1 (congrArg Rest.plv h) hm
theorem State.sens_of_rest (hm : m.sens = false) : t.sens = s.sens := untouched_inj.1 (congrArg Rest.sens h) hm

end

/-- The parts that the tables of a command list. -/
def touched (c : Instr) : Touch :=
  ⟨touchesIsland c, touchesOuts c, touchesDma c, touchesMem c, touchesDie c, touchesNv c, touchesPlovivo c, touchesSensors c⟩

theorem allows_touched (c : Instr) : Allows (touched c) c := ⟨id, id, id, id, id, id, id, id⟩

/-! ### The obligations -/

/-- Settles O1: the queue is not empty. -/
theorem stepRunsFront : Obligations.StepRunsFront := by
  unfold Obligations.StepRunsFront
  intro c cs s
  rfl

/-- Settles O58, by the frame of the command with every part of the state touched. -/
theorem queueAndClockKept : Obligations.QueueAndClockKept := by
  unfold Obligations.QueueAndClockKept
  intro c s
  obtain ⟨t, hexec, hrest⟩ := exec_rest (touched c) s (allows_touched c)
  exact ⟨t, hexec, State.pending_of_rest hrest, State.now_of_rest hrest⟩

/-- Settles O60, by the frame of the command. -/
theorem commandsKeepParts : Obligations.CommandsKeepParts := by
  unfold Obligations.CommandsKeepParts
  intro c s t hexec
  have hrest := rest_of_exec (allows_touched c) hexec
  exact ⟨State.isl_of_rest hrest, State.dma_of_rest hrest, State.die_of_rest hrest, State.nv_of_rest hrest, State.plv_of_rest hrest,
    State.sens_of_rest hrest⟩

end Sys2Proof.Machine
end

section
/-! The safe outputs (R21, R328): every operation that touches the state, the outputs or the lanes of the island leaves the outputs off, or
on in ENABLED and STOPPING alone; the other operations leave them as they were. -/

namespace Sys2Proof.Machine

variable {s : State}

/-! ### What safe outputs are -/

/-- Both outputs are off, and no enable lane toggles. -/
def State.dark (s : State) : Prop := s.isl.outA = false ∧ s.isl.outB = false ∧ s.isl.lanes = 0

theorem State.outputsSafe_iff : s.outputsSafe = true ↔ s.dark ∨ s.isl.st = .enabled ∨ s.isl.st = .stopping := by
  simp [State.outputsSafe, State.dark, and_assoc, or_assoc]

theorem State.dark.outputsSafe (h : s.dark) : s.outputsSafe = true := State.outputsSafe_iff.2 (.inl h)

/-- Safe outputs are off in every other state. -/
theorem State.dark_of_outputsSafe (h : s.outputsSafe = true) (he : s.isl.st ≠ .enabled) (hs : s.isl.st ≠ .stopping) : s.dark := by
  simpa [he, hs] using State.outputsSafe_iff.1 h

theorem State.outputsSafe_congr {t : State} (h : t.isl.outs = s.isl.outs) : t.outputsSafe = s.outputsSafe := by
  obtain ⟨hst, hA, hB, hlanes⟩ : t.isl.st = s.isl.st ∧ t.isl.outA = s.isl.outA ∧ t.isl.outB = s.isl.outB ∧ t.isl.lanes = s.isl.lanes := by
    simpa [Island.outs] using h
  simp only [State.outputsSafe, hst, hA, hB, hlanes]

/-- Every part may change but what R328 speaks of. -/
def butOuts : Touch := ⟨true, false, true, true, true, true, true, true⟩

theorem State.outputsSafe_of_rest {t : State} (h : t.rest butOuts = s.rest butOuts) (hs : s.outputsSafe = true) : t.outputsSafe = true := by
  rw [State.outputsSafe_congr (State.outs_of_rest h rfl), hs]

/-! ### Switching off -/

theorem State.outputsOff_dark : s.outputsOff.dark := ⟨rfl, rfl, rfl⟩

theorem State.sideOff_safe (lane : Nat) (h : s.outputsSafe = true) : (s.sideOff lane).outputsSafe = true := by
  rw [State.outputsSafe_iff] at h ⊢
  exact h.imp_left fun hdark => ⟨rfl, rfl, hdark.2.2⟩

/-- R350: LOCKOUT, with the outputs off and no lane toggling. -/
theorem State.lockout_isl (c : Nat) : (s.lockout c).isl.outs = (.lockout, false, false, 0) := by
  unfold State.lockout
  dsimp only
  repeat' split
  all_goals simp [Island.outs, State.emissionOff, State.modIsl, State.outputsOff, State.sideOff]

theorem State.lockout_safe (c : Nat) : (s.lockout c).outputsSafe = true := by
  have h := s.lockout_isl c
  simp only [Island.outs, Prod.mk.injEq] at h
  exact State.dark.outputsSafe h.2

theorem State.startTest_safe : s.startTest.outputsSafe = true := by
  unfold State.startTest
  dsimp only
  split
  · exact State.lockout_safe _
  · exact State.dark.outputsSafe ⟨rfl, rfl, rfl⟩

/-! ### Restart, safe stop and reset (R345 ... R347) -/

theorem State.enableIsl_safe : s.enableIsl.outputsSafe = true := State.outputsSafe_iff.2 (.inr (.inl rfl))

theorem State.startTestEnd_safe (h : s.outputsSafe = true) : s.startTestEnd.outputsSafe = true := by
  unfold State.startTestEnd
  split
  · next hend =>
    have hdark := State.dark_of_outputsSafe h (by simp [hend.1]) (by simp [hend.1])
    exact State.dark.outputsSafe hdark
  · exact h

theorem State.stoppingCheck_safe (h : s.outputsSafe = true) : s.stoppingCheck.outputsSafe = true := by
  unfold State.stoppingCheck
  split
  · exact h
  · extract_lets a b r
    split
    · exact h
    · exact State.dark.outputsSafe ⟨rfl, rfl, rfl⟩

theorem State.stopIsl_safe (why cat : Nat) (h : s.outputsSafe = true) : (s.stopIsl why cat).outputsSafe = true := by
  unfold State.stopIsl
  extract_lets c
  repeat' split
  · exact State.dark.outputsSafe ⟨rfl, rfl, rfl⟩
  · exact State.outputsSafe_iff.2 (.inr (.inr rfl))
  · exact State.dark.outputsSafe ⟨rfl, rfl, rfl⟩
  · exact h
  · exact h

theorem State.reset_safe (h : s.outputsSafe = true) : s.reset_.outputsSafe = true := by
  unfold State.reset_
  repeat' split
  · exact State.outputsSafe_of_rest (by simp) h
  · exact State.startTest_safe
  · exact State.enableIsl_safe
  · exact h
  · exact h

/-! ### The Anchor die (R20 ... R22) -/

theorem State.anchorOn_safe (lane : Fin 3) (h : s.outputsSafe = true) : (s.anchorOn lane).outputsSafe = true := by
  unfold State.anchorOn
  dsimp only
  repeat' split
  · exact h
  · exact h
  · next hon =>
    rw [State.outputsSafe_iff] at h ⊢
    exact .inr (h.resolve_left fun hdark => by simp [State.modDie, hdark.2.2] at hon)
  · exact h

theorem State.dieFault_safe (h : s.outputsSafe = true) : s.dieFault.outputsSafe = true := by
  unfold State.dieFault
  split
  · exact h
  · exact State.lockout_safe _

theorem State.flitRetry_safe (flit : Nat) (h : s.outputsSafe = true) : (s.flitRetry flit).outputsSafe = true := by
  unfold State.flitRetry
  dsimp only
  split
  · exact State.dieFault_safe h
  · exact State.outputsSafe_of_rest (by simp [butOuts]) h

theorem State.flitReceived_safe (flit : Nat) (good : Bool) (h : s.outputsSafe = true) : (s.flitReceived flit good).outputsSafe = true := by
  unfold State.flitReceived
  repeat' split
  · exact h
  · exact h
  · exact State.flitRetry_safe flit (State.outputsSafe_of_rest (by simp) h)

theorem State.laneStopped_safe (lane : Fin 3) (h : s.outputsSafe = true) : (s.laneStopped lane).outputsSafe = true := by
  unfold State.laneStopped
  dsimp only
  split
  · exact State.lockout_safe _
  · split
    · exact h
    · exact State.sideOff_safe _ h

/-! ### Tests and inputs (R340 ... R342, R348, R349) -/

theorem State.switchTest_safe (fault : Nat) (h : s.outputsSafe = true) : (s.switchTest fault).outputsSafe = true := by
  unfold State.switchTest
  dsimp only
  repeat' split
  · exact State.lockout_safe _
  · exact h
  · exact h
  · exact State.lockout_safe _
  · exact h
  · exact State.lockout_safe _
  · exact h

theorem State.startUpTest_safe (fault : Nat) (h : s.outputsSafe = true) : (s.startUpTest fault).outputsSafe = true := by
  unfold State.startUpTest
  dsimp only
  repeat' split
  · exact h
  · exact State.lockout_safe _
  · exact State.startTestEnd_safe h
  · exact State.lockout_safe _
  · exact State.startTestEnd_safe h

theorem State.testPulse_safe (tpB : Bool) (bad : List Nat) (h : s.outputsSafe = true) : (s.testPulse tpB bad).outputsSafe = true := by
  unfold State.testPulse
  split
  · exact h
  · dsimp only
    split
    · exact State.lockout_safe _
    · cases tpB
      · exact h
      · exact h

theorem State.safeDiffer_safe (n : Fin 4) (h : s.outputsSafe = true) : (s.safeDiffer n).outputsSafe = true := by
  unfold State.safeDiffer
  dsimp only
  split
  · exact State.lockout_safe _
  · exact h

theorem State.condWatch_safe (h : s.outputsSafe = true) : s.condWatch.outputsSafe = true :=
  State.outputsSafe_of_rest (by simp [butOuts]) h

theorem State.safeAccept_safe (n : Fin 4) (chB : Bool) (h : s.outputsSafe = true) : (s.safeAccept n chB).outputsSafe = true := by
  unfold State.safeAccept
  extract_lets p c
  split
  · exact h
  · split
    · exact h
    · refine State.startTestEnd_safe (State.condWatch_safe ?_)
      change State.outputsSafe (if _ then _ else _) = true
      repeat' split
      · exact State.stopIsl_safe _ _ h
      · exact State.stopIsl_safe _ _ h
      · exact State.reset_safe h
      · exact h
      · exact h
      · exact h
      · exact h

/-! ### Verdicts (R325, R334, R338) -/

theorem State.countViol_safe (viol : Bool) (why cat : Nat) (h : s.outputsSafe = true) : (s.countViol viol why cat).outputsSafe = true := by
  unfold State.countViol
  extract_lets s1
  split
  · exact State.stopIsl_safe _ _ h
  · exact h

theorem State.frameMissing_safe (h : s.outputsSafe = true) : s.frameMissing.outputsSafe = true := by
  unfold State.frameMissing
  split
  · exact State.condWatch_safe (State.countViol_safe true 2 0 h)
  · exact h

theorem State.verdict_safe (differ miss : Bool) (h : s.outputsSafe = true) : (s.verdict differ miss).outputsSafe = true := by
  unfold State.verdict
  split
  · exact h
  · extract_lets no sets ja jb some_ prot late viol dead s1 s2 s3 s4 s5 s6 s7
    have h4 : s4.outputsSafe = true := State.outputsSafe_of_rest (by simp [s4, s3, s2, s1, butOuts]) h
    have h5 : s5.outputsSafe = true := by
      simp only [s5]
      repeat' split
      · exact State.lockout_safe _
      · exact State.outputsSafe_of_rest (by simp [butOuts]) h4
      · exact h4
    have h6 : s6.outputsSafe = true := by
      simp only [s6]
      split
      · exact State.lockout_safe _
      · exact h5
    have h7 : s7.outputsSafe = true := State.countViol_safe _ _ _ h6
    exact State.startTestEnd_safe (State.condWatch_safe (State.outputsSafe_of_rest (by simp [butOuts]) h7))

/-! ### Plovivo (R326, R369, R370, R375) -/

theorem State.evalBooted_safe (ok : Bool) (h : s.outputsSafe = true) : (s.evalBooted ok).outputsSafe = true := by
  unfold State.evalBooted
  dsimp only
  repeat' split
  · exact h
  · exact State.startTest_safe
  · exact State.lockout_safe _

theorem State.statusCycle_safe (k : Fin 4) (differ : Bool) (h : s.outputsSafe = true) : (s.statusCycle k differ).outputsSafe = true := by
  unfold State.statusCycle
  dsimp only
  repeat' split
  · exact h
  · exact State.lockout_safe _
  · exact State.outputsSafe_of_rest (by simp [butOuts]) h
  · exact h

theorem State.command_safe (p : Octets) (h : s.outputsSafe = true) : (State.command p s).outputsSafe = true := by
  unfold State.command
  split
  · exact h
  · extract_lets c f r good s1 s2 s3 s4 s5
    have h3 : s3.outputsSafe = true := State.outputsSafe_of_rest (by simp [s3, s2, s1, butOuts]) h
    have h4 : s4.outputsSafe = true := by
      simp only [s4]
      split
      · exact State.stopIsl_safe _ _ h3
      · exact h3
    have h5 : s5.outputsSafe = true := by
      simp only [s5]
      repeat' split
      · exact h4
      · exact h4
      · exact State.reset_safe h4
      · exact State.outputsSafe_of_rest (by simp) h4
    exact State.condWatch_safe h5

theorem State.paramActivate_safe (p : Octets) (h : s.outputsSafe = true) : (State.paramActivate p s).outputsSafe = true := by
  have hrefuse (n : Nat) : (s.paramRefuse n).outputsSafe = true := State.outputsSafe_of_rest (by simp [butOuts]) h
  unfold State.paramActivate
  extract_lets v nv0 nv s1 s2
  repeat' split
  · exact hrefuse 8
  · exact hrefuse 4
  · exact hrefuse 1
  · exact hrefuse 7
  · exact State.outputsSafe_of_rest (s := s2.startTest) (by simp [butOuts]) State.startTest_safe

theorem State.plvReceive_safe {act : Octets → State → State} (hact : ∀ p s, s.outputsSafe = true → (act p s).outputsSafe = true)
    (src : PlvFrom) (want : Fin 4) (o : Octets) (h : s.outputsSafe = true) : (s.plvReceive src want o act).outputsSafe = true := by
  have haccept (k : Fin 4) : (s.plvAccept k (fieldAt o 0 4) o).1.outputsSafe = true := State.outputsSafe_of_rest (by simp [butOuts]) h
  unfold State.plvReceive
  dsimp only
  repeat' split
  · exact State.outputsSafe_of_rest (by simp) h
  · exact h
  · exact hact _ _ (haccept _)
  · exact haccept _

theorem State.paramPdu_safe {act : Octets → State → State} (hact : ∀ p s, s.outputsSafe = true → (act p s).outputsSafe = true)
    (port : PlvFrom) (op : Nat) (o : Octets) (h : s.outputsSafe = true) : (s.paramPdu port op o act).outputsSafe = true := by
  refine State.plvReceive_safe (fun p s hs => ?_) port 2 o h
  split
  · exact hact p s hs
  · exact State.outputsSafe_of_rest (by simp [butOuts]) hs

/-! ### Power-up (R409) -/

theorem State.powerUp_safe : s.powerUp.outputsSafe = true := rfl

theorem State.porRelease_safe (good : Bool) (h : s.outputsSafe = true) : (s.porRelease good).outputsSafe = true := by
  unfold State.porRelease
  split
  · exact State.outputsSafe_of_rest (s := s.powerUp) (by simp) State.powerUp_safe
  · exact h

/-! ### The obligation -/

/-- The commands that touch the outputs leave them safe, each by its operation. -/
theorem exec_safe_of_touchesOuts {c : Instr} {t : State} (hexec : exec c s = .next t) (htouch : touchesOuts c = true)
    (h : s.outputsSafe = true) : t.outputsSafe = true := by
  cases c
  case flitAckTimeout flit =>
    cases hexec
    split
    · exact State.flitRetry_safe flit h
    · exact h
  case flitReceived flit good => cases hexec; exact State.flitReceived_safe flit good h
  case dieLinkSilence =>
    cases hexec
    split
    · exact State.dieFault_safe h
    · exact h
  case enableLaneStopped lane => cases hexec; exact State.laneStopped_safe lane h
  case anchorOnCommand lane => cases hexec; exact State.anchorOn_safe lane h
  case safetyTapWatchdog => cases hexec; exact State.lockout_safe 2
  case verdictWatchdog =>
    cases hexec
    repeat' split
    · exact State.lockout_safe 3
    · exact h
    · exact h
  case verdict differ miss =>
    cases hexec
    split
    · exact State.verdict_safe differ miss h
    · exact h
  case frameMissingTimeout => cases hexec; exact State.frameMissing_safe h
  case testPulse tpB bad => cases hexec; exact State.testPulse_safe tpB bad h
  case safeInputDebounced n chB => cases hexec; exact State.safeAccept_safe n chB h
  case safeInputDiscrepancy n => cases hexec; exact State.safeDiffer_safe n h
  case speedDiscrepancyTimeout =>
    cases hexec
    split
    · exact State.lockout_safe 10
    · exact h
  case stoppingCheck => cases hexec; exact State.stoppingCheck_safe h
  case restartDelayExpiry =>
    cases hexec
    repeat' split
    · exact State.enableIsl_safe
    · exact h
    · exact h
  case outputSwitchTest fault => cases hexec; exact State.switchTest_safe fault h
  case outputReadbackTimeout =>
    cases hexec
    split
    · exact State.lockout_safe 11
    · exact h
  case outputCurrentLimit =>
    cases hexec
    split
    · exact State.lockout_safe 13
    · exact h
  case startUpOutputTest fault => cases hexec; exact State.startUpTest_safe fault h
  case safetySupplyFault =>
    cases hexec
    split
    · exact State.outputsSafe_of_rest (State.emissionOff_rest butOuts _ rfl) (State.lockout_safe 5)
    · exact State.lockout_safe 5
  case vddHvUndervoltage => cases hexec; exact State.sideOff_safe 2 (State.sideOff_safe 1 h)
  case commandPdu port o => cases hexec; exact State.plvReceive_safe (fun p _ => State.command_safe p) port 1 o h
  case paramActivate port o => cases hexec; exact State.paramPdu_safe (fun p _ => State.paramActivate_safe p) port 4 o h
  case statusPduCycle second differ => cases hexec; exact State.statusCycle_safe _ differ h
  case evaluatorsBooted ok =>
    cases hexec
    split
    · exact State.evalBooted_safe ok (State.outputsSafe_of_rest (by simp [butOuts]) h)
    · exact h
  case powerOnResetRelease good => cases hexec; exact State.porRelease_safe good h
  case powerOnResetAssert => cases hexec; exact State.powerUp_safe
  all_goals exact nomatch htouch

/-- Every command leaves the outputs safe. -/
theorem exec_safe {c : Instr} {t : State} (hexec : exec c s = .next t) (h : s.outputsSafe = true) : t.outputsSafe = true := by
  cases htouch : touchesOuts c with
  | false => rw [State.outputsSafe_congr (State.outs_of_rest (rest_of_exec (allows_touched c) hexec) htouch), h]
  | true => exact exec_safe_of_touchesOuts hexec htouch h

/-- A step without a command touches none of the outputs. -/
theorem State.idleTick_safe (h : s.outputsSafe = true) : s.idleTick.outputsSafe = true := by
  have hsave : s.tick.capRearm.saveEnd.outputsSafe = true := State.outputsSafe_of_rest (s := s.tick) (by simp [butOuts]) h
  unfold State.idleTick
  dsimp only
  split
  · exact hsave
  · exact State.outputsSafe_of_rest (by simp) hsave

/-- Settles O4: safe outputs are kept by every command, each operation that touches them switching off or working in ENABLED and
STOPPING alone. -/
theorem outputsOnlyWhenAllowed : Obligations.OutputsOnlyWhenAllowed := by
  intro s t hsafe hstep
  cases hqueue : s.pending with
  | nil =>
    simp only [step, hqueue, Host.Outcome.next.injEq] at hstep
    exact hstep ▸ State.idleTick_safe hsafe
  | cons c cs =>
    simp only [step, hqueue] at hstep
    exact exec_safe hstep (s := { s with pending := cs }) hsafe

end Sys2Proof.Machine
end

section
/-! The addressed memories (R286, R394): descriptors, buffer and NOR change by writes at a pointer, by filters and by copies, each of which
keeps the canonical form; the other operations leave all three as they were. -/

namespace Sys2Proof.Machine

variable {s : State}

/-- Every part may change but the addressed memories. -/
def butMem : Touch := ⟨true, true, true, false, true, true, true, true⟩

theorem State.memWf_of_rest {t : State} (h : t.rest butMem = s.rest butMem) (hs : s.memWf = true) : t.memWf = true := by
  obtain ⟨hdesc, hbuf, hnor⟩ : t.dma.desc = s.dma.desc ∧ t.dma.buf = s.dma.buf ∧ t.nv.nor = s.nv.nor := by
    simpa [mems] using State.mems_of_rest h rfl
  simpa only [State.memWf, hdesc, hbuf, hnor] using hs

theorem State.memWf_iff : s.memWf = true ↔ Memory.wf s.dma.desc = true ∧ Memory.wf s.dma.buf = true ∧ Memory.wf s.nv.nor = true := by
  simp [State.memWf, and_assoc]

theorem State.memWf_setDesc {m : AMap Byte} (hm : Memory.wf m = true) (h : s.memWf = true) :
    { s with dma := { s.dma with desc := m } }.memWf = true := by
  obtain ⟨-, hbuf, hnor⟩ := State.memWf_iff.1 h
  exact State.memWf_iff.2 ⟨hm, hbuf, hnor⟩

theorem State.memWf_setBuf {m : AMap Byte} (hm : Memory.wf m = true) (h : s.memWf = true) :
    { s with dma := { s.dma with buf := m } }.memWf = true := by
  obtain ⟨hdesc, -, hnor⟩ := State.memWf_iff.1 h
  exact State.memWf_iff.2 ⟨hdesc, hm, hnor⟩

theorem State.memWf_modNv {f : Nv → Nv} (hf : Memory.wf (f s.nv).nor = true) (h : s.memWf = true) : (s.modNv f).memWf = true := by
  obtain ⟨hdesc, hbuf, -⟩ := State.memWf_iff.1 h
  exact State.memWf_iff.2 ⟨hdesc, hbuf, hf⟩

theorem State.memWf_desc (h : s.memWf = true) : Memory.wf s.dma.desc = true := (State.memWf_iff.1 h).1
theorem State.memWf_buf (h : s.memWf = true) : Memory.wf s.dma.buf = true := (State.memWf_iff.1 h).2.1
theorem State.memWf_nor (h : s.memWf = true) : Memory.wf s.nv.nor = true := (State.memWf_iff.1 h).2.2

/-- A fold whose steps keep the canonical form keeps it. -/
theorem State.foldl_memWf {α : Type} {f : State → α → State} (hf : ∀ s a, s.memWf = true → (f s a).memWf = true) (l : List α)
    (h : s.memWf = true) : (l.foldl f s).memWf = true := by
  induction l generalizing s with
  | nil => exact h
  | cons a l ih => exact ih (hf s a h)

/-! ### The DMA engine (R286 ... R295) -/

theorem State.burst_memWf (c : Fin 32) (err : Bool) (h : s.memWf = true) : (s.burst c err).memWf = true := by
  unfold State.burst
  extract_lets ch cap n0 s0 d0 n o s1 s2 d2 s3 pk s4
  split
  · exact State.memWf_of_rest (by simp [butMem]) h
  · split
    · have h0 : s0.memWf = true := State.memWf_of_rest (s := s) (by simp [s0, butMem]) h
      split
      · exact State.memWf_of_rest (by simp [butMem]) h0
      · exact State.memWf_of_rest (by simp [d0, butMem]) h0
    · have h2 : s2.memWf = true := State.memWf_of_rest (s := s) (by simp [s2, s1, butMem]) h
      have h3 : s3.memWf = true := by
        simp only [s3]
        split
        · exact State.memWf_setBuf (Memory.wf_memPut _ _ _ (State.memWf_buf h2)) h2
        · exact h2
      have h4 : s4.memWf = true := State.memWf_of_rest (by simp [s4, butMem]) h3
      split
      · exact State.memWf_of_rest (by simp [butMem]) h4
      · exact h4

theorem State.burstOf_memWf (c : Fin 32) (err : Bool) (h : s.memWf = true) : (s.burstOf c err).memWf = true := by
  unfold State.burstOf
  split
  · exact h
  · have hturn : ({ s with dma := { s.dma with tok := s.dma.tok - 16, next := (c.val + 1) % 32 } } : State).memWf = true := h
    exact State.memWf_of_rest (by simp [butMem]) (State.burst_memWf c err hturn)

theorem State.dmaBurst_memWf (err : Bool) (h : s.memWf = true) : (s.dmaBurst err).memWf = true := by
  have hrefill : s.dmaRefill.memWf = true := State.memWf_of_rest (by simp [butMem]) h
  unfold State.dmaBurst
  split
  · exact hrefill
  · exact State.burstOf_memWf _ err hrefill

theorem State.xspiTimeout_memWf (c : Fin 32) (h : s.memWf = true) : (s.xspiTimeout c).memWf = true := by
  unfold State.xspiTimeout
  dsimp only
  split
  · exact State.burstOf_memWf c true (State.memWf_of_rest (by simp [butMem]) h)
  · exact h

theorem State.dmaDisable_memWf (c : Fin 32) (h : s.memWf = true) : (s.dmaDisable c).memWf = true := by
  unfold State.dmaDisable
  extract_lets ch d s1 s2 s3
  split
  · have h1 : s1.memWf = true := by
      simp only [s1]
      split
      · exact State.memWf_setBuf (Memory.wf_freeFill _ _ _ _ (State.memWf_buf h)) h
      · exact h
    exact State.memWf_of_rest (by simp [s3, s2, butMem]) h1
  · exact State.memWf_of_rest (by simp [butMem]) h

theorem State.dmaWordEff_memWf (c : Fin 32) (w : Nat) (h : s.memWf = true) : (s.dmaWordEff c w).memWf = true := by
  unfold State.dmaWordEff
  dsimp only
  repeat' split
  · exact State.dmaDisable_memWf c h
  · exact State.memWf_of_rest (by simp [butMem]) h
  · exact h

theorem State.descEff_memWf (o : Octets) (h : s.memWf = true) : (s.descEff o).memWf = true :=
  State.memWf_of_rest (by simp [State.descEff]) (State.memWf_setDesc (Memory.wf_memPut _ (32 * s.objN 0x5201 0) o (State.memWf_desc h)) h)

theorem State.bufEff_memWf (o : Octets) (h : s.memWf = true) : (s.bufEff o).memWf = true :=
  State.memWf_of_rest (by simp [State.bufEff]) (State.memWf_setBuf (Memory.wf_memPut _ (s.objN 0x5220 0) o (State.memWf_buf h)) h)

/-! ### The NOR (R394 ... R397) -/

theorem State.slipData_memWf (o : Octets) (h : s.memWf = true) : (s.slipData o).memWf = true :=
  State.memWf_of_rest (s := s.modNv fun n => { n with nor := memPut n.nor (norBase 2 + s.objN 0x9210 0) o }) (by simp [State.slipData])
    (State.memWf_modNv (Memory.wf_memPut _ _ o (State.memWf_nor h)) h)

theorem State.norClear_memWf (a n : Nat) (h : s.memWf = true) : (s.norClear a n).memWf = true :=
  State.memWf_modNv (Memory.wf_filter _ _ (State.memWf_nor h)) h

theorem State.norCopy_memWf (i : Nat) (h : s.memWf = true) : (s.norCopy i).memWf = true := by
  have hclear := State.norClear_memWf (norBase i) slipSize h
  exact State.memWf_modNv (Memory.wf_copy _ _ (fun k => k - norBase 2 + norBase i) (State.memWf_nor hclear)) hclear

theorem State.slipBegin_memWf (c : Nat) (h : s.memWf = true) : (s.slipBegin c).memWf = true := by
  unfold State.slipBegin
  dsimp only
  split
  · exact State.memWf_of_rest (by simp) (State.norClear_memWf (norBase 2) slipSize h)
  · exact State.memWf_of_rest (by simp) h
  · exact State.memWf_of_rest (by simp) (State.norClear_memWf (norBase (1 - s.pilot.slot)) 256 h)
  · exact State.memWf_of_rest (by simp [butMem]) h
  · exact State.memWf_of_rest (by simp [butMem]) h
  · exact State.memWf_of_rest (by simp [butMem]) h
  · exact State.memWf_of_rest (by simp [butMem]) h

theorem State.slipDone_memWf (h : s.memWf = true) : s.slipDone.memWf = true := by
  unfold State.slipDone
  split
  · exact h
  · next c t _ =>
    extract_lets s1 n s3 m s2 s4
    have h3 : s3.memWf = true := State.norCopy_memWf _ h
    have h2 : s2.memWf = true := by
      simp only [s2]
      repeat' split
      · exact h
      · exact State.memWf_of_rest (s := s) (by simp [s1]) h
      · exact State.memWf_of_rest (s := s) (by simp [s1]) h
      · exact h3
      · exact State.memWf_of_rest (by simp) h3
    exact State.memWf_of_rest (by simp [s4]) h2

/-! ### Accepted writes -/

theorem State.through_memWf {body : State → State} (hbody : ∀ s, s.memWf = true → (body s).memWf = true) (r : Req) (kind obj : Nat)
    (h : s.memWf = true) : (s.through r kind obj body).memWf = true := by
  unfold State.through
  split
  · exact h
  · exact h
  · exact State.memWf_of_rest (by simp) h
  · exact State.memWf_of_rest (by simp) h
  · exact State.memWf_of_rest (by simp) h
  · exact State.memWf_of_rest (by simp) h
  · split
    · exact hbody s h
    · exact State.memWf_of_rest (by simp) h
  · exact hbody s h

theorem State.hostWrite_memWf {eff : State → State} (heff : ∀ s, s.memWf = true → (eff s).memWf = true) (q : Req) (e : Entry)
    (codes : State → List Nat) (long : Bool) (h : s.memWf = true) : (s.hostWrite q e codes eff long).memWf = true := by
  refine State.through_memWf (fun s h => ?_) q _ _ h
  dsimp only
  split
  · have hstored : (s.storeWrite q e 0).memWf = true := State.memWf_of_rest (by simp) h
    exact State.memWf_of_rest (by simp) (heff _ hstored)
  · exact State.memWf_of_rest (by simp) h

theorem State.hostWriteHeld_memWf {eff : State → State} (heff : ∀ s, s.memWf = true → (eff s).memWf = true) (q : Req) (e : Entry) (arg : Nat)
    (codes : State → List Nat) (h : s.memWf = true) : (s.hostWriteHeld q e arg codes eff).memWf = true := by
  refine State.through_memWf (fun s h => ?_) q _ _ h
  dsimp only
  split
  · exact heff _ (State.memWf_of_rest (by simp) h)
  · exact State.memWf_of_rest (by simp) h

theorem State.slipCmd_memWf (r : Req) (c : Nat) (h : s.memWf = true) : (s.slipCmd r c).memWf = true :=
  State.hostWrite_memWf (fun _ => State.slipBegin_memWf c) r _ _ _ h

theorem State.setEff15_memWf (old : State) (e : Entry) (w : List (Nat × Int)) (h : s.memWf = true) : (State.setEff15 old s e w).memWf = true := by
  have hrest {t : State} (ht : t.rest butMem = s.rest butMem) : t.memWf = true := State.memWf_of_rest ht h
  unfold State.setEff15
  dsimp only
  split
  · exact hrest (by simp)
  · exact hrest (by simp)
  · exact hrest (by simp [butMem])
  · exact hrest (by simp)
  · exact hrest (by simp)
  · exact hrest (by simp)
  · exact hrest (by simp [butMem])
  · exact hrest (by simp)
  · exact hrest (by simp)
  · exact State.foldl_memWf (fun _ _ => State.dmaWordEff_memWf _ _) w h
  · exact State.bufEff_memWf e.val h
  · exact hrest (by simp [butMem])
  · exact hrest (by simp [butMem])
  · exact h

theorem State.settingEff_memWf (old : State) (e : Entry) (w : List (Nat × Int)) (h : s.memWf = true) :
    (State.settingEff old s e w).memWf = true :=
  State.memWf_of_rest (by simp [State.settingEff, butMem]) (State.setEff15_memWf old e w h)

theorem State.cmdEff15_memWf (q : Req) (e : Entry) (h : s.memWf = true) : (s.cmdEff15 q e).memWf = true := by
  have hrest {t : State} (ht : t.rest butMem = s.rest butMem) : t.memWf = true := State.memWf_of_rest ht h
  unfold State.cmdEff15
  dsimp only
  split
  · exact hrest (by simp)
  · exact hrest (by simp)
  · exact hrest (by simp [butMem])
  · exact hrest (by simp [butMem])
  · exact hrest (by simp)
  · exact hrest (by simp)
  · exact hrest (by simp)
  · exact hrest (by simp)
  · exact State.descEff_memWf e.val h
  · exact h

theorem State.cmdEff6A_memWf (e : Entry) (h : s.memWf = true) : (s.cmdEff6A e).memWf = true := by
  have hrest {t : State} (ht : t.rest butMem = s.rest butMem) : t.memWf = true := State.memWf_of_rest ht h
  unfold State.cmdEff6A
  dsimp only
  split
  · exact hrest (by simp)
  · exact hrest (by simp)
  · exact hrest (by simp)
  · exact hrest (by simp)
  · split
    · exact hrest (by simp)
    · exact hrest (by simp)
    · exact hrest (by simp)
    · exact hrest (by simp)
    · exact hrest (by simp)
  · exact hrest (by simp [butMem])
  · exact State.slipData_memWf e.val h
  · exact State.slipBegin_memWf (beNat e.val) h
  · exact hrest (by simp [butMem])
  · exact hrest (by simp)
  · exact hrest (by simp)
  · exact hrest (by simp)
  · exact hrest (by simp)
  · exact hrest (by simp)
  · exact hrest (by simp)
  · exact hrest (by simp [butMem])
  · exact hrest (by simp [butMem])
  · exact h

theorem State.ownEff_memWf (old : State) (q : Req) (e : Entry) (h : s.memWf = true) : (State.ownEff old s q e).memWf = true := by
  have hrest {t : State} (ht : t.rest butMem = s.rest butMem) : t.memWf = true := State.memWf_of_rest ht h
  unfold State.ownEff
  split
  · exact h
  · split
    · split
      · exact hrest (by simp)
      · exact hrest (by simp)
      · exact hrest (by simp)
      · exact hrest (by simp [butMem])
      · exact hrest (by simp [butMem])
      · exact hrest (by simp [butMem])
      · exact State.cmdEff6A_memWf e (State.cmdEff15_memWf q e h)
    · exact State.settingEff_memWf old e _ h

theorem State.domWrite_memWf (q : Req) (e : Entry) (h : s.memWf = true) : (s.domWrite q e).memWf = true := by
  refine State.through_memWf (fun s h => ?_) q _ _ h
  dsimp only
  split
  · exact State.memWf_of_rest (by simp) h
  · have hstored : (s.storeWrite q e 0).memWf = true := State.memWf_of_rest (by simp) h
    exact State.memWf_of_rest (by simp) (State.ownEff_memWf s q e hstored)

theorem State.writeAny_memWf (q : Req) (e : Entry) (h : s.memWf = true) : (s.writeAny q e).memWf = true := by
  have hrest {t : State} (ht : t.rest butMem = s.rest butMem) : t.memWf = true := State.memWf_of_rest ht h
  unfold State.writeAny
  split
  · exact hrest (by simp [butMem])
  · exact hrest (by simp)
  · exact hrest (by simp [butMem])
  · exact hrest (by simp)
  · split
    · exact State.domWrite_memWf q e h
    · exact State.hostWriteHeld_memWf (fun t => State.ownEff_memWf _ q e) q e _ _ h
  · exact State.hostWrite_memWf (fun t => State.ownEff_memWf _ q e) q e _ _ h

/-! ### Messages (R60, R66, R70, R305) -/

theorem State.transaction_memWf (q : Req) (es : List Entry) (h : s.memWf = true) : (s.transaction q es).memWf = true := by
  refine State.through_memWf (fun s h => ?_) q _ _ h
  have hrespond (ab : Nat) (body : Octets) : (s.respond q kMulti ab body).memWf = true := State.memWf_of_rest (by simp) h
  have happly {s : State} (g : Nat) (h : s.memWf = true) : (es.foldl (fun t e => State.ownEff t (t.storeWrite q e g) q e) s).memWf = true :=
    State.foldl_memWf (fun t e ht => State.ownEff_memWf t q e (State.memWf_of_rest (by simp) ht)) es h
  split
  · exact hrespond _ _
  · split
    · exact hrespond _ _
    · split
      · refine State.memWf_of_rest ?_ h
        dsimp only
        repeat' split
        all_goals simp
      · split
        · exact hrespond _ _
        · exact State.memWf_of_rest (State.owe_rest _ _ _ _ _ _) (happly _ h)

theorem State.request_memWf (q : Req) (kind : Nat) (o : Octets) (h : s.memWf = true) : (s.request q kind o).memWf = true := by
  have hrest {t : State} (ht : t.rest butMem = s.rest butMem) : t.memWf = true := State.memWf_of_rest ht h
  unfold State.request
  split
  · exact State.memWf_of_rest (by split <;> simp [butMem]) h
  · split
    · exact State.writeAny_memWf _ _ h
    · exact hrest (by simp)
  · split
    · split
      · exact State.transaction_memWf q _ h
      · exact hrest (by simp)
    · exact hrest (by simp)
  · exact hrest (by simp)
  · exact hrest (by simp)
  · split
    · exact State.writeAny_memWf _ _ h
    · exact hrest (by simp)
  · exact hrest (by simp)

theorem State.headerMessage_memWf (q : Req) (o : Octets) (h : s.memWf = true) : (s.headerMessage q o).memWf = true := by
  have hrest {t : State} (ht : t.rest butMem = s.rest butMem) : t.memWf = true := State.memWf_of_rest ht h
  unfold State.headerMessage
  dsimp only
  repeat' split
  · exact hrest (by simp)
  · exact hrest (by simp)
  · exact hrest (by simp)
  · exact hrest (by simp)
  · exact State.request_memWf q _ _ h

theorem State.canMessage_memWf (port : Nat) (o : Octets) (h : s.memWf = true) : (s.canMessage port o).memWf = true := by
  unfold State.canMessage
  dsimp only
  repeat' split
  · exact h
  · exact State.memWf_of_rest (by simp) h
  · exact State.request_memWf _ _ _ h

theorem State.badMessage_memWf (port src : Nat) (o : Octets) (h : s.memWf = true) : (s.badMessage port src o).memWf = true := by
  unfold State.badMessage
  dsimp only
  repeat' split
  · exact h
  · exact State.canMessage_memWf port o h
  · exact State.headerMessage_memWf _ o h

theorem State.canTake_memWf (x : CanXfer) (data : Octets) (h : s.memWf = true) : (s.canTake x data).memWf = true := by
  have hdrop : (s.canDrop x.port x.master).memWf = true := State.memWf_of_rest (by simp) h
  unfold State.canTake
  dsimp only
  split
  · exact State.request_memWf _ _ _ hdrop
  · exact hdrop

theorem State.canSegment_memWf (port master kind tag idx total : Nat) (data : Octets) (h : s.memWf = true) :
    (s.canSegment port master kind tag idx total data).memWf = true := by
  have hrest {t : State} (ht : t.rest butMem = s.rest butMem) : t.memWf = true := State.memWf_of_rest ht h
  unfold State.canSegment
  dsimp only
  repeat' split
  · exact h
  · exact h
  · exact hrest (by simp)
  · exact hrest (by simp)
  · exact State.canTake_memWf _ data h
  · exact hrest (by simp)
  · exact hrest (by simp)
  · exact State.canTake_memWf _ data h

theorem State.sideFrame_memWf (l : Fin 2) (f : Octets) (h : s.memWf = true) : (s.sideFrame l f).memWf = true := by
  unfold State.sideFrame
  dsimp only
  repeat' split
  · exact h
  · exact State.memWf_of_rest (by simp) h
  · exact State.badMessage_memWf _ _ _ h

theorem State.sideFrames_memWf (l : Fin 2) (n : Nat) (h : s.memWf = true) : (State.sideFrames l n s).memWf = true := by
  induction n generalizing s with
  | zero => exact h
  | succ n ih =>
    unfold State.sideFrames
    dsimp only
    split
    · exact ih (State.sideFrame_memWf l _ h)
    · exact h

theorem State.backReceive_memWf (l : Fin 2) (ref : Bool) (o : Octets) (h : s.memWf = true) : (s.backReceive l ref o).memWf = true :=
  State.memWf_of_rest (State.backReceive_rest butMem s l ref o rfl) h

/-! ### Power-up and the restored settings (R391, R409, R412) -/

theorem State.powerUp_memWf (h : s.memWf = true) : s.powerUp.memWf = true :=
  State.memWf_iff.2 ⟨rfl, rfl, State.memWf_nor (s := s) h⟩

theorem State.powerLost_memWf (h : s.memWf = true) : s.powerLost.memWf = true :=
  State.powerUp_memWf (State.memWf_of_rest (by simp [butMem]) h)

theorem State.porRelease_memWf (good : Bool) (h : s.memWf = true) : (s.porRelease good).memWf = true := by
  unfold State.porRelease
  split
  · exact State.memWf_of_rest (by simp) (State.powerUp_memWf h)
  · exact h

theorem State.restoreSettings_memWf (c : Settings) (h : s.memWf = true) : (s.restoreSettings c).memWf = true := by
  unfold State.restoreSettings
  extract_lets s0 ana s1 s2 s3 dma s4 s5 s6
  have h0 : s0.memWf = true := State.memWf_of_rest (State.rest_foldl butMem (fun u q => by split <;> simp) quads4 s) h
  have h3 : s3.memWf = true := State.memWf_of_rest (by simp [s3, s2, s1]) h0
  have h4 : s4.memWf = true := by
    simp only [s4]
    split
    · exact State.memWf_setBuf (Memory.wf_memPut _ _ _ (State.memWf_buf h3)) h3
    · exact h3
  have h6 : s6.memWf = true := State.memWf_of_rest (by simp [s6, s5]) h4
  exact State.memWf_of_rest (State.rest_forQuads butMem (fun u q => by simp) s6) h6

theorem State.applyStore_memWf (h : s.memWf = true) : s.applyStore.memWf = true := by
  unfold State.applyStore
  extract_lets n s1 k c s2
  split
  · exact State.memWf_of_rest (s := s) (by simp [s1]) h
  · have hflags : ((s1.defaulted c.bad).flagsDown).memWf = true := State.memWf_of_rest (s := s) (by simp [s1]) h
    have h2 : s2.memWf = true := State.memWf_of_rest (by simp [s2]) (State.restoreSettings_memWf c hflags)
    split
    · exact h2
    · exact State.memWf_of_rest (by simp) h2

theorem State.functionsStart_memWf (h : s.memWf = true) : s.functionsStart.memWf = true := by
  unfold State.functionsStart
  extract_lets want words s0 s1 s2 s3 s4 s5 s6 steer s7 s8 s9
  have h8 : s8.memWf = true := State.memWf_of_rest (s := s) (by simp [s8, s7, s6, s5, s4, s3, s2, s1, s0, butMem]) h
  have h9 : s9.memWf = true := State.foldl_memWf (fun _ _ => State.dmaWordEff_memWf _ _) words h8
  exact State.memWf_of_rest (by simp [butMem]) h9

theorem State.selfTestDone_memWf (r : SelfTestIn) (h : s.memWf = true) : (s.selfTestDone r).memWf = true := by
  unfold State.selfTestDone
  split
  · exact h
  · extract_lets s1 s2 s3 life t2 t3 t4 auto
    split
    · exact State.memWf_of_rest (s := s) (by simp [s3, s2, s1, butMem]) h
    · have h1 : ({ s1 with life := { s1.life with phase := .done } }.selfFindings r).memWf = true :=
        State.memWf_of_rest (s := s) (by simp [s1, butMem]) h
      have h2 : t2.memWf = true := State.applyStore_memWf h1
      have h3 : t3.memWf = true := State.memWf_of_rest (by simp [t3, butMem]) h2
      have h4 : t4.memWf = true := State.functionsStart_memWf h3
      exact State.memWf_of_rest (by simp [butMem]) h4

/-! ### The obligation -/

/-- The commands that touch an addressed memory keep the canonical form, each by its operation. -/
theorem exec_memWf_of_touchesMem {c : Instr} {t : State} (hexec : exec c s = .next t) (htouch : touchesMem c = true)
    (h : s.memWf = true) : t.memWf = true := by
  cases c
  case write r e => cases hexec; exact State.writeAny_memWf r e h
  case multiObjectTransaction r es => cases hexec; exact State.transaction_memWf r es h
  case torvipMalformedMessage port src msg => cases hexec; exact State.badMessage_memWf port src msg h
  case canSegment port master kind tag idx total data => cases hexec; exact State.canSegment_memWf port master kind tag idx total data h
  case descriptorWrite r o => cases hexec; exact State.hostWrite_memWf (fun _ => State.descEff_memWf o) r _ _ _ h
  case dmaChannelStart r c retry first => cases hexec; exact State.hostWrite_memWf (fun _ => State.dmaWordEff_memWf c _) r _ _ _ h
  case dmaChannelDisable r c => cases hexec; exact State.hostWrite_memWf (fun _ => State.dmaWordEff_memWf c _) r _ _ _ h
  case dmaBurst err => cases hexec; exact State.dmaBurst_memWf err h
  case xspiReadTimeout c => cases hexec; exact State.xspiTimeout_memWf c h
  case dmaBufferWrite r o => cases hexec; exact State.hostWrite_memWf (fun _ => State.bufEff_memWf o) r _ _ _ h
  case backLaneSide l o => cases hexec; exact State.sideFrames_memWf l 6 (State.backReceive_memWf l false (sideBlock o) h)
  case slipDataWrite r data => cases hexec; exact State.hostWrite_memWf (fun _ => State.slipData_memWf data) r _ _ _ h
  case slipErase r => cases hexec; exact State.slipCmd_memWf r 1 h
  case slipVerify r => cases hexec; exact State.slipCmd_memWf r 2 h
  case slipInstall r => cases hexec; exact State.slipCmd_memWf r 3 h
  case slipActivate r => cases hexec; exact State.slipCmd_memWf r 4 h
  case slipConfirm r => cases hexec; exact State.slipCmd_memWf r 5 h
  case slipRevert r => cases hexec; exact State.slipCmd_memWf r 6 h
  case slipRestart r => cases hexec; exact State.slipCmd_memWf r 7 h
  case slipCommandComplete => cases hexec; exact State.slipDone_memWf h
  case powerOnResetRelease good => cases hexec; exact State.porRelease_memWf good h
  case selftestComplete res => cases hexec; exact State.selfTestDone_memWf res h
  case powerOnResetAssert => cases hexec; exact State.powerLost_memWf h
  all_goals exact nomatch htouch

/-- Every command keeps the canonical form. -/
theorem exec_memWf {c : Instr} {t : State} (hexec : exec c s = .next t) (h : s.memWf = true) : t.memWf = true := by
  cases htouch : touchesMem c with
  | false =>
    have hmems := State.mems_of_rest (rest_of_exec (allows_touched c) hexec) htouch
    simp only [mems, Prod.mk.injEq] at hmems
    obtain ⟨hdesc, hbuf, hnor⟩ := hmems
    simpa only [State.memWf, hdesc, hbuf, hnor] using h
  | true => exact exec_memWf_of_touchesMem hexec htouch h

/-- A step without a command touches no addressed memory. -/
theorem State.idleTick_memWf (h : s.memWf = true) : s.idleTick.memWf = true := by
  have hsave : s.tick.capRearm.saveEnd.memWf = true := State.memWf_of_rest (s := s.tick) (by simp [butMem]) h
  unfold State.idleTick
  dsimp only
  split
  · exact hsave
  · exact State.memWf_of_rest (by simp) hsave

/-- Settles O59: the canonical form is kept by every command, the memories changing by writes, filters and copies alone. -/
theorem memoriesStayCanonical : Obligations.MemoriesStayCanonical := by
  intro s t hwf hstep
  cases hqueue : s.pending with
  | nil =>
    simp only [step, hqueue, Host.Outcome.next.injEq] at hstep
    exact hstep ▸ State.idleTick_memWf hwf
  | cons c cs =>
    simp only [step, hqueue] at hstep
    exact exec_memWf hstep (s := { s with pending := cs }) hwf

/-- Settles O5: the state after reset is a concrete one, with the outputs off and every memory empty. -/
theorem resetStateSound : Obligations.ResetStateSound := ⟨⟨rfl, rfl, rfl, rfl⟩, rfl⟩

end Sys2Proof.Machine
end

section
/-! Rows of the safety island (R325 ... R350): what LOCKOUT leaves, what an edge, an accepted change and a press leave of their pair, the
tests in their turn, and what a stop, a lock-out and a restart keep of the verdicts. -/

namespace Sys2Proof.Machine

variable {s : State}

/-! ### LOCKOUT (R350) -/

theorem State.lockout_lockedOut (c : Nat) : (s.lockout c).lockedOut := by
  have h := s.lockout_isl c
  simp only [Island.outs, Prod.mk.injEq] at h
  obtain ⟨hst, hA, hB, -⟩ := h
  exact ⟨hst, hA, hB⟩

theorem State.lockout_cause (c : Nat) (h : s.isl.st ≠ .lockout) : (s.lockout c).isl.cause = c := by
  unfold State.lockout
  extract_lets inside again cause l s1 s2
  have hcause : s2.isl.cause = c := by simp [s2, s1, cause, inside, h]
  split
  · exact hcause
  · exact hcause

/-- A fault locks the island out, with its own cause where the island was not in LOCKOUT. -/
theorem State.lockout_locks (c : Nat) : (s.lockout c).lockedOut ∧ (s.isl.st ≠ .lockout → (s.lockout c).isl.cause = c) :=
  ⟨State.lockout_lockedOut c, State.lockout_cause c⟩

/-- Settles O6: each fault of R350 ends in the one operation of LOCKOUT. -/
theorem faultsLockOut : Obligations.FaultsLockOut := by
  intro s
  refine ⟨fun e => ⟨_, rfl, ?_⟩, fun e fe rest hended hdue => ⟨_, rfl, ?_⟩, fun n hdiffer => ⟨_, rfl, ?_⟩, fun at_ hat hdue => ⟨_, rfl, ?_⟩,
    fun hdue => ⟨_, rfl, ?_⟩, fun hon => ⟨_, rfl, ?_⟩, fun e => ⟨_, rfl, ?_⟩⟩
  · simpa using State.lockout_locks (s := (s.satBump 0xF020 (5 + e.val) 65535 1).evtFree 0x4010) 2
  · simpa [hended, hdue] using State.lockout_locks (s := (s.satBump 0xF020 (5 + e.val) 65535 1).evtFree 0x4011) 3
  · simpa [State.safeDiffer, hdiffer] using State.lockout_locks (s := s.setPair n ((s.pair n).settle s.now)) 8
  · simpa [State.speedsDiffer, hat, hdue] using State.lockout_locks 10
  · simpa [hdue] using State.lockout_locks 11
  · simpa [hon] using State.lockout_locks 13
  · have hlocks := (s.modIsl fun i => { i with supplyBad := setBit i.supplyBad e.val }).lockout_locks 5
    split
    · exact hlocks
    · exact hlocks

/-! ### What switching off, stops and restarts keep -/

/-- Every part may change but the island. -/
def butIsland : Touch := ⟨false, true, true, true, true, true, true, true⟩

/-- What the island holds of its inputs and of the frames it has judged. -/
def Island.record (i : Island) := (i.pairs, i.ended, i.lastVerdict, i.missed, i.counter, i.viol, i.clean)

theorem State.pair_of_record {t : State} (h : t.isl.record = s.isl.record) (n : Fin 4) : t.pair n = s.pair n := by
  simp only [Island.record, Prod.mk.injEq] at h
  obtain ⟨hpairs, -⟩ := h
  simp only [State.pair, hpairs]

@[simp] theorem State.outputsOff_isl : s.outputsOff.isl = { s.isl with outA := false, outB := false, lanes := 0 } := rfl

@[simp] theorem State.enableIsl_isl : s.enableIsl.isl = { s.isl with st := .enabled, stopReq := false, lanes := 6 } := rfl

@[simp] theorem State.lockout_record (c : Nat) : (s.lockout c).isl.record = s.isl.record := by
  unfold State.lockout
  extract_lets inside again cause l s1 s2
  have h2 : s2.isl.record = s.isl.record := by
    cases hinside : inside with
    | true => simp [s2, s1, hinside, Island.record]
    | false => simp [s2, s1, hinside, Island.record]
  split
  · exact h2
  · exact h2

@[simp] theorem State.startTest_record : s.startTest.isl.record = s.isl.record := by
  unfold State.startTest
  extract_lets s1
  have h1 : s1.isl.record = s.isl.record := by simp [s1, Island.record]
  split
  · rw [State.lockout_record, h1]
  · exact h1

@[simp] theorem State.reset_record : s.reset_.isl.record = s.isl.record := by
  unfold State.reset_
  repeat' split
  · simp
  · exact State.startTest_record
  · simp [Island.record]
  · rfl
  · rfl

@[simp] theorem State.stopIsl_record (why cat : Nat) : (s.stopIsl why cat).isl.record = s.isl.record := by
  unfold State.stopIsl
  extract_lets c s1
  repeat' split
  · simp [s1, Island.record]
  · simp [s1, Island.record]
  · simp [Island.record]
  · rfl
  · rfl

@[simp] theorem State.condWatch_record : s.condWatch.isl.record = s.isl.record := by
  unfold State.condWatch
  repeat' split
  · simp [Island.record]
  · rfl
  · simp [Island.record]

@[simp] theorem State.startTestEnd_record : s.startTestEnd.isl.record = s.isl.record := by
  unfold State.startTestEnd
  split
  · simp [Island.record]
  · rfl

/-! ### Pairs (R340 ... R342) -/

@[simp] theorem State.pair_setPair (n : Fin 4) (p : SafePair) : (s.setPair n p).pair n = p := by
  simp [State.pair, Vector.get_eq_getElem]

@[simp] theorem State.pair_evt (code param : Nat) (n : Fin 4) : (s.evt code param).pair n = s.pair n := by simp only [State.pair, State.evt_isl]

@[simp] theorem SafeCh.edge_ball (c : SafeCh) (closed : Bool) (now : Nat) (win : Option Nat) : (c.edge closed now win).ball = closed := by
  unfold SafeCh.edge
  split
  · next h => simpa using h
  · split <;> rfl

@[simp] theorem SafeCh.settle_ball (c : SafeCh) (now : Nat) : (c.settle now).ball = c.ball := by
  unfold SafeCh.settle
  repeat' split
  · rfl
  · rfl
  · rfl

/-- Outside the windows a change at the ball has to hold from now on (R340). -/
theorem SafeCh.edge_changed {c : SafeCh} {closed : Bool} (h : c.ball ≠ closed) (now : Nat) : (c.edge closed now none).changed = some now := by
  simp [SafeCh.edge, h]

theorem SafeCh.settle_of_pend_none {c : SafeCh} (h : c.pend = none) (now : Nat) : c.settle now = c := by simp [SafeCh.settle, h]

/-- An edge at channel A. -/
theorem State.safeEdge_a (n : Fin 4) (closed : Bool) : (s.safeEdge n false closed).pair n =
    { (s.pair n).settle s.now with a := ((s.pair n).a.settle s.now).edge closed s.now s.tpWindow }.judge := by
  simp [State.safeEdge, SafePair.settle, SafePair.judge]

/-- An edge at channel B. -/
theorem State.safeEdge_b (n : Fin 4) (closed : Bool) : (s.safeEdge n true closed).pair n =
    { (s.pair n).settle s.now with b := ((s.pair n).b.settle s.now).edge closed s.now s.tpWindow }.judge := by
  simp [State.safeEdge, SafePair.settle, SafePair.judge]

/-- A channel of a pair. -/
def SafePair.chan (p : SafePair) (chB : Bool) : SafeCh := if chB then p.b else p.a

theorem SafePair.settle_chan (p : SafePair) (now : Nat) (chB : Bool) : (p.settle now).chan chB = (p.chan chB).settle now := by
  cases chB <;> rfl

/-- A change held for 3 ms outside the windows is accepted: the channel takes the level of its ball. What follows from it, a stop, a reset or
the end of START-TEST, touches no pair (R340, R342). -/
theorem State.safeAccept_chan (n : Fin 4) (chB : Bool) {at_ : Nat} (hchanged : ((s.pair n).chan chB).changed = some at_)
    (hpend : ((s.pair n).chan chB).pend = none) (hheld : at_ + 3 * msP ≤ s.now) :
    (((s.safeAccept n chB).pair n).chan chB).closed = ((s.pair n).chan chB).ball ∧ (((s.safeAccept n chB).pair n).chan chB).changed = none := by
  have hsettled : ((s.pair n).settle s.now).chan chB = (s.pair n).chan chB := by rw [SafePair.settle_chan, SafeCh.settle_of_pend_none hpend]
  have hlevel : ((s.pair n).chan chB).level = ((s.pair n).chan chB).ball := by simp [SafeCh.level, hpend]
  unfold State.safeAccept
  extract_lets p c c1 p1 was is_ saw p2 s1 s2
  have hc : c = (s.pair n).chan chB := hsettled
  simp only [hc, hchanged, Nat.not_lt.2 hheld, if_false]
  have h2 : s2.isl.record = s1.isl.record := by
    simp only [s2]
    repeat' split
    · exact State.stopIsl_record _ _
    · exact State.stopIsl_record _ _
    · exact State.reset_record
    · rfl
    · rfl
    · rfl
    · rfl
  have hpair : (s2.condWatch.startTestEnd).pair n = p2 := by
    rw [State.pair_of_record (s := s1) (by rw [State.startTestEnd_record, State.condWatch_record, h2])]
    exact State.pair_setPair n p2
  have hchan : p2.chan chB = c1 := by cases chB <;> rfl
  rw [hpair, hchan]
  exact ⟨by rw [← hlevel, ← hc], rfl⟩

/-! ### Tests (R340, R348, R349) -/

theorem State.startTestEnd_st (h : s.isl.st = .startTest) : s.startTestEnd.isl.st = .startTest ∨ s.startTestEnd.isl.st = .off := by
  unfold State.startTestEnd
  split
  · exact .inr rfl
  · exact .inl h

theorem State.startTestEnd_tests :
    s.startTestEnd.isl.testStep = s.isl.testStep ∧ s.startTestEnd.isl.testDone = s.isl.testDone := by
  unfold State.startTestEnd
  split
  · exact ⟨rfl, rfl⟩
  · exact ⟨rfl, rfl⟩

theorem State.outputsDue_of_on (hA : s.isl.outA = true) (hB : s.isl.outB = true) : s.outputsDue = true := by simp [State.outputsDue, hA, hB]

/-- A switch test of outputs that are on: the next switch is tested, and a fault locks out. -/
theorem State.switchTest_on (fault : Nat) (hA : s.isl.outA = true) (hB : s.isl.outB = true) (hdue : s.swDue = true) :
    s.switchTest fault = (if 11 ≤ fault ∧ fault ≤ 14 then
      (s.modIsl fun i => { i with swTest := (i.swTest + 1) % 4, swAt := some s.now }).lockout fault
      else s.modIsl fun i => { i with swTest := (i.swTest + 1) % 4, swAt := some s.now }) := by
  simp [State.switchTest, State.outputsDue_of_on hA hB, hdue, hA, hB]

/-- A step of the start-up cycle that is due. -/
theorem State.startUpTest_due (fault : Nat) (hst : s.isl.st = .startTest) (hhv : s.die.hvLow = false) (hdue : s.swDue = true) :
    s.startUpTest fault = (if 11 ≤ fault ∧ fault ≤ 14 then s.lockout fault
      else (s.modIsl fun i => { i with
        testStep := (s.isl.testStep + 1) % 4, swAt := some s.now, testDone := i.testDone || s.isl.testStep + 1 == 4 }).startTestEnd) := by
  simp [State.startUpTest, hst, hhv, hdue]

/-- A test pulse that is due. -/
theorem State.testPulse_due (tpB : Bool) (bad : List Nat) (hhv : s.die.hvLow = false) (hdue : s.tpDue tpB = true) :
    s.testPulse tpB bad =
      let s1 := (s.modIsl fun i => if tpB then { i with tpB := some s.now } else { i with tpA := some s.now }).emit (.testPulse (b2n tpB))
      if quads4.any fun n => s.pairType n != 0 && bad.contains n.val then s1.lockout 9 else s1 := by
  simp [State.testPulse, hhv, hdue]

theorem mem_quads4 (n : Fin 4) : n ∈ quads4 := by
  fin_cases n <;> decide

theorem State.modIsl_ite_st (tpB : Bool) : (s.modIsl fun i => if tpB then { i with tpB := some s.now } else { i with tpA := some s.now }).isl.st =
    s.isl.st := by
  cases tpB <;> rfl

/-- Settles O7: the tests by what each does when it is due, the inputs by what an edge, an accepted change and a press leave of their pair. -/
theorem safeInputOutputRows : Obligations.SafeInputOutputRows := by
  refine ⟨fun s => ⟨?_, ?_, ?_, ?_, ?_, ?_, ?_⟩, fun s n => ⟨?_, ?_, ?_, ?_, ?_⟩⟩
  · intro tpB hhv hdue
    refine ⟨_, rfl, ?_⟩
    rw [State.testPulse_due tpB [] hhv hdue]
    cases tpB <;> simp [State.tpLow, State.emit, State.modIsl, tpWidth, usP]
  · intro tpB bad n hhv hdue htype hbad
    refine ⟨_, rfl, ?_⟩
    have hany : (quads4.any fun n => s.pairType n != 0 && bad.contains n.val) = true :=
      List.any_eq_true.2 ⟨n, mem_quads4 n, by simp_all⟩
    rw [State.testPulse_due tpB bad hhv hdue]
    simp only [hany, if_true]
    refine ⟨State.lockout_lockedOut 9, fun hst => State.lockout_cause 9 ?_⟩
    rwa [State.emit_isl, State.modIsl_ite_st]
  · intro hA hB hhv hdue hst hsw
    refine ⟨_, rfl, ?_⟩
    rw [State.switchTest_on 0 hA hB hdue]
    refine ⟨by simp, ?_⟩
    have hturn : ((s.isl.swTest + 1) % 4 + 3) % 4 = s.isl.swTest := by omega
    simp [State.switchClosed, State.underTest, hst, hturn, usP]
  · intro f hlow hhigh hA hB hhv hdue
    refine ⟨_, rfl, ?_⟩
    rw [State.switchTest_on f hA hB hdue, if_pos ⟨hlow, hhigh⟩]
    exact State.lockout_locks (s := s.modIsl fun i => { i with swTest := (i.swTest + 1) % 4, swAt := some s.now }) f
  · intro hdue hst
    refine ⟨s.lockout 12, ?_, State.lockout_lockedOut 12, State.lockout_cause 12 ?_⟩
    · rcases hst with hst | hst <;> simp [exec, execOutputSwitchTest, State.switchTest, hdue, hst]
    · rcases hst with hst | hst <;> simp [hst]
  · intro hst hhv hdue
    refine ⟨_, rfl, ?_⟩
    rw [State.startUpTest_due 0 hst hhv hdue, if_neg (by decide)]
    obtain ⟨hstep, hdone⟩ := State.startTestEnd_tests (s := s.modIsl fun i => { i with
        testStep := (s.isl.testStep + 1) % 4, swAt := some s.now, testDone := i.testDone || s.isl.testStep + 1 == 4 })
    exact ⟨hstep, fun h3 => by rw [hdone]; simp [h3], State.startTestEnd_st hst⟩
  · intro f hlow hhigh hst hhv hdue
    refine ⟨_, rfl, ?_⟩
    rw [State.startUpTest_due f hst hhv hdue, if_pos ⟨hlow, hhigh⟩]
    exact ⟨State.lockout_lockedOut f, State.lockout_cause f (by simp [hst])⟩
  · intro closed
    refine ⟨_, rfl, ?_⟩
    rw [State.safeEdge_a]
    refine ⟨SafeCh.edge_ball _ _ _ _, rfl, fun hne hwin => ?_⟩
    rw [hwin]
    exact SafeCh.edge_changed (by simpa using hne) _
  · intro closed
    refine ⟨_, rfl, ?_⟩
    rw [State.safeEdge_b]
    refine ⟨SafeCh.edge_ball _ _ _ _, rfl, fun hne hwin => ?_⟩
    rw [hwin]
    exact SafeCh.edge_changed (by simpa using hne) _
  · intro at_ hchanged hpend hheld
    exact ⟨_, rfl, State.safeAccept_chan n false hchanged hpend hheld⟩
  · intro at_ hchanged hpend hheld
    exact ⟨_, rfl, State.safeAccept_chan n true hchanged hpend hheld⟩
  · intro at_ hsince htype hlong hheld
    refine ⟨_, rfl, ?_⟩
    simp [State.longPress, hsince, htype, hlong, hheld]

/-! ### Speeds, safe stop and restart (R343, R346, R347, R437) -/

/-- Bit 1 stays as bit 2 is set. -/
theorem bit_one_setBit_two (n : Nat) : bit (setBit n 2) 1 = bit n 1 := by
  have hdiv : (n + 4) / 2 % 2 = n / 2 % 2 := by omega
  unfold setBit
  split
  · rfl
  · simp [bit, hdiv]

theorem bit_one_setBit (n : Nat) : bit (setBit (setBit n 1) 2) 1 = true := by rw [bit_one_setBit_two, bit_setBit_self]

/-- In STOPPING a reason of either evaluator switches the outputs off (R346). -/
theorem State.stoppingCheck_off (hst : s.isl.st = .stopping) (hreason : s.rampReason s.isl.ve ≠ 0 ∨ s.rampReason s.isl.veB ≠ 0) :
    s.stoppingCheck.isl.st = .off ∧ s.stoppingCheck.isl.outA = false ∧ s.stoppingCheck.isl.outB = false := by
  unfold State.stoppingCheck
  rw [if_neg (by simp [hst])]
  extract_lets a b r
  have hr : r ≠ 0 := by
    simp only [r]
    repeat' split
    · next ha => exact hreason.resolve_left (absurd ha)
    · next ha _ => exact ha
    · next ha hb => exact Nat.pos_iff_ne_zero.1 (lt_min (Nat.pos_of_ne_zero ha) (Nat.pos_of_ne_zero hb))
  rw [if_neg hr]
  exact ⟨rfl, rfl, rfl⟩

/-- Settles O8, row by row; the ramp's reasons are those of either evaluator. -/
theorem speedStopRestart : Obligations.SpeedStopRestart := by
  intro s
  refine ⟨⟨_, rfl, rfl⟩, ⟨_, rfl, rfl⟩, ⟨_, rfl, rfl, rfl, rfl, rfl⟩, fun hst hreason => ⟨_, rfl, State.stoppingCheck_off hst hreason⟩,
    fun at_ hconds hst hmode hok hdue => ⟨s.enableIsl, ?_, rfl, rfl, ?_, ?_, ?_⟩, ⟨_, rfl, rfl, ?_, ?_, rfl⟩, ⟨_, rfl, rfl⟩⟩
  · simp [exec, execRestartDelayExpiry, hconds, hst, hmode, hok, hdue]
  · exact bit_one_setBit _
  · exact bit_setBit_self _ 2
  · simp [State.enableIsl, State.outputsOn, State.emit, State.modIsl]
  · exact bit_one_setBit _
  · exact bit_setBit_self _ 2

/-! ### Verdicts and windows (R325, R335, R338, R339) -/

theorem State.countViol_record (viol : Bool) (why cat : Nat) : (s.countViol viol why cat).isl.record =
    ({ s.isl with counter := if viol then s.isl.counter + 1 else 0 } : Island).record := by
  unfold State.countViol
  extract_lets s1
  split
  · rw [State.stopIsl_record]; rfl
  · rfl

theorem State.pilotFrame_isl (frame crc : Nat) (noSet : Bool) : (s.pilotFrame frame crc noSet).isl = s.isl :=
  State.isl_of_rest (m := butIsland) (by simp) rfl

/-- A verdict takes the oldest frame that has ended. -/
theorem State.verdict_takes (differ miss : Bool) {fe : FrameEnd} {rest : List FrameEnd} (hended : s.isl.ended = fe :: rest) :
    (s.verdict differ miss).isl.ended = rest ∧ (s.verdict differ miss).isl.lastVerdict = fe.no := by
  unfold State.verdict
  split
  · next hnone => exact absurd (hended.symm.trans hnone) (List.cons_ne_nil fe rest)
  next e rest' hsome =>
  obtain ⟨rfl, rfl⟩ := List.cons.inj (hsome.symm.trans hended)
  extract_lets no sets ja jb some_ prot late viol dead s1 s2 s3 s4 s5 s6 s7
  have h4 : s4.isl = s3.isl := by
    simp only [s4]
    split
    · rfl
    · exact State.bump_isl ..
  have h5 : s5.isl.record = s3.isl.record := by
    simp only [s5]
    repeat' split
    · rw [State.lockout_record, h4]
    · rw [State.bump_isl, ← h4]; rfl
    · rw [h4]
  have h6 : s6.isl.record = s3.isl.record := by
    simp only [s6]
    split
    · rw [State.lockout_record, h5]
    · exact h5
  have hend : ((s7.pilotFrame no s7.setCrc e.set.isNone).tapDone no).condWatch.startTestEnd.isl.record = s7.isl.record := by
    rw [State.startTestEnd_record, State.condWatch_record]
    exact congrArg Island.record (State.pilotFrame_isl ..)
  have h7 := State.countViol_record (s := s6) viol (if prot ja || prot jb then 1 else 3) (s.objN 0xC010 13)
  have h3 : s3.isl.ended = rest' ∧ s3.isl.lastVerdict = e.no := ⟨by simp [s3, s2, s1, State.egoUpdate], by simp [s3, no]⟩
  simp only [Island.record, Prod.mk.injEq] at hend h7 h6
  obtain ⟨-, hendE, hendV, -⟩ := hend
  obtain ⟨-, h7E, h7V, -⟩ := h7
  obtain ⟨-, h6E, h6V, -⟩ := h6
  exact ⟨hendE.trans (h7E.trans (h6E.trans h3.1)), hendV.trans (h7V.trans (h6V.trans h3.2))⟩

/-- A frame that stays away counts as a violated one (R335). -/
theorem State.frameMissing_counts (hst : s.isl.st ≠ .init)
    (hdue : s.isl.lastEnd + (s.isl.missed + 1) * (s.objN 0xC010 9 * msP) ≤ s.now) :
    s.frameMissing.isl.missed = s.isl.missed + 1 ∧ s.frameMissing.isl.counter = s.isl.counter + 1 ∧ s.frameMissing.isl.clean = 0 ∧
      s.frameMissing.isl.viol = true := by
  have h := State.countViol_record (s := s.modIsl fun i => { i with missed := i.missed + 1, clean := 0, viol := true }) true 2 0
  rw [State.frameMissing, if_pos ⟨hst, hdue⟩]
  rw [← State.condWatch_record] at h
  simp only [Island.record, Prod.mk.injEq] at h
  obtain ⟨-, -, -, hmissed, hcounter, hviol, hclean⟩ := h
  exact ⟨hmissed, hcounter, hclean, hviol⟩

/-- A judgement starts every zone anew (R339). -/
theorem State.contamination_zones : s.contamination.isl.zones.length = s.objN 0xC040 1 ∧
    ∀ z ∈ s.contamination.isl.zones, z.2.cands = 0 ∧ z.2.shots = 0 := by
  unfold State.contamination
  extract_lets zs from_ new s1
  have hfold : ((zs.zip new).foldl (fun s p =>
      if p.1.2.st = p.2.2.st then s
      else if p.2.2.st = 1 then s.evt 0x4021 p.2.1
      else if p.2.2.st = 2 then s.evt 0x4022 p.2.1
      else s) s1).isl = s1.isl := by
    refine foldl_keeps (·.isl) (fun s p => ?_) (zs.zip new) s1
    repeat' split
    · rfl
    · exact State.evt_isl ..
    · exact State.evt_isl ..
    · rfl
  rw [hfold]
  refine ⟨by simp [s1, new, zs], fun z hz => ?_⟩
  obtain ⟨p, -, rfl⟩ : ∃ p ∈ zs, _ = z := List.mem_map.1 hz
  exact ⟨rfl, rfl⟩

/-! ### The start of the safety function (R321, R328) -/

theorem State.loadSet_st : s.loadSet.isl.st = s.isl.st := by
  have h : s.loadSet.isl.outs = s.isl.outs := State.outs_of_rest (m := butOuts) (by simp [butOuts]) rfl
  exact congrArg Prod.fst h

theorem State.withSet_life (image : Octets) : (s.withSet image).life = s.life := by
  unfold State.withSet
  refine foldl_keeps (·.life) (fun s p => ?_) _ _
  repeat' split
  · rfl
  · rfl
  · rfl
  · exact foldl_keeps (·.life) (fun s m => State.setObj_life ..) _ _

@[simp] theorem State.plvLost_life (k : Fin 4) : (s.plvLost k).life = s.life := by
  have hwatch (s : State) : s.condWatch.life = s.life := by
    unfold State.condWatch
    repeat' split
    · rfl
    · rfl
    · rfl
  unfold State.plvLost
  extract_lets s1
  repeat' split
  · exact hwatch _
  · exact hwatch _
  · rfl
  · rfl

@[simp] theorem State.plvFail_life (k : Fin 4) (cause : Nat) : (s.plvFail k cause).life = s.life := by
  unfold State.plvFail
  split
  · rfl
  · simp

theorem State.loadSet_life : s.loadSet.life = s.life := by
  unfold State.loadSet
  extract_lets s1 consumer producer s2
  have h1 : s1.life = s.life := by
    simp only [s1]
    split
    · exact State.withSet_life _
    · rfl
  have hconsumer (s : State) (k : Fin 4) : (consumer s k).life = s.life := by
    simp only [consumer]
    repeat' split
    · rfl
    · simp
    · simp
  have hproducer (s : State) (k : Fin 4) : (producer s k).life = s.life := rfl
  have h2 : s2.life = s.life := by simp only [s2, hproducer, hconsumer, h1]
  split
  · exact h2
  · exact h2

/-- What a standing cause is judged from (R351). -/
theorem State.standingCause_congr {t : State} (hnow : t.now = s.now) (hdict : t.dict = s.dict) (hdie : t.die.failed = s.die.failed)
    (hset : t.isl.setOk = s.isl.setOk) (hsupply : t.isl.supplyBad = s.isl.supplyBad) (hpairs : t.isl.pairs = s.isl.pairs)
    (hspeeds : t.isl.disagree = s.isl.disagree) : t.standingCause = s.standingCause := by
  have hobj (o el : Nat) : t.objN o el = s.objN o el := by simp only [State.objN, State.obj_congr hdict]
  have hpair : t.pairDiffers = s.pairDiffers := by
    funext n
    simp only [State.pairDiffers, State.pairType, State.pairDisc, State.pair, hobj, hnow, hpairs] <;> rfl
  simp only [State.standingCause, State.speedsDiffer, hpair, hnow, hdie, hset, hsupply, hspeeds] <;> rfl

/-- START-TEST where no cause stands. -/
theorem State.startTest_of_no_cause (h : s.standingCause = none) : s.startTest.isl.st = .startTest ∧ s.startTest.isl.setOk = s.isl.setOk := by
  unfold State.startTest
  extract_lets s1
  have h1 : s1.standingCause = s.standingCause := by
    refine State.standingCause_congr rfl rfl rfl ?_ ?_ ?_ ?_
    · simp [s1]
    · simp [s1]
    · simp [s1]
    · simp [s1]
  simp only [h1, h]
  exact ⟨rfl, rfl⟩

@[simp] theorem State.newSessions_isl : s.newSessions.isl = s.isl := by simp [State.newSessions]
@[simp] theorem State.newSessions_life : s.newSessions.life = s.life := by simp [State.newSessions]
@[simp] theorem State.newSessions_now : s.newSessions.now = s.now := by simp [State.newSessions]
@[simp] theorem State.newSessions_dict : s.newSessions.dict = s.dict := by simp [State.newSessions]
@[simp] theorem State.newSessions_die : s.newSessions.die = s.die := by simp [State.newSessions]

/-- The evaluators take the stored set as they boot in INIT, and judge it (R321). -/
theorem State.evalBooted_loadSet (ok : Bool) (hinit : s.isl.st = .init) (hlife : s.life.st ≠ .off) :
    s.loadSet.newSessions.evalBooted ok =
      let s1 := (s.loadSet.newSessions.modIsl fun i => { i with setOk := ok, lastEnd := s.loadSet.newSessions.now, missed := 0 }).selDrop
      if ok then s1.startTest else s1.lockout 7 := by
  have hguard : ¬(s.loadSet.newSessions.isl.st ≠ .init ∨ s.loadSet.newSessions.life.st = .off) := by
    simp [State.loadSet_st, State.loadSet_life, hinit, hlife]
  rw [State.evalBooted, if_neg hguard]

/-- Settles O9: a verdict takes the oldest frame, a missing one counts, a judgement clears the zones, and the evaluators start their tests
unless the stored set fails its CRC or a cause stands. -/
theorem verdictRows : Obligations.VerdictRows := by
  intro s
  refine ⟨fun differ miss fe rest hended hdue => ⟨_, rfl, ?_⟩, fun hst hdue => ⟨_, rfl, State.frameMissing_counts hst hdue⟩,
    fun hlate => ⟨_, rfl, ?_⟩, ⟨_, rfl, State.contamination_zones⟩, fun hinit hlife hdie => ⟨fun hcause => ⟨_, rfl, ?_⟩, ⟨_, rfl, ?_⟩⟩⟩
  · rw [if_pos hdue]
    exact State.verdict_takes differ miss hended
  · rw [if_pos hlate]
    rfl
  · rw [if_pos hinit, State.evalBooted_loadSet true hinit hlife]
    extract_lets s1
    have h1 : s1.standingCause = (s.loadSet.modIsl fun i => { i with setOk := true }).standingCause := by
      refine State.standingCause_congr ?_ ?_ ?_ ?_ ?_ ?_ ?_
      · simp [s1, State.selDrop]
      · simp [s1, State.selDrop]
      · simp [s1, State.selDrop]
      · simp [s1, State.selDrop]
      · simp [s1, State.selDrop]
      · simp [s1, State.selDrop]
      · simp [s1, State.selDrop]
    obtain ⟨hst, hok⟩ := State.startTest_of_no_cause (h1.trans hcause)
    exact ⟨hst, hok⟩
  · rw [if_pos hinit, State.evalBooted_loadSet false hinit hlife]
    extract_lets s1
    have hst : s1.isl.st ≠ .lockout := by simp [s1, State.selDrop, State.loadSet_st, hinit]
    rw [if_neg Bool.false_ne_true]
    exact ⟨State.lockout_lockedOut 7, State.lockout_cause 7 hst⟩

end Sys2Proof.Machine
end

section
/-! Rows of the Pilot (R379, R396): what begins a restart, what one that completes takes over, and how a trial ends. -/

namespace Sys2Proof.Machine

variable {s : State}

/-! ### Restarts and trials -/

theorem State.extendLeases_keeps : s.extendLeases = { s with tv := s.extendLeases.tv } := by
  unfold State.extendLeases
  split
  · rfl
  · rfl

/-- A trial whose end is decided returns to the former slot by a restart (R396). -/
theorem State.trialEnd_restart (why cause : Nat) :
    ((s.trialEnd why).pilotRestart cause 0).pilot.trial = none ∧ ((s.trialEnd why).pilotRestart cause 0).nv.preferred = s.pilot.former ∧
      ((s.trialEnd why).pilotRestart cause 0).pilot.restart = some (cause, s.now, s.now) := by
  rw [State.pilotRestart_trial, State.pilotRestart_nv, State.pilotRestart_restart, State.trialEnd_pilot, State.trialEnd_nv, State.trialEnd_now]
  exact ⟨rfl, rfl, rfl⟩

/-- A fourth watchdog within 600 s waits for 10 s (R379). -/
theorem State.watchdog_restarts (hon : s.pilotOn = true) : s.watchdog.restarting = true ∧
    s.watchdog.pilot.restart = some (4, s.now, s.now + if 3 ≤ (s.pilot.wdogs.filter fun x => decide (s.now < x + 600 * secP)).length
      then 10 * secP else 0) := by
  unfold State.watchdog
  rw [if_neg (by simp [hon])]
  extract_lets l s1 s2 s3
  have hlen : 3 < l.length ↔ 3 ≤ (s.pilot.wdogs.filter fun x => decide (s.now < x + 600 * secP)).length := by
    simp only [l, List.length_cons]
    omega
  have h2 : s2.now = s.now := by
    simp only [s2]
    split
    · exact State.trialEnd_now ..
    · rfl
  have h3 : s3.now = s.now := by
    simp only [s3]
    split
    · rw [State.evt_now, h2]
    · exact h2
  rw [State.pilotRestart_restart, h3]
  simp only [hlen, and_true]
  exact rfl

/-- A restart that completes with a slot that boots takes the slot; a trial may end with it, which changes nothing else of the Pilot. -/
theorem State.restartDone_boots {x : Nat × Nat × Nat} {i : Nat} (hx : s.pilot.restart = some x) (hdue : x.2.2 ≤ s.now) (hslot : s.bootSlot = some i) :
    s.restartDone.restarting = false ∧ s.restartDone.pilot.restart = none ∧ s.restartDone.pilot.slot = i ∧
      s.restartDone.pilot.cause = x.1 ∧ s.restartDone.pilot.restarts = (s.pilot.restarts + 1) % 2 ^ 32 := by
  have hleases : s.extendLeases.pilot = s.pilot := by rw [State.extendLeases_keeps]
  unfold State.restartDone
  split
  · next hnone => exact absurd (hx.symm.trans hnone) (Option.some_ne_none x)
  next r hr =>
  obtain rfl := Option.some.inj (hr.symm.trans hx)
  rw [if_neg (Nat.not_lt.2 hdue)]
  split
  · next hnone => exact absurd (hslot.symm.trans hnone) (Option.some_ne_none i)
  next j hj =>
  obtain rfl := Option.some.inj (hj.symm.trans hslot)
  extract_lets other s1 tv s2 s3 s4
  have h1 : s1.pilot = { s.pilot with restart := none, slot := j, restarts := (s.pilot.restarts + 1) % 2 ^ 32, cause := r.1 } := by
    simp [s1, hleases]
  have h3 : s3.restarting = false ∧ s3.pilot = s1.pilot := by
    simp only [s3]
    split
    · exact ⟨State.evt_restarting .., State.evt_pilot ..⟩
    · exact ⟨rfl, rfl⟩
  have h4 : s4.restarting = false ∧ s4.pilot = { s1.pilot with trial := s4.pilot.trial } := by
    simp only [s4]
    split
    · exact ⟨(State.evt_restarting ..).trans h3.1, by rw [State.trialEnd_pilot, h3.2]⟩
    · exact ⟨h3.1, by rw [h3.2]⟩
  rw [State.evt_restarting, State.evt_pilot, h4.2, h1]
  exact ⟨h4.1, rfl, rfl, rfl, rfl⟩

/-- Settles O51: a watchdog and an SRAM error begin a restart, one that is over takes the slot that boots, and a trial returns by a restart. -/
theorem restartRows : Obligations.RestartRows := by
  intro s
  refine ⟨fun hon => ⟨⟨_, rfl, State.watchdog_restarts hon⟩, ⟨_, rfl, ?_⟩⟩,
    fun x hx hdue => ⟨fun i hslot => ⟨_, rfl, State.restartDone_boots hx hdue hslot⟩, fun hslot => ⟨_, rfl, ?_⟩⟩,
    fun at_ hat hdue => ⟨_, rfl, ?_⟩, fun at_ x hat hx hdue => ⟨_, rfl, ?_⟩⟩
  · rw [if_pos hon]
    exact ⟨rfl, rfl⟩
  · simp [State.restartDone, hx, Nat.not_lt.2 hdue, hslot]
  · simpa only [State.trialExpiry, hat, hdue, if_true] using State.trialEnd_restart 2 2
  · simpa only [State.trialTimeout, hat, hx, hdue, if_true] using State.trialEnd_restart 3 2

end Sys2Proof.Machine
end

section
/-! The run state under the operations. Of each operation that a run-state command or a housekeeping round goes through one
lemma `<operation>_core` says which parts of the core it can change: device state, the rest of the life cycle, the frame engine, the
published temperatures and the power domains. -/

namespace Sys2Proof.Machine

/-- The parts of the core that may change. -/
structure Moved where
  st : Bool
  life : Bool
  frm : Bool
  vals : Bool

/-- The life cycle but its state, and the causes and re-admissions that every operation may change. -/
def Life.calm (l : Life) : Life := { l with st := .off, since := 0, causes := 0, readm := [] }

@[simp] theorem Life.calm_mk (l : Life) {st since causes readm} :
    Life.calm ⟨st, since, l.phase, l.prepared, l.stopReq, l.prepReq, l.prepEl, causes, l.autoRun, l.nextAuto, l.capBad, readm⟩ = l.calm := by
  simp only [Life.calm]

/-- The values in effect that the core holds: levels and temperatures of the sensor block (R380, R381), and the power domains (R387). -/
@[simp] def inCore (o : Nat) : Bool := o == 0x8010 || o == 0x8011 || o == 0x8101 || o == 0x8101

/-- Neither object of a pair that belongs to the two links is in the core. -/
theorem inCore_link {l : Fin 2} {o o' : Nat} (h : inCore o = false) (h' : inCore o' = false) :
    inCore (if l = 0 then o else o') = false := by
  split
  · exact h
  · exact h'

theorem inCore_winObj (mm : Bool) {n : Nat} (hn : n < 64) : inCore ((if mm then 0x7240 else 0x7140) + n) = false := by
  have hlow : (if mm then 0x7240 else 0x7140) + n < 0x8000 := by
    split <;> omega
  simp only [inCore, Bool.or_eq_false_iff, beq_eq_false_iff_ne]
  omega

/-- The parts of a state's core but those that may move, with the clock. -/
structure Core where
  now : Nat
  st : Option DevState
  life : Option Life
  frm : Option Frames
  vals : Option (Nat → Nat → Option Int)

def State.core (mv : Moved) (s : State) : Core where
  now := s.now
  st := untouched mv.st s.life.st
  life := untouched mv.life s.life.calm
  frm := untouched mv.frm s.frm
  vals := untouched mv.vals fun o el => if inCore o then some (s.obj o el) else none

variable (mv : Moved)

/-- A record update changes no part but those that it names. -/
@[simp] theorem State.core_mk (t : State) {dict life frm} (hst : mv.st = false → life.st = t.life.st)
    (hlife : mv.life = false → life.calm = t.life.calm) (hfrm : mv.frm = false → frm = t.frm) (hvals : mv.vals = false → dict = t.dict)
    {scale free pending out tv sideTx restarting ev die quads em steer forge ana gov queues dma links recTok recAt tap isl cap time wof fleet
      plv sens pilot nv blobs jtag} :
    State.core mv ⟨t.now, scale, free, pending, out, dict, tv, sideTx, restarting, ev, life, die, frm, quads, em, steer, forge, ana, gov,
      queues, dma, links, recTok, recAt, tap, isl, cap, time, wof, fleet, plv, sens, pilot, nv, blobs, jtag⟩ = t.core mv := by
  unfold State.core
  congr 1
  case e_vals => exact untouched_inj.2 fun h => by simp only [State.obj, hvals h]
  all_goals exact untouched_inj.2 ‹_›

@[simp] theorem State.core_ite (c : Prop) [Decidable c] (a b : State) : (if c then a else b).core mv = if c then a.core mv else b.core mv :=
  apply_ite (State.core mv) c a b

@[simp] theorem State.core_foldl {β : Type} {f : State → β → State} (h : ∀ s x, (f s x).core mv = s.core mv) (l : List β) (s : State) :
    (l.foldl f s).core mv = s.core mv :=
  foldl_keeps (State.core mv) h l s

@[simp] theorem State.core_forQuads {f : State → Fin 4 → State} (h : ∀ s q, (f s q).core mv = s.core mv) (s : State) :
    (forQuads s f).core mv = s.core mv :=
  Sys2Proof.Machine.forQuads_keeps s (State.core mv) h

/-- What does not touch the core's parts leaves it. -/
theorem State.core_congr {s t : State} (hnow : t.now = s.now) (hlife : t.life = s.life) (hfrm : t.frm = s.frm) (hdict : t.dict = s.dict) :
    t.core mv = s.core mv := by
  unfold State.core
  simp only [State.obj, hnow, hlife, hfrm, hdict]

variable {mv}

/-- A value outside the core is set, or one that may change. -/
@[simp] theorem State.core_setObj (s : State) {o el : Nat} (v : Int) (h : mv.vals = true ∨ inCore o = false) :
    (s.setObj o el v).core mv = s.core mv := by
  unfold State.core
  congr 1
  refine untouched_inj.2 fun hk => funext fun o' => funext fun el' => ?_
  split
  · next hin =>
    refine congrArg some (State.obj_setObj_ne s v ?_)
    have hout : inCore o = false := h.resolve_left (by simp [hk])
    by_contra hsame
    simp_all
  · rfl

@[simp] theorem State.core_bump (s : State) {o el : Nat} (n : Nat) (h : mv.vals = true ∨ inCore o = false) :
    (s.bump o el n).core mv = s.core mv := by
  unfold State.bump
  dsimp only
  split
  · exact s.core_setObj _ h
  · exact (State.core_mk mv _ (fun _ => rfl) (fun _ => rfl) (fun _ => rfl) fun _ => rfl).trans (s.core_setObj _ h)

theorem State.now_of_core {s t : State} (h : t.core mv = s.core mv) : t.now = s.now := congrArg Core.now h
theorem State.st_of_core {s t : State} (h : t.core mv = s.core mv) (hk : mv.st = false) : t.life.st = s.life.st :=
  untouched_inj.1 (congrArg Core.st h) hk
theorem State.calm_of_core {s t : State} (h : t.core mv = s.core mv) (hk : mv.life = false) : t.life.calm = s.life.calm :=
  untouched_inj.1 (congrArg Core.life h) hk
theorem State.frm_of_core {s t : State} (h : t.core mv = s.core mv) (hk : mv.frm = false) : t.frm = s.frm :=
  untouched_inj.1 (congrArg Core.frm h) hk
theorem State.obj_of_core {s t : State} (h : t.core mv = s.core mv) (hk : mv.vals = false) {o el : Nat} (hin : inCore o = true) :
    t.obj o el = s.obj o el := by
  have hvals := congrFun (congrFun (untouched_inj.1 (congrArg Core.vals h) hk) o) el
  rw [if_pos hin, if_pos hin] at hvals
  exact Option.some.inj hvals

end Sys2Proof.Machine
end


section
/-! Each operation and the core. -/

namespace Sys2Proof.Machine

variable (mv : Moved) (s : State)

@[simp] theorem State.emit_core (o : Out) : (s.emit o).core mv = s.core mv := by simp [State.emit]
@[simp] theorem State.evt_core (code param : Nat) : (s.evt code param).core mv = s.core mv := by simp [State.evt]
@[simp] theorem State.goto_core (st : DevState) (hst : mv.st) : (s.goto st).core mv = s.core mv := by simp [State.goto, hst]
@[simp] theorem State.setQuad_core (q : Fin 4) (v : Quad) : (s.setQuad q v).core mv = s.core mv := by simp [State.setQuad]
@[simp] theorem State.modQuad_core (q : Fin 4) (f : Quad → Quad) : (s.modQuad q f).core mv = s.core mv := by simp [State.modQuad]
@[simp] theorem State.setCause_core (i : Nat) (b : Bool) : (s.setCause i b).core mv = s.core mv := by simp [State.setCause]

@[simp] theorem State.raiseCause_core (i : Nat) (hst : mv.st) : (s.raiseCause i).core mv = s.core mv := by
  unfold State.raiseCause
  dsimp only
  split <;> simp [hst]

@[simp] theorem State.sourceLost_core (selected : Bool) : (s.sourceLost selected).core mv = s.core mv := by simp [State.sourceLost]
@[simp] theorem State.quadLost_core (q : Fin 4) : (s.quadLost q).core mv = s.core mv := by simp [State.quadLost]

@[simp] theorem State.sendMsg_core (port dst prio kind resp master txn abort : Nat) (body : Octets) :
    (s.sendMsg port dst prio kind resp master txn abort body).core mv = s.core mv := by
  unfold State.sendMsg
  split <;> simp [State.sendMsg.sendCan]

@[simp] theorem State.respondTo_core (r : Req) (t kind abort : Nat) (body : Octets) :
    (s.respondTo r t kind abort body).core mv = s.core mv := by simp [State.respondTo]
@[simp] theorem State.respond_core (r : Req) (kind abort : Nat) (body : Octets) :
    (s.respond r kind abort body).core mv = s.core mv := by simp [State.respond]
@[simp] theorem State.respondLate_core (x : Running) (kind abort : Nat) (body : Octets) :
    (s.respondLate x kind abort body).core mv = s.core mv := by simp [State.respondLate]
@[simp] theorem State.sendEvents_core (port master src : Nat) (recs : List EvRec) :
    (s.sendEvents port master src recs).core mv = s.core mv := by simp [State.sendEvents]

@[simp] theorem State.tellConflict_core (gone : List Pend) (ms : List (Nat × Nat)) : (s.tellConflict gone ms).core mv = s.core mv := by
  induction ms generalizing s with
  | nil => rfl
  | cons m ms ih => simp [State.tellConflict, ih]

@[simp] theorem State.accept_core (q : Req) (e : Entry) (long : Bool) : (s.accept q e long).core mv = s.core mv := by simp [State.accept]

@[simp] theorem State.commandDone_core (obj : Nat) : (s.commandDone obj).core mv = s.core mv := by
  unfold State.commandDone
  split <;> simp

@[simp] theorem State.requestDone_core (obj arg : Nat) : (s.requestDone obj arg).core mv = s.core mv := by
  unfold State.requestDone
  (repeat' split) <;> simp

@[simp] theorem State.readmitEnd_core (v state step : Nat) : (s.readmitEnd v state step).core mv = s.core mv := by simp [State.readmitEnd]
@[simp] theorem State.readmitPassed_core (v : Nat) : (s.readmitPassed v).core mv = s.core mv := by simp [State.readmitPassed]
@[simp] theorem State.modCap_core (f : Capture → Capture) : (s.modCap f).core mv = s.core mv := by simp [State.modCap]
@[simp] theorem State.occNote_core (t : Nat) (o : Occ) : (s.occNote t o).core mv = s.core mv := by simp [State.occNote]
@[simp] theorem State.setAxis_core (fast : Bool) (a : AxisPos) : (s.setAxis fast a).core mv = s.core mv := by simp [State.setAxis]

@[simp] theorem State.posInvalid_core (fast : Bool) (c : Nat) : (s.posInvalid fast c).core mv = s.core mv := by
  unfold State.posInvalid
  extract_lets a a1 s1 s2 gov s3 s4
  have h3 : s3.core mv = s2.core mv := State.core_congr mv rfl rfl rfl rfl
  split
  · simp [s4, h3, s2, s1]
  · simp

@[simp] theorem State.causeGone_core (fast : Bool) (c : Nat) : (s.causeGone fast c).core mv = s.core mv := by simp [State.causeGone]
@[simp] theorem State.setHelm_core (b : Bool) (h : Helm) : (s.setHelm b h).core mv = s.core mv := by simp [State.setHelm]
@[simp] theorem State.helmLanding_core : s.helmLanding.core mv = s.core mv := by simp [State.helmLanding]
@[simp] theorem State.steerStop_core : s.steerStop.core mv = s.core mv := by simp [State.steerStop]
@[simp] theorem State.setLoopInst_core (k i : Nat) (v : LoopInst) : (s.setLoopInst k i v).core mv = s.core mv := by simp [State.setLoopInst]
@[simp] theorem State.setComp_core (k i : Nat) (c : Comp) : (s.setComp k i c).core mv = s.core mv := by simp [State.setComp]
@[simp] theorem State.compEnable_core (k old : Nat) : (s.compEnable k old).core mv = s.core mv := by simp [State.compEnable]
@[simp] theorem State.biasLeft_core (i : Nat) : (s.biasLeft i).core mv = s.core mv := by simp [State.biasLeft]
@[simp] theorem State.loopOn_core (k : Nat) : (s.loopOn k).core mv = s.core mv := by simp [State.loopOn]
@[simp] theorem State.loopOff_core (k : Nat) : (s.loopOff k).core mv = s.core mv := by simp [State.loopOff]
@[simp] theorem State.loopsLanding_core : s.loopsLanding.core mv = s.core mv := by simp [State.loopsLanding]
@[simp] theorem State.steeringOff_core : s.steeringOff.core mv = s.core mv := by simp [State.steeringOff]
@[simp] theorem State.setWindow_core (mm : Bool) (n : Nat) (v : Window) : (s.setWindow mm n v).core mv = s.core mv := by
  simp [State.setWindow]

theorem State.publishWin_core (mm : Bool) {n : Nat} (hn : n < 64) (flag : Nat) : (s.publishWin mm n flag).core mv = s.core mv := by
  unfold State.publishWin
  extract_lets w o gen f0 fl s1
  have hset (t : State) (el : Nat) (v : Int) : (t.setObj o el v).core mv = t.core mv :=
    t.core_setObj v (Or.inr (inCore_winObj mm hn))
  have h1 : s1.core mv = s.core mv := by
    simp only [s1]
    split <;> simp only [hset]
  rw [State.setWindow_core, h1]

@[simp] theorem State.windowsEnd_core (mm : Bool) (win : Nat) : (s.windowsEnd mm win).core mv = s.core mv :=
  List.foldlRecOn (motive := fun t => State.core mv t = s.core mv) (List.range 64) _ rfl fun t ht n hn => by
    dsimp only
    split
    · rw [t.publishWin_core mv mm (List.mem_range.1 hn), ht]
    · exact ht

@[simp] theorem State.tapChanBlind_core (ch st : Nat) : (s.tapChanBlind ch st).core mv = s.core mv := by simp [State.tapChanBlind]
@[simp] theorem State.tapChanSees_core (ch st : Nat) : (s.tapChanSees ch st).core mv = s.core mv := by simp [State.tapChanSees]
@[simp] theorem State.tapQuadBlind_core (q : Fin 4) : (s.tapQuadBlind q).core mv = s.core mv := by simp [State.tapQuadBlind]
@[simp] theorem State.tapQuadSees_core (q : Fin 4) : (s.tapQuadSees q).core mv = s.core mv := by simp [State.tapQuadSees]
@[simp] theorem State.setChan_core (q : Fin 4) (c : Nat) (v : Chan) : (s.setChan q c v).core mv = s.core mv := by simp [State.setChan]
@[simp] theorem State.noOffsets_core : s.noOffsets.core mv = s.core mv := by simp [State.noOffsets]
@[simp] theorem State.setQueue_core (n : Fin 4) (v : OutQ) : (s.setQueue n v).core mv = s.core mv := by simp [State.setQueue]
@[simp] theorem State.setLink_core (l : Fin 2) (v : Link) : (s.setLink l v).core mv = s.core mv := by simp [State.setLink]
@[simp] theorem State.modLink_core (l : Fin 2) (f : Link → Link) : (s.modLink l f).core mv = s.core mv := by simp [State.modLink]

@[simp] theorem State.reserve_core (n : Fin 4) (l : Nat) : (s.reserve n l).1.core mv = s.core mv := by
  unfold State.reserve
  dsimp only
  split <;> simp

@[simp] theorem State.commit_core (n : Fin 4) (l : Nat) (o : Octets) (frame : Nat) :
    (s.commit n l o frame).core mv = s.core mv := by simp [State.commit]
@[simp] theorem State.rewindOpen_core (n : Fin 4) (l : Nat) : (s.rewindOpen n l).core mv = s.core mv := by simp [State.rewindOpen]
@[simp] theorem State.emptyQueue_core (n : Fin 4) : (s.emptyQueue n).core mv = s.core mv := by simp [State.emptyQueue]
@[simp] theorem State.setInHand_core (l : Fin 2) (h : InHand) : (s.setInHand l h).core mv = s.core mv := by simp [State.setInHand]

@[simp] theorem State.commitInHand_core (l : Fin 2) (frame fl : Nat) (again : Bool) :
    (s.commitInHand l frame fl again).core mv = s.core mv := by
  unfold State.commitInHand
  (repeat' split) <;> simp

@[simp] theorem State.commitExport_core (l : Fin 2) (frame : Nat) : (s.commitExport l frame).core mv = s.core mv := by
  unfold State.commitExport
  split
  · rfl
  next h hh =>
  split
  · rfl
  · dsimp only
    rw [State.setInHand_core, State.modLink_core, State.core_bump _ _ (Or.inr (inCore_link rfl rfl)), State.commit_core]

@[simp] theorem State.closeFrame_core (l : Fin 2) (frame : Nat) : (s.closeFrame l frame).core mv = s.core mv := by
  unfold State.closeFrame
  dsimp only
  split <;> simp

@[simp] theorem State.closeOlder_core (l : Fin 2) : (s.closeOlder l).core mv = s.core mv := by simp [State.closeOlder]
@[simp] theorem State.openInHand_core (l : Fin 2) (live : Nat) : (s.openInHand l live).core mv = s.core mv := by simp [State.openInHand]

@[simp] theorem State.abortInHand_core (l : Fin 2) (frame : Nat) : (s.abortInHand l frame).core mv = s.core mv := by
  unfold State.abortInHand
  split
  · rfl
  next h hh =>
  extract_lets s1 s2 r o s3
  have h2 : s2.core mv = s.core mv := by simp [s2, s1]
  have hr : r.1.core mv = s2.core mv := by simp [r]
  have h3 : s3.core mv = r.1.core mv := by
    simp only [s3]
    split
    · rw [State.modLink_core, State.core_bump _ _ (Or.inr (inCore_link rfl rfl)), State.commit_core]
    · rw [State.modLink_core]
  rw [State.modLink_core, h3, hr, h2]

@[simp] theorem State.emptyLink_core (l : Fin 2) : (s.emptyLink l).core mv = s.core mv := by simp [State.emptyLink]
@[simp] theorem State.modCru_core (q : Fin 4) (f : Crucible → Crucible) : (s.modCru q f).core mv = s.core mv := by simp [State.modCru]
@[simp] theorem State.accountLanding_core (q : Fin 4) : (s.accountLanding q).core mv = s.core mv := by simp [State.accountLanding]
@[simp] theorem State.modIsl_core (f : Island → Island) : (s.modIsl f).core mv = s.core mv := by simp [State.modIsl]
@[simp] theorem State.emissionOff_core : s.emissionOff.core mv = s.core mv := by simp [State.emissionOff]
@[simp] theorem State.modEm_core (k' : Nat) (f : Emitter → Emitter) : (s.modEm k' f).core mv = s.core mv := by simp [State.modEm]
@[simp] theorem State.strike_core : s.strike.core mv = s.core mv := by simp [State.strike]
@[simp] theorem State.govLanding_core : s.govLanding.core mv = s.core mv := by simp [State.govLanding]
@[simp] theorem State.emReport_core : s.emReport.core mv = s.core mv := by simp [State.emReport]
@[simp] theorem State.chanEnable_core (ch : Nat) (was now : Bool) : (s.chanEnable ch was now).core mv = s.core mv := by
  simp [State.chanEnable]
@[simp] theorem State.setDmaCh_core (c : Fin 32) (v : DmaCh) : (s.setDmaCh c v).core mv = s.core mv := by simp [State.setDmaCh]
@[simp] theorem State.dmaRewind_core (c : Fin 32) : (s.dmaRewind c).core mv = s.core mv := by simp [State.dmaRewind]

@[simp] theorem State.dmaReserve_core (c : Fin 32) : (s.dmaReserve c).core mv = s.core mv := by
  unfold State.dmaReserve
  dsimp only
  split <;> simp

@[simp] theorem State.dmaRetry_core : s.dmaRetry.core mv = s.core mv := by simp [State.dmaRetry]
@[simp] theorem State.capPowerOff_core : s.capPowerOff.core mv = s.core mv := by simp [State.capPowerOff]
@[simp] theorem State.quadPowerOff_core (q : Fin 4) : (s.quadPowerOff q).core mv = s.core mv := by simp [State.quadPowerOff]
@[simp] theorem State.bulkRewind_core (l : Fin 2) : (s.bulkRewind l).core mv = s.core mv := by simp [State.bulkRewind]

@[simp] theorem State.linkPowerOff_core (l : Fin 2) : (s.linkPowerOff l).core mv = s.core mv := by
  unfold State.linkPowerOff
  dsimp only
  rw [State.core_setObj _ _ (Or.inr (inCore_link rfl rfl))]
  simp

@[simp] theorem State.modFrm_core (f : Frames → Frames) (hfrm : mv.frm) : (s.modFrm f).core mv = s.core mv := by simp [State.modFrm, hfrm]

@[simp] theorem State.adoptDelay_core : s.adoptDelay.core mv = s.core mv := by
  unfold State.adoptDelay
  split <;> simp

@[simp] theorem State.startFrame_core (t : Nat) (hfrm : mv.frm) : (s.startFrame t).core mv = s.core mv := by simp [State.startFrame, hfrm]

@[simp] theorem State.tryStart_core (hfrm : mv.frm) : s.tryStart.core mv = s.core mv := by
  unfold State.tryStart
  split <;> simp [hfrm]

@[simp] theorem State.wantStart_core (t : Nat) (held : Bool) (less : Nat := 0) (hfrm : mv.frm) :
    (s.wantStart t held less).core mv = s.core mv := by simp [State.wantStart, hfrm]
@[simp] theorem State.dropFrame_core : s.dropFrame.core mv = s.core mv := by simp [State.dropFrame]
@[simp] theorem State.modLane_core (l : Fin 2) (i : Fin 4) (f : LinkLane → LinkLane) : (s.modLane l i f).core mv = s.core mv := by
  simp [State.modLane]
@[simp] theorem State.clockLane_core (l : Fin 2) (on : Bool) : (s.clockLane l on).core mv = s.core mv := by simp [State.clockLane]
@[simp] theorem State.linkCold_core (l : Fin 2) (st : Nat) : (s.linkCold l st).core mv = s.core mv := by simp [State.linkCold]
@[simp] theorem State.quadJoin_core (q : Fin 4) : (s.quadJoin q).core mv = s.core mv := by simp [State.quadJoin]
@[simp] theorem State.quadEnter_core (q : Fin 4) : (s.quadEnter q).core mv = s.core mv := by simp [State.quadEnter]

@[simp] theorem State.readmitDrop_core (v : Nat) : (s.readmitDrop v).core mv = s.core mv := by
  unfold State.readmitDrop
  split <;> simp

@[simp] theorem State.readmitDropAll_core : s.readmitDropAll.core mv = s.core mv := by simp [State.readmitDropAll]
@[simp] theorem State.framesDown_core (hlife : mv.life) (hfrm : mv.frm) : s.framesDown.core mv = s.core mv := by
  simp [State.framesDown, hlife, hfrm]
@[simp] theorem State.drivesDown_core : s.drivesDown.core mv = s.core mv := by simp [State.drivesDown]
@[simp] theorem State.modFleet_core (f : Fleet → Fleet) : (s.modFleet f).core mv = s.core mv := by simp [State.modFleet]
@[simp] theorem State.setRows_core (l : List FleetRow) : (s.setRows l).core mv = s.core mv := by simp [State.setRows]

@[simp] theorem State.fleetServe_core (dom ident prev flags : Nat) : (s.fleetServe dom ident prev flags).1.core mv = s.core mv := by
  unfold State.fleetServe
  (repeat' split) <;> simp

@[simp] theorem State.holdPair_core (p : Option (Nat × Nat)) : (s.holdPair p).core mv = s.core mv := by simp [State.holdPair]
@[simp] theorem State.fleetLoad_core (i seed : Nat) : (s.fleetLoad i seed).core mv = s.core mv := by simp [State.fleetLoad]
@[simp] theorem State.fleetState_core (st : Nat) : (s.fleetState st).core mv = s.core mv := by simp [State.fleetState]
@[simp] theorem State.grantAccept_core (o : Octets) : (s.grantAccept o).core mv = s.core mv := by simp [State.grantAccept]
@[simp] theorem State.fleetSend_core (kind addr obj : Nat) (o : Octets) : (s.fleetSend kind addr obj o).core mv = s.core mv := by
  simp [State.fleetSend]
@[simp] theorem State.fleetAsk_core (flags : Nat) : (s.fleetAsk flags).core mv = s.core mv := by simp [State.fleetAsk]
@[simp] theorem State.fleetConfig_core : s.fleetConfig.core mv = s.core mv := by simp [State.fleetConfig]

@[simp] theorem State.fleetRunEnter_core : s.fleetRunEnter.core mv = s.core mv := by
  unfold State.fleetRunEnter
  (repeat' split) <;> simp

@[simp] theorem State.modTv_core (f : Torvip → Torvip) : (s.modTv f).core mv = s.core mv := by simp [State.modTv]
@[simp] theorem State.setSub_core (x : Sub) : (s.setSub x).core mv = s.core mv := by simp [State.setSub]
@[simp] theorem State.publish_core (x : Sub) : (s.publish x).core mv = s.core mv := by simp [State.publish]
@[simp] theorem State.pubFrame_core : s.pubFrame.core mv = s.core mv := by simp [State.pubFrame]
@[simp] theorem State.checkSet_core (n : Nat) : (s.checkSet n).core mv = s.core mv := by simp [State.checkSet]
@[simp] theorem State.checkSets_core : s.checkSets.core mv = s.core mv := by simp [State.checkSets]
@[simp] theorem State.lndEffect_core (old : State) (p : Pend) : (State.lndEffect old s p).core mv = s.core mv := by simp [State.lndEffect]

@[simp] theorem State.applyLnd_core (hvals : mv.vals) : s.applyLnd.core mv = s.core mv := by
  unfold State.applyLnd
  simp [hvals]

@[simp] theorem State.swapBank_core (q : Fin 4) : (s.swapBank q).core mv = s.core mv := by simp [State.swapBank]
@[simp] theorem State.mcSwitch_core (q : Fin 4) : (s.mcSwitch q).core mv = s.core mv := by simp [State.mcSwitch]
@[simp] theorem State.mcStay_core (q : Fin 4) : (s.mcStay q).core mv = s.core mv := by simp [State.mcStay]
@[simp] theorem State.mcApproval_core (q : Fin 4) : (s.mcApproval q).core mv = s.core mv := by simp [State.mcApproval]
@[simp] theorem State.commitMiddle_core (skip : Nat) (lnd : Bool) (hvals : mv.vals) : (s.commitMiddle skip lnd).core mv = s.core mv := by
  simp [State.commitMiddle, hvals]
@[simp] theorem State.windowsLanding_core : s.windowsLanding.core mv = s.core mv := by simp [State.windowsLanding]
@[simp] theorem State.commitAfter_core : s.commitAfter.core mv = s.core mv := by simp [State.commitAfter]

@[simp] theorem State.enterIdle_core (st : DevState) (hst : mv.st) (hfrm : mv.frm) : (s.enterIdle st).core mv = s.core mv := by
  unfold State.enterIdle
  extract_lets s1 wof s2
  have h1 : s1.core mv = s.core mv := by simp [s1, hst, hfrm]
  have h2 : s2.core mv = s1.core mv := by
    simp only [s2]
    split
    · exact State.core_congr mv rfl rfl rfl rfl
    · rfl
  split
  · rw [State.fleetConfig_core, h2, h1]
  · rw [h2, h1]

@[simp] theorem State.prepareDrive_core (hlife : mv.life) : s.prepareDrive.core mv = s.core mv := by simp [State.prepareDrive, hlife]
@[simp] theorem State.stopSettle_core (hst : mv.st) (hlife : mv.life) (hfrm : mv.frm) : s.stopSettle.core mv = s.core mv := by
  simp [State.stopSettle, hst, hlife, hfrm]
@[simp] theorem State.afterLanding_core (hst : mv.st) (hlife : mv.life) (hfrm : mv.frm) : s.afterLanding.core mv = s.core mv := by
  simp [State.afterLanding, hst, hlife, hfrm]
@[simp] theorem State.idle_core (hvals : mv.vals) : s.idle.core mv = s.core mv := by simp [State.idle, hvals]

@[simp] theorem State.siteRound_core (counts : List (Option Nat)) (i : Nat) : (s.siteRound counts i).core mv = s.core mv := by
  unfold State.siteRound
  split <;> simp

@[simp] theorem State.quench_core (valid : List (Nat × Int)) (site : Nat) (tj : Int) (hst : mv.st) (hlife : mv.life) (hfrm : mv.frm) :
    (s.quench valid site tj).core mv = s.core mv := by simp [State.quench, hst, hlife, hfrm]
theorem State.free_core (n : Nat) : ({ s with free := n } : State).core mv = s.core mv := State.core_congr mv rfl rfl rfl rfl

/-- The mean of one supply is published. -/
theorem State.supplyMean_core {v : Supply} (n : Nat) (x : Int) : (({ s.setObj 0x8201 (n + 1) x with
    ana := { s.ana with supplies := assocPut s.ana.supplies n v } } : State)).core mv = s.core mv :=
  (State.core_congr mv rfl rfl rfl rfl).trans (s.core_setObj (el := n + 1) x (Or.inr rfl))

@[simp] theorem State.supplyMeans_core : s.supplyMeans.core mv = s.core mv := by
  unfold State.supplyMeans
  extract_lets one s1 s2
  have h1 : s1.core mv = s.core mv := by
    refine State.core_foldl mv (fun t n => ?_) _ s
    simp only [one]
    split
    · rfl
    · exact t.supplyMean_core mv n _
  have h2 : s2.core mv = s1.core mv := by simp [s2]
  exact (State.free_core mv s2 _).trans (h2.trans h1)

@[simp] theorem State.publishRound_core (valid : List (Nat × Int)) (site : Nat) (tj : Int) (hvals : mv.vals) :
    (s.publishRound valid site tj).core mv = s.core mv := by
  unfold State.publishRound
  extract_lets s1 s2 s3
  have h1 : s1.core mv = s.core mv := by
    refine State.core_foldl mv (fun t i => ?_) _ s
    split
    · exact (State.core_congr mv rfl rfl rfl rfl).trans (t.core_setObj _ (Or.inl hvals))
    · exact t.core_setObj _ (Or.inl hvals)
  simp [s3, s2, h1, hvals]

@[simp] theorem State.fewSites_core (few : Bool) (hst : mv.st) : (s.fewSites few).core mv = s.core mv := by simp [State.fewSites, hst]
@[simp] theorem State.levelRound_core (valid : List (Nat × Int)) (site : Nat) (tj : Int) (hst : mv.st) (hlife : mv.life) (hfrm : mv.frm) :
    (s.levelRound valid site tj).core mv = s.core mv := by simp [State.levelRound, hst, hlife, hfrm]
@[simp] theorem State.housekeeping_core (counts : List (Option Nat)) (hst : mv.st) (hlife : mv.life) (hfrm : mv.frm) (hvals : mv.vals) :
    (s.housekeeping counts).core mv = s.core mv := by simp [State.housekeeping, hst, hlife, hfrm, hvals]
@[simp] theorem State.loopsBack_core : s.loopsBack.core mv = s.core mv := by simp [State.loopsBack]
@[simp] theorem State.quenchLeave_core (hst : mv.st) (hfrm : mv.frm) : s.quenchLeave.core mv = s.core mv := by
  simp [State.quenchLeave, hst, hfrm]
@[simp] theorem State.quadSelectors_core (q : Fin 4) : (s.quadSelectors q).core mv = s.core mv := by simp [State.quadSelectors]
@[simp] theorem State.runEnter_core (hst : mv.st) (hlife : mv.life) (hfrm : mv.frm) (hvals : mv.vals) : s.runEnter.core mv = s.core mv := by
  simp [State.runEnter, hst, hlife, hfrm, hvals]
@[simp] theorem State.stopFrames_core (hst : mv.st) (hlife : mv.life) (hfrm : mv.frm) : s.stopFrames.core mv = s.core mv := by
  simp [State.stopFrames, hst, hlife, hfrm]

end Sys2Proof.Machine
end

section
/-! Rows of the store and the sensor block (R380 to R383, R393). -/

namespace Sys2Proof.Machine

variable (s : State)

/-! ### What an idle step does beside the end of a save: the Pilot is left alone -/

@[simp] theorem State.pilot_ite (c : Prop) [Decidable c] (a b : State) :
    (if c then a else b).pilot = if c then a.pilot else b.pilot :=
  apply_ite State.pilot c a b

@[simp] theorem State.capBump_pilot (el : Nat) : (s.capBump el).pilot = s.pilot := by simp [State.capBump]

@[simp] theorem State.capArm_pilot : s.capArm.pilot = s.pilot := by
  unfold State.capArm
  split <;> simp

@[simp] theorem State.capHalt_pilot (why : Nat) : (s.capHalt why).pilot = s.pilot := by simp [State.capHalt]

@[simp] theorem State.segClose_pilot (fl : Nat) : (s.segClose fl).pilot = s.pilot := by simp [State.segClose]

@[simp] theorem State.segPut_pilot (r : CapRec) : (s.segPut r).pilot = s.pilot := by simp [State.segPut]

@[simp] theorem State.trigTake_pilot (t : CapTrig) : (s.trigTake t).pilot = s.pilot := by simp [State.trigTake]

@[simp] theorem State.trigMiss_pilot : s.trigMiss.pilot = s.pilot := by simp [State.trigMiss]

@[simp] theorem State.capRearm_pilot : s.capRearm.pilot = s.pilot := by
  unfold State.capRearm
  dsimp only
  (repeat' split) <;> simp

@[simp] theorem State.trigger_pilot (t : CapTrig) : (s.trigger t).pilot = s.pilot := by
  unfold State.trigger State.trigger.beyond
  split <;> simp

@[simp] theorem State.wofenRequest_pilot : s.wofenRequest.pilot = s.pilot := by
  unfold State.wofenRequest
  split <;> simp

@[simp] theorem State.seqGo_pilot (which t : Nat) : (s.seqGo which t).pilot = s.pilot := by simp [State.seqGo]

@[simp] theorem State.seqOcc_pilot (t : Nat) (o : Occ) : (s.seqOcc t o).1.pilot = s.pilot := by
  unfold State.seqOcc
  dsimp only
  (repeat' split) <;> simp

@[simp] theorem State.seqRun_pilot (n : Nat) (l : List (Nat × Occ)) : (State.seqRun n l s).pilot = s.pilot := by
  induction n generalizing l s with
  | zero => rfl
  | succ n ih =>
    cases l with
    | nil => rfl
    | cons x l =>
      unfold State.seqRun
      dsimp only
      split <;> simp [ih]

@[simp] theorem State.seqWait_pilot (l : List (Nat × Occ)) : (s.seqWait l).pilot = s.pilot := by simp [State.seqWait]

@[simp] theorem State.occur_pilot (t : Nat) (o : Occ) : (s.occur t o).pilot = s.pilot := by simp [State.occur]

@[simp] theorem State.capNote_pilot (src unit t data : Nat) : (s.capNote src unit t data).pilot = s.pilot := by simp [State.capNote]

@[simp] theorem State.wtb_pilot (pair type fl pay : Nat) (ahead : Nat := 1032) :
    (s.wtb pair type fl pay ahead).pilot = s.pilot := by simp [State.wtb]

@[simp] theorem State.wtbSend_pilot (p : WtbPkt) : (s.wtbSend p).pilot = s.pilot := by
  unfold State.wtbSend
  split <;> simp

@[simp] theorem State.wtbDrain_pilot : s.wtbDrain.pilot = s.pilot := by
  unfold State.wtbDrain
  (repeat' split) <;> simp

@[simp] theorem State.relayMarks_pilot : s.relayMarks.pilot = s.pilot :=
  foldl_keeps State.pilot (fun s (m : Nat × Nat) => s.occur_pilot s.capNow (.relay m.2)) _ _

/-- Everything of `rest` may change but the non-volatile memories. -/
def butNv : Touch := ⟨true, true, true, true, true, false, true, true⟩

theorem State.idleTick_save : s.idleTick.pilot = s.tick.capRearm.saveEnd.pilot ∧ s.idleTick.nv = s.tick.capRearm.saveEnd.nv := by
  unfold State.idleTick
  dsimp only
  split
  · exact ⟨rfl, rfl⟩
  · exact ⟨by simp, State.nv_of_rest (m := butNv) (by simp) rfl⟩

/-! ### Saves and erasures -/

theorem State.setCopy_zero (c : Copy) : s.setCopy 0 c = s.modNv fun v => { v with copy0 := c } := rfl

theorem State.setCopy_nonzero {n : Nat} (hn : n ≠ 0) (c : Copy) : s.setCopy n c = s.modNv fun v => { v with copy1 := c } := by
  unfold State.setCopy State.modNv
  simp [hn]

@[simp] theorem State.setCopy_pilot (n : Nat) (c : Copy) : (s.setCopy n c).pilot = s.pilot := rfl

variable {s}

/-- A save that ends is over, with its result noted (R393). -/
theorem State.saveEnd_pilot {x : SaveRun} (hx : s.pilot.save = some x) :
    s.saveEnd.pilot = { s.pilot with save := none, lastSave := if x.ok then 1 else 3 } := by
  unfold State.saveEnd
  split
  · next hnone => exact absurd (hx.symm.trans hnone) (Option.some_ne_none x)
  next r hr =>
  obtain rfl := Option.some.inj (hr.symm.trans hx)
  dsimp only
  split <;> simp

/-- It writes its copy, or none where the read-back fails. -/
theorem State.saveEnd_nv {x : SaveRun} (hx : s.pilot.save = some x) :
    s.saveEnd.nv = if x.ok then (s.setCopy x.target x.copy).nv else s.nv := by
  unfold State.saveEnd
  split
  · next hnone => exact absurd (hx.symm.trans hnone) (Option.some_ne_none x)
  next r hr =>
  obtain rfl := Option.some.inj (hr.symm.trans hx)
  dsimp only
  split
  · rw [State.commandDone_nv, State.evt_nv]
    rfl
  · rw [State.commandDone_nv, State.evt_nv]
    rfl

theorem State.saveBegin_idle (hidle : s.pilot.save = none) (ok : Bool) : s.saveBegin ok = (s.setCopy s.saveTarget.1 copyErased).modPilot
    fun p => { p with save := some { target := s.saveTarget.1, copy := s.copyNow s.saveTarget.2, ok := ok, at_ := s.now } } := by
  have hdue : s.saveDue = s := by
    unfold State.saveDue
    split
    · next r hr => exact absurd (hr.symm.trans hidle) (Option.some_ne_none r)
    · rfl
  unfold State.saveBegin
  rw [hdue]

theorem exec_save_accepted {r : Req} {arg : Nat} {ok : Bool} (h : s.accepts r (entArg 0x9110 .u8 arg) s.saveCodes) (hlen : s.bodyLen ≤ 262128)
    (hidle : s.pilot.save = none) : ∃ t, exec (.save r arg ok) s = .next t ∧ t.took r ∧
      t.pilot.save = some { target := s.saveTarget.1, copy := s.copyNow s.saveTarget.2, ok := ok, at_ := s.now } ∧
      (s.saveTarget.1 = 0 → t.nv = { s.nv with copy0 := copyErased }) ∧ (s.saveTarget.1 ≠ 0 → t.nv = { s.nv with copy1 := copyErased }) := by
  have hrun : s.saveWrite r (entArg 0x9110 .u8 arg) ok = (s.saveBegin ok).accept r (entArg 0x9110 .u8 arg) true := by
    unfold State.saveWrite
    rw [State.through_served s h.1]
    simp [h.2, Nat.not_lt.2 hlen]
  refine ⟨_, rfl, ?_⟩
  rw [hrun, State.saveBegin_idle hidle]
  refine ⟨State.accept_took .., ?_, fun h0 => ?_, fun h0 => ?_⟩
  · rw [State.accept_pilot]
    rfl
  · rw [State.accept_nv, h0]
    rfl
  · rw [State.accept_nv, State.setCopy_nonzero _ h0]
    rfl

theorem step_save_ends {x : SaveRun} (hx : s.pilot.save = some x) (hpending : s.pending = []) :
    ∃ t, step s = .next t ∧ t.pilot.save = none ∧ t.pilot.lastSave = (if x.ok then 1 else 3) ∧
      (x.ok = true → x.target = 0 → t.nv = { s.nv with copy0 := x.copy }) ∧
      (x.ok = true → x.target ≠ 0 → t.nv = { s.nv with copy1 := x.copy }) ∧ (x.ok = false → t.nv = s.nv) := by
  have hx' : s.tick.capRearm.pilot.save = some x := by rw [State.capRearm_pilot, State.tick_pilot, hx]
  have hrearm : s.tick.capRearm.nv = s.tick.nv := State.nv_of_rest (m := butNv) (State.capRearm_rest ..) rfl
  have hnv : s.tick.capRearm.nv = s.nv := hrearm
  obtain ⟨hpilot, hsaved⟩ := s.idleTick_save
  rw [State.saveEnd_pilot hx'] at hpilot
  rw [State.saveEnd_nv hx'] at hsaved
  refine ⟨s.idleTick, by simp only [step, hpending], by rw [hpilot], by rw [hpilot], fun hok h0 => ?_, fun hok h0 => ?_, fun hok => ?_⟩
  · rw [hsaved, if_pos hok, h0, State.setCopy_zero, ← hnv]
    rfl
  · rw [hsaved, if_pos hok, State.setCopy_nonzero _ h0, ← hnv]
    rfl
  · rw [hsaved, if_neg (by simp [hok]), hnv]

theorem exec_storeErase_accepted {r : Req} {arg : Nat} (h : s.accepts r (entArg 0x9112 .u8 arg) (when (s.life.st != .service) 0x0601)) :
    ∃ t, exec (.storeErase r arg) s = .next t ∧ t.took r ∧ t.nv = { s.nv with copy0 := copyErased, copy1 := copyErased } := by
  refine ⟨_, rfl, s.hostWrite_took h, ?_⟩
  rw [s.hostWrite_accepted h, s.storeWrite_command (obj := 0x9112) rfl rfl rfl, State.accept_nv]
  rfl

/-! ### A row of elements that a loop writes one by one -/

/-- A loop over the elements of an object leaves in each what its own round writes. -/
theorem State.obj_foldl_range {o : Nat} {f : State → Nat → State} {v : Nat → Int} {N : Nat} (hself : ∀ s j, j < N → (f s j).obj o (j + 1) = v j)
    (hne : ∀ s i j, i < N → j < N → i ≠ j → (f s j).obj o (i + 1) = s.obj o (i + 1)) (s : State) {n i : Nat} (hn : n ≤ N) (hi : i < n) :
    ((List.range n).foldl f s).obj o (i + 1) = v i := by
  induction n with
  | zero => omega
  | succ n ih =>
    rw [List.range_succ, List.foldl_append, List.foldl_cons, List.foldl_nil]
    by_cases hin : i = n
    · rw [hin]
      exact hself _ n (by omega)
    · rw [hne _ i n (by omega) (by omega) hin]
      exact ih (by omega) (by omega)

/-! ### A housekeeping round (R380 to R383) -/

/-- No invalid round of the site is counted. -/
def State.siteGood (s : State) (i : Nat) : Prop := ∀ b ∈ s.sens.bad, b.1 ≠ i

/-- A round of one site touches the list of invalid sites alone. -/
theorem State.siteRound_sens (counts : List (Option Nat)) (j : Nat) : ∃ l, (s.siteRound counts j).sens = { s.sens with bad := l } := by
  unfold State.siteRound
  dsimp only
  split
  · exact ⟨_, by rw [State.evt_sens]⟩
  · exact ⟨_, rfl⟩
  · exact ⟨_, rfl⟩
  · split
    · exact ⟨_, rfl⟩
    · exact ⟨_, rfl⟩

theorem State.siteRound_plausible {counts : List (Option Nat)} {j : Nat} {tmp : Int} (hread : siteReading counts j = some tmp)
    (hnone : (s.sens.bad.find? fun b => b.1 == j) = none) : s.siteRound counts j = s := by
  unfold State.siteRound
  dsimp only
  split
  · next h _ => exact absurd (hread.symm.trans h) (Option.some_ne_none tmp)
  · next h _ => exact absurd (hread.symm.trans h) (Option.some_ne_none tmp)
  · rfl
  · next h => exact absurd (h.symm.trans hnone) (Option.some_ne_none _)

theorem State.siteRound_siteGood {counts : List (Option Nat)} {i : Nat} {tmp : Int} (hread : siteReading counts i = some tmp)
    (hgood : s.siteGood i) (j : Nat) : (s.siteRound counts j).siteGood i := by
  by_cases hij : j = i
  · have hnone : (s.sens.bad.find? fun b => b.1 == j) = none :=
      List.find?_eq_none.2 fun b hb => by simpa [hij] using hgood b hb
    rw [State.siteRound_plausible (hij ▸ hread) hnone]
    exact hgood
  · have hfilter : ∀ b ∈ s.sens.bad.filter (fun b => b.1 != j), b.1 ≠ i := fun b hb => hgood b (List.mem_filter.1 hb).1
    have happend : ∀ n, ∀ b ∈ s.sens.bad.filter (fun b => b.1 != j) ++ [(j, n)], b.1 ≠ i := fun n b hb => by
      rcases List.mem_append.1 hb with hb | hb
      · exact hfilter b hb
      · rw [List.mem_singleton.1 hb]
        exact hij
    unfold State.siteGood State.siteRound
    dsimp only
    split
    · rw [State.evt_sens]
      exact happend 0
    · exact happend 0
    · exact hgood
    · split
      · exact hfilter
      · exact happend _

/-- One site's entry among those in Tj. -/
def State.validSite (s : State) (counts : List (Option Nat)) (i : Nat) : Option (Nat × Int) :=
  if s.siteBad i then none else match siteReading counts i with | some t => some (i, t) | none => none

theorem State.validSites_eq (counts : List (Option Nat)) : s.validSites counts = (List.range 20).filterMap (s.validSite counts) := rfl

theorem State.validSite_number {counts : List (Option Nat)} {i : Nat} {x : Nat × Int} (h : s.validSite counts i = some x) : x.1 = i := by
  unfold State.validSite at h
  split at h
  · contradiction
  · split at h
    · exact (congrArg Prod.fst (Option.some.inj h)).symm
    · contradiction

/-- A good site with a plausible count is among those in Tj with its temperature. -/
theorem State.validSites_find {counts : List (Option Nat)} {i : Nat} {tmp : Int} (hi : i < 20) (hread : siteReading counts i = some tmp)
    (hgood : s.siteGood i) : ((s.validSites counts).find? fun x => x.1 == i) = some (i, tmp) := by
  have hok : s.siteBad i = false := List.any_eq_false.2 fun b hb => by simpa using hgood b hb
  have hsite : s.validSite counts i = some (i, tmp) := by simp [State.validSite, hok, hread]
  have hfind : ((List.range 20).find? fun j => (s.validSite counts j).any fun x => x.1 == i) = some i := by
    refine List.find?_range_eq_some.2 ⟨by simp [hsite], List.mem_range.2 hi, fun j hj => ?_⟩
    cases hother : s.validSite counts j with
    | none => rfl
    | some x => simpa [State.validSite_number hother] using Nat.ne_of_lt hj
  rw [State.validSites_eq, List.find?_filterMap, hfind]
  exact hsite

theorem State.publishRound_limit (valid : List (Nat × Int)) (site : Nat) (tj : Int) (el : Nat) :
    (s.publishRound valid site tj).obj 0x8010 el = s.obj 0x8010 el := by
  have hne (s : State) (o e : Nat) (v : Int) (ho : 0x8010 ≠ o) : (s.setObj o e v).obj 0x8010 el = s.obj 0x8010 el :=
    State.obj_setObj_ne s v (Or.inl ho)
  unfold State.publishRound
  dsimp only
  rw [State.bump_obj_ne _ _ _ _ (Or.inl (by decide)), hne _ _ _ _ (by decide), hne _ _ _ _ (by decide), hne _ _ _ _ (by decide),
    hne _ _ _ _ (by decide)]
  refine foldl_keeps (fun t => t.obj 0x8010 el) (fun s i => ?_) _ s
  split
  · exact hne s _ _ _ (by decide)
  · exact hne s _ _ _ (by decide)

/-- The temperature of a site in Tj is published at its element. -/
theorem State.publishRound_site {valid : List (Nat × Int)} {i : Nat} {tmp : Int} (hi : i < 20)
    (hfind : (valid.find? fun x => x.1 == i) = some (i, tmp)) (site : Nat) (tj : Int) :
    (s.publishRound valid site tj).obj 0x8011 (i + 1) = clampI (-32768) 32767 tmp := by
  have hne (s : State) (o e : Nat) (v : Int) (h : 0x8011 ≠ o ∨ (i + 1) % 65536 ≠ e % 65536) : (s.setObj o e v).obj 0x8011 (i + 1) =
      s.obj 0x8011 (i + 1) := State.obj_setObj_ne s v h
  unfold State.publishRound
  dsimp only
  rw [State.bump_obj_ne _ _ _ _ (Or.inl (by decide)), hne _ _ _ _ (Or.inl (by decide)), hne _ _ _ _ (Or.inl (by decide)),
    hne _ _ _ _ (Or.inr (by omega)), hne _ _ _ _ (Or.inr (by omega))]
  rw [State.obj_foldl_range (N := 20) (v := fun j => (valid.find? fun x => x.1 == j).elim (-32768) fun x => clampI (-32768) 32767 x.2)
    (fun s j hj => ?_) (fun s k j hk hj hkj => ?_) s (Nat.le_refl 20) hi]
  · rw [hfind]
    rfl
  · split
    · next x hx =>
      rw [hx]
      exact s.obj_setObj_self ..
    · next hx =>
      rw [hx]
      exact s.obj_setObj_self ..
  · split
    · exact State.obj_setObj_ne s _ (Or.inr (by omega))
    · exact State.obj_setObj_ne s _ (Or.inr (by omega))

/-- With too few sites a part in RUN is degraded; no other state is left. -/
theorem State.fewSites_st (few : Bool) : (s.fewSites few).life.st = s.life.st ∨ (s.fewSites few).life.st = .degraded := by
  unfold State.fewSites
  dsimp only
  split
  · unfold State.raiseCause
    dsimp only
    split
    · exact Or.inr (by rw [State.goto_st])
    · exact Or.inl (by simp [State.setCause])
  · split
    · exact Or.inl rfl
    · exact Or.inl rfl

theorem State.fewSites_sens (few : Bool) : (s.fewSites few).sens = { s.sens with few := few } := by
  unfold State.fewSites
  dsimp only
  split
  · rw [State.raiseCause_sens, State.evt_sens]
  · split
    · rfl
    · rfl

/-- Everything of the core may move but the values in effect, or but the device state, or but the frames. -/
def butVals : Moved := ⟨true, true, true, false⟩
def butSt : Moved := ⟨false, true, true, true⟩
def butFrm : Moved := ⟨true, true, false, true⟩
def butSens : Touch := ⟨true, true, true, true, true, true, true, false⟩

/-- A Quench stops the frames for good, and leads to QUENCHED (R382). -/
theorem State.quench_quenched (valid : List (Nat × Int)) (site : Nat) (tj : Int) (hhalted : s.life.st ≠ .halted) (hoff : s.life.st ≠ .off) :
    (s.quench valid site tj).life.st = .quenched ∧ (s.quench valid site tj).frm.active = false := by
  have hdown : s.framesDown.frm.active = false := by
    unfold State.framesDown
    rw [State.frm_of_core (mv := butFrm) (State.readmitDropAll_core ..) rfl]
    have h : ∀ t : State, t.frm.active = false → (if t.life.stopReq then
        State.commandDone { t with life := { t.life with stopReq := false } } 0x3000 else t).frm.active = false := fun t ht => by
      split
      · rw [State.commandDone_frm, ht]
      · exact ht
    exact h _ (congrArg Frames.active (State.frm_of_core (mv := butFrm) (State.core_forQuads butFrm (fun s q => State.modQuad_core ..) _) rfl))
  unfold State.quench
  extract_lets n rec_ s1 s2 nv s3 s4
  have h3 : s3.frm = s.framesDown.frm := State.frm_of_core (mv := butFrm) (by
    calc State.core butFrm s3
      _ = s2.core butFrm := State.core_congr butFrm rfl rfl rfl rfl
      _ = s.framesDown.core butFrm := by simp [s2, s1]) rfl
  have h4 : s4 = s3.enterIdle .quenched := if_neg fun h => h.elim hhalted hoff
  have hidle : s4.life.st = .quenched ∧ s4.frm.active = false := by
    rw [h4, ← hdown, ← h3]
    exact ⟨by simp [State.enterIdle], by simp [State.enterIdle]⟩
  rw [State.evt_life, State.evt_frm]
  exact hidle

/-- The levels published are those in effect. -/
theorem bit_levels (a b c : Bool) : ∀ l < 3, bit (b2n a + 2 * b2n b + 4 * b2n c) l = (match l with | 0 => a | 1 => b | _ => c) := by
  revert a b c
  decide

theorem State.levelRound_sens (valid : List (Nat × Int)) (site : Nat) (tj : Int) : (s.levelRound valid site tj).sens = { s.sens with
    levels := b2n (s.levelOn tj 0) + 2 * b2n (s.levelOn tj 1) + 4 * b2n (s.levelOn tj 2), tj := tj, site := site } := by
  have hquench (t : State) : (t.quench valid site tj).sens = t.sens := State.sens_of_rest (m := butSens) (by simp [butSens]) rfl
  unfold State.levelRound
  extract_lets on up sens s1 s2 s3
  have h3 : s3.sens = s1.sens := by simp only [s3, s2, apply_ite State.sens, State.evt_sens, ite_self]
  split
  · rw [hquench, h3]
  · rw [h3]

theorem State.levelOn_congr {t : State} (hlevels : t.sens.levels = s.sens.levels) (hlimit : ∀ el, t.obj 0x8010 el = s.obj 0x8010 el)
    (tj : Int) (l : Nat) : t.levelOn tj l = s.levelOn tj l := by
  unfold State.levelOn
  rw [hlevels, hlimit, hlimit]

theorem State.levelRound_quenches (valid : List (Nat × Int)) (site : Nat) {tj : Int} (hon : s.levelOn tj 2 = true)
    (hnew : bit s.sens.levels 2 = false) (hhalted : s.life.st ≠ .halted) (hoff : s.life.st ≠ .off) :
    (s.levelRound valid site tj).life.st = .quenched ∧ (s.levelRound valid site tj).frm.active = false := by
  unfold State.levelRound
  extract_lets on up sens s1 s2 s3
  have hup : up 2 = true := by simp [up, on, hon, hnew]
  have h3 : s3.life = s.life := by simp only [s3, s2, apply_ite State.life, State.evt_life, ite_self]; rfl
  rw [if_pos hup]
  exact State.quench_quenched valid site tj (by rwa [h3]) (by rwa [h3])

theorem State.levelRound_vals (valid : List (Nat × Int)) (site : Nat) (tj : Int) :
    (s.levelRound valid site tj).core butVals = s.core butVals := by simp [butVals]

/-- The state of a round once every site has been looked at. -/
def State.sitesDone (s : State) (counts : List (Option Nat)) : State :=
  (List.range 20).foldl (fun s i => s.siteRound counts i) { s with sens := { s.sens with next := s.sens.next + 409600 } }

/-- What is read of the sensor block but its list of invalid sites. -/
theorem State.sitesDone_sens (counts : List (Option Nat)) : (s.sitesDone counts).sens.next = s.sens.next + 409600 ∧
    (s.sitesDone counts).sens.levels = s.sens.levels :=
  Prod.mk.inj (foldl_keeps (fun t : State => (t.sens.next, t.sens.levels)) (fun t i => by
    obtain ⟨l, hl⟩ := t.siteRound_sens counts i
    rw [hl]) (List.range 20) { s with sens := { s.sens with next := s.sens.next + 409600 } })

theorem State.sitesDone_core (mv : Moved) (counts : List (Option Nat)) : (s.sitesDone counts).core mv = s.core mv :=
  (State.core_foldl mv (fun t i => t.siteRound_core mv counts i) _ _).trans (State.core_congr mv rfl rfl rfl rfl)

theorem State.sitesDone_siteGood {counts : List (Option Nat)} {i : Nat} {tmp : Int} (hread : siteReading counts i = some tmp)
    (hgood : s.siteGood i) : (s.sitesDone counts).siteGood i :=
  List.foldlRecOn (motive := fun t => State.siteGood t i) _ _ hgood fun _ ht j _ => State.siteRound_siteGood hread ht j

/-- A round publishes the temperatures and follows the levels. -/
def State.roundPublished (s : State) (valid : List (Nat × Int)) (few : Bool) (site : Nat) (tj : Int) : State :=
  ({ s with free := s.free + 1 }.publishRound valid site tj).fewSites few

theorem State.roundPublished_sens (valid : List (Nat × Int)) (few : Bool) (site : Nat) (tj : Int) :
    (s.roundPublished valid few site tj).sens = { s.sens with few := few } := by
  unfold State.roundPublished
  rw [State.fewSites_sens, State.sens_of_rest (m := butSens) (State.publishRound_rest ..) rfl]

theorem State.roundPublished_st (valid : List (Nat × Int)) (few : Bool) (site : Nat) (tj : Int) :
    (s.roundPublished valid few site tj).life.st = s.life.st ∨ (s.roundPublished valid few site tj).life.st = .degraded := by
  have h : ({ s with free := s.free + 1 }.publishRound valid site tj).life.st = s.life.st :=
    State.st_of_core (mv := butSt) (by simp [butSt]) rfl
  rw [← h]
  exact State.fewSites_st few

theorem State.roundPublished_limit (valid : List (Nat × Int)) (few : Bool) (site : Nat) (tj : Int) (el : Nat) :
    (s.roundPublished valid few site tj).obj 0x8010 el = s.obj 0x8010 el := by
  unfold State.roundPublished
  rw [State.obj_of_core (State.fewSites_core butVals _ few rfl) rfl rfl, State.publishRound_limit]
  rfl

/-- The state that a round that is due leaves. -/
theorem State.housekeeping_due (counts : List (Option Nat)) (hrun : s.sensorsRun = true) (hdue : s.sens.next ≤ s.now) :
    ∃ few site tj, s.housekeeping counts =
      (((((s.sitesDone counts).roundPublished ((s.sitesDone counts).validSites counts) few site tj).levelRound
        ((s.sitesDone counts).validSites counts) site tj).supplyMeans).windowsEnd false 2).windowsEnd true 2 := by
  unfold State.housekeeping
  rw [if_neg (by simp [hrun, hdue])]
  exact ⟨_, _, _, rfl⟩

theorem exec_housekeeping_due (counts : List (Option Nat)) (hrun : s.sensorsRun = true) (hdue : s.sens.next ≤ s.now) :
    ∃ t, exec (.housekeepingRound counts) s = .next t ∧ t.sens.next = s.sens.next + 409600 ∧
      (∀ l < 3, bit t.sens.levels l = s.levelOn t.sens.tj l) ∧
      (s.levelOn t.sens.tj 2 = true → bit s.sens.levels 2 = false → s.life.st ≠ .halted → s.life.st ≠ .off →
        t.life.st = .quenched ∧ t.frm.active = false) ∧
      (∀ i tmp, i < 20 → siteReading counts i = some tmp → (∀ b ∈ s.sens.bad, b.1 ≠ i) →
        t.obj 0x8011 (i + 1) = clampI (-32768) 32767 tmp) := by
  obtain ⟨few, site, tj, hround⟩ := State.housekeeping_due counts hrun hdue
  set u := s.sitesDone counts
  set p := u.roundPublished (u.validSites counts) few site tj
  set r := p.levelRound (u.validSites counts) site tj
  obtain ⟨hnext, hlevels⟩ := s.sitesDone_sens counts
  have hsensP : p.sens = { u.sens with few := few } := State.roundPublished_sens ..
  have hrest (m : Touch) : (s.housekeeping counts).rest m = r.rest m := by rw [hround]; simp
  have hcore (mv : Moved) : (s.housekeeping counts).core mv = r.core mv := by rw [hround]; simp
  have hsens : (s.housekeeping counts).sens = r.sens := State.sens_of_rest (hrest butSens) rfl
  have hon : ∀ l, p.levelOn tj l = s.levelOn tj l := State.levelOn_congr (by rw [hsensP]; exact hlevels) (fun el => by
    rw [State.roundPublished_limit]
    exact State.obj_of_core (s.sitesDone_core butVals counts) rfl rfl) tj
  have hst : p.life.st = s.life.st ∨ p.life.st = .degraded := by
    rw [← State.st_of_core (s.sitesDone_core butSt counts) rfl]
    exact State.roundPublished_st ..
  refine ⟨_, rfl, ?_, fun l hl => ?_, fun hlevel hnew hhalted hoff => ?_, fun i tmp hi hread hgood => ?_⟩
  · rw [hsens, State.levelRound_sens, hsensP]
    exact hnext
  · rw [hsens, State.levelRound_sens]
    dsimp only
    rw [bit_levels _ _ _ l hl, hon, hon, hon]
    match l, hl with
    | 0, _ => rfl
    | 1, _ => rfl
    | 2, _ => rfl
  · rw [hsens, State.levelRound_sens] at hlevel
    rw [State.st_of_core (hcore butSt) rfl, State.frm_of_core (hcore butFrm) rfl]
    refine State.levelRound_quenches _ site ((hon 2).trans hlevel) (by rw [hsensP]; exact (congrArg (bit · 2) hlevels).trans hnew) ?_ ?_
    · rcases hst with h | h <;> simp [h, hhalted]
    · rcases hst with h | h <;> simp [h, hoff]
  · rw [State.obj_of_core (hcore butVals) rfl rfl, State.obj_of_core (p.levelRound_vals _ site tj) rfl rfl]
    have hsite := State.validSites_find hi hread (State.sitesDone_siteGood hread hgood)
    exact (State.obj_of_core (State.fewSites_core butVals _ few rfl) rfl rfl).trans (State.publishRound_site hi hsite site tj)

/-- Settles O53, row by row: the housekeeping round through what it publishes and the level it takes, a save at its begin and at its end in
an idle step, and the erasure of both copies. -/
theorem storeAndTemperatureRows : Obligations.StoreAndTemperatureRows := by
  unfold Obligations.StoreAndTemperatureRows
  exact fun s => ⟨exec_housekeeping_due, fun _ _ _ => exec_save_accepted, fun _ => step_save_ends, fun _ _ => exec_storeErase_accepted⟩

end Sys2Proof.Machine
end


section
/-! Rows of the run state (R413 to R416). -/

namespace Sys2Proof.Machine

variable (s : State)

/-! ### Entering a state without frames leaves the service of requests alone -/

@[simp] theorem State.tv_ite (c : Prop) [Decidable c] (a b : State) :
    (if c then a else b).tv = if c then a.tv else b.tv :=
  apply_ite State.tv c a b

@[simp] theorem State.fleetServe_tv (dom ident prev flags : Nat) : (s.fleetServe dom ident prev flags).1.tv = s.tv := by
  unfold State.fleetServe
  (repeat' split) <;> simp 

@[simp] theorem State.holdPair_tv (p : Option (Nat × Nat)) : (s.holdPair p).tv = s.tv := by simp [State.holdPair]
@[simp] theorem State.fleetLoad_tv (i seed : Nat) : (s.fleetLoad i seed).tv = s.tv := by simp [State.fleetLoad]
@[simp] theorem State.fleetState_tv (st : Nat) : (s.fleetState st).tv = s.tv := by simp [State.fleetState]
@[simp] theorem State.grantAccept_tv (o : Octets) : (s.grantAccept o).tv = s.tv := by simp [State.grantAccept]
@[simp] theorem State.fleetSend_tv (kind addr obj : Nat) (o : Octets) : (s.fleetSend kind addr obj o).tv = s.tv := by simp [State.fleetSend]
@[simp] theorem State.fleetAsk_tv (flags : Nat) : (s.fleetAsk flags).tv = s.tv := by simp [State.fleetAsk]
@[simp] theorem State.fleetConfig_tv : s.fleetConfig.tv = s.tv := by simp [State.fleetConfig]
@[simp] theorem State.enterIdle_tv (st : DevState) : (s.enterIdle st).tv = s.tv := by simp [State.enterIdle]

variable {s}

/-! ### Frames that start (R414) -/

/-- Of the core a Landing moves the values, a start of frames the frames alone. -/
def atLanding : Moved := ⟨false, false, false, true⟩
def onlyFrm : Moved := ⟨false, false, true, false⟩

theorem State.startFrame_frm (t : Nat) : (s.startFrame t).frm.running = true ∧ (s.startFrame t).frm.start = t ∧
    (s.startFrame t).frm.active = s.frm.active ∧ (s.startFrame t).frm.no = s.frm.no := by
  unfold State.startFrame
  extract_lets less ns held s1 s2 s3 cap steer s4 s5 s6
  have h2 : s2.core butFrm = s1.core butFrm := by simp [s2]
  have h3 : s3.core butFrm = s2.core butFrm := by simp [s3, State.core_ite]
  have h4 : s4.core butFrm = s3.core butFrm := State.core_congr butFrm rfl rfl rfl rfl
  have h5 : s5.core butFrm = s4.core butFrm := State.core_forQuads butFrm (fun s q => State.modQuad_core ..) _
  have hrest : ((s6.adoptDelay.openInHand 0 s.liveMask).openInHand 1 s.liveMask).core butFrm = s1.core butFrm := by
    simp [s6, h5, h4, h3, h2]
  rw [State.frm_of_core hrest rfl]
  exact ⟨rfl, rfl, rfl, rfl⟩

theorem State.tryStart_keeps : s.tryStart.frm.active = s.frm.active ∧ s.tryStart.frm.no = s.frm.no := by
  unfold State.tryStart
  split
  · exact ⟨rfl, rfl⟩
  dsimp only
  split
  · obtain ⟨-, -, hactive, hno⟩ := s.startFrame_frm (s.startAt _)
    exact ⟨hactive, hno⟩
  · exact ⟨rfl, rfl⟩

/-- A start that is wanted now and held back by nothing is made now. -/
theorem State.tryStart_now (hwant : s.frm.want = some s.now) (hactive : s.frm.active = true) (hidle : s.frm.running = false)
    (hland : s.frm.landUntil = s.now) (hspaced : s.spacedFrom ≤ s.now) : s.tryStart.frm.running = true ∧ s.tryStart.frm.start = s.now := by
  have hat : s.startAt s.now = s.now := by
    unfold State.startAt
    rw [hland]
    omega
  obtain ⟨hrunning, hstart, -⟩ := s.startFrame_frm s.now
  unfold State.tryStart
  split
  · next hnone => exact absurd (hwant.symm.trans hnone) (Option.some_ne_none _)
  next t ht =>
  obtain rfl := Option.some.inj (ht.symm.trans hwant)
  dsimp only
  rw [hat, if_pos ⟨hactive, by simp [hidle], by omega⟩]
  exact ⟨hrunning, hstart⟩

theorem State.wantStart_keeps (t : Nat) (held : Bool) :
    (s.wantStart t held).frm.active = s.frm.active ∧ (s.wantStart t held).frm.no = s.frm.no := by
  unfold State.wantStart
  extract_lets s1
  have h1 : s1.frm = s.frm := State.frm_of_core (mv := butFrm) (by simp [s1, State.core_ite]) rfl
  obtain ⟨hactive, hno⟩ := (s1.modFrm fun f => { f with want := some t, wantHeld := held, wantLess := 0 }).tryStart_keeps
  rw [hactive, hno, ← h1]
  exact ⟨rfl, rfl⟩

theorem State.wantStart_now (hactive : s.frm.active = true) (hidle : s.frm.running = false) (hland : s.frm.landUntil = s.now)
    (hspaced : s.frm.start + 10 * msP ≤ s.now) :
    (s.wantStart s.now false).frm.running = true ∧ (s.wantStart s.now false).frm.start = s.now := by
  unfold State.wantStart
  rw [if_neg (by omega)]
  refine State.tryStart_now (s := s.modFrm fun f => { f with want := some s.now, wantHeld := false, wantLess := 0 }) rfl hactive hidle hland ?_
  unfold State.spacedFrom
  split
  · exact Nat.zero_le _
  · exact hspaced

/-- The life cycle and the frame engine after a part has entered RUN. -/
theorem State.runEnter_runs : (s.runEnter.life.st = .run ∨ s.runEnter.life.st = .degraded) ∧ s.runEnter.life.autoRun = false ∧
    s.runEnter.frm.active = true ∧ s.runEnter.frm.no = 0 ∧
    (s.frm.running = false → s.frm.start + 10 * msP ≤ s.now → s.runEnter.frm.running = true ∧ s.runEnter.frm.start = s.now) := by
  unfold State.runEnter
  extract_lets s1 s2 s3 life s4 s4' s5
  have h3 : s3.core atLanding = s1.core atLanding := by simp [s3, s2, atLanding]
  have hst : s4.life.st = .run ∨ s4.life.st = .degraded := by
    simp only [s4, State.goto_st]
    split
    · exact Or.inl rfl
    · exact Or.inr rfl
  have hauto : s4.life.autoRun = false := by simp only [s4, State.goto_st]
  have h4 : s4.frm = s1.frm := by
    simp only [s4, State.goto_frm]
    exact State.frm_of_core h3 rfl
  have hnow4 : s4.now = s.now := by
    simp only [s4, State.goto_now]
    exact (State.now_of_core h3).trans rfl
  clear_value s4
  have hnow : s5.now = s.now := hnow4
  have hstart : (s5.wantStart s.now false).core onlyFrm = s4.core onlyFrm := by
    rw [State.wantStart_core _ _ _ _ _ rfl]
    calc s5.core onlyFrm
      _ = s4'.core onlyFrm := State.modFrm_core onlyFrm s4' _ rfl
      _ = s4.core onlyFrm := State.core_congr onlyFrm rfl rfl rfl rfl
  have hrunning := congrArg Frames.running h4
  have hfrom := congrArg Frames.start h4
  have hland : s5.frm.landUntil = s.now := congrArg Frames.landUntil h4
  have hzero : s5.frm.no = 0 := congrArg Frames.no h4
  obtain ⟨hactive, hno⟩ := s5.wantStart_keeps s.now false
  refine ⟨?_, ?_, ?_, ?_, fun hidle hspaced => ?_⟩
  · rwa [State.st_of_core hstart rfl]
  · exact (congrArg Life.autoRun (State.calm_of_core hstart rfl)).trans hauto
  · exact hactive
  · exact hno.trans hzero
  · rw [← hnow]
    refine State.wantStart_now rfl (hrunning.trans hidle) (hland.trans hnow.symm) ?_
    rw [hnow]
    exact (congrArg (· + 10 * msP) hfrom).trans_le hspaced

/-! ### Stops, services and prepare commands (R415, R416) -/

theorem State.enterIdle_st (st : DevState) : (s.enterIdle st).life.st = st := by
  unfold State.enterIdle
  extract_lets s1 wof s2
  have h2 : s2.life.st = st := by
    simp only [s2]
    split <;> simp [s1]
  split
  · rw [State.st_of_core (s2.fleetConfig_core onlyFrm) rfl, h2]
  · exact h2

theorem State.enterIdle_calm (st : DevState) : (s.enterIdle st).life.calm = s.life.calm :=
  State.calm_of_core (mv := ⟨true, false, true, false⟩) (by simp) rfl

/-- What a stop leaves of the life cycle (R415): the automatic return and a prepare command in progress. -/
theorem State.stopSettle_keeps : s.stopSettle.life.autoRun = s.life.autoRun ∧ s.stopSettle.life.prepReq = s.life.prepReq := by
  unfold State.stopSettle
  split
  · extract_lets s1 life s2
    have h1 : s1.life.calm = s.life.calm := State.calm_of_core (mv := onlyFrm) (by simp [s1]) rfl
    have h2 : s2.life.calm = ({ s1.life with stopReq := false } : Life).calm := by
      simp only [s2]
      rw [State.calm_of_core (State.sourceLost_core onlyFrm ..) rfl, State.enterIdle_calm]
    have hauto1 := congrArg Life.autoRun h1
    have hauto2 := congrArg Life.autoRun h2
    have hprep1 := congrArg Life.prepReq h1
    have hprep2 := congrArg Life.prepReq h2
    have hkept : s2.life.autoRun = s.life.autoRun ∧ s2.life.prepReq = s.life.prepReq := ⟨hauto2.trans hauto1, hprep2.trans hprep1⟩
    split
    · exact hkept
    · rwa [State.commandDone_life]
  · exact ⟨rfl, rfl⟩

theorem State.stopFrames_keeps : s.stopFrames.life.autoRun = s.life.autoRun ∧ s.stopFrames.life.prepReq = s.life.prepReq := by
  unfold State.stopFrames State.afterLanding
  dsimp only
  split
  · exact ⟨rfl, rfl⟩
  · exact State.stopSettle_keeps (s := { s with life := { s.life with stopReq := true } }.modFrm _)

/-- While a frame runs, a stop waits for its end (R415). -/
theorem State.stopFrames_waits (hrunning : s.frm.running = true) :
    s.stopFrames = { s with life := { s.life with stopReq := true } } := if_pos hrunning

/-- A prepare command is noted until its end; in CONFIG it drives the slow axis at once (R416). -/
theorem State.prepareBegin_notes : s.prepareBegin.life.prepReq = true ∧
    (s.life.prepReq = false → s.life.st = .config → s.prepareBegin.life.prepEl.isSome = true) := by
  unfold State.prepareBegin
  dsimp only
  split
  · next hprep => exact ⟨hprep, fun h => absurd (hprep.symm.trans h) (by decide)⟩
  · split
    · next hrun =>
      refine ⟨State.stopFrames_keeps.2, fun _ hconfig => ?_⟩
      rw [State.inRun, hconfig] at hrun
      contradiction
    · have hdrop := State.calm_of_core (mv := onlyFrm) (State.readmitDropAll_core onlyFrm { s with life := { s.life with prepReq := true } }) rfl
      exact ⟨congrArg Life.prepReq hdrop, fun _ _ => rfl⟩

/-! ### The commands -/

/-- The state that a run-state command finds once its answer is on its way; the automatic return is given up by every such command. -/
def State.answered (s : State) (r : Req) (v : Int) (a : Nat) : State :=
  let t := (s.storeWrite r (ent 0x3000 0 .u8 v) 0).accept r (ent 0x3000 0 .u8 v) (s.runStateLong a)
  { t with life := { t.life with autoRun := false } }

/-- What a run-state command does in that state (R413). -/
def State.commanded (s : State) : Nat → State
  | 1 => if s.inRun then s.stopFrames else s.enterIdle .config
  | 2 => s.runEnter
  | 3 => s.enterIdle .service
  | _ => s.prepareBegin

theorem State.runStateEff_eq (a : Nat) : s.runStateEff a = ({ s with life := { s.life with autoRun := false } } : State).commanded a := by
  unfold State.runStateEff State.commanded
  rfl

theorem State.runState_accepted {r : Req} {v : Int} {a : Nat} (ha : beNat (ent 0x3000 0 .u8 v).val = a)
    (h : s.accepts r (ent 0x3000 0 .u8 v) (s.runStateCodes a)) :
    s.runState r (ent 0x3000 0 .u8 v) = (s.answered r v a).commanded a := by
  unfold State.runState
  rw [State.through_served s h.1, ha]
  dsimp only
  rw [if_pos h.2, State.runStateEff_eq]
  rfl

theorem State.answered_keeps (r : Req) (v : Int) (a : Nat) : (s.answered r v a).life = { s.life with autoRun := false } ∧
    (s.answered r v a).frm = s.frm ∧ (s.answered r v a).now = s.now ∧ (s.answered r v a).took r := by
  unfold State.answered
  refine ⟨?_, ?_, ?_, State.accept_took ..⟩
  · simp
  · simp
  · simp

theorem exec_runCommand_accepted {r : Req} (h : s.accepts r (ent 0x3000 0 .u8 2) s.runCodes) :
    ∃ t, exec (.runCommand r) s = .next t ∧ (t.life.st = .run ∨ t.life.st = .degraded) ∧ t.life.autoRun = false ∧
      t.frm.active = true ∧ t.frm.no = 0 ∧
      (s.frm.running = false → s.frm.start + 10 * msP ≤ s.now → t.frm.running = true ∧ t.frm.start = s.now) := by
  obtain ⟨-, hfrm, hnow, -⟩ := State.answered_keeps (s := s) r 2 2
  have hruns := (s.answered r 2 2).runEnter_runs
  have hdone : s.runState r (ent 0x3000 0 .u8 2) = (s.answered r 2 2).runEnter := State.runState_accepted (a := 2) (by decide) h
  rw [hfrm, hnow, ← hdone] at hruns
  exact ⟨_, rfl, hruns⟩

theorem exec_stopCommand_accepted {r : Req} (h : s.accepts r (ent 0x3000 0 .u8 1) s.stopCodes) :
    ∃ t, exec (.stopCommand r) s = .next t ∧ t.life.autoRun = false ∧
      (s.inRun = true → s.frm.running = true → t.life.stopReq = true ∧ t.life.st = s.life.st) ∧
      (s.life.st = .service → t.took r ∧ t.life.st = .config) := by
  obtain ⟨hlife, hfrm, -, htook⟩ := State.answered_keeps (s := s) r 1 1
  have hrun : (s.answered r 1 1).inRun = s.inRun := by
    unfold State.inRun
    rw [hlife]
  have hdone : (s.answered r 1 1).commanded 1 =
      if s.inRun then (s.answered r 1 1).stopFrames else (s.answered r 1 1).enterIdle .config := by
    rw [← hrun]
    rfl
  refine ⟨_, congrArg Host.Outcome.next ((State.runState_accepted (a := 1) (by decide) h).trans hdone), ?_,
    fun hin hrunning => ?_, fun hservice => ?_⟩
  · split
    · rw [State.stopFrames_keeps.1, hlife]
    · exact (congrArg Life.autoRun (State.enterIdle_calm .config)).trans (congrArg Life.autoRun hlife)
  · rw [if_pos hin, State.stopFrames_waits (by rw [hfrm, hrunning]), hlife]
    exact ⟨rfl, rfl⟩
  · have hout : s.inRun = false := by simp [State.inRun, hservice]
    rw [hout, if_neg Bool.false_ne_true]
    refine ⟨?_, State.enterIdle_st .config⟩
    unfold State.took
    rw [State.enterIdle_tv]
    exact htook

theorem exec_serviceCommand_accepted {r : Req} (h : s.accepts r (ent 0x3000 0 .u8 3) (when (s.life.st != .config) 0x0601)) :
    ∃ t, exec (.serviceCommand r) s = .next t ∧ t.took r ∧ t.life.st = .service ∧ t.life.autoRun = false := by
  obtain ⟨hlife, -, -, htook⟩ := State.answered_keeps (s := s) r 3 3
  refine ⟨_, congrArg Host.Outcome.next (State.runState_accepted (a := 3) (by decide) h), ?_, State.enterIdle_st .service, ?_⟩
  · unfold State.took
    rw [State.commanded, State.enterIdle_tv]
    exact htook
  · exact (congrArg Life.autoRun (State.enterIdle_calm .service)).trans (congrArg Life.autoRun hlife)

theorem exec_preparePowerRemoval_accepted {r : Req} (h : s.accepts r (ent 0x3000 0 .u8 4) s.prepareCodes) :
    ∃ t, exec (.preparePowerRemoval r) s = .next t ∧ t.life.prepReq = true ∧
      (s.life.prepReq = false → s.life.st = .config → t.life.prepEl.isSome = true) := by
  obtain ⟨hlife, -⟩ := State.answered_keeps (s := s) r 4 4
  have hnotes := State.prepareBegin_notes (s := s.answered r 4 4)
  rw [hlife] at hnotes
  exact ⟨_, congrArg Host.Outcome.next (State.runState_accepted (a := 4) (by decide) h), hnotes⟩

theorem exec_autoRunRetry_due (hauto : s.life.autoRun = true) (hup : s.restarting = false) (hdue : s.life.nextAuto ≤ s.now) :
    (s.runCodes ≠ [] → ∃ t, exec .autoRunRetry s = .next t ∧ t = { s with life := { s.life with nextAuto := s.now + 100 * msP } }) ∧
    (s.runCodes = [] → ∃ t, exec .autoRunRetry s = .next t ∧ (t.life.st = .run ∨ t.life.st = .degraded) ∧ t.life.autoRun = false ∧
      t.frm.active = true ∧ t.frm.no = 0 ∧
      (s.frm.running = false → s.frm.start + 10 * msP ≤ s.now → t.frm.running = true ∧ t.frm.start = s.now)) := by
  have htry : s.autoTry = if s.runCodes.isEmpty then s.runEnter else { s with life := { s.life with nextAuto := s.now + 100 * msP } } :=
    if_neg (by simp [hauto, hup, hdue])
  refine ⟨fun hcodes => ⟨_, rfl, ?_⟩, fun hcodes => ⟨s.runEnter, congrArg Host.Outcome.next ?_, s.runEnter_runs⟩⟩
  · rw [htry, if_neg (by simpa using hcodes)]
  · rw [htry, if_pos (by simp [hcodes])]

/-- Settles O49, command by command: what entering RUN leaves, and how a stop, a service and a prepare command begin. -/
theorem runRows : Obligations.RunRows := by
  unfold Obligations.RunRows
  exact fun s => ⟨fun _ => exec_runCommand_accepted, fun _ => exec_stopCommand_accepted, fun _ => exec_serviceCommand_accepted,
    fun _ => exec_preparePowerRemoval_accepted, exec_autoRunRetry_due⟩

end Sys2Proof.Machine
end


section
/-! Rows of power-up and boot (R409 to R412, R417): the self-test's row does not hold while the Pilot restarts. -/

namespace Sys2Proof.Machine

/-- A self-test in progress in which the Pilot restarts, as after a watchdog of the Pilot (R379). -/
def restartInSelfTest : State := { State.reset with restarting := true, life := { State.reset.life with st := .selftest, phase := .selfTest } }

def cleanFindings : SelfTestIn :=
  { dieLinkOk := true, memoryOk := true, badBlocks := [], captureOk := true, calFailed := [], injFailed := [], badSites := [] }

/-- While the Pilot restarts, no self-test completes. -/
theorem State.selfTestDone_restarting {s : State} (h : s.restarting = true) (r : SelfTestIn) : s.selfTestDone r = s := if_pos (Or.inr h)

/-- Refutes O48: a self-test that would complete while the Pilot restarts leaves its phase at `selfTest`; the row about selftestComplete
lacks the premise that the Pilot does not restart, which the row about bootComplete has. -/
theorem not_powerRows : ¬ Obligations.PowerRows := by
  unfold Obligations.PowerRows
  intro h
  obtain ⟨-, -, -, hselftest, -⟩ := h restartInSelfTest
  obtain ⟨t, hexec, hphase, -⟩ := hselftest cleanFindings rfl (by decide)
  have hsame : restartInSelfTest.selfTestDone cleanFindings = t := Host.Outcome.next.inj hexec
  rw [← hsame, State.selfTestDone_restarting rfl] at hphase
  exact absurd hphase (by decide)

end Sys2Proof.Machine
end


section
/-! Rows of the Pilot's services and of the power domains (R384, R387, R388, R400 to R402). -/

namespace Sys2Proof.Machine

variable (s : State)

/-! ### Switching a domain leaves the service of requests alone -/

@[simp] theorem State.tv_foldl {β : Type} {f : State → β → State} (h : ∀ s x, (f s x).tv = s.tv) (l : List β) (s : State) :
    (l.foldl f s).tv = s.tv :=
  foldl_keeps State.tv h l s

@[simp] theorem State.sourceLost_tv (selected : Bool) : (s.sourceLost selected).tv = s.tv := by simp [State.sourceLost]
@[simp] theorem State.quadLost_tv (q : Fin 4) : (s.quadLost q).tv = s.tv := by simp [State.quadLost]
@[simp] theorem State.rewindOpen_tv (n : Fin 4) (l : Nat) : (s.rewindOpen n l).tv = s.tv := by simp [State.rewindOpen]
@[simp] theorem State.emptyQueue_tv (n : Fin 4) : (s.emptyQueue n).tv = s.tv := by simp [State.emptyQueue]
@[simp] theorem State.emptyLink_tv (l : Fin 2) : (s.emptyLink l).tv = s.tv := by simp [State.emptyLink]
@[simp] theorem State.dmaRewind_tv (c : Fin 32) : (s.dmaRewind c).tv = s.tv := by simp [State.dmaRewind]
@[simp] theorem State.capPowerOff_tv : s.capPowerOff.tv = s.tv := by simp [State.capPowerOff]
@[simp] theorem State.quadPowerOff_tv (q : Fin 4) : (s.quadPowerOff q).tv = s.tv := by simp [State.quadPowerOff]
@[simp] theorem State.bulkRewind_tv (l : Fin 2) : (s.bulkRewind l).tv = s.tv := by simp [State.bulkRewind]
@[simp] theorem State.linkPowerOff_tv (l : Fin 2) : (s.linkPowerOff l).tv = s.tv := by simp [State.linkPowerOff]
@[simp] theorem State.clockLane_tv (l : Fin 2) (on : Bool) : (s.clockLane l on).tv = s.tv := by simp [State.clockLane]
@[simp] theorem State.linkCold_tv (l : Fin 2) (st : Nat) : (s.linkCold l st).tv = s.tv := by simp [State.linkCold]

/-- What a request in progress needs of the state: its own entry, the clock that its answer is kept by. -/
theorem State.powerOff_tv (d : Nat) : (s.powerOff d).tv = s.tv := by
  obtain ⟨-, q, h⟩ | ⟨-, h⟩ | ⟨-, ⟨l, h⟩ | h⟩ := s.powerOff_cases d <;> rw [h]
  · exact s.quadPowerOff_tv q
  · exact s.capPowerOff_tv
  · exact s.linkPowerOff_tv l

/-- Nothing of the core moves. -/
def still : Moved := ⟨false, false, false, false⟩

theorem State.powerOff_core (d : Nat) : (s.powerOff d).core still = s.core still := by
  obtain ⟨-, q, h⟩ | ⟨-, h⟩ | ⟨-, ⟨l, h⟩ | h⟩ := s.powerOff_cases d <;> rw [h]
  · exact s.quadPowerOff_core still q
  · exact s.capPowerOff_core still
  · exact s.linkPowerOff_core still l

/-! ### A request whose answer waits (R71) -/

/-- The answer to a request of this period is kept. -/
theorem mem_keepStored_now (now : Nat) (l : List Stored) {x : Stored} (h : x.at_ = now) : x ∈ keepStored now l x := by
  have hlater (l : List Stored) : l.filter (fun y => decide (x.at_ < y.at_) && decide (y.at_ ≤ now)) = [] :=
    List.filter_eq_nil_iff.2 fun y _ => by
      simp only [Bool.and_eq_true, decide_eq_true_eq, not_and]
      omega
  unfold keepStored
  simp only [hlater, List.append_nil]
  refine List.mem_append_right _ ?_
  rw [List.drop_append_of_le_length (by simp)]
  simp

variable {s}

/-- A request of this period that owes an answer for one argument: it runs, or its answer is kept. -/
structure State.Owes (s : State) (x : Running) : Prop where
  mem : x ∈ s.tv.running
  open_ : x.answered = false
  fresh : x.started = s.now

theorem State.Owes.congr {t : State} {x : Running} (h : s.Owes x) (htv : t.tv = s.tv) (hnow : t.now = s.now) : t.Owes x where
  mem := by rw [htv]; exact h.mem
  open_ := h.open_
  fresh := by rw [hnow]; exact h.fresh

/-- Completing any request leaves that one taken. -/
theorem State.requestDone_took {x : Running} (h : s.Owes x) (obj arg : Nat) : (s.requestDone obj arg).took x.req := by
  unfold State.requestDone
  split
  · exact Or.inr ⟨x, h.mem, rfl, h.open_⟩
  next y hy =>
  split
  · next a rest hrest =>
    refine Or.inr ⟨if x == y then { y with arg := a, more := rest } else x, List.mem_map.2 ⟨x, h.mem, rfl⟩, ?_⟩
    split
    · next hxy =>
      rw [← beq_iff_eq.1 hxy]
      exact ⟨rfl, h.open_⟩
    · exact ⟨rfl, h.open_⟩
  · by_cases hxy : x = y
    · subst hxy
      dsimp only
      rw [h.open_, if_neg Bool.false_ne_true]
      refine Or.inl ⟨{ req := x.req, kind := x.kind, at_ := x.started, abort := 0, body := if x.kind = kCommand then [0] else [] }, ?_,
        rfl, rfl⟩
      rw [State.respondLate_tv _ _ _ _ (by decide)]
      exact mem_keepStored_now _ _ h.fresh
    · have hmem : x ∈ s.tv.running.filter fun z => !(z == y) := List.mem_filter.2 ⟨h.mem, by simp [hxy]⟩
      refine Or.inr ⟨x, ?_, rfl, h.open_⟩
      dsimp only
      split
      · exact hmem
      · rw [State.respondLate_tv _ _ _ _ (by decide)]
        exact hmem

theorem State.requestDone_dict (obj arg : Nat) : (s.requestDone obj arg).dict = s.dict := by
  unfold State.requestDone
  split
  · rfl
  dsimp only
  split
  · rfl
  · split
    · rfl
    · exact State.respondLate_dict _ _ _ _ (by decide)

/-! ### Power domains (R387) -/

/-- The request that a write of a switch owes an answer to. -/
def switchRequest (s : State) (r : Req) (d : Nat) : Running :=
  { req := r, kind := if r.asCommand then kCommand else kWrite, obj := 0x8100, arg := d, more := [], started := s.now, answered := false }

/-- The state once the write of a switch is stored and its answer owed. -/
def State.switchAsked (s : State) (r : Req) (d : Nat) (v : Int) : State :=
  (s.storeWrite r (ent 0x8100 (d + 1) .u8 v) 0).owe r (if r.asCommand then kCommand else kWrite) 0x8100 [d]

theorem settingArray_switches : ∃ row, settingArray 0x8100 7 .u8 row := ⟨_, rfl, rfl, rfl, rfl, rfl⟩

theorem State.switchAsked_owes (r : Req) (d : Nat) (v : Int) : (s.switchAsked r d v).Owes (switchRequest s r d) where
  mem := by
    refine List.mem_append_right _ (List.mem_singleton.2 ?_)
    rw [State.storeWrite_now]
    rfl
  open_ := rfl
  fresh := (State.storeWrite_now ..).symm

theorem State.switchAsked_dma (r : Req) (d : Nat) (v : Int) : (s.switchAsked r d v).dma = s.dma := State.storeWrite_dma ..
theorem State.switchAsked_now (r : Req) (d : Nat) (v : Int) : (s.switchAsked r d v).now = s.now := State.storeWrite_now ..

/-- A switch that is set shows in `8.101` once the domain has followed. -/
theorem State.switchAsked_shown (r : Req) (d : Nat) {v : Int} (hv : Ty.u8.dec (Ty.u8.enc v) = v) (el : Nat) :
    (s.switchAsked r d v).obj 0x8101 el = s.obj 0x8101 el := by
  obtain ⟨row, hrow⟩ := settingArray_switches
  exact (State.obj_congr (s.storeWrite_settingArray hrow r d hv) _ _).trans (State.obj_setObj_ne _ _ (Or.inl (by decide)))

theorem State.domOff_off {x : Running} (d : Nat) (h : s.Owes x) : (s.domOff d).took x.req ∧ (s.domOff d).obj 0x8101 (domEl d) = 0 := by
  have hcore := (s.unheld d).powerOff_core d
  rw [State.domOff_eq]
  refine ⟨State.requestDone_took (h.congr ((s.unheld d).powerOff_tv d) ((State.now_of_core hcore).trans rfl)) _ _, ?_⟩
  rw [State.obj_congr (State.requestDone_dict ..), State.obj_of_core hcore rfl rfl]
  exact State.obj_setObj_self ..

/-- What a domain that is switched on starts with. -/
def State.powerOn (s : State) (d : Nat) : State :=
  match d with
  | 4 => s.modCap fun c => { c with st := 0 }
  | 5 => s.linkCold 0 0
  | 6 => s.linkCold 1 0
  | _ => s

theorem State.powerOn_keeps (d : Nat) : (s.powerOn d).tv = s.tv ∧ (s.powerOn d).core still = s.core still := by
  unfold State.powerOn
  split
  · exact ⟨rfl, State.modCap_core ..⟩
  · exact ⟨State.linkCold_tv .., State.linkCold_core ..⟩
  · exact ⟨State.linkCold_tv .., State.linkCold_core ..⟩
  · exact ⟨rfl, rfl⟩

theorem State.domOn_on {x : Running} (d : Nat) (h : s.Owes x) : (s.domOn d).took x.req ∧ (s.domOn d).obj 0x8101 (domEl d) = 1 := by
  unfold State.domOn
  split
  · next hon => exact ⟨State.requestDone_took h _ _, (State.obj_congr (State.requestDone_dict ..) _ _).trans hon⟩
  · obtain ⟨htv, hcore⟩ := State.powerOn_keeps (s := s.setObj 0x8101 (domEl d) 1) d
    refine ⟨State.requestDone_took (h.congr htv ((State.now_of_core hcore).trans rfl)) 0x8100 d, ?_⟩
    refine (State.obj_congr (State.requestDone_dict (s := (s.setObj 0x8101 (domEl d) 1).powerOn d) ..) _ _).trans ?_
    rw [State.obj_of_core hcore rfl rfl]
    exact State.obj_setObj_self ..

theorem exec_powerDomainOn_accepted {r : Req} {d : Fin 7} (h : s.accepts r (ent 0x8100 (d.val + 1) .u8 1) (s.domOnCodes d.val)) :
    ∃ t, exec (.powerDomainOn r d) s = .next t ∧ t.took r ∧ t.obj 0x8101 (domEl d) = 1 :=
  ⟨_, congrArg Host.Outcome.next (s.hostWriteHeld_accepted (codes := fun s => s.domOnCodes d.val) h),
    State.domOn_on d.val (State.switchAsked_owes r d.val 1)⟩

theorem exec_powerDomainOff_accepted {r : Req} {d : Fin 7} (h : s.accepts r (ent 0x8100 (d.val + 1) .u8 0) (s.domOffCodes d.val)) :
    ∃ t, exec (.powerDomainOff r d) s = .next t ∧ t.took r ∧
      (s.obj 0x8101 (domEl d) = 0 ∨ s.domTouched d = false → t.obj 0x8101 (domEl d) = 0) ∧
      (s.obj 0x8101 (domEl d) ≠ 0 → s.domTouched d = true →
        t.dma.holds = s.dma.holds ++ [(d.val, s.now)] ∧ t.obj 0x8101 (domEl d) = s.obj 0x8101 (domEl d)) := by
  set u := s.switchAsked r d.val 0
  have howes : u.Owes (switchRequest s r d.val) := State.switchAsked_owes r d.val 0
  have hshown : u.obj 0x8101 (domEl d) = s.obj 0x8101 (domEl d) := State.switchAsked_shown r d.val (by decide) _
  have hdma : u.dma = s.dma := State.switchAsked_dma ..
  have htouched : u.domTouched d = s.domTouched d := by
    unfold State.domTouched State.dmaCh
    rw [hdma]
  have hexec : exec (.powerDomainOff r d) s = .next (u.domOffBegin d) :=
    congrArg Host.Outcome.next (s.hostWriteHeld_accepted (codes := fun s => s.domOffCodes d.val) h)
  refine ⟨_, hexec, ?_⟩
  unfold State.domOffBegin
  rw [hshown, htouched]
  split
  · next hoff =>
    exact ⟨State.requestDone_took howes _ _, fun _ => (State.obj_congr (State.requestDone_dict ..) _ _).trans (hshown.trans hoff),
      fun hon => absurd hoff hon⟩
  next hon =>
  split
  · next hheld =>
    refine ⟨Or.inr ⟨_, howes.mem, rfl, rfl⟩, fun h => ?_, fun _ _ => ⟨?_, hshown⟩⟩
    · exact h.elim (absurd · hon) fun hfree => absurd (hheld.symm.trans hfree) (by decide)
    · rw [← hdma, ← State.switchAsked_now (s := s) r d.val 0]
  · next hfree =>
    obtain ⟨htook, hoff⟩ := State.domOff_off d.val howes
    exact ⟨htook, fun _ => hoff, fun _ hheld => absurd hheld hfree⟩

/-! ### The Pilot's services -/

/-- The oldest event enters the log (R384); what tells of it leaves the non-volatile memories alone. -/
theorem exec_eventLogCommit_due {e : EvRec} {rest : List EvRec} (hqueue : s.ev.queue = e :: rest) (hon : s.firmwareRuns = true) :
    ∃ t, exec .eventLogCommit s = .next t ∧ t.nv.log = (e :: s.nv.log).take 65536 ∧ t.nv.logNext = s.nv.logNext + 1 := by
  have hnv : s.logCommit.nv = { s.nv with log := (e :: s.nv.log).take 65536, logNext := s.nv.logNext + 1 } := by
    unfold State.logCommit
    rw [if_neg (by simp [hon])]
    split
    · next hnone => exact absurd (hqueue.symm.trans hnone) (List.cons_ne_nil _ _)
    next e' rest' hcons =>
    obtain ⟨rfl, rfl⟩ := List.cons.inj (hcons.symm.trans hqueue)
    extract_lets ev nv s1 ev1 s2
    have h2 : s2.nv = s1.nv := by
      simp only [s2]
      split
      · rfl
      · rw [State.evt_nv]
    rw [State.nv_of_rest (m := butNv) (s := s2) (by simp) rfl, h2]
  exact ⟨_, rfl, by rw [hnv], by rw [hnv]⟩

theorem exec_quenchRestart_accepted {r : Req} {arg : Nat}
    (h : s.accepts r (entArg 0x8015 .u8 arg) (when (s.life.st != .quenched || decide (2080 ≤ s.sens.tj)) 0x0601)) :
    ∃ t, exec (.quenchRestart r arg) s = .next t ∧ t.took r ∧ t.life.st = .config ∧ t.isl = s.isl := by
  refine ⟨_, rfl, s.hostWrite_took (codes := fun s => when (s.life.st != .quenched || decide (2080 ≤ s.sens.tj)) 0x0601) h, ?_⟩
  rw [s.hostWrite_accepted (codes := fun s => when (s.life.st != .quenched || decide (2080 ≤ s.sens.tj)) 0x0601) h,
    s.storeWrite_command (obj := 0x8015) rfl rfl rfl, State.accept_life, State.accept_isl]
  refine ⟨?_, State.isl_of_rest (m := butIsland) (by simp [butIsland]) rfl⟩
  unfold State.quenchLeave
  rw [State.evt_life]
  exact State.enterIdle_st .config

theorem exec_windowBaseline_accepted {r : Req} {arg : Nat} (h : s.accepts r (entArg 0x9300 .u8 arg) (s.serviceCodes s.pilot.base.isSome)) :
    ∃ t, exec (.windowBaseline r arg) s = .next t ∧ t.took r ∧ t.pilot = { s.pilot with base := some 1000, baseCnt := [] } := by
  refine ⟨_, rfl, s.hostWrite_took (codes := fun s => s.serviceCodes s.pilot.base.isSome) h, ?_⟩
  rw [s.hostWrite_accepted (codes := fun s => s.serviceCodes s.pilot.base.isSome) h, s.storeWrite_command (obj := 0x9300) rfl rfl rfl,
    State.accept_pilot]
  rfl

theorem exec_commissioningReport_accepted {r : Req} {arg : Nat}
    (h : s.accepts r (entArg 0x9320 .u8 arg) (s.serviceCodes s.pilot.report.isSome)) :
    ∃ t, exec (.commissioningReport r arg) s = .next t ∧ t.took r ∧ t.pilot.report = some 100 ∧ t.pilot.repCrc = s.setCrc := by
  refine ⟨_, rfl, s.hostWrite_took (codes := fun s => s.serviceCodes s.pilot.report.isSome) h, ?_⟩
  rw [s.hostWrite_accepted (codes := fun s => s.serviceCodes s.pilot.report.isSome) h, s.storeWrite_command (obj := 0x9320) rfl rfl rfl,
    State.accept_pilot]
  exact ⟨rfl, rfl⟩

theorem exec_commissioningReportDone_due (hdue : s.pilot.report = some 0) :
    ∃ t, exec .commissioningReportDone s = .next t ∧ t.pilot = { s.pilot with report := none } := by
  refine ⟨_, rfl, ?_⟩
  unfold State.reportDone
  split
  · rw [State.commandDone_pilot, State.evt_pilot]
    rfl
  · next hno => exact absurd hdue (hno ·)

/-- Channels that become due for their calibration change nothing of the Pilot. -/
theorem State.campaignBegin_conv (mask : Nat) : (s.campaignBegin mask).pilot.conv = some (mask, s.now) := by
  unfold State.campaignBegin
  dsimp only
  rw [foldl_keeps State.pilot (fun s q => foldl_keeps State.pilot (fun s c => by
    split
    · rfl
    · exact State.setChan_pilot ..) _ s) _ _]
  rfl

theorem exec_converterCampaign_accepted {r : Req} {mask : Nat} (h : s.accepts r (entArg 0x9330 .u8 mask) (when s.pilot.conv.isSome 0x0701)) :
    ∃ t, exec (.converterCampaign r mask) s = .next t ∧ t.took r ∧ t.pilot.conv = some (mask, s.now) := by
  refine ⟨_, rfl, s.hostWrite_took (codes := fun s => when s.pilot.conv.isSome 0x0701) h, ?_⟩
  rw [s.hostWrite_accepted (codes := fun s => when s.pilot.conv.isSome 0x0701) h, s.storeWrite_command (obj := 0x9330) rfl rfl rfl,
    State.accept_pilot]
  exact State.campaignBegin_conv mask

theorem exec_emitterCampaign_accepted {r : Req} {arg : Nat}
    (h : s.accepts r (entArg 0x9331 .u8 arg) (when (decide (0 < s.pilot.emit)) 0x0701)) :
    ∃ t, exec (.emitterCampaign r arg) s = .next t ∧ t.took r ∧ t.pilot.emit = 2 := by
  refine ⟨_, rfl, s.hostWrite_took (codes := fun s => when (decide (0 < s.pilot.emit)) 0x0701) h, ?_⟩
  rw [s.hostWrite_accepted (codes := fun s => when (decide (0 < s.pilot.emit)) 0x0701) h, s.storeWrite_command (obj := 0x9331) rfl rfl rfl,
    State.accept_pilot]
  rfl

/-- What a zone's element of the baseline report shows. -/
def baselineShare (l : List (Nat × Nat × Nat)) (z : Nat) : Int :=
  let c := (l[z]?.map (·.2)).getD (0, 0)
  if c.2 = 0 then 0 else (min (256 * c.1 / c.2) 65535 : Nat)

theorem baselineShare_counted {l : List (Nat × Nat × Nat)} {z : Nat} {c : Nat × Nat × Nat} (h : l[z]? = some c) (hc : c.2.2 ≠ 0) :
    baselineShare l z = (min (256 * c.2.1 / c.2.2) 65535 : Nat) := by
  unfold baselineShare
  simp [h, hc]

theorem exec_windowBaselineDone_due (hdue : s.pilot.base = some 0) (hzones : s.objN 0xC040 1 ≤ 64) :
    ∃ t, exec .windowBaselineDone s = .next t ∧ t.pilot.base = none ∧
      ∀ z c, z < s.objN 0xC040 1 → s.pilot.baseCnt[z]? = some c → c.2.2 ≠ 0 →
        t.obj 0x9301 (z + 1) = (min (256 * c.2.1 / c.2.2) 65535 : Nat) := by
  refine ⟨_, rfl, ?_⟩
  unfold State.baselineDone
  split
  · extract_lets s1 s2
    have hpilot : s2.pilot = s1.pilot := foldl_keeps State.pilot (fun s _ => s.setObj_pilot ..) _ _
    refine ⟨?_, fun z c hz hc hne => ?_⟩
    · rw [State.commandDone_pilot, State.evt_pilot, hpilot]
      rfl
    · rw [State.obj_congr (State.commandDone_dict ..), State.evt_obj_ne _ _ _ (Or.inl (by decide))]
      refine (State.obj_foldl_range (N := 64) (v := baselineShare s.pilot.baseCnt) (fun s j _ => s.obj_setObj_self ..)
        (fun s i j hi hj hij => State.obj_setObj_ne s _ (Or.inr (by omega))) s1 hzones hz).trans ?_
      exact baselineShare_counted hc hne
  · next hno => exact absurd hdue (hno ·)

/-- Settles O50, row by row: the log and the services by what each writes of the Pilot, the power domains by what a switch that is written
does to its own request and to `8.101`. -/
theorem serviceRows : Obligations.ServiceRows := by
  unfold Obligations.ServiceRows
  exact fun s => ⟨fun _ _ => exec_eventLogCommit_due, fun _ _ => exec_quenchRestart_accepted, fun _ _ => exec_windowBaseline_accepted,
    exec_windowBaselineDone_due, fun _ _ => exec_commissioningReport_accepted, exec_commissioningReportDone_due,
    fun _ _ => exec_converterCampaign_accepted, fun _ _ => exec_emitterCampaign_accepted, fun _ _ => exec_powerDomainOn_accepted,
    fun _ _ => exec_powerDomainOff_accepted⟩

end Sys2Proof.Machine
end


section
/-! Rows of the DMA engine (R285 to R295). -/

namespace Sys2Proof.Machine

/-! ### Tokens, turn and buffer under the operations -/

/-- What a burst and the buffer are reckoned from: tokens, turn and the buffer itself (R288). -/
def Dma.pace (d : Dma) : Nat × Nat × AMap Byte := (d.tok, d.next, d.buf)

def State.pace (s : State) : Nat × Nat × AMap Byte := s.dma.pace

@[simp] theorem Dma.pace_mk (d : Dma) {chans desc tokAt recs ev1803 holds} :
    Dma.pace ⟨chans, desc, d.buf, d.tok, tokAt, recs, ev1803, holds, d.next⟩ = d.pace := by
  simp only [Dma.pace]

@[simp] theorem State.pace_dma (s : State) : s.dma.pace = s.pace := rfl

@[simp] theorem State.pace_mk {dma : Dma}
    {now scale free pending out dict tv sideTx restarting ev life die frm quads em steer forge ana gov queues links recTok
      recAt tap isl cap time wof fleet plv sens pilot nv blobs jtag} :
    State.pace ⟨now, scale, free, pending, out, dict, tv, sideTx, restarting, ev, life, die, frm, quads, em, steer, forge, ana, gov,
      queues, dma, links, recTok, recAt, tap, isl, cap, time, wof, fleet, plv, sens, pilot, nv, blobs, jtag⟩ = dma.pace := id rfl

@[simp] theorem State.setObj_pace (s : State) (o el : Nat) (v : Int) : (s.setObj o el v).pace = s.pace := id rfl

@[simp] theorem State.pace_ite (c : Prop) [Decidable c] (a b : State) : (if c then a else b).pace = if c then a.pace else b.pace :=
  apply_ite State.pace c a b

@[simp] theorem State.pace_foldl {β : Type} {f : State → β → State} (h : ∀ s x, (f s x).pace = s.pace) (l : List β) (s : State) :
    (l.foldl f s).pace = s.pace :=
  foldl_keeps State.pace h l s

variable (s : State)

@[simp] theorem State.bump_pace (o el k : Nat) : (s.bump o el k).pace = s.pace := by simp [State.bump]
@[simp] theorem State.emit_pace (o : Out) : (s.emit o).pace = s.pace := by simp [State.emit]
@[simp] theorem State.evt_pace (code param : Nat) : (s.evt code param).pace = s.pace := by simp [State.evt]
@[simp] theorem State.setQuad_pace (q : Fin 4) (v : Quad) : (s.setQuad q v).pace = s.pace := by simp [State.setQuad]
@[simp] theorem State.modQuad_pace (q : Fin 4) (f : Quad → Quad) : (s.modQuad q f).pace = s.pace := by simp [State.modQuad]
@[simp] theorem State.sourceLost_pace (selected : Bool) : (s.sourceLost selected).pace = s.pace := by simp [State.sourceLost]
@[simp] theorem State.quadLost_pace (q : Fin 4) : (s.quadLost q).pace = s.pace := by simp [State.quadLost]

@[simp] theorem State.sendMsg_pace (port dst prio kind resp master txn abort : Nat) (body : Octets) :
    (s.sendMsg port dst prio kind resp master txn abort body).pace = s.pace := by
  rw [State.sendMsg_keeps]
  rfl

@[simp] theorem State.respondTo_pace (r : Req) (t kind abort : Nat) (body : Octets) :
    (s.respondTo r t kind abort body).pace = s.pace := by simp [State.respondTo]

@[simp] theorem State.respondLate_pace (x : Running) (kind abort : Nat) (body : Octets) :
    (s.respondLate x kind abort body).pace = s.pace := by simp [State.respondLate]

@[simp] theorem State.requestDone_pace (obj arg : Nat) : (s.requestDone obj arg).pace = s.pace := by
  unfold State.requestDone
  (repeat' split) <;> simp

@[simp] theorem State.modCap_pace (f : Capture → Capture) : (s.modCap f).pace = s.pace := by simp [State.modCap]
@[simp] theorem State.setSeg_pace (i : Nat) (g : Seg) : (s.setSeg i g).pace = s.pace := by simp [State.setSeg]
@[simp] theorem State.segRead_pace (i off n : Nat) : (s.segRead i off n).pace = s.pace := by simp [State.segRead]
@[simp] theorem State.setQueue_pace (n : Fin 4) (v : OutQ) : (s.setQueue n v).pace = s.pace := by simp [State.setQueue]
@[simp] theorem State.setLink_pace (l : Fin 2) (v : Link) : (s.setLink l v).pace = s.pace := by simp [State.setLink]
@[simp] theorem State.modLink_pace (l : Fin 2) (f : Link → Link) : (s.modLink l f).pace = s.pace := by simp [State.modLink]

@[simp] theorem State.reserve_pace (n : Fin 4) (l : Nat) : (s.reserve n l).1.pace = s.pace := by
  unfold State.reserve
  dsimp only
  split <;> simp

@[simp] theorem State.commit_pace (n : Fin 4) (l : Nat) (o : Octets) (frame : Nat) :
    (s.commit n l o frame).pace = s.pace := by simp [State.commit]

@[simp] theorem State.rewindOpen_pace (n : Fin 4) (l : Nat) : (s.rewindOpen n l).pace = s.pace := by simp [State.rewindOpen]
@[simp] theorem State.emptyQueue_pace (n : Fin 4) : (s.emptyQueue n).pace = s.pace := by simp [State.emptyQueue]
@[simp] theorem State.emptyLink_pace (l : Fin 2) : (s.emptyLink l).pace = s.pace := by simp [State.emptyLink]
@[simp] theorem State.setDmaCh_pace (c : Fin 32) (v : DmaCh) : (s.setDmaCh c v).pace = s.pace := by simp [State.setDmaCh]

@[simp] theorem State.dmaRecord_pace (c : Fin 32) (status count : Nat) : (s.dmaRecord c status count).pace = s.pace := by
  unfold State.dmaRecord State.dmaRecord.note
  dsimp only
  repeat' split
  all_goals simp 

@[simp] theorem State.clearGo_pace (c : Fin 32) : (s.clearGo c).pace = s.pace := by simp [State.clearGo]
@[simp] theorem State.dmaRewind_pace (c : Fin 32) : (s.dmaRewind c).pace = s.pace := by simp [State.dmaRewind]

@[simp] theorem State.dmaHalt_pace (c : Fin 32) (status count : Nat) :
    (s.dmaHalt c status count).pace = s.pace := by simp [State.dmaHalt]

@[simp] theorem State.dmaReserve_pace (c : Fin 32) : (s.dmaReserve c).pace = s.pace := by
  unfold State.dmaReserve
  dsimp only
  split <;> simp 

@[simp] theorem State.descStart_pace (c : Fin 32) (i : Nat) : (s.descStart c i).pace = s.pace := by simp [State.descStart]

@[simp] theorem State.descDone_pace (c : Fin 32) : (s.descDone c).pace = s.pace := by
  unfold State.descDone
  dsimp only
  (repeat' split) <;> simp 

@[simp] theorem State.dmaRetry_pace : s.dmaRetry.pace = s.pace := by simp [State.dmaRetry]
@[simp] theorem State.capPowerOff_pace : s.capPowerOff.pace = s.pace := by simp [State.capPowerOff]
@[simp] theorem State.quadPowerOff_pace (q : Fin 4) : (s.quadPowerOff q).pace = s.pace := by simp [State.quadPowerOff]
@[simp] theorem State.bulkRewind_pace (l : Fin 2) : (s.bulkRewind l).pace = s.pace := by simp [State.bulkRewind]
@[simp] theorem State.linkPowerOff_pace (l : Fin 2) : (s.linkPowerOff l).pace = s.pace := by simp [State.linkPowerOff]

@[simp] theorem State.domOff_pace (d : Nat) : (s.domOff d).pace = s.pace := by
  unfold State.domOff
  split <;> simp 

@[simp] theorem State.domSettle_pace : s.domSettle.pace = s.pace := by simp [State.domSettle]

/-! ### What becomes of a channel when held power-downs end and reservations are tried again -/

/-- A channel that waits for no reservation is left alone by the retries. -/
theorem State.dmaRetry_channel {c : Fin 32} (h : (s.dmaCh c).st ≠ 2) : s.dmaRetry.dmaCh c = s.dmaCh c :=
  List.foldlRecOn (motive := fun t => State.dmaCh t c = s.dmaCh c) chans32 _ rfl fun t ht d _ => by
    split
    · next hwaits => exact ((t.dmaReserve_onlyChannel d).others c fun e => h (by rw [← ht, e, hwaits])).trans ht
    · exact ht

/-- Rewound are the channels with an open packet for the link alone. -/
theorem State.bulkRewind_channel (l : Fin 2) {c : Fin 32}
    (h : (s.dmaCh c).st = 1 → dstRegion (dDst (s.dmaCh c).image) (dLen (s.dmaCh c).image) ≠ .bulk (2 + l.val)) :
    (s.bulkRewind l).dmaCh c = s.dmaCh c :=
  List.foldlRecOn (motive := fun t => State.dmaCh t c = s.dmaCh c) chans32 _ rfl fun t ht d _ => by
    extract_lets ch s1
    split
    · next hopen =>
      obtain ⟨hactive, -, hdst⟩ := hopen
      have hne : c ≠ d := fun e => h (by rw [← ht, e, hactive]) (by rw [← ht, e, hdst])
      exact (((t.dmaRewind_onlyChannel d).trans (State.setDmaCh_onlyChannel _ d _)).others c hne).trans ht
    · exact ht

theorem State.linkPowerOff_dma (l : Fin 2) : (s.linkPowerOff l).dma = (s.bulkRewind l).dma := by
  unfold State.linkPowerOff
  dsimp only
  rw [State.setObj_dma, State.modLink_dma, (State.emptyLink_aside _ l).2, State.modLink_dma]

theorem State.linkPowerOff_channel (l : Fin 2) {c : Fin 32}
    (h : (s.dmaCh c).st = 1 → dstRegion (dDst (s.dmaCh c).image) (dLen (s.dmaCh c).image) ≠ .bulk (2 + l.val)) :
    (s.linkPowerOff l).dmaCh c = s.dmaCh c := by
  rw [State.dmaCh_congr (congrArg Dma.chans (s.linkPowerOff_dma l)), State.bulkRewind_channel s l h]

theorem not_bulk_of_not_touches {o : Octets} {n d : Nat} (hdomain : (Region.bulk n).domain = some d) (h : touches o d = false) :
    dstRegion (dDst o) (dLen o) ≠ .bulk n := fun e => by
  simp [touches, e, hdomain] at h

/-- A power-down leaves a channel alone that does not move to or from the domain. -/
theorem State.powerOff_channel (d : Nat) {c : Fin 32} (h : (s.dmaCh c).st = 1 → touches (s.dmaCh c).image d = false) :
    (s.powerOff d).dmaCh c = s.dmaCh c := by
  unfold State.powerOff
  split
  · exact State.dmaCh_congr (congrArg Dma.chans (s.quadPowerOff_dma 0)) c
  · exact State.dmaCh_congr (congrArg Dma.chans (s.quadPowerOff_dma 1)) c
  · exact State.dmaCh_congr (congrArg Dma.chans (s.quadPowerOff_dma 2)) c
  · exact State.dmaCh_congr (congrArg Dma.chans (s.quadPowerOff_dma 3)) c
  · rfl
  · exact s.linkPowerOff_channel 0 fun hactive => not_bulk_of_not_touches rfl (h hactive)
  · exact s.linkPowerOff_channel 1 fun hactive => not_bulk_of_not_touches rfl (h hactive)
  · rfl

theorem State.domOff_channel (d : Nat) {c : Fin 32} (h : (s.dmaCh c).st = 1 → touches (s.dmaCh c).image d = false) :
    (s.domOff d).dmaCh c = s.dmaCh c := by
  rw [State.domOff_eq, State.dmaCh_congr (congrArg Dma.chans (State.requestDone_dma ..))]
  exact State.powerOff_channel (s.unheld d) d h

/-- The held power-downs that end touch no channel in execution: none is left alone that such a channel moves to or from. -/
theorem State.domSettle_channel (c : Fin 32) : s.domSettle.dmaCh c = s.dmaCh c :=
  List.foldlRecOn (motive := fun t => State.dmaCh t c = s.dmaCh c) s.dma.holds _ rfl fun t ht h _ => by
    split
    · exact ht
    · next hfree =>
      refine (t.domOff_channel h.1 fun hactive => ?_).trans ht
      have hc := List.any_eq_false.1 (Bool.eq_false_of_not_eq_true hfree) c (mem_chans32 c)
      simpa [hactive] using hc

/-- The end of every change to a channel: held power-downs end, and reservations are tried again. -/
theorem State.settled_channel {c : Fin 32} (h : (s.dmaCh c).st ≠ 2) : s.domSettle.dmaRetry.dmaCh c = s.dmaCh c := by
  have hsettle := s.domSettle_channel c
  rw [State.dmaRetry_channel _ (by rw [hsettle]; exact h), hsettle]

variable {s}

/-! ### Bursts (R288, R289) -/

/-- A burst that fails is tried again at once while the channel's count allows it. -/
theorem State.burst_retried {c : Fin 32} {err : Bool} (hfail : err = true ∨ s.burstFails (s.dmaCh c) = true)
    (hsrc : srcRegion (dSrc (s.dmaCh c).image) (dLen (s.dmaCh c).image) ≠ .capture)
    (hcount : (s.dmaCh c).retries < bits (s.objN 0x5200 (c.val + 1)) 16 3) :
    s.burst c err = { s with dma := { s.dma with next := c.val } }.setDmaCh c { s.dmaCh c with retries := (s.dmaCh c).retries + 1 } := by
  unfold State.burst
  simp only [beq_eq_false_iff_ne.2 hsrc, Bool.false_eq_true, false_and, if_false, if_pos hfail, if_neg (Nat.not_le.2 hcount)]

theorem State.burst_given_up {c : Fin 32} {err : Bool} (hfail : err = true ∨ s.burstFails (s.dmaCh c) = true)
    (hsrc : srcRegion (dSrc (s.dmaCh c).image) (dLen (s.dmaCh c).image) ≠ .capture)
    (hcount : bits (s.objN 0x5200 (c.val + 1)) 16 3 ≤ (s.dmaCh c).retries) :
    s.burst c err = (s.dmaHalt c 3 (s.dmaCh c).moved).evt 0x2801 (c.val + 256 * (s.dmaCh c).retries) := by
  unfold State.burst
  simp only [beq_eq_false_iff_ne.2 hsrc, Bool.false_eq_true, false_and, if_false, if_pos hfail, if_pos hcount]

theorem State.pace_tok (s : State) : s.pace.1 = s.dma.tok := rfl
theorem State.pace_next (s : State) : s.pace.2.1 = s.dma.next := rfl

/-- A burst takes no token of its own, and one that moves its octets leaves the turn as it was given. -/
theorem State.burst_pace (c : Fin 32) (err : Bool) : (s.burst c err).dma.tok = s.dma.tok ∧
    (err = false → s.burstFails (s.dmaCh c) = false → (s.burst c err).dma.next = s.dma.next) := by
  have htok {t u : State} (h : t.pace = u.pace) : t.dma.tok = u.dma.tok := congrArg Prod.fst h
  have hnext {t u : State} (h : t.pace = u.pace) : t.dma.next = u.dma.next := congrArg (fun p => p.2.1) h
  unfold State.burst
  extract_lets ch cap n s0 dma n' o s1 s2 dma2 s3 pk s4
  split
  · exact ⟨htok (s.dmaHalt_pace c 7 ch.moved), fun _ _ => hnext (s.dmaHalt_pace c 7 ch.moved)⟩
  split
  · next hfail =>
    have h0 : s0.pace = s.pace := by
      simp only [s0, State.pace_ite, State.segRead_pace, ite_self]
    refine ⟨?_, fun herr hok => absurd hfail (by simp [herr, ch, hok])⟩
    split
    · exact htok (((State.evt_pace ..).trans (State.dmaHalt_pace ..)).trans h0)
    · have htok0 := htok h0
      exact htok0
  · have h2 : s2.pace = s.pace := by
      simp only [s2, s1, State.pace_ite, State.bump_pace, State.segRead_pace, ite_self]
    have h3 : s3.dma.tok = s2.dma.tok ∧ s3.dma.next = s2.dma.next := by
      simp only [s3]
      split
      · exact ⟨rfl, rfl⟩
      · exact ⟨rfl, rfl⟩
    split
    · exact ⟨((htok (s4.descDone_pace c)).trans h3.1).trans (htok h2), fun _ _ => ((hnext (s4.descDone_pace c)).trans h3.2).trans (hnext h2)⟩
    · exact ⟨h3.1.trans (htok h2), fun _ _ => h3.2.trans (hnext h2)⟩

/-- A burst within the buffer moves its octets there. -/
theorem State.burst_buffer {c : Fin 32} (hsrc : srcRegion (dSrc (s.dmaCh c).image) (dLen (s.dmaCh c).image) = .buffer)
    (hdst : dstRegion (dDst (s.dmaCh c).image) (dLen (s.dmaCh c).image) = .buffer)
    (hmore : (s.dmaCh c).moved + 32 < dLen (s.dmaCh c).image) :
    ((s.burst c false).dmaCh c).moved = (s.dmaCh c).moved + 32 ∧ ((s.burst c false).dmaCh c).st = (s.dmaCh c).st ∧
      (s.burst c false).dma.buf = memPut s.dma.buf (dDst (s.dmaCh c).image - 0x20000000 + (s.dmaCh c).moved)
        (memGet s.dma.buf (dSrc (s.dmaCh c).image + (s.dmaCh c).moved - 0x20000000) 32) := by
  have hok : s.burstFails (s.dmaCh c) = false := by simp only [State.burstFails, hsrc]
  have hlen : (s.dmaCh c).burstLen = 32 := by
    unfold DmaCh.burstLen
    omega
  unfold State.burst
  extract_lets ch cap n s0 dma n' o s1 s2 dma2 s3 pk s4
  have hcap : cap = false := by simp only [cap, ch, hsrc]; rfl
  have h2 : s2.dma = s.dma := by
    simp only [s2, s1, hcap]
    split
    · rfl
    · exact State.bump_dma ..
  have ho : o = memGet s.dma.buf (dSrc (s.dmaCh c).image + (s.dmaCh c).moved - 0x20000000) 32 := by
    simp only [o, n', ch, State.srcOctets, hsrc, hlen]
  rw [if_neg (by simp [hcap]), if_neg (by simp [ch, hok]), if_neg (by simp only [n', ch, hlen]; omega)]
  refine ⟨?_, ?_, ?_⟩
  · rw [State.dmaCh_setDmaCh_self]
    simp only [n', ch, hlen]
  · rw [State.dmaCh_setDmaCh_self]
  · simp only [s4, State.setDmaCh, s3, ch, hdst, h2, ho]

/-! ### The turn of a channel (R288) -/

theorem State.dmaRefill_next : s.dmaRefill.dmaNext = s.dmaNext := rfl

/-- The state in which the channel whose turn it is makes its burst: its tokens are paid, and the turn passed on. -/
def State.turn (s : State) (c : Fin 32) : State :=
  { s.dmaRefill with dma := { s.dmaRefill.dma with tok := s.dmaRefill.dma.tok - 16, next := (c.val + 1) % 32 } }

theorem State.burstOf_paid {c : Fin 32} (htok : 16 ≤ min 1024 (s.dma.tok + 5 * (s.now - s.dma.tokAt))) (err : Bool) :
    s.dmaRefill.burstOf c err = ((s.turn c).burst c err).domSettle.dmaRetry :=
  if_neg (Nat.not_lt.2 htok)

theorem State.dmaBurst_turn {c : Fin 32} (hnext : s.dmaNext = some c) (htok : 16 ≤ min 1024 (s.dma.tok + 5 * (s.now - s.dma.tokAt))) (err : Bool) :
    s.dmaBurst err = ((s.turn c).burst c err).domSettle.dmaRetry := by
  unfold State.dmaBurst
  split
  · next hnone => exact absurd (hnext.symm.trans hnone) (Option.some_ne_none c)
  next d hd =>
  obtain rfl := Option.some.inj (hd.symm.trans hnext)
  exact State.burstOf_paid htok err

theorem State.dmaActive_of_next {c : Fin 32} (h : s.dmaNext = some c) : (s.dmaCh c).st = 1 := by
  have hactive : s.dmaActive c = true := List.find?_some h
  unfold State.dmaActive at hactive
  simp only [Bool.and_eq_true, beq_iff_eq] at hactive
  exact hactive.1

theorem State.settled_pace (t : State) : t.domSettle.dmaRetry.dma.tok = t.dma.tok ∧ t.domSettle.dmaRetry.dma.next = t.dma.next ∧
    t.domSettle.dmaRetry.dma.buf = t.dma.buf := by
  have hpace : t.domSettle.dmaRetry.pace = t.pace := (State.dmaRetry_pace _).trans (State.domSettle_pace t)
  simpa only [State.pace, Dma.pace, Prod.mk.injEq] using hpace

/-- A failed burst that is tried again, as its channel and the turn then stand. -/
theorem State.turn_retried {c : Fin 32} (hactive : (s.dmaCh c).st = 1) {err : Bool} (hfail : err = true ∨ s.burstFails (s.dmaCh c) = true)
    (hsrc : srcRegion (dSrc (s.dmaCh c).image) (dLen (s.dmaCh c).image) ≠ .capture)
    (hcount : (s.dmaCh c).retries < bits (s.objN 0x5200 (c.val + 1)) 16 3) :
    ((s.turn c).burst c err).domSettle.dmaRetry.dmaCh c = { s.dmaCh c with retries := (s.dmaCh c).retries + 1 } ∧
      ((s.turn c).burst c err).domSettle.dmaRetry.dma.next = c.val := by
  have hburst := State.burst_retried (s := s.turn c) hfail hsrc hcount
  have hch : ((s.turn c).burst c err).dmaCh c = { s.dmaCh c with retries := (s.dmaCh c).retries + 1 } := by
    rw [hburst, State.dmaCh_setDmaCh_self]
    rfl
  refine ⟨?_, ?_⟩
  · rw [State.settled_channel _ (by rw [hch]; simp [hactive]), hch]
  · rw [(State.settled_pace _).2.1, hburst]
    simp only [State.setDmaCh]

/-! ### The engine's rows -/

theorem exec_dmaBurst_turn {c : Fin 32} (err : Bool) (hnext : s.dmaNext = some c)
    (htok : 16 ≤ min 1024 (s.dma.tok + 5 * (s.now - s.dma.tokAt))) :
    ∃ t, exec (.dmaBurst err) s = .next t ∧ t.dma.tok = min 1024 (s.dma.tok + 5 * (s.now - s.dma.tokAt)) - 16 ∧
      (err = false → s.burstFails (s.dmaCh c) = false → t.dma.next = (c.val + 1) % 32) ∧
      (err = true → srcRegion (dSrc (s.dmaCh c).image) (dLen (s.dmaCh c).image) ≠ .capture →
        (s.dmaCh c).retries < bits (s.objN 0x5200 (c.val + 1)) 16 3 →
        t.dma.next = c.val ∧ (t.dmaCh c).retries = (s.dmaCh c).retries + 1) := by
  obtain ⟨htoks, hturns, -⟩ := State.settled_pace ((s.turn c).burst c err)
  obtain ⟨hpaid, hpassed⟩ := State.burst_pace (s := s.turn c) c err
  refine ⟨_, congrArg Host.Outcome.next (State.dmaBurst_turn hnext htok err), ?_, fun herr hok => ?_, fun herr hsrc hcount => ?_⟩
  · exact htoks.trans hpaid
  · exact hturns.trans (hpassed herr hok)
  · obtain ⟨hch, hturn⟩ := State.turn_retried (State.dmaActive_of_next hnext) (Or.inl herr) hsrc hcount
    exact ⟨hturn, by rw [hch]⟩

theorem exec_dmaBurst_buffer {c : Fin 32} (hnext : s.dmaNext = some c) (htok : 16 ≤ min 1024 (s.dma.tok + 5 * (s.now - s.dma.tokAt)))
    (hsrc : srcRegion (dSrc (s.dmaCh c).image) (dLen (s.dmaCh c).image) = .buffer)
    (hdst : dstRegion (dDst (s.dmaCh c).image) (dLen (s.dmaCh c).image) = .buffer)
    (hmore : (s.dmaCh c).moved + 32 < dLen (s.dmaCh c).image) :
    ∃ t, exec (.dmaBurst false) s = .next t ∧ (t.dmaCh c).moved = (s.dmaCh c).moved + 32 ∧
      t.dma.buf = memPut s.dma.buf (dDst (s.dmaCh c).image - 0x20000000 + (s.dmaCh c).moved)
        (memGet s.dma.buf (dSrc (s.dmaCh c).image + (s.dmaCh c).moved - 0x20000000) 32) := by
  obtain ⟨hmoved, hst, hbuf⟩ := State.burst_buffer (s := s.turn c) hsrc hdst hmore
  have hrun := State.dmaActive_of_next hnext
  have hactive : (((s.turn c).burst c false).dmaCh c).st = 1 := hst.trans hrun
  refine ⟨_, congrArg Host.Outcome.next (State.dmaBurst_turn hnext htok false), ?_, ?_⟩
  · rw [State.settled_channel _ (by rw [hactive]; decide)]
    exact hmoved
  · exact (State.settled_pace _).2.2.trans hbuf

theorem exec_xspiReadTimeout_active {c : Fin 32} (hactive : s.dmaActive c = true)
    (htok : 16 ≤ min 1024 (s.dma.tok + 5 * (s.now - s.dma.tokAt)))
    (hsrc : srcRegion (dSrc (s.dmaCh c).image) (dLen (s.dmaCh c).image) = .nor) :
    ∃ t, exec (.xspiReadTimeout c) s = .next t ∧
      ((s.dmaCh c).retries < bits (s.objN 0x5200 (c.val + 1)) 16 3 → (t.dmaCh c).retries = (s.dmaCh c).retries + 1 ∧ (t.dmaCh c).st = 1) ∧
      (bits (s.objN 0x5200 (c.val + 1)) 16 3 ≤ (s.dmaCh c).retries → (t.dmaCh c).st = 3 ∧ (t.dmaCh c).last = 3) := by
  have hst : (s.dmaCh c).st = 1 := by
    simp only [State.dmaActive, Bool.and_eq_true, beq_iff_eq] at hactive
    exact hactive.1
  have hnot : srcRegion (dSrc (s.dmaCh c).image) (dLen (s.dmaCh c).image) ≠ .capture := by simp [hsrc]
  have hturn : s.xspiTimeout c = ((s.turn c).burst c true).domSettle.dmaRetry := by
    rw [← State.burstOf_paid htok]
    exact if_pos ⟨hactive, hsrc⟩
  refine ⟨_, congrArg Host.Outcome.next hturn, fun hcount => ?_, fun hcount => ?_⟩
  · rw [(State.turn_retried hst (Or.inl rfl) hnot hcount).1]
    exact ⟨rfl, hst⟩
  · have hhalt := (s.turn c).dmaHalt_halts c 3 ((s.turn c).dmaCh c).moved
    have hburst : ((s.turn c).burst c true).dmaCh c = ((s.turn c).dmaHalt c 3 ((s.turn c).dmaCh c).moved).dmaCh c := by
      rw [State.burst_given_up (s := s.turn c) (Or.inl rfl) hnot hcount]
      exact State.dmaCh_congr (congrArg Dma.chans (State.evt_dma ..)) c
    rw [State.settled_channel _ (by rw [hburst, hhalt.1]; decide), hburst]
    exact hhalt

theorem exec_dmaReservationTimeout_due {c : Fin 32} (hwaits : (s.dmaCh c).st = 2) (hdue : (s.dmaCh c).waitSince + 100 * msP ≤ s.now) :
    ∃ t, exec (.dmaReservationTimeout c) s = .next t ∧ (t.dmaCh c).st = 3 ∧ (t.dmaCh c).last = 6 := by
  have hhalt := s.dmaHalt_halts c 6 0
  refine ⟨_, congrArg Host.Outcome.next (if_pos ⟨hwaits, hdue⟩), ?_⟩
  rw [State.settled_channel _ (by rw [hhalt.1]; decide)]
  exact hhalt

/-! ### A held power-down that lasts too long (R292) -/

/-- The domain is off, and no longer held. -/
def State.IsDown (s : State) (d : Nat) : Prop := s.obj 0x8101 (domEl d) = 0 ∧ ∀ k ∈ s.dma.holds, k.1 ≠ d

theorem State.IsDown.congr {t : State} {d : Nat} (h : s.IsDown d) (hcore : t.core still = s.core still) (hholds : t.dma.holds = s.dma.holds) :
    t.IsDown d :=
  ⟨(State.obj_of_core hcore rfl rfl).trans h.1, by rw [hholds]; exact h.2⟩

/-- Power-downs that are held, with the instant each was asked for. -/
def State.holds (s : State) : List (Nat × Nat) := s.dma.holds

theorem State.bulkRewind_holds (l : Fin 2) : (s.bulkRewind l).holds = s.holds :=
  foldl_keeps State.holds (fun t c => by
    extract_lets ch t1
    split
    · exact ((t.dmaRewind_onlyChannel c).trans (State.setDmaCh_onlyChannel _ c _)).holds
    · rfl) chans32 s

theorem State.dmaRetry_holds : s.dmaRetry.holds = s.holds :=
  foldl_keeps State.holds (fun t c => by
    split
    · exact (t.dmaReserve_onlyChannel c).holds
    · rfl) chans32 s

theorem State.linkPowerOff_holds (l : Fin 2) : (s.linkPowerOff l).dma.holds = s.dma.holds := by
  rw [s.linkPowerOff_dma l]
  exact State.bulkRewind_holds l

theorem State.powerOff_holds (d : Nat) : (s.powerOff d).dma.holds = s.dma.holds := by
  obtain ⟨-, q, h⟩ | ⟨-, h⟩ | ⟨-, ⟨l, h⟩ | h⟩ := s.powerOff_cases d <;> rw [h]
  · rw [s.quadPowerOff_dma q]
  · rfl
  · exact State.linkPowerOff_holds l

theorem State.domOff_holds (d : Nat) : (s.domOff d).dma.holds = s.dma.holds.filter fun h => h.1 != d := by
  rw [State.domOff_eq, State.requestDone_dma, State.powerOff_holds]
  rfl

/-- What `8.101` shows once a domain is off: the domain off, the others as they were. -/
theorem State.domOff_shown (d el : Nat) : (s.domOff d).obj 0x8101 el = (s.setObj 0x8101 (domEl d) 0).obj 0x8101 el := by
  rw [State.domOff_eq, State.obj_congr (State.requestDone_dict ..), State.obj_of_core ((s.unheld d).powerOff_core d) rfl rfl]
  rfl

theorem State.domOff_isDown (d : Nat) : (s.domOff d).IsDown d := by
  refine ⟨(State.domOff_shown d _).trans (State.obj_setObj_self ..), fun k hk => ?_⟩
  rw [State.domOff_holds] at hk
  simpa using (List.mem_filter.1 hk).2

theorem State.obj_same_element {o el el' : Nat} (h : el % 65536 = el' % 65536) : s.obj o el = s.obj o el' := by
  unfold State.obj dictGet
  rw [h, dkey_inj.2 ⟨rfl, h⟩]

/-- A domain that is off stays so when others follow. -/
theorem State.IsDown.domOff {d : Nat} (h : s.IsDown d) (e : Nat) : (s.domOff e).IsDown d := by
  refine ⟨?_, fun k hk => ?_⟩
  · rw [State.domOff_shown]
    by_cases hsame : domEl d % 65536 = domEl e % 65536
    · exact (State.obj_same_element hsame).trans (State.obj_setObj_self ..)
    · rw [State.obj_setObj_ne _ _ (Or.inr hsame)]
      exact h.1
  · rw [State.domOff_holds] at hk
    exact h.2 k (List.mem_filter.1 hk).1

theorem State.IsDown.settled {d : Nat} (h : s.IsDown d) : s.domSettle.dmaRetry.IsDown d := by
  have hsettle : s.domSettle.IsDown d :=
    List.foldlRecOn (motive := fun t => State.IsDown t d) s.dma.holds _ h fun t ht k _ => by
      split
      · exact ht
      · exact ht.domOff k.1
  exact hsettle.congr (State.dmaRetry_core ..) State.dmaRetry_holds

theorem exec_dmaHoldLimit_due {d : Fin 7} {h : Nat × Nat} (hheld : h ∈ s.dma.holds) (hdom : h.1 = d.val) (hdue : h.2 + 100 * usP ≤ s.now) :
    ∃ t, exec (.dmaHoldLimit d) s = .next t ∧ t.obj 0x8101 (domEl d) = 0 ∧ ∀ k ∈ t.dma.holds, k.1 ≠ d.val := by
  have hany : (s.dma.holds.any fun h => h.1 == d.val && decide (h.2 + 100 * usP ≤ s.now)) = true :=
    List.any_eq_true.2 ⟨h, hheld, by simp [hdom, hdue]⟩
  exact ⟨_, congrArg Host.Outcome.next (if_pos hany), (State.domOff_isDown d.val).settled⟩

/-- Settles O36: a burst by its channel's turn and tokens, a failed one by its retries, a reservation and a held power-down by their limits. -/
theorem dmaEngine : Obligations.DmaEngine := by
  unfold Obligations.DmaEngine
  exact fun s => ⟨fun _ err => exec_dmaBurst_turn err, fun _ => exec_dmaBurst_buffer, fun _ => exec_xspiReadTimeout_active,
    fun _ => exec_dmaReservationTimeout_due, fun _ _ => exec_dmaHoldLimit_due⟩

/-! ### Writes to the engine and its records (R287, R291, R294, R295) -/

theorem State.objN_congr {t : State} (h : t.dict = s.dict) (o el : Nat) : t.objN o el = s.objN o el :=
  congrArg Int.toNat (State.obj_congr h o el)

theorem State.storeWrite_octets_dict {obj : Nat} {row : Row} {lo hi mult : Nat} (hf : Catalogue.find obj = some row)
    (hshape : row.shape = .octets lo hi mult) (q : Req) (data : Octets) : (s.storeWrite q (entBlob obj data) 0).dict = s.dict := by
  unfold State.storeWrite entBlob
  simp only [hf, hshape, State.noteImm_dict]

theorem State.descEff_dma (o : Octets) : (s.descEff o).dma = { s.dma with desc := memPut s.dma.desc (32 * s.objN 0x5201 0) o } := rfl

theorem State.descEff_pointer (o : Octets) : (s.descEff o).objN 0x5201 0 = (s.objN 0x5201 0 + o.length / 32) % 1024 :=
  (congrArg Int.toNat (State.obj_setObj_self ..)).trans (Int.toNat_natCast _)

theorem State.bufEff_dma (o : Octets) : (s.bufEff o).dma = { s.dma with buf := memPut s.dma.buf (s.objN 0x5220 0) o } := rfl

theorem State.bufEff_pointer (o : Octets) : (s.bufEff o).objN 0x5220 0 = (s.objN 0x5220 0 + o.length) % 524288 :=
  (congrArg Int.toNat (State.obj_setObj_self ..)).trans (Int.toNat_natCast _)

theorem exec_descriptorWrite_accepted {r : Req} {o : Octets} (h : s.accepts r (entBlob 0x5202 o) (s.descCodes o)) :
    ∃ t, exec (.descriptorWrite r o) s = .next t ∧ t.took r ∧ t.dma = { s.dma with desc := memPut s.dma.desc (32 * s.objN 0x5201 0) o } ∧
      t.objN 0x5201 0 = (s.objN 0x5201 0 + o.length / 32) % 1024 := by
  have hdict := State.storeWrite_octets_dict (s := s) (obj := 0x5202) rfl rfl r o
  refine ⟨_, rfl, s.hostWrite_took (codes := fun s => s.descCodes o) h, ?_⟩
  rw [s.hostWrite_accepted (codes := fun s => s.descCodes o) h, State.accept_dma, State.objN_congr (State.accept_dict ..),
    State.descEff_dma, State.descEff_pointer, State.objN_congr hdict, State.storeWrite_dma]
  exact ⟨rfl, rfl⟩

theorem exec_dmaBufferWrite_accepted {r : Req} {o : Octets} (h : s.accepts r (entBlob 0x5221 o) (s.bufCodes o)) :
    ∃ t, exec (.dmaBufferWrite r o) s = .next t ∧ t.took r ∧ t.dma = { s.dma with buf := memPut s.dma.buf (s.objN 0x5220 0) o } ∧
      t.objN 0x5220 0 = (s.objN 0x5220 0 + o.length) % 524288 := by
  have hdict := State.storeWrite_octets_dict (s := s) (obj := 0x5221) rfl rfl r o
  refine ⟨_, rfl, s.hostWrite_took (codes := fun s => s.bufCodes o) h, ?_⟩
  rw [s.hostWrite_accepted (codes := fun s => s.bufCodes o) h, State.accept_dma, State.objN_congr (State.accept_dict ..),
    State.bufEff_dma, State.bufEff_pointer, State.objN_congr hdict, State.storeWrite_dma]
  exact ⟨rfl, rfl⟩

theorem exec_completionQueueRead_served {r : Req} (h : s.gate r = .served) :
    ∃ t, exec (.completionQueueRead r) s = .next t ∧ t.took r ∧ t.dma = { s.dma with recs := s.dma.recs.drop 90 } ∧
      ∃ x ∈ t.tv.stored, x.req = r ∧ x.body = addr3 0x5210 0 ++ toBE 1 0x0C ++ (s.dma.recs.take 90).flatten := by
  have hread : s.recsRead r = (State.bump { s with dma := { s.dma with recs := s.dma.recs.drop 90 } } 0x5211 2
      (s.dma.recs.take 90).length).answerRead r 0x5210 0 0x0C (s.dma.recs.take 90).flatten := State.through_served s h
  have hstored := State.respond_stored (State.bump { s with dma := { s.dma with recs := s.dma.recs.drop 90 } } 0x5211 2
    (s.dma.recs.take 90).length) r kRead 0 (addr3 0x5210 0 ++ toBE 1 0x0C ++ (s.dma.recs.take 90).flatten) (by decide)
  refine ⟨_, congrArg Host.Outcome.next hread, Or.inl ⟨_, hstored, rfl, rfl⟩, ?_, _, hstored, rfl, rfl⟩
  rw [State.answerRead, State.respond_dma, State.bump_dma]

/-- The bits of a word that starts a channel (R291). -/
theorem goWord_bits {retry first : Nat} (hretry : retry < 8) (hfirst : first < 65536) : goWord retry first < 2 ^ 32 ∧
    bit (goWord retry first) 31 = true ∧ bit (goWord retry first) 30 = true ∧ bits (goWord retry first) 0 16 = first := by
  unfold bit bits goWord
  simp only [beq_iff_eq]
  omega

/-- A word that clears `enable` and `go` disables its channel. -/
theorem bit_disabled (n : Nat) : bit (clrBit (clrBit n 31) 30) 31 = false := by
  have hclear := bit_clrBit_self n 31
  generalize clrBit n 31 = w at hclear
  unfold bit at hclear
  unfold clrBit bit
  simp only [beq_eq_false_iff_ne, beq_iff_eq] at hclear ⊢
  split
  · omega
  · exact hclear

/-- What a write of a channel's word leaves: the word at its element, and the rest of the engine's state. -/
theorem State.storeWrite_word {row : Row} {n : Nat} (hrow : settingArray 0x5200 n .u32 row) (q : Req) (c : Fin 32) (v : Int) (val : Octets) :
    (s.storeWrite q { ent 0x5200 (c.val + 1) .u32 v with val := val } 0).dict = (s.setObj 0x5200 (c.val + 1) (Ty.u32.dec val)).dict := by
  obtain ⟨hf, hshape, hty, hacc, happ⟩ := hrow
  refine s.storeWrite_member q (e := { ent 0x5200 (c.val + 1) .u32 v with val := val }) hf (by simp [hacc]) (by simp [hshape]) (by simp [happ]) ?_
  simp [ent, written, hshape, hty]

theorem settingArray_words : ∃ row, settingArray 0x5200 32 .u32 row := ⟨_, rfl, rfl, rfl, rfl, rfl⟩

/-- A check of a descriptor looks at the capture engine, the domains and the selected segment, not at the channels. -/
theorem State.descCheck_congr {t : State} (hcap : t.cap = s.cap) (hholds : t.dma.holds = s.dma.holds)
    (hshown : ∀ el, t.obj 0x8101 el = s.obj 0x8101 el) (hsegment : t.objN 0xA300 0 = s.objN 0xA300 0) (o : Octets) :
    t.descCheck o = s.descCheck o := by
  unfold State.descCheck State.domClosed State.segLocked State.seg
  simp only [hcap, hholds, hshown, hsegment]

/-- A reservation sets the state of its channel to executing or waiting, and nothing else of what its descriptor says. -/
theorem State.dmaReserve_channel (c : Fin 32) : (((s.dmaReserve c).dmaCh c).st = 1 ∨ ((s.dmaReserve c).dmaCh c).st = 2) ∧
    ((s.dmaReserve c).dmaCh c).desc = (s.dmaCh c).desc ∧ ((s.dmaReserve c).dmaCh c).image = (s.dmaCh c).image := by
  unfold State.dmaReserve
  extract_lets ch l
  split
  · extract_lets r
    split
    · rw [State.dmaCh_setDmaCh_self]
      exact ⟨Or.inl rfl, rfl, rfl⟩
    · rw [State.dmaCh_setDmaCh_self]
      exact ⟨Or.inr rfl, rfl, rfl⟩
  · rw [State.dmaCh_setDmaCh_self]
    exact ⟨Or.inl rfl, rfl, rfl⟩

/-- A halt leaves in the channel the descriptor that it halts at. -/
theorem State.dmaHalt_descriptor (c : Fin 32) (status count : Nat) (hclosed : (s.dmaCh c).reserved = 0) :
    ((s.dmaHalt c status count).dmaCh c).desc = (s.dmaCh c).desc ∧ ((s.dmaHalt c status count).dmaCh c).image = (s.dmaCh c).image := by
  obtain ⟨-, hdma⟩ := s.dmaHalt_aside c status count
  have hrewind : s.dmaRewind c = s := if_pos hclosed
  have hrecord : (s.dmaRecord c status count).dmaCh c = s.dmaCh c := by
    rw [State.dmaRecord_keeps]
    rfl
  rw [State.dmaCh_congr (congrArg Dma.chans hdma), State.dmaHalted, State.dmaCh_setDmaCh_self, hrewind, hrecord]
  exact ⟨rfl, rfl⟩

/-- A started channel executes its descriptor or halts with the status of the check that fails (R288). -/
theorem State.descStart_channel (c : Fin 32) (i : Nat) : ((s.descStart c i).dmaCh c).desc = i ∧
    ((s.descStart c i).dmaCh c).image = memGet s.dma.desc (32 * i) 32 ∧
    (s.descCheck (memGet s.dma.desc (32 * i) 32) ≠ 0 →
      ((s.descStart c i).dmaCh c).st = 3 ∧ ((s.descStart c i).dmaCh c).last = s.descCheck (memGet s.dma.desc (32 * i) 32)) ∧
    (s.descCheck (memGet s.dma.desc (32 * i) 32) = 0 → ((s.descStart c i).dmaCh c).st = 1 ∨ ((s.descStart c i).dmaCh c).st = 2) := by
  unfold State.descStart
  extract_lets o ch s1 st
  have hst : st = s.descCheck o := State.descCheck_congr rfl rfl (fun _ => rfl) rfl o
  have hch : (s1.dmaCh c).desc = i ∧ (s1.dmaCh c).image = o ∧ (s1.dmaCh c).reserved = 0 := by
    rw [State.dmaCh_setDmaCh_self]
    exact ⟨rfl, rfl, rfl⟩
  rw [← hst]
  split
  · next hok =>
    obtain ⟨hrun, hdesc, himage⟩ := State.dmaReserve_channel (s := s1) c
    exact ⟨hdesc.trans hch.1, himage.trans hch.2.1, fun h => absurd hok h, fun _ => hrun⟩
  · next hfail =>
    obtain ⟨hdesc, himage⟩ := State.dmaHalt_descriptor (s := s1) c st 0 hch.2.2
    exact ⟨hdesc.trans hch.1, himage.trans hch.2.1, fun _ => s1.dmaHalt_halts c st 0, fun h => absurd h hfail⟩

theorem exec_dmaChannelStart_accepted {r : Req} {c : Fin 32} {retry first : Nat} (hretry : retry < 8) (hfirst : first < 65536)
    (hidle : (s.dmaCh c).st = 0 ∨ (s.dmaCh c).st = 3)
    (h : s.accepts r { ent 0x5200 (c.val + 1) .u32 (goWord retry first) with val := toBE 4 (goWord retry first) }
      (s.dmaWordCodes c (goWord retry first))) :
    ∃ t, exec (.dmaChannelStart r c retry first) s = .next t ∧ t.took r ∧ (t.dmaCh c).desc = first ∧
      (t.dmaCh c).image = memGet s.dma.desc (32 * first) 32 ∧
      (s.descCheck (memGet s.dma.desc (32 * first) 32) ≠ 0 →
        (t.dmaCh c).st = 3 ∧ (t.dmaCh c).last = s.descCheck (memGet s.dma.desc (32 * first) 32)) ∧
      (s.descCheck (memGet s.dma.desc (32 * first) 32) = 0 → (t.dmaCh c).st = 1 ∨ (t.dmaCh c).st = 2) := by
  obtain ⟨hfits, h31, h30, hbits⟩ := goWord_bits hretry hfirst
  obtain ⟨row, hrow⟩ := settingArray_words
  set w := goWord retry first
  set e : Entry := { ent 0x5200 (c.val + 1) .u32 w with val := toBE 4 w }
  set u := s.storeWrite r e 0
  have hdict : u.dict = (s.setObj 0x5200 (c.val + 1) (Ty.u32.dec (toBE 4 w))).dict := State.storeWrite_word hrow r c w (toBE 4 w)
  have hdma : u.dma = s.dma := State.storeWrite_dma ..
  have hobj {o : Nat} (ho : o ≠ 0x5200) (el : Nat) : u.obj o el = s.obj o el :=
    (State.obj_congr hdict o el).trans (State.obj_setObj_ne s _ (Or.inl ho))
  have hcheck (o : Octets) : u.descCheck o = s.descCheck o :=
    State.descCheck_congr (State.storeWrite_cap ..) (congrArg Dma.holds hdma) (hobj (by decide)) (congrArg Int.toNat (hobj (by decide) 0)) o
  have hword : u.dmaWordEff c w = u.descStart c first := by
    have hstopped : ((u.dmaCh c).st == 1 || (u.dmaCh c).st == 2) = false := by
      rw [State.dmaCh_congr (congrArg Dma.chans hdma)]
      rcases hidle with h | h <;> simp [h]
    unfold State.dmaWordEff
    simp only [h31, h30, hstopped, hbits, Bool.not_true, Bool.false_eq_true, if_false, Bool.not_false, and_self, if_true]
  have hexec : exec (.dmaChannelStart r c retry first) s = .next ((u.descStart c first).accept r e false) := by
    have haccepted := s.hostWrite_accepted (codes := fun s => s.dmaWordCodes c w) (eff := fun s => s.dmaWordEff c w) (long := false) h
    rw [← hword, ← haccepted]
    exact congrArg (fun v => Host.Outcome.next (s.hostWrite r { ent 0x5200 (c.val + 1) .u32 w with val := v }
      (fun s => s.dmaWordCodes c w) (fun s => s.dmaWordEff c w) false)) (if_pos hfits)
  have hch : ((u.descStart c first).accept r e false).dmaCh c = (u.descStart c first).dmaCh c :=
    State.dmaCh_congr (congrArg Dma.chans (State.accept_dma ..)) c
  refine ⟨_, hexec, State.accept_took .., ?_⟩
  rw [hch, ← hcheck, ← hdma]
  exact State.descStart_channel c first

/-- A channel that is disabled is idle; one in execution leaves the status of its abort (R291). -/
theorem State.dmaDisable_channel (c : Fin 32) : (s.dmaDisable c |>.dmaCh c).st = 0 ∧
    ((s.dmaCh c).st = 1 ∨ (s.dmaCh c).st = 2 → (s.dmaDisable c |>.dmaCh c).last = 5) := by
  unfold State.dmaDisable
  extract_lets ch dma s1 x s2 ch2
  split
  · clear_value ch2 s2
    have hch : ((s2.setDmaCh c { ch2 with st := 0, last := 5 }).clearGo c).dmaCh c = { ch2 with st := 0, last := 5 } :=
      s2.dmaCh_setDmaCh_self ..
    rw [State.settled_channel _ (by rw [hch]; exact Nat.zero_ne_add_one 1), hch]
    exact ⟨rfl, fun _ => rfl⟩
  · next hidle =>
    have hch : ((s.setDmaCh c { ch with st := 0 }).clearGo c).dmaCh c = { ch with st := 0 } := s.dmaCh_setDmaCh_self ..
    rw [hch]
    exact ⟨rfl, fun h => absurd h hidle⟩

theorem exec_dmaChannelDisable_accepted {r : Req} {c : Fin 32}
    (h : s.accepts r (ent 0x5200 (c.val + 1) .u32 (clrBit (clrBit (s.objN 0x5200 (c.val + 1)) 31) 30))
      (s.dmaWordCodes c (clrBit (clrBit (s.objN 0x5200 (c.val + 1)) 31) 30))) :
    ∃ t, exec (.dmaChannelDisable r c) s = .next t ∧ t.took r ∧ (t.dmaCh c).st = 0 ∧
      ((s.dmaCh c).st = 1 ∨ (s.dmaCh c).st = 2 → (t.dmaCh c).last = 5) := by
  set w := clrBit (clrBit (s.objN 0x5200 (c.val + 1)) 31) 30
  set e := ent 0x5200 (c.val + 1) .u32 w
  set u := s.storeWrite r e 0
  have hu : u.dmaCh c = s.dmaCh c := State.dmaCh_congr (congrArg Dma.chans (State.storeWrite_dma ..)) c
  have hword : u.dmaWordEff c w = u.dmaDisable c := if_pos (by rw [bit_disabled]; rfl)
  have haccepted := s.hostWrite_accepted (codes := fun s => s.dmaWordCodes c w) (eff := fun s => s.dmaWordEff c w) (long := false) h
  have hch : ((u.dmaDisable c).accept r e false).dmaCh c = (u.dmaDisable c).dmaCh c :=
    State.dmaCh_congr (congrArg Dma.chans (State.accept_dma ..)) c
  refine ⟨_, congrArg Host.Outcome.next (haccepted.trans (congrArg (fun t => State.accept t r e false) hword)), State.accept_took .., ?_⟩
  rw [hch, ← hu]
  exact State.dmaDisable_channel c

/-- Settles O35: writes of descriptors and buffer by the pointer they land at, a channel's word by what it starts or disables, a read of the
records by those that it takes. -/
theorem dmaCommands : Obligations.DmaCommands := by
  unfold Obligations.DmaCommands
  exact fun s => ⟨fun _ _ => exec_descriptorWrite_accepted, fun _ _ => exec_dmaBufferWrite_accepted,
    fun _ _ _ _ hretry hfirst hidle h => exec_dmaChannelStart_accepted hretry hfirst hidle h, fun _ _ => exec_dmaChannelDisable_accepted,
    fun _ => exec_completionQueueRead_served⟩

end Sys2Proof.Machine
end


section
/-! Rows of the serial links' packets (R304, R310 to R312). -/

namespace Sys2Proof.Machine

variable (s : State)

/-! ### Links and queues -/

@[simp] theorem State.link_modLink (l : Fin 2) (f : Link → Link) : (s.modLink l f).link l = f (s.link l) := Vector.getElem_set_self l.isLt

@[simp] theorem State.queue_setQueue (n : Fin 4) (v : OutQ) : (s.setQueue n v).queue n = v := Vector.getElem_set_self n.isLt

variable {s} in
theorem State.link_congr {t : State} (h : t.links = s.links) (l : Fin 2) : t.link l = s.link l := by
  unfold State.link
  rw [h]

variable {s} in
theorem State.queue_congr {t : State} (h : t.queues = s.queues) (n : Fin 4) : t.queue n = s.queue n := by
  unfold State.queue
  rw [h]

@[simp] theorem State.mark_links (n : Fin 4) (p : Nat) : (s.mark n p).links = s.links := by
  simp only [State.mark, apply_ite State.links, State.setQueue_links, ite_self]

@[simp] theorem State.rewind_links (n : Fin 4) : (s.rewind n).links = s.links := by simp [State.rewind]

@[simp] theorem State.rewindTo_links (l : Fin 2) (ps : List Sent) (bulk : Bool) : (s.rewindTo l ps bulk).links = s.links := by
  unfold State.rewindTo
  split
  · rfl
  · rw [State.rewind_links, State.mark_links]

/-! ### A packet that is sent (R310) -/

theorem State.sendPacket_keeps (l : Fin 2) (bulk : Bool) (seq : Nat) (p : Packet) (damaged : Bool) :
    (s.sendPacket l bulk seq p damaged).links = s.links ∧ (s.sendPacket l bulk seq p damaged).queues = s.queues := by
  unfold State.sendPacket
  dsimp only
  split
  · exact ⟨by simp, by simp⟩
  · exact ⟨rfl, rfl⟩

/-- A packet found damaged is marked; no pointer of its queue moves. -/
theorem State.damage_keeps (n : Fin 4) (p : Packet) : (s.damage n p).links = s.links ∧ ((s.damage n p).queue n).r = (s.queue n).r := by
  unfold State.damage
  dsimp only
  split
  · exact ⟨by simp, by simp⟩
  · exact ⟨by simp, by rw [State.queue_congr (State.evt_queues ..), State.queue_setQueue]⟩

theorem State.readPacket_links (n : Fin 4) : (s.readPacket n).1.links = s.links := by
  unfold State.readPacket
  dsimp only
  split
  · exact State.setQueue_links ..
  · rfl

/-- The state in which a packet that was read is sent: counted or marked where its read showed an error. -/
def State.readError (s : State) (n : Fin 4) (p : Packet) (bad : Nat) : State :=
  if bad = 2 then s.damage n p else if bad = 1 then s.bump 0x5110 (8 * n.val + 8) 1 else s

theorem State.readError_keeps (n : Fin 4) (p : Packet) (bad : Nat) :
    (s.readError n p bad).links = s.links ∧ ((s.readError n p bad).queue n).r = (s.queue n).r := by
  unfold State.readError
  split
  · exact s.damage_keeps n p
  · split
    · exact ⟨State.bump_links .., by rw [State.queue_congr (State.bump_queues ..)]⟩
    · exact ⟨rfl, rfl⟩

theorem State.readSend_keeps (l : Fin 2) (bulk : Bool) (seq bad : Nat) : (s.readSend l bulk seq bad).links = s.links ∧
    ((s.readSend l bulk seq bad).queue (linkQ l bulk)).r = ((s.readPacket (linkQ l bulk)).1.queue (linkQ l bulk)).r := by
  unfold State.readSend
  dsimp only
  split
  · exact ⟨s.readPacket_links _, rfl⟩
  · next p hp =>
    obtain ⟨hlinks, hr⟩ := (s.readPacket (linkQ l bulk)).1.readError_keeps (linkQ l bulk) p bad
    obtain ⟨hsent, hqueues⟩ := State.sendPacket_keeps ((s.readPacket (linkQ l bulk)).1.readError (linkQ l bulk) p bad) l bulk seq p
      (p.damaged || bad == 2)
    exact ⟨(hsent.trans hlinks).trans (s.readPacket_links _), (congrArg OutQ.r (State.queue_congr hqueues _)).trans hr⟩

/-- The packet at the read pointer of a queue that is not empty. -/
theorem State.front_some {l : Fin 2} {bulk : Bool} {p : Sent} (h : s.front l bulk = some p) :
    p.bulk = bulk ∧ (s.queue (linkQ l bulk)).r ≠ (s.queue (linkQ l bulk)).c := by
  unfold State.front at h
  dsimp only at h
  split at h
  · split at h
    · next hne => exact ⟨by rw [← Option.some.inj h], hne⟩
    · contradiction
  · contradiction

theorem State.readPacket_read {n : Fin 4} (h : (s.queue n).r ≠ (s.queue n).c) :
    ((s.readPacket n).1.queue n).r = qNext (s.queue n).r := by
  unfold State.readPacket
  dsimp only
  rw [if_pos h, State.queue_setQueue]

/-- The link once a new packet has left under the next sequence number. -/
def Link.sentOne (k : Link) (p : Sent) (now : Nat) : Link :=
  { k with
    sent := k.sent ++ [{ p with seq := k.nextSeq }], nextSeq := (k.nextSeq + 1) % 65536, unitsSent := k.unitsSent + p.units
    progAt := if k.sent.isEmpty then now else k.progAt }

variable {s}

theorem State.firstSend_sends {l : Fin 2} {bulk : Bool} {p : Sent} (h : s.front l bulk = some p) (bad : Nat) :
    (s.firstSend l p bad).link l = (s.link l).sentOne p s.now ∧
      ((s.firstSend l p bad).queue (linkQ l bulk)).r = qNext (s.queue (linkQ l bulk)).r := by
  obtain ⟨rfl, hne⟩ := s.front_some h
  obtain ⟨hlinks, hr⟩ := s.readSend_keeps l p.bulk (s.link l).nextSeq bad
  unfold State.firstSend
  dsimp only
  rw [State.link_congr (State.bump_links ..), State.link_modLink, State.link_congr hlinks, State.queue_congr (State.bump_queues ..),
    State.queue_congr (State.modLink_queues ..), hr, s.readPacket_read hne]
  exact ⟨rfl, rfl⟩

/-! ### A link's turn to send -/

/-- A side block that is due goes first; of the link it moves its own instant alone. -/
theorem State.sideSend_keeps (l : Fin 2) : (s.sideSend l).queues = s.queues ∧ (s.sideSend l).now = s.now ∧ (s.sideSend l).dict = s.dict ∧
    ∃ at_, (s.sideSend l).link l = { s.link l with sideAt := at_ } := by
  unfold State.sideSend
  dsimp only
  split
  · exact ⟨rfl, rfl, rfl, _, rfl⟩
  · exact ⟨rfl, rfl, rfl, s.now, State.link_modLink ..⟩

/-- Whatever the side block, the turn of a link that is up finds the same packets to send and the same room for them. -/
theorem State.sideSend_front (l : Fin 2) (bulk : Bool) : (s.sideSend l).front l bulk = s.front l bulk := by
  unfold State.front
  rw [State.queue_congr (s.sideSend_keeps l).1]

/-- What the turn reads of the link is not touched by the side block. -/
theorem State.sideSend_turn (l : Fin 2) : ((s.sideSend l).link l).st = (s.link l).st ∧ ((s.sideSend l).link l).replay = (s.link l).replay ∧
    ((s.sideSend l).link l).sent = (s.link l).sent ∧ ∀ u, ((s.sideSend l).link l).allows u = (s.link l).allows u := by
  obtain ⟨-, -, -, at_, hlink⟩ := s.sideSend_keeps l
  rw [hlink]
  exact ⟨rfl, rfl, rfl, fun _ => rfl⟩

/-- The turn of a link that is up sends what its front leaves: the same packet before and after the side block. -/
theorem linkPacketSend_sent {l : Fin 2} {bulk : Bool} {p : Sent} {bad : Nat} {t : State} (hfront : s.front l bulk = some p)
    (hsend : (t.link l) = (((s.sideSend l).firstSend l p bad).link l) ∨
      (t.link l) = { (((s.sideSend l).firstSend l p bad).link l) with streamRun := 0 })
    (hqueues : t.queues = ((s.sideSend l).firstSend l p bad).queues) :
    (t.link l).sent = (s.link l).sent ++ [{ p with seq := (s.link l).nextSeq }] ∧
      (t.link l).nextSeq = ((s.link l).nextSeq + 1) % 65536 ∧ (t.link l).unitsSent = (s.link l).unitsSent + p.units ∧
      (t.queue (linkQ l bulk)).r = qNext (s.queue (linkQ l bulk)).r := by
  obtain ⟨hside, -, -, at_, hlink⟩ := s.sideSend_keeps l
  obtain ⟨hsent, hr⟩ := State.firstSend_sends ((s.sideSend_front l bulk).trans hfront) bad
  rw [State.queue_congr hqueues, hr, State.queue_congr hside]
  rw [hsent, hlink] at hsend
  obtain h | h := hsend <;> rw [h] <;> exact ⟨rfl, rfl, rfl, rfl⟩

theorem exec_linkPacketSend_stream {l : Fin 2} {p : Sent} (bad : Fin 3) (hup : (s.link l).st = 2) (hreplay : (s.link l).replay = [])
    (hstream : s.front l false = some p) (hbulk : s.front l true = none) (hroom : (s.link l).allows p.units = true) :
    exec (.linkPacketSend l bad) s = .next ((s.sideSend l).firstSend l p bad.val) := by
  obtain ⟨hst, hre, -, hallows⟩ := s.sideSend_turn l
  refine congrArg Host.Outcome.next ?_
  unfold State.linkSend
  simp [hst, hre, hallows, hup, hreplay, s.sideSend_front, hstream, hbulk, hroom]

theorem exec_linkPacketSend_bulk {l : Fin 2} {p : Sent} (bad : Fin 3) (hup : (s.link l).st = 2) (hreplay : (s.link l).replay = [])
    (hstream : s.front l false = none) (hbulk : s.front l true = some p) (hroom : (s.link l).allows p.units = true) :
    exec (.linkPacketSend l bad) s = .next (((s.sideSend l).firstSend l p bad.val).modLink l fun k => { k with streamRun := 0 }) := by
  obtain ⟨hst, hre, -, hallows⟩ := s.sideSend_turn l
  refine congrArg Host.Outcome.next ?_
  unfold State.linkSend
  simp [hst, hre, hallows, hup, hreplay, s.sideSend_front, hstream, hbulk, hroom]

/-- A packet sent before goes again under the sequence it has (R312). -/
theorem exec_linkPacketSend_replay {l : Fin 2} {p x : Sent} {rest : List Sent} (bad : Fin 3) (hup : (s.link l).st = 2)
    (hreplay : (s.link l).replay = p :: rest) (hx : (s.link l).sent.find? (fun x => x.bulk == p.bulk && x.pos == p.pos) = some x) :
    exec (.linkPacketSend l bad) s = .next (((s.sideSend l).readSend l p.bulk x.seq bad.val).modLink l fun k => { k with replay := rest }) := by
  obtain ⟨hst, hre, hsent, -⟩ := s.sideSend_turn l
  refine congrArg Host.Outcome.next ?_
  unfold State.linkSend
  simp [hst, hre, hsent, hup, hreplay, hx]

theorem linkPacketSend_replay {l : Fin 2} {p x : Sent} {rest : List Sent} (bad : Nat) {t : State}
    (ht : t = ((s.sideSend l).readSend l p.bulk x.seq bad).modLink l fun k => { k with replay := rest }) :
    (t.link l).replay = rest ∧ (t.link l).sent = (s.link l).sent := by
  obtain ⟨-, -, -, at_, hlink⟩ := s.sideSend_keeps l
  rw [ht, State.link_modLink, State.link_congr (State.readSend_keeps ..).1, hlink]
  exact ⟨rfl, rfl⟩

/-! ### Acknowledgement and replay (R311, R312) -/

variable (s)

/-- A link without its Ingots in hand: what the release of room for records leaves alone. -/
def State.linkCore (s : State) (l : Fin 2) : Link := { s.link l with inHand := [] }

theorem State.linkCore_sent (l : Fin 2) : (s.linkCore l).sent = (s.link l).sent := rfl

theorem State.linkCore_grant (l : Fin 2) : (s.linkCore l).grant = (s.link l).grant := rfl

variable {s} in
theorem State.linkCore_congr {t : State} (h : t.links = s.links) (l : Fin 2) : t.linkCore l = s.linkCore l :=
  congrArg (fun k : Link => { k with inHand := [] }) (State.link_congr h l)

theorem State.reserve_links (n : Fin 4) (k : Nat) : (s.reserve n k).1.links = s.links := by
  unfold State.reserve
  dsimp only
  split
  · exact State.setQueue_links ..
  · exact State.bump_links ..

theorem State.release_links (n : Fin 4) (k : Nat) : (s.release n k).links = s.links := by
  simp only [State.release, apply_ite State.links, State.setQueue_links, ite_self]

theorem State.readPast_links (n : Fin 4) (p : Nat) : (s.readPast n p).links = s.links := by
  simp only [State.readPast, apply_ite State.links, State.setQueue_links, ite_self]

theorem State.dmaReserve_links (c : Fin 32) : (s.dmaReserve c).links = s.links := by
  unfold State.dmaReserve
  dsimp only
  split
  · split
    · exact (State.setDmaCh_links ..).trans (s.reserve_links ..)
    · exact (State.setDmaCh_links ..).trans (s.reserve_links ..)
  · exact State.setDmaCh_links ..

theorem State.dmaRetry_links : s.dmaRetry.links = s.links :=
  foldl_keeps State.links (fun t c => by
    split
    · exact t.dmaReserve_links c
    · rfl) chans32 s

theorem State.setInHand_linkCore (l : Fin 2) (h : InHand) : (s.setInHand l h).linkCore l = s.linkCore l := by
  unfold State.setInHand State.linkCore
  rw [State.link_modLink]

theorem State.retryInHand_linkCore (l : Fin 2) : (s.retryInHand l).linkCore l = s.linkCore l :=
  foldl_keeps (State.linkCore · l) (fun t h => by
    dsimp only
    split
    · rfl
    · split
      · split
        · exact (State.setInHand_linkCore ..).trans (State.linkCore_congr (t.reserve_links ..) l)
        · exact State.linkCore_congr (t.reserve_links ..) l
      · rfl) (s.link l).inHand s

/-- The queue of a packet without it and those before it. -/
def State.ackOne (s : State) (l : Fin 2) (p : Sent) : State :=
  (s.readPast (linkQ l p.bulk) p.pos).release (linkQ l p.bulk) (qDist (s.queue (linkQ l p.bulk)).o p.pos + 1)

theorem State.ackOne_links (l : Fin 2) (p : Sent) : (s.ackOne l p).links = s.links := by
  unfold State.ackOne
  rw [State.release_links, State.readPast_links]

theorem State.foldl_ackOne_links (l : Fin 2) (ps : List Sent) : (ps.foldl (State.ackOne · l ·) s).links = s.links := by
  induction ps generalizing s with
  | nil => rfl
  | cons p ps ih => rw [List.foldl_cons, ih, State.ackOne_links]

theorem State.linkAck_eq (l : Fin 2) {n : Nat} (hn : n ≠ 0) :
    s.linkAck l n = ((((((s.link l).sent.take n).foldl (State.ackOne · l ·) s).modLink l fun k => { k with
      sent := k.sent.drop n
      replay := k.replay.filter fun p => !(((s.link l).sent.take n).any fun x => x.bulk == p.bulk && x.pos == p.pos)
      progAt := s.now, timeouts := 0 }).retryInHand l).dmaRetry) := if_neg hn

/-- The packets up to the one acknowledged are taken off the link. -/
theorem State.linkAck_link (l : Fin 2) (n : Nat) :
    ((s.linkAck l n).link l).sent = (s.link l).sent.drop n ∧ ((s.linkAck l n).link l).grant = (s.link l).grant := by
  obtain rfl | hn := Nat.eq_zero_or_pos n
  · have hzero : s.linkAck l 0 = s := if_pos rfl
    rw [hzero, List.drop_zero]
    exact ⟨rfl, rfl⟩
  · rw [← State.linkCore_sent, ← State.linkCore_grant, s.linkAck_eq l hn.ne', State.linkCore_congr (State.dmaRetry_links _),
      State.retryInHand_linkCore, State.linkCore_sent, State.linkCore_grant, State.link_modLink, State.link_congr (State.foldl_ackOne_links ..)]
    exact ⟨rfl, rfl⟩

/-- A replay puts the packets not yet acknowledged before those still to be sent again. -/
theorem State.linkReplay_link (l : Fin 2) :
    ∃ later, (s.linkReplay l).link l = { s.link l with replay := (s.link l).sent ++ later } := by
  unfold State.linkReplay
  dsimp only
  rw [State.link_modLink, State.link_congr (by rw [State.rewindTo_links, State.rewindTo_links] : _ = s.links)]
  exact ⟨_, rfl⟩

variable {s}

theorem State.backAck_ack {l : Fin 2} (seq grant : Nat) {i : Nat} (hi : (s.link l).sent.findIdx? (fun p => p.seq == seq) = some i)
    (hseq : seq < 65536) :
    ((s.backAck l false seq grant).link l).sent = (s.link l).sent.drop (i + 1) ∧
      ((s.backAck l false seq grant).link l).grant = grant % 65536 := by
  unfold State.backAck
  dsimp only
  rw [Nat.mod_eq_of_lt hseq, State.link_modLink, hi]
  dsimp only
  obtain ⟨hsent, hgrant⟩ := State.linkAck_link (s.modLink l fun k => { k with grant := grant % 65536 }) l (i + 1)
  rw [if_neg (by decide), hsent, hgrant, State.link_modLink]
  exact ⟨rfl, rfl⟩

theorem State.backAck_nak {l : Fin 2} (seq grant : Nat) {i : Nat} (hi : (s.link l).sent.findIdx? (fun p => p.seq == seq) = some i)
    (hseq : seq < 65536) :
    ∃ later, ((s.backAck l true seq grant).link l).sent = (s.link l).sent.drop i ∧
      ((s.backAck l true seq grant).link l).grant = grant % 65536 ∧
      ((s.backAck l true seq grant).link l).replay = (s.link l).sent.drop i ++ later := by
  unfold State.backAck
  dsimp only
  rw [Nat.mod_eq_of_lt hseq, State.link_modLink, hi]
  dsimp only
  set u := s.modLink l fun k => { k with grant := grant % 65536 } with hu
  obtain ⟨hsent, hgrant⟩ := u.linkAck_link l i
  obtain ⟨later, hlater⟩ := ((u.linkAck l i).bump (lkCnt l) 2 1).linkReplay_link l
  rw [if_pos rfl, hlater, State.link_congr (State.bump_links ..), hsent, hgrant, hu, State.link_modLink]
  exact ⟨later, rfl, rfl, rfl⟩

/-! ### Back-lane blocks (R304) -/

/-- The octets of an ACK or a NAK are read back as they were sent. -/
theorem backDecode_ackBlock (nak : Bool) (seq grant : Nat) :
    backDecode (ackBlock nak seq grant) = some (.ack nak (seq % 65536) (grant % 65536)) := by
  have hseq : fieldAt (ackBlock nak seq grant) 2 2 = seq % 65536 := by
    unfold fieldAt
    exact beNat_toBE 2 seq
  have hgrant : fieldAt (ackBlock nak seq grant) 4 2 = grant % 65536 := by
    unfold fieldAt
    exact beNat_toBE 2 grant
  have hnak : bit (octAt (ackBlock nak seq grant) 1) 0 = nak := by
    have hoct : octAt (ackBlock nak seq grant) 1 = b2n nak := by cases nak <;> rfl
    rw [hoct]
    cases nak <;> decide
  unfold backDecode
  rw [hseq, hgrant, hnak]
  rfl

/-- What arrives at a back lane is noted in the lane's own fields alone. -/
theorem State.backSync_link (l : Fin 2) (ok : Bool) :
    ∃ b bits, (s.backSync l ok).link l = { s.link l with bkLocked := b, bkBits := bits } := by
  unfold State.backSync
  split
  · exact ⟨_, _, rfl⟩
  · rw [State.link_modLink]
    dsimp only
    split
    · split <;> exact ⟨_, _, rfl⟩
    · split <;> exact ⟨_, _, rfl⟩

/-- A block that arrives while the lane is locked acts on a link that differs in the lane's own fields alone. -/
theorem State.backReceive_acts {l : Fin 2} {o : Octets} {b : BackBlock} (hb : backDecode o = some b) (hlock : s.backLocked l = true) :
    ∃ u : State, s.backReceive l false o = u.backAct l false b ∧ (u.link l).sent = (s.link l).sent := by
  obtain ⟨hon, hlocked⟩ := Bool.and_eq_true_iff.mp hlock
  obtain ⟨b', bits, hlink⟩ := s.backSync_link l true
  refine ⟨(s.backSync l true).modLink l fun k => { k with bkLast := s.now }, ?_, ?_⟩
  · rw [State.backReceive_decoded s hb]
    unfold State.backBlock
    dsimp only
    rw [hon, hlocked]
    rfl
  · rw [State.link_modLink, hlink]

theorem exec_backLaneAck {l : Fin 2} (seq grant : Nat) {i : Nat} (hlock : s.backLocked l = true)
    (hi : (s.link l).sent.findIdx? (fun p => p.seq == seq % 65536) = some i) :
    ∃ t, exec (.backLaneAck l seq grant) s = .next t ∧ (t.link l).sent = (s.link l).sent.drop (i + 1) ∧
      (t.link l).grant = grant % 65536 := by
  obtain ⟨u, hu, hsent⟩ := State.backReceive_acts (backDecode_ackBlock false seq grant) hlock
  obtain ⟨h, hgrant⟩ := State.backAck_ack (s := u) (seq % 65536) (grant % 65536) (hsent ▸ hi) (Nat.mod_lt _ (by decide))
  exact ⟨_, congrArg Host.Outcome.next hu, h.trans (by rw [hsent]), hgrant.trans (Nat.mod_mod ..)⟩

theorem exec_backLaneNak {l : Fin 2} (seq grant : Nat) {i : Nat} (hlock : s.backLocked l = true)
    (hi : (s.link l).sent.findIdx? (fun p => p.seq == seq % 65536) = some i) :
    ∃ t later, exec (.backLaneNak l seq grant) s = .next t ∧ (t.link l).sent = (s.link l).sent.drop i ∧
      (t.link l).grant = grant % 65536 ∧ (t.link l).replay = (s.link l).sent.drop i ++ later := by
  obtain ⟨u, hu, hsent⟩ := State.backReceive_acts (backDecode_ackBlock true seq grant) hlock
  obtain ⟨later, h, hgrant, hreplay⟩ :=
    State.backAck_nak (s := u) (seq % 65536) (grant % 65536) (hsent ▸ hi) (Nat.mod_lt _ (by decide))
  rw [hsent] at h hreplay
  exact ⟨_, later, congrArg Host.Outcome.next hu, h, hgrant.trans (Nat.mod_mod ..), hreplay⟩

/-! ### Replay timeouts (R312) -/

variable (s) in
/-- A link that goes down restarts its bring-up and has nothing sent that waits for its ACK (R316). -/
theorem State.linkDown_link (l : Fin 2) (cause : Nat) :
    ((s.linkDown l cause).link l).st = 3 ∧ ((s.linkDown l cause).link l).sent = [] ∧ ((s.linkDown l cause).link l).width = 0 := by
  have hhalt : ((s.linkHalt l).link l).sent = [] := by
    unfold State.linkHalt
    dsimp only
    rw [State.link_modLink]
  have hclock : (((s.linkHalt l).clockLane l false).link l).sent = [] := by
    unfold State.clockLane
    split
    · exact hhalt
    · rw [State.link_congr (State.emit_links ..), State.link_modLink, hhalt]
  unfold State.linkDown State.linkCold
  rw [State.link_congr (State.evt_links ..), State.link_congr (State.bump_links ..), State.link_modLink]
  exact ⟨rfl, hclock, rfl⟩

theorem State.replayTimeout_due {l : Fin 2} (hup : (s.link l).st = 2) (hsent : (s.link l).sent ≠ [])
    (hdue : (s.link l).progAt + s.objN (lkCfg l) 6 * usP ≤ s.now) :
    ∃ u : State, s.replayTimeout l = (if 4 ≤ (s.link l).timeouts + 1 then u.linkDown l 2 else u.linkReplay l) ∧
      u.link l = { s.link l with timeouts := (s.link l).timeouts + 1, progAt := s.now } := by
  refine ⟨(s.bump (lkCnt l) 3 1).modLink l fun k => { k with timeouts := k.timeouts + 1, progAt := s.now }, ?_, ?_⟩
  · unfold State.replayTimeout
    dsimp only
    rw [if_pos ⟨hup, by simpa using hsent, hdue⟩]
  · rw [State.link_modLink, State.link_congr (State.bump_links ..)]

theorem exec_replayTimeout_replays {l : Fin 2} (hup : (s.link l).st = 2) (hsent : (s.link l).sent ≠ [])
    (hdue : (s.link l).progAt + s.objN (lkCfg l) 6 * usP ≤ s.now) (hfew : (s.link l).timeouts < 3) :
    ∃ t later, exec (.replayTimeout l) s = .next t ∧ (t.link l).timeouts = (s.link l).timeouts + 1 ∧ (t.link l).progAt = s.now ∧
      (t.link l).replay = (s.link l).sent ++ later := by
  obtain ⟨u, h, hu⟩ := State.replayTimeout_due hup hsent hdue
  obtain ⟨later, hlater⟩ := u.linkReplay_link l
  rw [hu] at hlater
  refine ⟨_, later, congrArg Host.Outcome.next (h.trans (if_neg (by omega))), ?_⟩
  rw [hlater]
  exact ⟨rfl, rfl, rfl⟩

theorem exec_replayTimeout_down {l : Fin 2} (hup : (s.link l).st = 2) (hsent : (s.link l).sent ≠ [])
    (hdue : (s.link l).progAt + s.objN (lkCfg l) 6 * usP ≤ s.now) (hmany : 3 ≤ (s.link l).timeouts) :
    ∃ t, exec (.replayTimeout l) s = .next t ∧ (t.link l).st = 3 ∧ (t.link l).sent = [] := by
  obtain ⟨u, h, -⟩ := State.replayTimeout_due hup hsent hdue
  obtain ⟨hst, hnone, -⟩ := u.linkDown_link l 2
  exact ⟨_, congrArg Host.Outcome.next (h.trans (if_pos (by omega))), hst, hnone⟩

/-- Settles O39, an equation or a lemma per row. -/
theorem linkPackets : Obligations.LinkPackets := by
  unfold Obligations.LinkPackets
  intro s l
  refine ⟨fun bad p hup hreplay hstream hbulk hroom => ?_, fun bad p hup hreplay hstream hbulk hroom => ?_,
    fun bad p x rest hup hreplay hx => ?_, fun seq grant i hlock _ hi => exec_backLaneAck seq grant hlock hi,
    fun seq grant i hlock _ hi => exec_backLaneNak seq grant hlock hi,
    fun hup hsent hdue => ⟨exec_replayTimeout_replays hup hsent hdue, exec_replayTimeout_down hup hsent hdue⟩⟩
  · exact ⟨_, exec_linkPacketSend_stream bad hup hreplay hstream hbulk hroom, linkPacketSend_sent hstream (.inl rfl) rfl⟩
  · obtain ⟨hsent, -, -, hr⟩ := linkPacketSend_sent (bad := bad.val) hbulk (.inr (State.link_modLink _ l fun k => { k with streamRun := 0 }))
      (State.modLink_queues ..)
    exact ⟨_, exec_linkPacketSend_bulk bad hup hreplay hstream hbulk hroom, hsent, hr⟩
  · exact ⟨_, exec_linkPacketSend_replay bad hup hreplay hx, linkPacketSend_replay bad.val rfl⟩

end Sys2Proof.Machine
end

section
/-! Rows of the serial links' bring-up, training, rounds and Ingots (R297, R300, R302, R303, R307, R314, R316). -/

namespace Sys2Proof.Machine

variable (s : State)

/-! ### What the links keep while lanes train -/

/-- What training changes of a link only as it comes up or goes down. -/
structure LinkStanding where
  st : Nat
  pll : Bool
  common : Bool
  epoch : Nat
  mask : Nat
  trainAt : Nat

def Link.standing (k : Link) : LinkStanding :=
  { st := k.st, pll := k.pll, common := k.common, epoch := k.epoch, mask := k.mask, trainAt := k.trainAt }

theorem State.modLane_standing (l : Fin 2) (i : Fin 4) (f : LinkLane → LinkLane) :
    ((s.modLane l i f).link l).standing = (s.link l).standing := by
  rw [State.modLane, State.link_modLink]
  rfl

theorem State.modLane_lane_self (l : Fin 2) (i : Fin 4) (f : LinkLane → LinkLane) :
    ((s.modLane l i f).link l).lane i = f ((s.link l).lane i) := by
  rw [State.modLane, State.link_modLink]
  exact Vector.getElem_set_self i.isLt

theorem State.modLane_lane_ne (l : Fin 2) {i j : Fin 4} (h : i ≠ j) (f : LinkLane → LinkLane) :
    ((s.modLane l i f).link l).lane j = (s.link l).lane j := by
  rw [State.modLane, State.link_modLink]
  exact Vector.getElem_set_ne i.isLt j.isLt (Fin.val_ne_of_ne h)

/-- What a change of a lane that keeps `g` leaves of every lane. -/
theorem State.modLane_lane_keeps {α : Type} (g : LinkLane → α) (l : Fin 2) (i j : Fin 4) {f : LinkLane → LinkLane}
    (h : g (f ((s.link l).lane i)) = g ((s.link l).lane i)) : g (((s.modLane l i f).link l).lane j) = g ((s.link l).lane j) := by
  obtain rfl | hne := eq_or_ne i j
  · rw [State.modLane_lane_self, h]
  · rw [State.modLane_lane_ne s l hne]

theorem State.sendTrain_links (l : Fin 2) (i : Fin 4) : (s.sendTrain l i).links = s.links := rfl

theorem State.spareTrain_links (l : Fin 2) : (s.spareTrain l).links = s.links :=
  foldl_keeps State.links (fun t i => by
    split
    · exact t.sendTrain_links l i
    · rfl) quads4 s

theorem State.linkHealed_links (l : Fin 2) : (s.linkHealed l).links = s.links := by
  simp only [State.linkHealed, apply_ite State.links, State.setCause_links, ite_self]

/-- A DESKEW round takes the next number (R300). -/
theorem State.deskewRound_link (l : Fin 2) (on : Nat) :
    (s.deskewRound l on).link l = { s.link l with deskew := ((s.link l).deskew + 1) % 65536, rounds := s.now } := by
  unfold State.deskewRound
  dsimp only
  rw [State.link_modLink, State.link_congr (s := s)]
  exact foldl_keeps State.links (fun t i => by split <;> rfl) quads4 s

/-- A lane that begins to train keeps its retrains; the link keeps its standing. -/
theorem State.laneTrain_lane (l : Fin 2) (i : Fin 4) :
    (((s.laneTrain l i).link l).lane i).good = false ∧ (((s.laneTrain l i).link l).lane i).retrains = ((s.link l).lane i).retrains ∧
      ((s.laneTrain l i).link l).standing = (s.link l).standing := by
  unfold State.laneTrain
  dsimp only
  rw [State.link_congr (State.sendTrain_links ..), State.modLane_lane_self, State.modLane_standing]
  exact ⟨rfl, rfl, rfl⟩

theorem State.laneTrain_lane_ne (l : Fin 2) {i j : Fin 4} (h : i ≠ j) :
    ((s.laneTrain l i).link l).lane j = (s.link l).lane j := by
  unfold State.laneTrain
  dsimp only
  rw [State.link_congr (State.sendTrain_links ..), State.modLane_lane_ne s l h]

theorem State.readmitEnd_links (v state step : Nat) : (s.readmitEnd v state step).links = s.links := by
  simp only [State.readmitEnd, State.requestDone_links, apply_ite State.links, State.setObj_links, ite_self]

theorem State.readmitFailed_links (v step : Nat) : (s.readmitFailed v step).links = s.links := by
  simp only [State.readmitFailed, State.readmitEnd_links, State.evt_links, apply_ite State.links, ite_self]

/-! ### The lanes that carry data (R302) -/

/-- A bit that is clear is set without a carry. -/
theorem bit_setBit_ne (n : Nat) {i j : Nat} (h : i ≠ j) : bit (setBit n i) j = bit n j := by
  unfold setBit
  split
  · rfl
  · next hclear =>
    have heven : n / 2 ^ i % 2 = 0 := by
      unfold bit at hclear
      simpa using hclear
    have hquot : (n + 2 ^ i) / 2 ^ j % 2 = n / 2 ^ j % 2 := by
      obtain hlt | hlt := Nat.lt_or_gt_of_ne h
      · obtain ⟨k, rfl⟩ := Nat.exists_eq_add_of_lt hlt
        rw [Nat.add_assoc, Nat.pow_add, ← Nat.div_div_eq_div_mul, ← Nat.div_div_eq_div_mul, Nat.add_div_right n (Nat.two_pow_pos i),
          Nat.pow_succ', ← Nat.div_div_eq_div_mul, ← Nat.div_div_eq_div_mul]
        have hhalf : (n / 2 ^ i).succ / 2 = n / 2 ^ i / 2 := by omega
        rw [hhalf]
      · obtain ⟨k, rfl⟩ := Nat.exists_eq_add_of_lt hlt
        rw [Nat.add_assoc, Nat.pow_add, Nat.add_mul_div_left n _ (Nat.two_pow_pos j), Nat.pow_succ']
        omega
    unfold bit
    rw [hquot]

theorem bit_foldl_setBit (js : List (Fin 4)) (n : Nat) (i : Fin 4) :
    bit (js.foldl (fun m j => setBit m j.val) n) i.val = (bit n i.val || js.contains i) := by
  induction js generalizing n with
  | nil => simp
  | cons j js ih =>
    rw [List.foldl_cons, ih, List.contains_cons]
    obtain rfl | hne := eq_or_ne i j
    · simp [bit_setBit_self]
    · rw [bit_setBit_ne n (Fin.val_ne_of_ne hne.symm)]
      simp [beq_eq_false_iff_ne.mpr hne]

/-- The lanes of a link that are good and may be used. -/
def State.goodLanes (s : State) (l : Fin 2) : List (Fin 4) := quads4.filter fun i => ((s.link l).lane i).good && s.inMask l i

/-- Of the good lanes, those that carry data. -/
def State.activeLanes (s : State) (l : Fin 2) : List (Fin 4) := (s.goodLanes l).take (linkWidth (s.goodLanes l).length)

theorem State.activeLanes_good {l : Fin 2} {i : Fin 4} (h : i ∈ s.activeLanes l) : ((s.link l).lane i).good = true :=
  (Bool.and_eq_true_iff.mp (List.mem_filter.mp (List.mem_of_mem_take h)).2).1

theorem State.activeLanes_ne_nil {l : Fin 2} {i : Fin 4} (hmask : s.inMask l i = true) (hgood : ((s.link l).lane i).good = true) :
    s.activeLanes l ≠ [] := by
  have hmem : i ∈ s.goodLanes l := List.mem_filter.mpr ⟨by clear hmask hgood; revert i; decide, by rw [hgood, hmask]; rfl⟩
  have hpos : 0 < (s.goodLanes l).length := List.length_pos_of_mem hmem
  have hwidth : 0 < linkWidth (s.goodLanes l).length := by
    unfold linkWidth
    split <;> [skip; split] <;> omega
  rw [Ne, State.activeLanes, List.take_eq_nil_iff]
  rintro (h | h)
  · omega
  · rw [h] at hpos
    exact absurd hpos (lt_irrefl _)

/-- The lanes that carry data are set down in the mask and the width; a lane that is not good stays as it is. -/
theorem State.linkSet_link (l : Fin 2) :
    ((s.linkSet l).link l).mask = (s.activeLanes l).foldl (fun m i => setBit m i.val) 0 ∧
      ((s.linkSet l).link l).epoch = (s.link l).epoch ∧ ((s.linkSet l).link l).st = (s.link l).st ∧
      (∀ i, (((s.linkSet l).link l).lane i).good = ((s.link l).lane i).good) ∧
      ∀ i, ((s.link l).lane i).good = false → ((s.linkSet l).link l).lane i = (s.link l).lane i := by
  unfold State.linkSet
  extract_lets k good w act mask one
  have hone (t : State) (i : Fin 4) : ((one t i).link l).standing = (t.link l).standing ∧
      (∀ j, (((one t i).link l).lane j).good = ((t.link l).lane j).good) ∧
      ∀ j, ((t.link l).lane j).good = false → ((one t i).link l).lane j = (t.link l).lane j := by
    simp only [one]
    split
    · next hgood =>
      exact ⟨t.modLane_standing .., fun j => t.modLane_lane_keeps LinkLane.good l i j rfl, fun j hj =>
        t.modLane_lane_ne l (fun h => by rw [h, hj] at hgood; contradiction) _⟩
    · exact ⟨rfl, fun _ => rfl, fun _ _ => rfl⟩
  clear_value one
  have hfold : ((quads4.foldl one s).link l).standing = (s.link l).standing ∧
      (∀ j, (((quads4.foldl one s).link l).lane j).good = ((s.link l).lane j).good) ∧
      ∀ j, ((s.link l).lane j).good = false → ((quads4.foldl one s).link l).lane j = (s.link l).lane j := by
    refine List.foldlRecOn (motive := fun t => (t.link l).standing = (s.link l).standing ∧
      (∀ j, ((t.link l).lane j).good = ((s.link l).lane j).good) ∧
      ∀ j, ((s.link l).lane j).good = false → (t.link l).lane j = (s.link l).lane j) quads4 one
      ⟨rfl, fun _ => rfl, fun _ _ => rfl⟩ fun t ⟨hst, hgood, hlane⟩ i _ => ?_
    obtain ⟨hst', hgood', hlane'⟩ := hone t i
    exact ⟨hst'.trans hst, fun j => (hgood' j).trans (hgood j), fun j hj => (hlane' j ((hgood j).trans hj)).trans (hlane j hj)⟩
  obtain ⟨hst, hgood, hlane⟩ := hfold
  rw [State.link_modLink]
  exact ⟨rfl, congrArg LinkStanding.epoch hst, congrArg LinkStanding.st hst, hgood, hlane⟩

theorem State.linkResize_lane {l : Fin 2} {i : Fin 4} (old : Nat) (h : ((s.link l).lane i).good = false) :
    ((s.linkResize l old).link l).lane i = (s.link l).lane i := by
  obtain ⟨-, -, -, -, hlane⟩ := s.linkSet_link l
  unfold State.linkResize
  generalize s.linkSet l = u at hlane ⊢
  rw [State.link_congr (State.spareTrain_links ..), State.deskewRound_link]
  exact hlane i h

/-- A link that comes up carries data on good lanes alone, in a new epoch (R302). -/
theorem State.linkUp_link (l : Fin 2) :
    ((s.linkUp l).link l).st = 2 ∧ ((s.linkUp l).link l).epoch = ((s.link l).epoch + 1) % 65536 ∧
      ((s.linkUp l).link l).mask = (s.activeLanes l).foldl (fun m i => setBit m i.val) 0 ∧
      ∀ i, (((s.linkUp l).link l).lane i).good = ((s.link l).lane i).good := by
  obtain ⟨hmask, hepoch, -, hgood, -⟩ := s.linkSet_link l
  unfold State.linkUp
  generalize s.linkSet l = u at hmask hepoch hgood ⊢
  extract_lets s2 k
  rw [State.link_congr (State.linkHealed_links ..), State.link_congr (State.evt_links ..), State.link_congr (State.spareTrain_links ..),
    State.deskewRound_link, State.link_modLink]
  exact ⟨rfl, congrArg (fun e => (e + 1) % 65536) hepoch, hmask, hgood⟩

/-! ### A lane that trains again (R314) -/

/-- The retrains of the last 60 s. -/
def State.lateRetrains (s : State) (l : Fin 2) (i : Fin 4) : List Nat := ((s.link l).lane i).retrains.filter fun x => s.now ≤ x + 60 * secP

/-- The state in which a lane that lost its training is noted: failed at its fifth retrain within 60 s, to be trained again before. -/
def State.laneNoted (s : State) (l : Fin 2) (i : Fin 4) : State :=
  if 4 ≤ (s.lateRetrains l i).length then
    (((s.readmitFailed (0x3000 + 16 * l.val + i.val) 5).modLane l i fun x =>
      { x with st := 3, good := false, locked := false, readmit := false, retrains := s.lateRetrains l i }).evt 0x3901
      (l.val + 16 * i.val)).raiseCause (12 + l.val)
  else
    (s.modLane l i fun x => { x with st := 2, good := false, locked := false, retrains := s.now :: s.lateRetrains l i }).evt 0x2901
      (l.val + 16 * i.val)

/-- The state with the lanes in use chosen anew where the lane carried data, and the lane in training unless it failed. -/
def State.laneAgain (s : State) (l : Fin 2) (i : Fin 4) : State :=
  let s2 := if bit (s.link l).mask i.val then (s.laneNoted l i).linkResize l (s.link l).mask else s.laneNoted l i
  if 4 ≤ (s.lateRetrains l i).length then s2 else s2.laneTrain l i

variable {s} in
theorem State.laneRetrain_eq {l : Fin 2} (hup : (s.link l).st = 2) (i : Fin 4) :
    s.laneRetrain l i = if ((s.laneAgain l i).link l).mask = 0 then (s.laneAgain l i).linkLost l else s.laneAgain l i := by
  unfold State.laneRetrain
  extract_lets k x rs old s0 s1 s2 s3
  rw [if_pos hup]
  have hagain : s3 = s.laneAgain l i := by
    simp only [s3, s2, k, hup, true_and]
    rfl
  rw [hagain]

theorem State.laneNoted_failed {l : Fin 2} {i : Fin 4} (h : 4 ≤ (s.lateRetrains l i).length) :
    (((s.laneNoted l i).link l).lane i).st = 3 := by
  unfold State.laneNoted
  rw [if_pos h, State.link_congr (State.raiseCause_links ..), State.link_congr (State.evt_links ..), State.modLane_lane_self]

theorem State.laneNoted_retrains {l : Fin 2} {i : Fin 4} (h : (s.lateRetrains l i).length < 4) :
    (((s.laneNoted l i).link l).lane i).retrains = s.now :: s.lateRetrains l i := by
  unfold State.laneNoted
  rw [if_neg (by omega), State.link_congr (State.evt_links ..), State.modLane_lane_self]

theorem State.laneNoted_link (l : Fin 2) (i : Fin 4) : ((s.laneNoted l i).link l).standing = (s.link l).standing ∧
    (((s.laneNoted l i).link l).lane i).good = false ∧ ∀ j, i ≠ j → ((s.laneNoted l i).link l).lane j = (s.link l).lane j := by
  unfold State.laneNoted
  split
  · rw [State.link_congr (State.raiseCause_links ..), State.link_congr (State.evt_links ..), State.modLane_lane_self, State.modLane_standing,
      State.link_congr (State.readmitFailed_links ..)]
    exact ⟨rfl, rfl, fun j hj => by rw [State.modLane_lane_ne _ l hj, State.link_congr (State.readmitFailed_links ..)]⟩
  · rw [State.link_congr (State.evt_links ..), State.modLane_lane_self, State.modLane_standing]
    exact ⟨rfl, rfl, fun j hj => s.modLane_lane_ne l hj _⟩

/-- Of a lane that carries no data, the rest of the link is as it was while it trains again. -/
theorem State.laneAgain_spare {l : Fin 2} {i : Fin 4} (h : bit (s.link l).mask i.val = false) :
    ((s.laneAgain l i).link l).standing = (s.link l).standing ∧ ∀ j, i ≠ j → ((s.laneAgain l i).link l).lane j = (s.link l).lane j := by
  obtain ⟨hst, -, hlane⟩ := s.laneNoted_link l i
  unfold State.laneAgain
  extract_lets s2
  have hs2 : s2 = s.laneNoted l i := if_neg (by rw [h]; decide)
  rw [← hs2] at hst hlane
  clear_value s2
  split
  · exact ⟨hst, hlane⟩
  · obtain ⟨-, -, hstand⟩ := s2.laneTrain_lane l i
    exact ⟨hstand.trans hst, fun j hj => (s2.laneTrain_lane_ne l hj).trans (hlane j hj)⟩

/-- A lane that failed stays out; one that did not is trained again with its retrains noted. -/
theorem State.laneAgain_lane (l : Fin 2) (i : Fin 4) :
    (4 ≤ (s.lateRetrains l i).length → (((s.laneAgain l i).link l).lane i).st = 3) ∧
      ((s.lateRetrains l i).length < 4 → (((s.laneAgain l i).link l).lane i).good = false ∧
        (((s.laneAgain l i).link l).lane i).retrains = s.now :: s.lateRetrains l i) := by
  obtain ⟨-, hgood, -⟩ := s.laneNoted_link l i
  unfold State.laneAgain
  extract_lets s2
  have hsame : (s2.link l).lane i = ((s.laneNoted l i).link l).lane i := by
    simp only [s2]
    split
    · exact State.linkResize_lane _ _ hgood
    · rfl
  refine ⟨fun h => ?_, fun h => ?_⟩
  · rw [if_pos h, hsame, s.laneNoted_failed h]
  · rw [if_neg (by omega)]
    obtain ⟨hbad, hre, -⟩ := s2.laneTrain_lane l i
    exact ⟨hbad, by rw [hre, hsame, s.laneNoted_retrains h]⟩

theorem State.linkLost_lanes (l : Fin 2) : ((s.linkLost l).link l).lanes = (s.link l).lanes := by
  unfold State.linkLost State.linkHalt
  dsimp only
  rw [State.link_congr (State.raiseCause_links ..), State.link_congr (State.evt_links ..), State.link_modLink, State.link_modLink,
    State.link_congr (by rw [State.rewindTo_links, State.rewindTo_links] : _ = s.links)]

variable {s} in
/-- Whether or not the link is lost for want of lanes, its lanes are those of the retrain. -/
theorem State.laneRetrain_lane {l : Fin 2} (hup : (s.link l).st = 2) (i j : Fin 4) :
    ((s.laneRetrain l i).link l).lane j = ((s.laneAgain l i).link l).lane j := by
  rw [State.laneRetrain_eq hup]
  split
  · exact congrArg (Vector.get · j) (State.linkLost_lanes _ l)
  · rfl

variable {s}

theorem exec_laneRetrainTimeout {l : Fin 2} {i : Fin 4} (hup : (s.link l).st = 2) (hlane : ((s.link l).lane i).st = 2)
    (hdue : ((s.link l).lane i).since + 20 * msP ≤ s.now) : exec (.laneRetrainTimeout l i) s = .next (s.laneRetrain l i) :=
  congrArg Host.Outcome.next (if_pos ⟨.inl hup, hlane, hdue⟩)

/-! ### The end of the training window (R302) -/

/-- A link that is up in a new epoch, and carries data on good lanes alone. -/
def Link.upIn (k : Link) (epoch : Nat) : Prop :=
  k.st = 2 ∧ k.epoch = epoch ∧ k.mask ≠ 0 ∧ ∀ i : Fin 4, bit k.mask i.val = true → (k.lane i).good = true

theorem State.linkUp_upIn {l : Fin 2} {i : Fin 4} (hmask : s.inMask l i = true) (hgood : ((s.link l).lane i).good = true) :
    ((s.linkUp l).link l).upIn (((s.link l).epoch + 1) % 65536) := by
  obtain ⟨hst, hepoch, hm, hlanes⟩ := s.linkUp_link l
  have hbit (j : Fin 4) : bit ((s.linkUp l).link l).mask j.val = (s.activeLanes l).contains j := by
    rw [hm, bit_foldl_setBit]
    simp [bit]
  refine ⟨hst, hepoch, fun hzero => ?_, fun j hj => ?_⟩
  · obtain ⟨j, hj⟩ := List.exists_mem_of_ne_nil _ (s.activeLanes_ne_nil hmask hgood)
    have := hbit j
    rw [hzero, List.contains_iff_mem.mpr hj] at this
    simp [bit] at this
  · rw [hbit] at hj
    exact (hlanes j).trans (s.activeLanes_good (List.contains_iff_mem.mp hj))

/-- A lane that is not good carries no data, so that the link stays up while it trains again. -/
theorem State.laneRetrain_upIn {l : Fin 2} {i : Fin 4} {epoch : Nat} (hup : (s.link l).upIn epoch) (hbad : ((s.link l).lane i).good = false) :
    ((s.laneRetrain l i).link l).upIn epoch := by
  obtain ⟨hst, hepoch, hmask, hgood⟩ := hup
  have hspare : bit (s.link l).mask i.val = false := by
    by_contra h
    rw [hgood i (by simpa using h)] at hbad
    contradiction
  obtain ⟨hstand, hlane⟩ := s.laneAgain_spare hspare
  have hmask' : ((s.laneAgain l i).link l).mask = (s.link l).mask := congrArg LinkStanding.mask hstand
  rw [State.laneRetrain_eq hst, if_neg (by rw [hmask']; exact hmask)]
  refine ⟨(congrArg LinkStanding.st hstand).trans hst, (congrArg LinkStanding.epoch hstand).trans hepoch, by rw [hmask']; exact hmask,
    fun j hj => ?_⟩
  rw [hmask'] at hj
  rw [hlane j (fun h => by rw [← h, hspare] at hj; contradiction)]
  exact hgood j hj

theorem exec_trainingTimeout_up {l : Fin 2} (htrain : (s.link l).st = 1 ∨ (s.link l).st = 3) (hpll : (s.link l).pll = true)
    (hdue : (s.link l).trainAt + 20 * msP ≤ s.now) {i : Fin 4} (hmask : s.inMask l i = true) (hgood : ((s.link l).lane i).good = true) :
    ∃ t, exec (.trainingTimeout l) s = .next t ∧ (t.link l).upIn (((s.link l).epoch + 1) % 65536) := by
  have hany : (quads4.any fun i => s.inMask l i && ((s.link l).lane i).good) = true :=
    List.any_eq_true.mpr ⟨i, by clear hmask hgood; revert i; decide, by rw [hmask, hgood]; rfl⟩
  refine ⟨_, congrArg Host.Outcome.next ((if_pos ⟨htrain, hpll, hdue⟩).trans (if_pos hany)), ?_⟩
  refine List.foldlRecOn (motive := fun t : State => (t.link l).upIn (((s.link l).epoch + 1) % 65536)) quads4 _
    (State.linkUp_upIn hmask hgood) fun t ht j _ => ?_
  split
  · next hj =>
    obtain ⟨-, hbad⟩ := Bool.and_eq_true_iff.mp hj
    exact State.laneRetrain_upIn ht (by simpa using hbad)
  · exact ht

theorem exec_trainingTimeout_again {l : Fin 2} (htrain : (s.link l).st = 1 ∨ (s.link l).st = 3) (hpll : (s.link l).pll = true)
    (hdue : (s.link l).trainAt + 20 * msP ≤ s.now) (hbad : ∀ i, s.inMask l i = true → ((s.link l).lane i).good = false) :
    ∃ t, exec (.trainingTimeout l) s = .next t ∧ (t.link l).trainAt = s.now ∧ (t.link l).st = (s.link l).st := by
  have hnone : ¬ (quads4.any fun i => s.inMask l i && ((s.link l).lane i).good) = true := by
    rw [List.any_eq_true]
    rintro ⟨i, -, hi⟩
    obtain ⟨hmask, hgood⟩ := Bool.and_eq_true_iff.mp hi
    rw [hbad i hmask] at hgood
    contradiction
  have hstand : ((quads4.foldl (fun t i => if t.inMask l i && ((t.link l).lane i).st == 2 then t.laneTrain l i else t)
      (s.modLink l fun k => { k with trainAt := s.now })).link l).standing = { (s.link l).standing with trainAt := s.now } :=
    (foldl_keeps (fun t : State => (t.link l).standing) (fun t i => by
      split
      · exact (t.laneTrain_lane l i).2.2
      · rfl) quads4 _).trans (congrArg Link.standing (State.link_modLink ..))
  exact ⟨_, congrArg Host.Outcome.next ((if_pos ⟨htrain, hpll, hdue⟩).trans (if_neg hnone)), congrArg LinkStanding.trainAt hstand,
    congrArg LinkStanding.st hstand⟩

end Sys2Proof.Machine
end

section
/-! Rows of the serial links' start, stop, PLL, DESKEW rounds and Ingots (R297, R300, R302, R303, R307, R316). -/

namespace Sys2Proof.Machine

variable (s : State)

/-! ### Cold links -/

theorem State.clockLane_link (l : Fin 2) (on : Bool) : (s.clockLane l on).link l = { s.link l with clk := on } := by
  unfold State.clockLane
  split
  · next h => rw [← h]
  · rw [State.link_congr (State.emit_links ..), State.link_modLink]

theorem State.clockLane_dict (l : Fin 2) (on : Bool) : (s.clockLane l on).dict = s.dict := by
  simp only [State.clockLane, apply_ite State.dict, State.emit_dict, State.modLink_dict, ite_self]

theorem State.linkCold_dict (l : Fin 2) (st : Nat) : (s.linkCold l st).dict = s.dict := s.clockLane_dict l false

/-- A cold link has no PLL and no width; what it sent and its common clock stay. -/
theorem State.linkCold_link (l : Fin 2) (st : Nat) : ((s.linkCold l st).link l).st = st ∧ ((s.linkCold l st).link l).pll = false ∧
    ((s.linkCold l st).link l).common = (s.link l).common := by
  unfold State.linkCold
  rw [State.link_modLink, State.clockLane_link]
  exact ⟨rfl, rfl, rfl⟩

theorem State.linkDown_common (l : Fin 2) (cause : Nat) : ((s.linkDown l cause).link l).common = (s.link l).common := by
  obtain ⟨-, -, hcold⟩ := (s.linkHalt l).linkCold_link l 3
  have hhalt : ((s.linkHalt l).link l).common = (s.link l).common := by
    unfold State.linkHalt
    dsimp only
    rw [State.link_modLink, State.link_congr (by rw [State.rewindTo_links, State.rewindTo_links] : _ = s.links)]
  unfold State.linkDown
  rw [State.link_congr (State.evt_links ..), State.link_congr (State.bump_links ..), hcold, hhalt]

/-! ### Start and stop (R302, R316) -/

theorem State.queueSizes_keeps : s.queueSizes.links = s.links ∧ s.queueSizes.dict = s.dict := by
  unfold State.queueSizes
  dsimp only
  split
  · exact ⟨foldl_keeps State.links (fun t n => State.setQueue_links ..) quads4 s,
      foldl_keeps State.dict (fun t n => State.setQueue_dict ..) quads4 s⟩
  · exact ⟨rfl, rfl⟩

variable {s} in
theorem State.linkStart_stopped {l : Fin 2} (h : (s.link l).st = 0) : ((s.linkStart l).link l).st = 1 ∧
    ((s.linkStart l).link l).pll = false ∧ ((s.linkStart l).link l).sent = [] ∧ ((s.linkStart l).link l).replay = [] := by
  obtain ⟨hst, hpll, -⟩ := s.queueSizes.linkCold_link l 1
  unfold State.linkStart
  rw [if_neg (by rw [h]; decide), State.link_modLink]
  exact ⟨hst, hpll, rfl, rfl⟩

theorem State.linkStart_dict (l : Fin 2) : (s.linkStart l).dict = s.dict := by
  unfold State.linkStart
  split
  · rfl
  · rw [State.modLink_dict, State.linkCold_dict, s.queueSizes_keeps.2]

theorem State.rewindOpen_links (n : Fin 4) (k : Nat) : (s.rewindOpen n k).links = s.links := by
  rw [State.rewindOpen, State.bump_links]
  exact State.setQueue_links ..

theorem State.rewindOpen_obj (n : Fin 4) (k : Nat) {o : Nat} (ho : o ≠ 0x5110) (el : Nat) : (s.rewindOpen n k).obj o el = s.obj o el := by
  rw [State.rewindOpen, State.bump_obj_ne _ _ _ _ (.inl ho)]
  exact State.obj_congr (State.setQueue_dict ..) ..

theorem State.bulkRewind_obj (l : Fin 2) {o : Nat} (ho : o ≠ 0x5110) (el : Nat) : (s.bulkRewind l).obj o el = s.obj o el :=
  foldl_keeps (fun t : State => t.obj o el) (fun t c => by
    dsimp only
    split
    · rw [State.obj_congr (State.setDmaCh_dict ..)]
      unfold State.dmaRewind
      dsimp only
      split
      · rfl
      · rw [State.obj_congr (State.setDmaCh_dict ..), State.rewindOpen_obj _ _ _ ho]
    · rfl) chans32 s

/-- One Ingot in hand gives its words back. -/
theorem State.dropInHand_keeps (l : Fin 2) (h : InHand) {o : Nat} (ho : o ≠ 0x5110) (el : Nat) {t : State}
    (ht : t = if h.reserved then s.rewindOpen (streamQ l) 128 else s) :
    (if h.dump.isEmpty then t else t.rewindOpen (streamQ l) 128).links = s.links ∧
      (if h.dump.isEmpty then t else t.rewindOpen (streamQ l) 128).obj o el = s.obj o el := by
  have hres : t.links = s.links ∧ t.obj o el = s.obj o el := by
    rw [ht]
    split
    · exact ⟨s.rewindOpen_links .., s.rewindOpen_obj _ _ ho el⟩
    · exact ⟨rfl, rfl⟩
  split
  · exact hres
  · exact ⟨(t.rewindOpen_links ..).trans hres.1, (t.rewindOpen_obj _ _ ho el).trans hres.2⟩

/-- An emptied link keeps all but its Ingots in hand, and every object but the counters of the queues. -/
theorem State.emptyLink_keeps (l : Fin 2) {o : Nat} (ho : o ≠ 0x5110) (el : Nat) :
    (s.emptyLink l).linkCore l = s.linkCore l ∧ (s.emptyLink l).obj o el = s.obj o el := by
  unfold State.emptyLink
  extract_lets s1 s2
  have hs1 : s1.links = s.links ∧ s1.obj o el = s.obj o el :=
    ⟨foldl_keeps State.links (fun t h => (t.dropInHand_keeps l h ho el rfl).1) (s.link l).inHand s,
      foldl_keeps (fun t : State => t.obj o el) (fun t h => (t.dropInHand_keeps l h ho el rfl).2) (s.link l).inHand s⟩
  have hcore : s2.linkCore l = s1.linkCore l := by
    unfold State.linkCore
    rw [State.link_modLink]
  refine ⟨?_, ?_⟩
  · rw [State.linkCore_congr (s := s2) (by rw [State.emptyQueue, State.setQueue_links, State.emptyQueue, State.setQueue_links]), hcore,
      State.linkCore_congr hs1.1]
  · rw [State.obj_congr (t := (s2.emptyQueue (streamQ l)).emptyQueue (bulkQ l)) (s := s1)
      (by rw [State.emptyQueue, State.setQueue_dict, State.emptyQueue, State.setQueue_dict, State.modLink_dict]), hs1.2]

theorem State.linkCore_st (l : Fin 2) : (s.linkCore l).st = (s.link l).st := rfl

variable {s} in
theorem State.linkStop_link {l : Fin 2} (h : (s.link l).st ≠ 0) (h5 : (s.link l).st ≠ 5) :
    ((s.linkStop l).link l).st = 0 ∧ ((s.linkStop l).link l).sent = [] ∧ ((s.linkStop l).link l).replay = [] := by
  obtain ⟨hst, -, -⟩ := (s.bulkRewind l).linkCold_link l 0
  obtain ⟨hcore, -⟩ := ((s.bulkRewind l).linkCold l 0).emptyLink_keeps l (o := 0) (by decide) 0
  unfold State.linkStop
  rw [if_neg (not_or.mpr ⟨h, h5⟩), State.link_modLink]
  exact ⟨by rw [← State.linkCore_st, hcore, State.linkCore_st, hst], rfl, rfl⟩

theorem State.linkStop_obj (l : Fin 2) {o : Nat} (ho : o ≠ 0x5110) (el : Nat) : (s.linkStop l).obj o el = s.obj o el := by
  unfold State.linkStop
  split
  · rfl
  · rw [State.obj_congr (State.modLink_dict ..), (State.emptyLink_keeps _ l ho el).2, State.obj_congr (State.linkCold_dict ..),
      State.bulkRewind_obj s l ho]

theorem runFlag_link (l : Fin 2) : ∃ row, runFlag (lkRun l) row := by
  fin_cases l
  · exact ⟨_, rfl, rfl, rfl, rfl, rfl⟩
  · exact ⟨_, rfl, rfl, rfl, rfl, rfl⟩

theorem lkRun_ne (l : Fin 2) : lkRun l ≠ 0x5110 := by
  revert l
  decide

variable {s}

theorem exec_linkStart {l : Fin 2} {r : Req} (h : s.accepts r (ent (lkRun l) 0 .bool 1) (s.linkStartCodes l)) :
    ∃ t, exec (.linkStart r l) s = .next t ∧ t.took r ∧ t.obj (lkRun l) 0 = 1 ∧
      ((s.link l).st = 0 → (t.link l).st = 1 ∧ (t.link l).pll = false ∧ (t.link l).sent = [] ∧ (t.link l).replay = []) := by
  obtain ⟨row, hrow⟩ := runFlag_link l
  refine ⟨_, rfl, s.hostWrite_took (codes := fun s => s.linkStartCodes l) h, ?_⟩
  have hlink := State.link_congr (State.storeWrite_links s r (ent (lkRun l) 0 .bool 1) 0) l
  rw [s.hostWrite_accepted (codes := fun s => s.linkStartCodes l) h, State.obj_congr (State.accept_dict ..),
    State.obj_congr (State.linkStart_dict ..), s.storeWrite_runFlag_obj hrow r (by decide), State.link_congr (State.accept_links ..)]
  exact ⟨rfl, fun hst => State.linkStart_stopped ((congrArg Link.st hlink).trans hst)⟩

theorem exec_linkStop {l : Fin 2} {r : Req} (h : s.accepts r (ent (lkRun l) 0 .bool 0) (when (s.obj 0x8101 (7 + l.val) != 1) 0x0601)) :
    ∃ t, exec (.linkStop r l) s = .next t ∧ t.took r ∧ t.obj (lkRun l) 0 = 0 ∧ ((s.link l).st ≠ 5 → (t.link l).st = 0) ∧
      ((s.link l).st ≠ 0 → (s.link l).st ≠ 5 → (t.link l).sent = [] ∧ (t.link l).replay = []) := by
  obtain ⟨row, hrow⟩ := runFlag_link l
  refine ⟨_, rfl, s.hostWrite_took (codes := fun s => when (s.obj 0x8101 (7 + l.val) != 1) 0x0601) h, ?_⟩
  have hlink := State.link_congr (State.storeWrite_links s r (ent (lkRun l) 0 .bool 0) 0) l
  rw [s.hostWrite_accepted (codes := fun s => when (s.obj 0x8101 (7 + l.val) != 1) 0x0601) h, State.obj_congr (State.accept_dict ..),
    State.linkStop_obj _ l (lkRun_ne l), s.storeWrite_runFlag_obj hrow r (by decide), State.link_congr (State.accept_links ..)]
  rw [← hlink]
  generalize s.storeWrite r (ent (lkRun l) 0 .bool 0) 0 = u
  refine ⟨rfl, fun h5 => ?_, fun h0 h5 => (State.linkStop_link h0 h5).2⟩
  by_cases h0 : (u.link l).st = 0
  · rw [State.linkStop, if_pos (.inl h0), h0]
  · exact (State.linkStop_link h0 h5).1

/-! ### PLL lock and lost clock (R303) -/

theorem exec_linkPllLocked {l : Fin 2} (htrain : (s.link l).st = 1 ∨ (s.link l).st = 3) (hpll : (s.link l).pll = false) :
    ∃ t, exec (.linkPllLocked l) s = .next t ∧ (t.link l).pll = true ∧ (t.link l).trainAt = s.now ∧ (t.link l).st = (s.link l).st := by
  refine ⟨_, congrArg Host.Outcome.next (if_pos ⟨htrain, by simpa using hpll⟩), ?_⟩
  have hfold (u : State) : ((quads4.foldl (fun t i =>
      if t.inMask l i && ((t.link l).lane i).st != 3 then t.laneTrain l i else t) u).link l).standing = (u.link l).standing :=
    foldl_keeps (fun t : State => (t.link l).standing) (fun t i => by
      split
      · exact (t.laneTrain_lane l i).2.2
      · rfl) quads4 u
  have hstand := (hfold ((s.clockLane l (!(s.link l).common)).modLink l fun k => { k with pll := true, trainAt := s.now })).trans
    (congrArg Link.standing (State.link_modLink ..))
  rw [State.clockLane_link] at hstand
  exact ⟨congrArg LinkStanding.pll hstand, congrArg LinkStanding.trainAt hstand, congrArg LinkStanding.st hstand⟩

/-- A clock lane that fails under an automatic choice takes the link down, to the common clock where that one runs. -/
theorem State.fallback_lost {l : Fin 2} (ref : Bool) (hmode : s.objN (lkCfg l) 3 = 0) (hown : (s.link l).common = false)
    (hst : (s.link l).st = 1 ∨ (s.link l).st = 2 ∨ (s.link l).st = 3) : s.fallback l ref =
      if ref then ((s.modLink l fun k => { k with common := true }).linkDown l 3).evt 0x1902 l.val
      else (s.linkDown l 3).evt 0x2903 l.val := by
  unfold State.fallback
  exact if_pos ⟨hmode, by simpa using hown, hst⟩

theorem exec_clockLaneDriverFault {l : Fin 2} (ref : Bool) (hmode : s.objN (lkCfg l) 3 = 0) (hown : (s.link l).common = false)
    (hst : (s.link l).st = 1 ∨ (s.link l).st = 2 ∨ (s.link l).st = 3) :
    ∃ t, exec (.clockLaneDriverFault l ref) s = .next t ∧ (t.link l).st = 3 ∧ (t.link l).common = ref := by
  refine ⟨_, congrArg Host.Outcome.next (State.fallback_lost ref hmode hown hst), ?_⟩
  cases ref
  · obtain ⟨hdown, -, -⟩ := s.linkDown_link l 3
    rw [if_neg (by decide), State.link_congr (State.evt_links ..), State.linkDown_common]
    exact ⟨hdown, hown⟩
  · obtain ⟨hdown, -, -⟩ := (s.modLink l fun k => { k with common := true }).linkDown_link l 3
    rw [if_pos rfl, State.link_congr (State.evt_links ..), State.linkDown_common, State.link_modLink]
    exact ⟨hdown, rfl⟩

/-! ### Ingots that wait too long (R297) -/

/-- Ingots in hand of one frame. -/
def State.handsOf (s : State) (l : Fin 2) (frame : Nat) : List InHand := (s.link l).inHand.filter fun x => x.frame == frame

/-- An Ingot in hand after its records have left; its words for more records are reserved or not. -/
def InHand.emptied (h : InHand) (reserved : Bool) : InHand :=
  { h with reserved := reserved, recs := [], quads := 0, firstAt := none, iseq := h.iseq + 1, total := h.total + h.recs.length }

variable (s)

theorem State.handsOf_setInHand (l : Fin 2) (h : InHand) (frame : Nat) :
    (s.setInHand l h).handsOf l frame = (s.handsOf l frame).map fun x => if x.frame == h.frame then h else x := by
  have hframe (x : InHand) : (if x.frame == h.frame then h else x).frame = x.frame := by
    split
    · next hx => exact (beq_iff_eq.mp hx).symm
    · rfl
  unfold State.handsOf State.setInHand
  rw [State.link_modLink, List.filter_map]
  congr 1
  exact List.filter_congr fun x _ => by rw [Function.comp_apply, hframe]

variable {s} in
theorem State.inHand_frame {l : Fin 2} {frame : Nat} {h : InHand} (hh : s.inHand l frame = some h) : h.frame = frame := by
  have := List.find?_some hh
  simpa using this

theorem State.commit_links (n : Fin 4) (k : Nat) (o : Octets) (frame : Nat) : (s.commit n k o frame).links = s.links := by
  rw [State.commit, State.setQueue_links]

variable {s} in
/-- An Ingot in hand that is committed leaves empty; of the link's Ingots in hand it alone changes. -/
theorem State.commitInHand_some {l : Fin 2} {frame : Nat} {h : InHand} (hh : s.inHand l frame = some h) (fl : Nat) :
    ∃ (u : State) (res : Bool), s.commitInHand l frame fl true = u.setInHand l (h.emptied res) ∧ (u.link l).inHand = (s.link l).inHand := by
  unfold State.commitInHand
  rw [hh]
  dsimp only
  rw [if_pos rfl]
  refine ⟨_, _, rfl, ?_⟩
  rw [State.link_congr (State.reserve_links ..), State.link_modLink]
  dsimp only
  rw [State.link_congr (State.bump_links ..), State.link_congr (State.commit_links ..)]

/-- An Ingot that is flushed is the frame's first in hand; those of other frames stay. -/
theorem State.commitInHand_hands (l : Fin 2) (frame fl : Nat) :
    (∀ other, other ≠ frame → (s.commitInHand l frame fl true).handsOf l other = s.handsOf l other) ∧
      ∀ h, s.handsOf l frame = [h] → ∃ res, (s.commitInHand l frame fl true).handsOf l frame = [h.emptied res] := by
  have hhead : (s.handsOf l frame).head? = s.inHand l frame := List.head?_filter
  cases hh : s.inHand l frame with
  | none =>
    have hstay : s.commitInHand l frame fl true = s := by
      unfold State.commitInHand
      rw [hh]
    rw [hstay]
    refine ⟨fun _ _ => rfl, fun h honly => ?_⟩
    rw [honly, hh] at hhead
    contradiction
  | some h =>
    have hframe := State.inHand_frame hh
    obtain ⟨u, res, hcommit, hu⟩ := State.commitInHand_some hh fl
    have hhands (f : Nat) : u.handsOf l f = s.handsOf l f := congrArg (List.filter fun x : InHand => x.frame == f) hu
    rw [hcommit]
    simp only [State.handsOf_setInHand, hhands]
    refine ⟨fun other hne => ?_, fun h' honly => ⟨res, ?_⟩⟩
    · refine (List.map_congr_left fun x hx => ?_).trans (List.map_id _)
      have hx' : x.frame = other := beq_iff_eq.mp (List.mem_filter.mp hx).2
      exact if_neg fun heq => hne (hx'.symm.trans ((beq_iff_eq.mp heq).trans hframe))
    · rw [honly, hh] at hhead
      obtain rfl : h' = h := Option.some.inj hhead
      rw [honly, List.map_singleton]
      exact congrArg (fun x => [x]) (if_pos (beq_self_eq_true _))

/-- The flush of one Ingot in hand: it leaves where its words are reserved and its time, in microseconds, is up. -/
def State.flushOne (s : State) (l : Fin 2) (wait : Nat) (h : InHand) : State :=
  match h.firstAt with
  | some a => if a + wait * usP ≤ s.now ∧ h.reserved then s.commitInHand l h.frame 0 true else s
  | none => s

theorem State.flushOne_now (l : Fin 2) (wait : Nat) (h : InHand) : (s.flushOne l wait h).now = s.now := by
  unfold State.flushOne
  split
  · split
    · exact State.now_of_core (mv := still) (State.commitInHand_core ..)
    · rfl
  · rfl

theorem State.flushOne_others (l : Fin 2) (wait : Nat) {h : InHand} {frame : Nat} (hne : h.frame ≠ frame) :
    (s.flushOne l wait h).handsOf l frame = s.handsOf l frame := by
  unfold State.flushOne
  split
  · split
    · exact (s.commitInHand_hands l h.frame 0).1 frame hne.symm
    · rfl
  · rfl

theorem State.flush_others (l : Fin 2) (wait : Nat) {frame : Nat} (hs : List InHand) (hne : ∀ h ∈ hs, h.frame ≠ frame) :
    (hs.foldl (State.flushOne · l wait ·) s).now = s.now ∧ (hs.foldl (State.flushOne · l wait ·) s).handsOf l frame = s.handsOf l frame :=
  List.foldlRecOn (motive := fun t : State => t.now = s.now ∧ t.handsOf l frame = s.handsOf l frame) hs _ ⟨rfl, rfl⟩
    fun t ⟨hnow, hhands⟩ h hh => ⟨(t.flushOne_now l wait h).trans hnow, (t.flushOne_others l wait (hne h hh)).trans hhands⟩

variable {s}

theorem State.flushOne_due {l : Fin 2} {wait a : Nat} {h : InHand} (hfirst : h.firstAt = some a) (hres : h.reserved = true)
    (hdue : a + wait * usP ≤ s.now) (honly : s.handsOf l h.frame = [h]) :
    ∃ res, (s.flushOne l wait h).handsOf l h.frame = [h.emptied res] := by
  unfold State.flushOne
  rw [hfirst]
  dsimp only
  rw [if_pos ⟨hdue, hres⟩]
  exact (s.commitInHand_hands l h.frame 0).2 h honly

theorem State.mem_inHand_of_handsOf {l : Fin 2} {frame : Nat} {x : InHand} (h : x ∈ s.handsOf l frame) : x ∈ (s.link l).inHand :=
  List.mem_of_mem_filter h

theorem exec_ingotFlush {l : Fin 2} {h : InHand} {a : Nat} (honly : ((s.link l).inHand.filter fun x => x.frame == h.frame) = [h])
    (hfirst : h.firstAt = some a) (hres : h.reserved = true) (hwait : s.objN (lkCfg l) 5 ≠ 0)
    (hdue : a + s.objN (lkCfg l) 5 * usP ≤ s.now) :
    ∃ t res, exec (.ingotFlush l) s = .next t ∧ h.emptied res ∈ (t.link l).inHand := by
  obtain ⟨before, behind, hsplit, hbefore, -, hbehind⟩ := List.filter_eq_cons_iff.mp honly
  have hflush : s.flushIngots l = (s.link l).inHand.foldl (State.flushOne · l (s.objN (lkCfg l) 5) ·) s := if_neg hwait
  rw [hsplit, List.foldl_append, List.foldl_cons] at hflush
  obtain ⟨hnow, hhands⟩ := s.flush_others l (s.objN (lkCfg l) 5) before fun x hx heq => hbefore x hx (beq_iff_eq.mpr heq)
  obtain ⟨res, hleft⟩ := State.flushOne_due hfirst hres (hdue.trans hnow.ge) (hhands.trans honly)
  obtain ⟨-, hstay⟩ := State.flush_others _ l (s.objN (lkCfg l) 5) behind fun x hx heq =>
    List.filter_eq_nil_iff.mp hbehind x hx (beq_iff_eq.mpr heq)
  refine ⟨_, res, congrArg Host.Outcome.next hflush, State.mem_inHand_of_handsOf (frame := h.frame) ?_⟩
  rw [hstay, hleft]
  exact List.mem_singleton_self _

/-! ### The obligation -/

theorem exec_deskewRound {l : Fin 2} (hup : (s.link l).st = 2)
    (hdue : 2 * 16384 * 6600 ≤ (s.now - (s.link l).rounds) * 5 * laneRate (s.objN (lkCfg l) 1)) :
    ∃ t, exec (.deskewRound l) s = .next t ∧ (t.link l).deskew = ((s.link l).deskew + 1) % 65536 ∧ (t.link l).rounds = s.now := by
  refine ⟨_, congrArg Host.Outcome.next (if_pos ⟨hup, hdue⟩), ?_⟩
  rw [State.deskewRound_link]
  exact ⟨rfl, rfl⟩

theorem exec_backLaneSilent {l : Fin 2} (hup : (s.link l).st = 2) (hsilent : (s.link l).bkLast + msP ≤ s.now) :
    exec (.backLaneSilent l) s = .next (s.linkDown l 1) := congrArg Host.Outcome.next (if_pos ⟨hup, hsilent⟩)

/-- Settles O37: bring-up, stops and lost clocks row by row, then the rounds and times of a link. -/
theorem linkStateRows : Obligations.LinkStateRows := by
  unfold Obligations.LinkStateRows
  refine ⟨fun s l => ⟨fun r => exec_linkStart, fun r => exec_linkStop, exec_linkPllLocked, fun htrain hpll hdue =>
      ⟨exec_trainingTimeout_again htrain hpll hdue, fun ⟨i, hmask, hgood⟩ => ?_⟩, exec_clockLaneDriverFault, fun hup hsilent =>
      ⟨_, exec_backLaneSilent hup hsilent, s.linkDown_link l 1⟩⟩,
    fun s l => ⟨exec_deskewRound, fun h at_ honly hfirst hres hwait hdue => ?_, fun i hup hlane hdue => ?_⟩⟩
  · obtain ⟨t, ht, hst, hepoch, -, -⟩ := exec_trainingTimeout_up htrain hpll hdue hmask hgood
    exact ⟨t, ht, hst, hepoch⟩
  · obtain ⟨t, res, ht, hx⟩ := exec_ingotFlush honly hfirst hres hwait hdue
    exact ⟨t, ht, _, hx, rfl, rfl, rfl, rfl, rfl⟩
  · obtain ⟨hfailed, hagain⟩ := s.laneAgain_lane l i
    refine ⟨fun hfew => ⟨_, exec_laneRetrainTimeout hup hlane hdue, ?_⟩, fun hmany => ⟨_, exec_laneRetrainTimeout hup hlane hdue, ?_⟩⟩
    · rw [State.laneRetrain_lane hup]
      exact hagain hfew
    · rw [State.laneRetrain_lane hup]
      exact hfailed hmany

end Sys2Proof.Machine
end
